-- ==== Sys2Proof/Word.lean ====
section
/-!
DEFINITION. The plainest data types: bytes, tables keyed by a number, and memories of cells. Every
multi-byte value of the block is held as a natural number and laid out little-endian (R4) by
Machine/Bits.lean.
-/

namespace Sys2Proof

/-- One byte. -/
abbrev Byte := BitVec 8

/-- A sparse table: the listed keys hold a value, the others hold the reader's default. -/
abbrev Tbl (α : Type) := List (Nat × α)

/-- A byte memory: the listed cells, addresses strictly rising. -/
abbrev Mem := List Host.Cell

end Sys2Proof
end

