-- ==== Sys2Proof/Syntax.lean ====
section
/-!
DEFINITION. The commands of the block: one constructor of `Instr` per row of the opcode table, and
the plain data their operands are made of. The table gives its rows no bits, so an operand is what
the rules of the spec say such a command or arriving message carries. Payloads are sparse: an
unlisted byte, word or row of a payload is 0.
-/

namespace Sys2Proof

/-- The source of an object-dictionary request (R549): the mailbox of a function, an attested
management session, the management port without a session, or a peer's session under a key. -/
inductive Src where
  | mailbox (f : Nat)
  | mgmt (k : Nat)
  | port
  | peer (key : Nat)
  deriving DecidableEq, Repr

/-- What OD_WRITE_ENTRY writes: a dictionary entry with its length and value (R545, R546), a register of
BAR0 of a function or of BAR2 (R528, R543), or one of the configuration registers that chapter 18 uses:
a function's Memory Space Enable (R529), a virtual function's D-state (R535: 0 D0, 1 D3hot), the function an
IDE stream is bound to (R536; 64 for none). -/
inductive Target where
  | od (src : Src) (index sub len value : Nat)
  | bar0 (fn off size value : Nat)
  | bar2 (off size value : Nat)
  | memSpace (fn : Nat) (on : Bool)
  | dstate (fn d : Nat)
  | ide (stream fn : Nat)
  deriving DecidableEq, Repr

/-- A register read: BAR0 of a function or BAR2 of the physical function (R31, R529, R543). -/
inductive RegRead where
  | bar0 (fn off size : Nat)
  | bar2 (off size : Nat)
  deriving DecidableEq, Repr

/-- The hardware error, if any, that meets a command while it reads or computes: a check value that
differs (R421), the two units disagreeing (R422), an uncorrectable memory error (R424) in words that reach only the descriptor, in a cohort
accumulator or staging row, or in a round total or ledger, no random
words within the wait limit (R482), or a host completion that fails (R534). `k` counts the units of R601
that were complete before the one it meets; for MASK it counts the 4 KiB chunks of R116. -/
inductive HwErr where
  | none
  | check (k : Nat)
  | dual (k : Nat)
  | ecc (k : Nat)
  | eccAccum (k : Nat)
  | eccTotal (k : Nat)
  | rng
  | poisoned
  | completer
  | timeout
  deriving DecidableEq, Repr

/-- An ST packet: the header of R344 and its payload. `rsv` says that some reserved bit is set,
`tagOk` what the check of the message's or packet's tag finds, `tag` the tag a last packet carries, `addr6` the external sender (0 for a module), `eth` that it came over Ethernet (R353). -/
structure Pkt where
  ver : Nat := 1
  ty : Nat := 2
  last : Bool := true
  cm : Bool := false
  dateline : Bool := false
  retx : Bool := false
  solicit : Bool := false
  rsv : Bool := false
  hops : Nat := 0
  path : Nat := 0
  dstModule : Nat := 0
  srcModule : Nat := 0
  ext : Bool := false
  dstEp : Nat := 0
  tclass : Nat := 0
  service : Nat := 0
  srcEp : Nat := 0
  msgSeq : Nat := 0
  pktIndex : Nat := 0
  msgPkts : Nat := 1
  payloadLen : Nat := 0
  keyGen : Nat := 0
  keyId : Nat := 0
  region : Nat := 0
  regionGen : Nat := 0
  addr : Nat := 0
  imm : Nat := 0
  echo : Nat := 0
  payload : Mem := []
  tagOk : Bool := true
  tag : Nat := 0
  eth : Bool := false
  addr6 : Nat := 0
  deriving DecidableEq, Repr

/-- A complete, authenticated seed-sum share message (R105). `coeffs` lists the coefficients that
are not 0. -/
structure ShareMsg where
  len : Nat := 524352
  msgType : Nat := 1
  member : Nat := 1
  rsvZero : Bool := true
  round : Nat := 0
  cohort : Nat := 0
  survivors : Nat := 0
  digest : Nat := 0
  coeffs : Tbl Nat := []
  deriving DecidableEq, Repr

/-- A complete, authenticated key-share message (R182). `words` lists the share's non-zero words. -/
structure KeyShareMsg where
  len : Nat := 0
  msgType : Nat := 2
  member : Nat := 1
  rsvZero : Bool := true
  keySetId : Nat := 0
  tag : Nat := 0
  logN : Nat := 0
  limbs : Nat := 0
  words : Tbl Nat := []
  deriving DecidableEq, Repr

/-- A complete, authenticated exchange message: Open 0x10 or Beaver 0x11 (R210). `words` is keyed
by row position * 1024 + lane; a Beaver block's e rows follow its d rows. -/
structure ExchangeMsg where
  msgType : Nat := 16
  party : Nat := 0
  op : Nat := 0
  rsvZero : Bool := true
  len : Nat := 64
  setId : Nat := 0
  round : Nat := 0
  rowFirst : Nat := 0
  rowCount : Nat := 0
  block : Nat := 4294967295
  merged : Nat := 0
  digest : Nat := 0
  words : Tbl Nat := []
  deriving DecidableEq, Repr

/-- A complete, authenticated triple batch 0x12 (R210): `words` is keyed by
row (0 a, 1 b, 2 c) * 1024 + lane. -/
structure TripleMsg where
  party : Nat := 0
  rsvZero : Bool := true
  len : Nat := 12352
  setId : Nat := 0
  round : Nat := 0
  batch : Nat := 0
  words : Tbl Nat := []
  deriving DecidableEq, Repr

/-- A partner's quote as the Ringmaster read it (R189, R458): its 576 bytes of body with byte 0 lowest (R456), and whether
its signature verifies under the session's identity key. -/
structure PeerQuote where
  sigOk : Bool := true
  body : Nat := 0
  deriving DecidableEq, Repr

/-- The credentials of a Shuhal peer (R315): what each signature check finds, the hash of the identity key in its
bundle, its fabric certificate with byte 0 lowest (R316), the LIFECYCLE of its alias certificate, its handshake messages
as they came and whether they came first (R442), and whether the X25519 secret is other than 0. -/
structure LinkCert where
  fabricSigOk : Bool := true
  aliasOk : Bool := true
  transcriptOk : Bool := true
  identity : Nat := 0
  cert : Nat := 0
  lifecycle : Nat := 0
  raw : List Nat := []
  first : Bool := false
  secretOk : Bool := true
  deriving DecidableEq, Repr

/-- A received Ethernet frame (R319, R320): its bytes with its FCS, whether the FCS holds, whether the Ringmaster's
answer rate still has room, and what the check of the tag of an ST packet in it finds. -/
structure EthFrame where
  fcsOk : Bool := true
  len : Nat := 64
  data : Mem := []
  rateOk : Bool := true
  tagOk : Bool := true
  deriving DecidableEq, Repr

/-- HELLO (R404). `modulePeer` says that the initiator is a module, `rngOk`
that the ephemeral keys could be drawn in time; `peerHash` is the hash that a module peer is known by;
NONCE_I and the
two public values follow, and `secretOk` says that the X25519 shared secret is not all zeros (R405). -/
structure HelloMsg where
  kind : Nat := 1
  context : Nat := 0
  member : Nat := 0
  initEp : Nat := 0
  modulePeer : Bool := false
  peerModule : Nat := 0
  addr6 : Nat := 0
  rngOk : Bool := true
  peerHash : Nat := 0
  nonce : Nat := 0
  x25519 : Nat := 0
  kem : Nat := 0
  secretOk : Bool := true
  deriving DecidableEq, Repr

/-- CREDENTIAL (R404, R406): one part of a bundle with its bytes; for PART 2 what the checks of R406 find. -/
structure Credential where
  aliasOk : Bool := true
  lifecycle : Nat := 0
  identity : Nat := 0
  fabricOk : Bool := false
  moduleId : Nat := 0
  body : Nat := 0
  deriving DecidableEq, Repr

/-- A verified import message (R425): one segment of a child's total from one of its copies.
`words` is keyed by word index of the segment in round-total layout; `checks` by row. -/
structure ImportMsg where
  copy : Nat := 0
  ty : Nat := 0
  attempt : Nat := 0
  job : Nat := 0
  round : Nat := 0
  rowFirst : Nat := 0
  rowCount : Nat := 1
  merged : Nat := 0
  child : Nat := 0
  tagP : Nat := 255
  tagX : Nat := 255
  rsvZero : Bool := true
  checks : Tbl Nat := []
  flags : Tbl Nat := []
  words : Tbl Nat := []
  setId : Nat := 0
  party : Nat := 0
  shareDigest : Nat := 0
  deriving DecidableEq, Repr

/-- A RECOMBINE or ROOT_DIGEST message (R429). -/
structure RidgeMsg where
  len : Nat := 64
  rsvZero : Bool := true
  copy : Nat := 0
  attempt : Nat := 0
  job : Nat := 0
  round : Nat := 0
  rowFirst : Nat := 0
  rowCount : Nat := 0
  merged : Nat := 0
  moduleId : Nat := 0
  digest : Nat := 0
  deriving DecidableEq, Repr

/-- Where a patrol read finds an uncorrectable word (R424): in a cohort accumulator or staging row,
in a round total or ledger, in a key set or workspace (of no running descriptor), or elsewhere. -/
inductive EccSite where
  | cohort (n k : Nat)
  | round (n : Nat)
  | other
  deriving DecidableEq, Repr

/-- What the boot ROM finds (R433, R434): the die identities it read, and the outcome of the fuse
and MRAM checks and of the RNG start-up tests (`rngCause` 0 for a pass, else the FAIL_CAUSE of R484). -/
structure BootEnv where
  fusesOk : Bool := true
  dieIds : Nat := 0
  linksOk : Bool := true
  mramOk : Bool := true
  rngCause : Nat := 0
  salt : Nat := 0
  deriving DecidableEq, Repr

/-- The header of a firmware image (R435), and what the signature and digest checks of R436 find. -/
structure Image where
  magic : Nat := 0x72081A5E
  hdrVersion : Nat := 1
  keySlot : Nat := 0
  rsvZero : Bool := true
  imageBytes : Nat := 65536
  svn : Nat := 0
  build : Nat := 0
  sigBytes : Nat := 0
  vendorPub : Nat := 0
  imageDigest : Nat := 0
  sigOk : Bool := true
  digestOk : Bool := true
  deriving DecidableEq, Repr

/-- One entry of a policy bundle (R459): index, subindex, length and value. -/
structure BundleEntry where
  index : Nat
  sub : Nat
  len : Nat
  value : Nat
  deriving DecidableEq, Repr

/-- A policy bundle (R459) with what its signature check finds. -/
structure Bundle where
  layoutOk : Bool := true
  context : Nat := 0
  bootCount : Nat := 0
  serial : Nat := 0
  signerPub : Nat := 0
  sigOk : Bool := true
  entries : List BundleEntry := []
  deriving DecidableEq, Repr

/-- The DBG_ACCESS word (R587) without its CMD. `freeze` says that it was shifted into
FREEZE_READ. `badCmd` stands for a reserved CMD. -/
structure DbgWord where
  target : Nat := 0
  space : Nat := 0
  fn : Nat := 0
  rsv : Nat := 0
  addr : Nat := 0
  slot : Nat := 0
  data : Nat := 0
  freeze : Bool := false
  deriving DecidableEq, Repr

/-- A host read whose completion fails to arrive (R534): that of a running descriptor, or a ring
fetch of queue q of function f. -/
inductive HostRead where
  | desc (d : Nat)
  | ring (f q : Nat)
  deriving DecidableEq, Repr

/-- An access of a helter-skelter instance (R298): the queue or consumer it is for, and where its pointers are found to
differ, if they are: of a die's lane (0 to 8), of the trigger stream (9), of the RNG's queue (any). -/
structure HsAccess where
  id : Nat
  ptr : Option Nat := none
  deriving DecidableEq, Repr

/-- What a module port meets: a lane, or the sleep notice of a frame (0 none, 1 Sleep, 2 Deep sleep), and the codewords
corrected and not correctable since its last event (R311). -/
structure PortEvent where
  what : Nat
  corrected : Nat := 0
  uncorr : Nat := 0
  deriving DecidableEq, Repr

/-- What the boot ROM finds of an image's signature and digest (R436, DESIGN CHOICE, log 10). -/
structure ImageCheck where
  sigOk : Bool
  digestOk : Bool
  deriving DecidableEq, Repr

/-- A policy bundle as it is written (R459): its bytes, and whether its signature holds (DESIGN CHOICE, log 10). -/
structure BundleData where
  data : Mem
  sigOk : Bool
  deriving DecidableEq, Repr

/-- The commands of the block: one constructor per row of spec/opcode_table.json. -/
inductive Instr where
  /-- OD_WRITE_ENTRY (R36): Write to an object-dictionary entry or register that has no row of its own; the value is checked against the entry's range and stored or refused. -/
  | odWriteEntry (t : Target)
  /-- OD_READ (R545): An Oronos READ request returns the entry value, latching a copy for later segments. -/
  | odRead (src : Src) (txn index sub off len : Nat)
  /-- OD_WRITE_SEGMENT (R548): An Oronos WRITE segment is staged, and at the segment marked LAST the whole value is applied under the checks then in force. -/
  | odWriteSegment (src : Src) (txn index sub off len value : Nat) (last : Bool)
  /-- OD_STAGING_TIMEOUT (R548): A write staging that receives no segment for 100 ms is discarded, and its LAST is answered with TIMEOUT. -/
  | odStagingTimeout (src : Src) (txn : Nat)
  /-- MB_DOORBELL (R549): Write of the request length to a function's mailbox doorbell submits an Oronos request, or is discarded and counted in MB_OVERRUNS. -/
  | mbDoorbell (f len : Nat)
  /-- CREATE (R38): CTX_COMMAND CREATE moves a FREE context to CONFIGURED and makes the issuing function its owner. -/
  | create (src : Src) (n : Nat)
  /-- DESTROY (R502): CTX_COMMAND DESTROY abandons any active round and tears the context down. -/
  | destroy (src : Src) (n : Nat) (stuck : List Nat)
  /-- TEARDOWN_ENGINE_TIMEOUT (R502): An engine that has not stopped within 100 µs of teardown step 3 is reset. -/
  | teardownEngineTimeout (n : Nat)
  /-- CONTEXT_QUARANTINE_EXPIRY (R38): 2 ms after entering QUARANTINE the context returns to FREE. -/
  | contextQuarantineExpiry (n : Nat)
  /-- POLICY_LOCK (R57): Writing 1 to LOCK locks the policy record and roster and computes POLICY_DIGEST. -/
  | policyLock (src : Src) (n : Nat)
  /-- ROUND_OPEN (R41): ROUND_COMMAND OPEN copies the configuration, increments ROUND_NUMBER, clears the ledger and total, and moves the round to OPEN. -/
  | roundOpen (src : Src) (n : Nat)
  /-- ROUND_CLOSE (R42): ROUND_COMMAND CLOSE shuts every OPEN cohort and stops admission of new messages. -/
  | roundClose (src : Src) (n : Nat)
  /-- ROUND_ABANDON (R40): ROUND_COMMAND ABANDON aborts the round's descriptors, reverses uncommitted contributions, scrubs the area and ledger, and enters ABANDONED. -/
  | roundAbandon (src : Src) (n : Nat)
  /-- ROUND_RELEASE (R39): ROUND_COMMAND RELEASE moves a READY round to EXPORTED and starts the area scrub. -/
  | roundRelease (src : Src) (n : Nat)
  /-- CLOSE_GRACE_EXPIRY (R42): When CLOSE_GRACE expires, contributions still uncommitted are reversed and the round moves to COMBINING. -/
  | closeGraceExpiry (n : Nat)
  /-- ROUND_ENTER_COMBINING (R39): A CLOSING round holding no uncommitted contribution moves to COMBINING before grace expiry. -/
  | roundEnterCombining (n : Nat)
  /-- ROUND_ENTER_READY (R233): Once every cohort is merged or failed and imports are in, the ridge forms the round total and the round enters READY. -/
  | roundEnterReady (n : Nat)
  /-- CLEAR_SUBTOTAL_ENCRYPT (R66): The ridge encrypts each die's clear subtotal under the round key and adds it to the Sealed total, retrying on RNG failure. -/
  | clearSubtotalEncrypt (n die : Nat)
  /-- AREA_SCRUB_COMPLETE (R39): When the area scrub of an EXPORTED or ABANDONED round finishes, the round returns to NONE and the context to CONFIGURED. -/
  | areaScrubComplete (n : Nat)
  /-- PROV_TILE_ZERO (R254): When the round leaves READY, PROV tiles are zeroed once no descriptor on them runs. -/
  | provTileZero (n : Nat)
  /-- COHORT_OPEN (R45): COHORT_COMMAND OPEN opens the named IDLE cohorts in COHORT_MODE, or refuses them all. -/
  | cohortOpen (src : Src) (n : Nat)
  /-- COHORT_SHUT (R45): COHORT_COMMAND SHUT shuts the named OPEN cohorts. -/
  | cohortShut (src : Src) (n : Nat)
  /-- COHORT_MERGE (R52): A non-Masked cohort whose survivor set is fixed merges into the total, or becomes FAILED below MIN_SURVIVORS. -/
  | cohortMerge (n k : Nat) (e : HwErr)
  /-- SHARE_BUFFER_BIND (R103): A SHUT Masked cohort with a fixed survivor set is bound to the lowest free share buffer, or fails below MIN_SURVIVORS. -/
  | shareBufferBind (n : Nat)
  /-- SEED_SUM_SHARE_MESSAGE (R106): An authenticated seed-sum share message is checked and stored in the member's slot, or dropped. -/
  | seedSumShareMessage (key : Nat) (m : ShareMsg)
  /-- PRG_EXPAND_DERIVE (R114): PRG_EXPAND DERIVE derives the named public ring elements, transforms them to NTT form and stores them. -/
  | prgExpandDerive (d : Nat) (e : HwErr)
  /-- PRG_EXPAND_MASK (R115): PRG_EXPAND MASK expands F(S) for the named ring elements into the cohort's expansion buffer. -/
  | prgExpandMask (d : Nat) (e : HwErr)
  /-- SEED_RECON (R118): SEED_RECON interpolates the seed sum from stored shares, optionally verifies extras, and copies S to every die. -/
  | seedRecon (d : Nat) (e : HwErr)
  /-- UNMASK (R121): UNMASK subtracts F(S), rounds away guard bits, range-checks and merges the named rows into the total. -/
  | unmask (d : Nat) (e : HwErr)
  /-- BASIS_LOAD (R129): BASIS_LOAD loads PRIME, MONT, MONT_SQ and ROOT of a basis entry from a ROM entry in one write. -/
  | basisLoad (src : Src) (n value : Nat)
  /-- NTT (R138): NTT transforms each limb to bit-reversed evaluation form. -/
  | ntt (d : Nat) (e : HwErr)
  /-- INTT (R139): INTT inverts the NTT including scaling and untwist. -/
  | intt (d : Nat) (e : HwErr)
  /-- VMUL_PRODUCT (R143): VMUL OP 0 writes the element-wise Montgomery product of A and B. -/
  | vmulProduct (d : Nat) (e : HwErr)
  /-- VMUL_SCALAR (R143): VMUL OP 1 multiplies each limb by its scalar. -/
  | vmulScalar (d : Nat) (e : HwErr)
  /-- VMUL_ADD (R143): VMUL OP 2 writes A + B. -/
  | vmulAdd (d : Nat) (e : HwErr)
  /-- VMUL_SUBTRACT (R143): VMUL OP 3 writes A - B. -/
  | vmulSubtract (d : Nat) (e : HwErr)
  /-- VMUL_TO_MONTGOMERY (R143): VMUL OP 4 converts standard-form input to Montgomery form. -/
  | vmulToMontgomery (d : Nat) (e : HwErr)
  /-- VMUL_TO_STANDARD (R143): VMUL OP 5 converts Montgomery input to standard form. -/
  | vmulToStandard (d : Nat) (e : HwErr)
  /-- VMAC_ADD_PRODUCT (R143): VMAC OP 0 adds A·B into D. -/
  | vmacAddProduct (d : Nat) (e : HwErr)
  /-- VMAC_ADD_SCALAR (R143): VMAC OP 1 adds A·b_j into D. -/
  | vmacAddScalar (d : Nat) (e : HwErr)
  /-- VMAC_SUB_PRODUCT (R143): VMAC OP 2 subtracts A·B from D. -/
  | vmacSubProduct (d : Nat) (e : HwErr)
  /-- VMAC_SUB_SCALAR (R143): VMAC OP 3 subtracts A·b_j from D. -/
  | vmacSubScalar (d : Nat) (e : HwErr)
  /-- BASECONV_FAST (R144): BASECONV FAST converts coefficients to the target basis up to a multiple of Q. -/
  | baseconvFast (d : Nat) (e : HwErr)
  /-- BASECONV_EXACT (R144): BASECONV EXACT converts coefficients to the centred representative in the target basis. -/
  | baseconvExact (d : Nat) (e : HwErr)
  /-- BASECONV_PREPARE (R145): BASECONV PREPARE writes the conversion table for a source and target basis. -/
  | baseconvPrepare (d : Nat) (e : HwErr)
  /-- AUTOMORPH_COEFFICIENT (R140): AUTOMORPH OP 0 applies X to X^k in coefficient form. -/
  | automorphCoefficient (d : Nat) (e : HwErr)
  /-- AUTOMORPH_NTT (R140): AUTOMORPH OP 1 applies the Galois map as a slot permutation in NTT form. -/
  | automorphNtt (d : Nat) (e : HwErr)
  /-- CT_ADD (R175): CT_ADD adds two ciphertexts of the same level. -/
  | ctAdd (d : Nat) (e : HwErr)
  /-- CT_PMUL (R175): CT_PMUL multiplies a ciphertext by a public plaintext. -/
  | ctPmul (d : Nat) (e : HwErr)
  /-- KEYSWITCH (R178): KEYSWITCH switches a ciphertext from a source key set to the round key. -/
  | keyswitch (d : Nat) (e : HwErr)
  /-- ROTATE (R178): ROTATE applies a Galois map and switches back to the round key. -/
  | rotate (d : Nat) (e : HwErr)
  /-- MODDROP (R179): MODDROP drops primes down to LEVEL_TO one at a time. -/
  | moddrop (d : Nat) (e : HwErr)
  /-- ENCRYPT_CLEAR_INT32 (R180): ENCRYPT_CLEAR OP 0 encrypts INT32 rows under the public key. -/
  | encryptClearInt32 (d : Nat) (e : HwErr)
  /-- ENCRYPT_CLEAR_FP32_PAIR (R180): ENCRYPT_CLEAR OP 1 scales, rounds and saturates FP32 pair rows, then encrypts them. -/
  | encryptClearFp32Pair (d : Nat) (e : HwErr)
  /-- DECRYPT_SHARE (R181): DECRYPT_SHARE produces the module's smudged decryption share of the round total. -/
  | decryptShare (d : Nat) (e : HwErr)
  /-- KEY_SHARE_MESSAGE (R182): A key-share message is checked and written into every die copy of the key-share area, setting KEYSHARE_STATE. -/
  | keyShareMessage (key : Nat) (m : KeyShareMsg)
  /-- SH_ADD (R201): SH_ADD OP 0 adds two share vectors. -/
  | shAdd (d : Nat) (e : HwErr)
  /-- SH_ADD_PUBLIC (R201): SH_ADD OP 1 adds a public vector on party 0 only. -/
  | shAddPublic (d : Nat) (e : HwErr)
  /-- SH_SUBTRACT (R201): SH_ADD OP 2 subtracts share vectors. -/
  | shSubtract (d : Nat) (e : HwErr)
  /-- SH_SCALE (R201): SH_SCALE multiplies a share vector by a public scalar. -/
  | shScale (d : Nat) (e : HwErr)
  /-- SH_BEAVER (R204): SH_BEAVER handshakes, consumes triples, exchanges d and e blocks and writes product shares. -/
  | shBeaver (d : Nat) (e : HwErr)
  /-- SH_OPEN (R207): SH_OPEN handshakes with peers, exchanges shared-total rows and writes opened INT32 rows. -/
  | shOpen (d : Nat) (e : HwErr)
  /-- EXCHANGE_TIMEOUT_EXPIRY (R209): A peer handshake or data not arriving within EXCHANGE_TIMEOUT ends the descriptor with TIMEOUT. -/
  | exchangeTimeoutExpiry (d : Nat)
  /-- EXCHANGE_MESSAGE (R211): An Open or Beaver exchange message is checked and stored in the receive or Beaver area. -/
  | exchangeMessage (key : Nat) (m : ExchangeMsg)
  /-- TRIPLE_BATCH (R203): A dealer triple batch is checked and stored in its pool slot. -/
  | tripleBatch (key : Nat) (m : TripleMsg)
  /-- PARTNER_QUOTE_CHECK (R458): After a PARTNER session's ACCEPT, the partner's quote is read and verified, and the PEER_STATE bit is set. -/
  | partnerQuoteCheck (key : Nat) (q : PeerQuote)
  /-- ACC_INT_ADD (R241): ACC_INT OP 0 adds codes or integers into INT40 tile words. -/
  | accIntAdd (d : Nat) (e : HwErr)
  /-- ACC_INT_SUBTRACT (R241): ACC_INT OP 1 subtracts codes or integers from INT40 tile words. -/
  | accIntSubtract (d : Nat) (e : HwErr)
  /-- ACC_FLOAT (R241): ACC_FLOAT folds float elements into pair words by the node operation. -/
  | accFloat (d : Nat) (e : HwErr)
  /-- ACC_MASKED_ADD (R241): ACC_MASKED OP 0 adds lanes modulo 2^w. -/
  | accMaskedAdd (d : Nat) (e : HwErr)
  /-- ACC_MASKED_SUBTRACT (R241): ACC_MASKED OP 1 subtracts lanes modulo 2^w. -/
  | accMaskedSubtract (d : Nat) (e : HwErr)
  /-- ACC_SHARED_ADD (R241): ACC_SHARED OP 0 adds shares modulo 2^32. -/
  | accSharedAdd (d : Nat) (e : HwErr)
  /-- ACC_SHARED_SUBTRACT (R241): ACC_SHARED OP 1 subtracts shares modulo 2^32. -/
  | accSharedSubtract (d : Nat) (e : HwErr)
  /-- PRELOAD_ZERO (R241): PRELOAD ZERO writes zeros of the type into the named rows. -/
  | preloadZero (d : Nat) (e : HwErr)
  /-- PRELOAD_LOAD (R241): PRELOAD LOAD loads source elements into the tile in its word layout. -/
  | preloadLoad (d : Nat) (e : HwErr)
  /-- DRAIN_NATIVE (R245): DRAIN NATIVE writes tile rows in the output format. -/
  | drainNative (d : Nat) (e : HwErr)
  /-- DRAIN_DEQUANT (R245): DRAIN DEQUANT writes dequantised totals. -/
  | drainDequant (d : Nat) (e : HwErr)
  /-- DRAIN_MEAN (R245): DRAIN MEAN writes dequantised means. -/
  | drainMean (d : Nat) (e : HwErr)
  /-- DRAIN_FUSED (R245): DRAIN FUSED applies scale, bias, activation and narrowing. -/
  | drainFused (d : Nat) (e : HwErr)
  /-- SAVE (R252): SAVE writes each named tile row as a checked 8,256-byte record. -/
  | save (d : Nat) (e : HwErr)
  /-- RESTORE (R253): RESTORE checks all records and writes rows and flags, or zeroes the tile on failure. -/
  | restore (d : Nat) (e : HwErr)
  /-- REDUCE_MAX (R255): REDUCE_MAX finds the largest element and its index. -/
  | reduceMax (d : Nat) (e : HwErr)
  /-- REDUCE_MIN (R255): REDUCE_MIN finds the smallest element and its index. -/
  | reduceMin (d : Nat) (e : HwErr)
  /-- TILE_RANGE_REMOVAL (R219): A write removing tiles from a context's range zeroes and empties them once their latching descriptors complete. -/
  | tileRangeRemoval (n : Nat)
  /-- CQ_DOORBELL (R267): A doorbell write sets the queue's producer index, or is discarded and counted in CQ_OVERRUNS. -/
  | cqDoorbell (f q value : Nat)
  /-- CQ_ENABLE (R266): Setting CQ_CONFIG.ENABLE resets CQ_HEAD and the producer index and permits fetching. -/
  | cqEnable (f q value : Nat)
  /-- CQ_DISABLE (R271): Clearing ENABLE completes fetched, unstarted descriptors with FLUSHED and stops fetching. -/
  | cqDisable (f q value : Nat)
  /-- CQ_FLUSH (R271): Writing FLUSH flushes the queue and clears ENABLE. -/
  | cqFlush (f q value : Nat)
  /-- DESCRIPTOR_FETCH (R268): A ring read completes and the descriptor is taken, advancing CQ_HEAD; a failure sets FETCH_ERROR. -/
  | descriptorFetch (f q : Nat) (e : HwErr)
  /-- DESCRIPTOR_FORWARD (R270): The fetcher forwards a descriptor into every lane that executes it once all have room. The access
  of the queue says whether pointers are found wrong meanwhile (R298). -/
  | descriptorForward (f : Nat) (q : HsAccess)
  /-- CAROUSEL_DISPATCH (R290): When an engine frees, the Carousel picks the highest-ranked eligible head and starts it after the common checks. -/
  | carouselDispatch (die unit : Nat)
  /-- URGENT_PROMOTION (R291): A non-urgent head whose age exceeds CQ_URGENT_AGE promotes its queue and counts STARVE_PROMOTIONS. -/
  | urgentPromotion (f q die : Nat)
  /-- SYN_VALUE_WRITE (R278): A write to SYN_VALUE sets a sync counter, or is discarded and counted in SYN_FOREIGN. -/
  | synValueWrite (f c value : Nat)
  /-- SYN_ADD (R277): A write to SYN_ADD adds to a counter atomically, saturating with COUNTER_SATURATED. -/
  | synAdd (f c value : Nat)
  /-- SYN_BLOCK_WRITE (R280): A SYN_BLOCK_k write reassigns a counter block and zeroes its counters, or is refused. -/
  | synBlockWrite (src : Src) (k value : Nat)
  /-- COPY (R283): COPY moves bytes unchanged between spaces, subject to export policy. -/
  | copy (d : Nat) (e : HwErr)
  /-- FILL (R283): FILL writes an 8-byte pattern over the destination. -/
  | fill (d : Nat) (e : HwErr)
  /-- SCRUB (R283): SCRUB writes the scrub sequence and reads it back. -/
  | scrub (d : Nat) (e : HwErr)
  /-- WAIT (R287): WAIT completes OK once its counter reaches the threshold. -/
  | wait (d : Nat)
  /-- WAIT_TIMEOUT (R287): A WAIT whose TIMEOUT passes first completes with TIMEOUT. -/
  | waitTimeout (d : Nat)
  /-- SIGNAL_ADD (R287): SIGNAL OP 0 adds SIGNAL_INCREMENT to the counter. -/
  | signalAdd (d : Nat)
  /-- SIGNAL_SET (R287): SIGNAL OP 1 sets the counter to SIGNAL_INCREMENT. -/
  | signalSet (d : Nat)
  /-- FENCE_QUEUE (R287): FENCE SCOPE 0 completes once earlier descriptors of its queue complete. -/
  | fenceQueue (d : Nat)
  /-- FENCE_CONTEXT (R287): FENCE SCOPE 1 waits for earlier descriptors of every queue of the function naming the context. -/
  | fenceContext (d : Nat)
  /-- FENCE_FUNCTION (R287): FENCE SCOPE 2 waits for earlier descriptors of every queue of the function. -/
  | fenceFunction (d : Nat)
  /-- NOP (R287): NOP completes OK. -/
  | nop (d : Nat)
  /-- TRIGGER_ARM (R288): TRIGGER_POST OP 0 reads the posted descriptor and arms a trigger slot. -/
  | triggerArm (d : Nat)
  /-- TRIGGER_CANCEL (R288): TRIGGER_POST OP 1 disarms a trigger slot. -/
  | triggerCancel (d : Nat)
  /-- TRIGGER_FIRE (R288): An armed trigger whose counter reaches its threshold fires once and frees its slot. -/
  | triggerFire (f slot : Nat)
  /-- TRIGGER_STREAM_ENTRY (R289): A fired descriptor waiting in its slot enters the trigger stream when room frees. -/
  | triggerStreamEntry (f slot : Nat)
  /-- EVQ_ENABLE (R300): Setting EVQ_CONFIG.ENABLE enables an event queue and restarts EVQ_LOST. -/
  | evqEnable (f q value : Nat)
  /-- EVQ_FLUSH (R300): Writing FLUSH discards every held entry and adds them to EVQ_LOST. -/
  | evqFlush (f q value : Nat)
  /-- EVQ_DEPTH_WRITE (R300): Writing EVQ_DEPTH resizes the queue, discarding the oldest entries beyond it. -/
  | evqDepthWrite (f q value : Nat)
  /-- EVENT_QUEUE_READ (R301): A 16-byte read of an event-queue port removes and returns the head entry, or a not-valid entry. -/
  | eventQueueRead (f q size : Nat) (ptrFault : Bool)
  /-- CABLE_INSERTION (R580): Assertion of CABLE_PRES_N for a port is debounced and starts training step 1. -/
  | cableInsertion (p : Nat)
  /-- CABLE_REMOVAL (R331): Deassertion of CABLE_PRES_N or loss of all lanes takes the port DOWN and posts a LINK event. -/
  | cableRemoval (p : Nat) (lanesLost : Bool)
  /-- CABLE_DEBOUNCE_DONE (R313): After the 10 ms debounce the port enters DETECT and begins electrical idle exit. -/
  | cableDebounceDone (p : Nat)
  /-- LANE_SIGNAL_DETECTED (R313): Signal is detected on every lane and the port enters TRAIN. -/
  | laneSignalDetected (p lanes : Nat)
  /-- LANE_EQUALISATION_DONE (R313): Clock-data recovery locks and equalisers adapt. -/
  | laneEqualisationDone (p : Nat)
  /-- LANE_DESKEW_DONE (R313): Lanes are deskewed with FEC and frame lock, and the port enters AUTH. -/
  | laneDeskewDone (p : Nat)
  /-- LINK_PEER_HANDSHAKE (R315): The peer handshake completes and the port is admitted to UP, or refused into FAULT. -/
  | linkPeerHandshake (p : Nat) (h : LinkCert)
  /-- TRAINING_TIMEOUT (R313): A port not UP within 200 ms counts a training failure and restarts, entering FAULT after three. -/
  | trainingTimeout (p : Nat)
  /-- LANE_FAULT (R309): A lane becomes faulty and the port moves traffic to the spare, retrains, or drops to HALF;
  with it come the codewords corrected and not correctable since the port's last event. -/
  | laneFault (p : Nat) (lane : PortEvent)
  /-- PORT_ENABLE (R311): SHL_PORT_CTRL.ENABLE releases or holds the port in OFF. -/
  | portEnable (p : Nat) (on : Bool)
  /-- PORT_RETRAIN (R311): Writing RETRAIN restarts training from step 2. -/
  | portRetrain (p : Nat)
  /-- PORT_FORCE_HALF (R311): FORCE_HALF forces the port to half width. -/
  | portForceHalf (p : Nat) (on : Bool)
  /-- LINK_REKEY (R317): After 2^32 frames or a peer request, the direction's link key is changed at an agreed frame count. -/
  | linkRekey (p : Nat) (dir : Nat) (frame : Nat)
  /-- LINK_FRAME_RECEIVE (R317): A Shuhal link frame is received and its tag checked; sixteen failures in 1 ms return the port to AUTH;
  with it come the codewords corrected and not correctable since the port's last event. -/
  | linkFrameReceive (p : Nat) (tagOk : Bool) (notice : PortEvent) (within1ms : Bool)
  /-- SWITCH_FORWARD (R328): The switch chooses an egress for a packet from its tables and forwards or drops it. -/
  | switchForward (die inPort : Nat) (k : Pkt)
  /-- PACKET_RESIDENCE_EXPIRY (R324): A packet held longer than 20 µs in the switch is dropped and counted. -/
  | packetResidenceExpiry (die pos : Nat)
  /-- IN_PACKAGE_LINK_ERROR (R518): An in-package link reports uncorrectable errors and its die goes out of service. -/
  | inPackageLinkError (link die : Nat)
  /-- ETH_FRAME_RECEIVE (R320): A received Ethernet frame goes to the ST engine, the Ringmaster, or is dropped and counted. -/
  | ethFrameReceive (p lp : Nat) (g : EthFrame)
  /-- ETH_MODE_WRITE (R321): A write to ETH_MODE or ETH_INTERFACE takes the MAC's logical ports down and retrains them. -/
  | ethModeWrite (src : Src) (p sub value : Nat)
  /-- PATH_DEAD_EXPIRY (R332): A destination unacknowledged for PATH_DEAD is declared unreachable and its jobs aborted. -/
  | pathDeadExpiry (die dst : Nat)
  /-- CHILD_WAIT_EXPIRY (R335): When CHILD_WAIT passes with a child segment missing, the node starts a job abort with cause 2. -/
  | childWaitExpiry (n : Nat)
  /-- JOB_ABORT_RECEIVE (R339): An ABORT packet for a held job and round abandons it and is forwarded once, or is dropped and counted. -/
  | jobAbortReceive (sender job round cause origin : Nat) (rsvZero : Bool)
  /-- DATA_PACKET_RECEIVE (R352): An ST data packet is checked, placed at its position and acknowledged as needed. -/
  | dataPacketReceive (die : Nat) (k : Pkt)
  /-- ACK_TIMER_EXPIRY (R357): 2 µs after the first unacknowledged packet, the receiver sends an ACK. -/
  | ackTimerExpiry (m : Nat)
  /-- ACK_RECEIVE (R356): An ACK updates held packets, RTT estimates and completion; DELIVERED completes the descriptor. -/
  | ackReceive (die now : Nat) (k : Pkt)
  /-- STATUS_RECEIVE (R358): A STATUS packet ends the message at the sender with the given code. -/
  | statusReceive (die : Nat) (k : Pkt)
  /-- RETRANSMIT_TIMER_EXPIRY (R360): A packet's timer expires; it is retransmitted with RETX, the timer doubles and the rate halves. -/
  | retransmitTimerExpiry (m pkt : Nat)
  /-- PACKET_TRANSMIT (R359): A paced packet within the window is sent on the next path value. -/
  | packetTransmit (m now : Nat)
  /-- RATE_INTERVAL_UPDATE (R364): At each interval the rate and alpha of an entry are updated from marked ACKs. -/
  | rateIntervalUpdate (die dst : Nat)
  /-- PATH_MASK_RESTORE (R355): A path value's mask bit returns 1 ms after it was cleared. -/
  | pathMaskRestore (die dst path : Nat)
  /-- OD_PACKET_RECEIVE (R347): An OD packet under a permitted session key is handed to the Oronos server. -/
  | odPacketReceive (die : Nat) (k : Pkt)
  /-- HELLO (R407): A session HELLO is answered with REPLY naming an endpoint and key, or dropped. -/
  | hello (die : Nat) (h : HelloMsg)
  /-- REPLY (R405): A REPLY received by a module initiator yields the keys and FINISH is sent. -/
  | reply (hs : Nat) (keyId keyGen dstEp : Nat) (sigOk secretOk : Bool)
  /-- FINISH (R407): FINISH is verified; the key is installed and ACCEPT sent, or nothing is installed. -/
  | finish (hs : Nat) (confirmOk sigOk : Bool) (peerPub : Nat)
  /-- ACCEPT (R404): An ACCEPT received by a module initiator completes its session. -/
  | accept (hs status : Nat) (tagOk : Bool)
  /-- CLOSE (R404): A session CLOSE retires the session's key. -/
  | close (keyId : Nat) (tagOk : Bool)
  /-- CREDENTIAL (R406): A CREDENTIAL part of the peer's credential bundle is received and checked. -/
  | credential (hs part : Nat) (c : Credential)
  /-- HANDSHAKE_TIMEOUT (R407): A handshake not reaching FINISH within 100 ms of REPLY releases its KEY_ID. -/
  | handshakeTimeout (hs : Nat)
  /-- OBJ_CREATE (R382): OBJ_COMMAND CREATE allocates a FREE object to the function within its quota. -/
  | objCreate (src : Src)
  /-- OBJ_MODIFY (R382): OBJ_COMMAND MODIFY changes an owned object's fields. -/
  | objModify (src : Src)
  /-- OBJ_DESTROY (R397): OBJ_COMMAND DESTROY frees an object; an endpoint is flushed and quarantined. -/
  | objDestroy (src : Src)
  /-- ADVANCE (R381): OBJ_COMMAND ADVANCE increments a region's generation once placed packets are done. -/
  | advance (src : Src)
  /-- QUERY (R382): OBJ_COMMAND QUERY returns an object's state and generation. -/
  | query (src : Src)
  /-- RETIRE (R377): OBJ_COMMAND RETIRE retires a key, ending its streams. -/
  | retire (src : Src)
  /-- ADVANCE_CTX_KEY (R377): OBJ_COMMAND ADVANCE_CTX_KEY advances CTX_KEY_GEN and retires every key of the context. -/
  | advanceCtxKey (src : Src)
  /-- KEY_QUARANTINE_EXPIRY (R377): 2 ms after retirement a KEY_ID may be installed again. -/
  | keyQuarantineExpiry (k : Nat)
  /-- OBJECT_QUARANTINE_EXPIRY (R503): 2 ms after destruction a protection domain or region may be reused. -/
  | objectQuarantineExpiry (kind k : Nat)
  /-- RESUME (R384): Endpoint doorbell RESUME returns a flushed ERROR endpoint to READY. -/
  | resume (f ep : Nat)
  /-- ERROR (R396): Endpoint doorbell ERROR puts the endpoint in ERROR and starts its flush. -/
  | error (f ep : Nat)
  /-- EVICT (R384): Endpoint doorbell EVICT writes an evictable endpoint back to its backing table. -/
  | evict (f ep : Nat)
  /-- RECYCLE (R384): Endpoint doorbell RECYCLE returns a receive slot to the free list. -/
  | recycle (f ep slot : Nat)
  /-- RECORD_FREE (R394): Endpoint doorbell RECORD_FREE returns receive records. -/
  | recordFree (f ep count : Nat)
  /-- ENDPOINT_QUARANTINE_EXPIRY (R372): 2 ms after DESTROY an endpoint returns to FREE. -/
  | endpointQuarantineExpiry (ep : Nat)
  /-- ST_WRITE (R387): ST_WRITE sends a message into a remote region and completes on its DELIVERED ACK. -/
  | stWrite (d : Nat)
  /-- ST_SEND (R387): ST_SEND sends a message to a remote endpoint and completes on its DELIVERED ACK. -/
  | stSend (d : Nat)
  /-- ST_READ (R387): ST_READ requests remote bytes and completes when the READ_RESP is delivered. -/
  | stRead (d : Nat)
  /-- MESSAGE_DELIVERY (R391): A fully placed, verified message whose lower messages are settled writes its record, signals and sends DELIVERED. -/
  | messageDelivery (m : Nat)
  /-- ENDPOINT_FETCH (R401): A fetched endpoint image is verified and installed, replaying parked packets, or the endpoint enters ERROR. -/
  | endpointFetch (ep : Nat) (ok : Bool)
  /-- ENDPOINT_EVICTION (R400): The least recently used evictable endpoint is sealed and written to its backing table. -/
  | endpointEviction (die : Nat)
  /-- PARKING_TIMEOUT (R399): A packet parked for 100 µs is dropped and counted. -/
  | parkingTimeout (die pos : Nat)
  /-- CONTRIBUTION_COMMIT (R417): A verified contribution adds its deferred chunks, sets its ledger bit and frees its ring room. -/
  | contributionCommit (m : Nat) (e : HwErr)
  /-- MSG_IDLE_LIMIT_EXPIRY (R418): A contribution without packets for MSG_IDLE_LIMIT is reversed silently. -/
  | msgIdleLimitExpiry (m : Nat)
  /-- IMPORT_RECEIVE (R334): A ridge import segment is checked against the child list, round and duplicates, and held for comparison. -/
  | importReceive (key : Nat) (m : ImportMsg)
  /-- IMPORT_WAIT_EXPIRY (R427): IMPORT_WAIT after the first copy, the parent compares copies and adds, recombines or aborts. -/
  | importWaitExpiry (n child seg : Nat)
  /-- RECOMBINE (R426): A RECOMBINE message makes a copy recompute and resend a segment with ATTEMPT 1. -/
  | recombine (key : Nat) (m : RidgeMsg)
  /-- ROOT_DIGEST (R428): A ROOT_DIGEST message's segment digest is compared among root copies. -/
  | rootDigest (key : Nat) (m : RidgeMsg)
  /-- PATROL_READ (R423): DRAM is patrol-read every 24 hours, correcting errors. -/
  | patrolRead (die corrected uncorrected : Nat) (site : EccSite)
  /-- RESET_N_DEASSERT (R434): Deassertion of RESET_N starts the boot ROM sequence up to WAIT_IMAGE. -/
  | resetNDeassert (b : BootEnv)
  /-- BOOT_COMMIT (R530): Writing BOOT_COMMIT marks the windowed image complete and starts its checks. -/
  | bootCommit (len : Nat) (img : ImageCheck)
  /-- IMAGE_COMMIT (R530): IMAGE_COMMIT over the management port marks the image complete and starts its checks. -/
  | imageCommit (len : Nat) (img : ImageCheck)
  /-- ALIAS_TREE_GENERATED (R437): The alias tree and certificate are ready and KEYS_READY is set.
  `idx` is the alias index whose tree is ready. -/
  | aliasTreeGenerated (idx : Nat)
  /-- ALIAS_ROTATION (R452): At first use of leaf 768 the successor alias key and certificate are generated.
  `idx` is the successor's index. -/
  | aliasRotation (idx : Nat)
  /-- IDENTITY_TREE_GENERATION (R450): At 24,576 used leaves the next level-1 identity tree is generated and certified.
  `tree` is its number. -/
  | identityTreeGeneration (tree : Nat)
  /-- SVN_COMMIT (R438): An SVN_COMMIT write burns SVN_FLOOR bits up to the value. -/
  | svnCommit (src : Src) (v : Nat)
  /-- MR_EXTEND (R439): A write to MR_EXTEND extends MR5-MR7. -/
  | mrExtend (src : Src) (r data : Nat)
  /-- FABRIC_LOCK (R541): FABRIC_LOCK locks the fabric entries and extends MR4. -/
  | fabricLock (src : Src)
  /-- VAULT_INSTALL (R444): A key is derived or drawn into an EMPTY slot and delivered to the named units. -/
  | vaultInstall (slot purpose owner port rights : Nat) (moduleOwned : Bool)
  /-- VAULT_ACTIVATE (R444): A PENDING slot becomes ACTIVE once every unit confirms delivery. -/
  | vaultActivate (slot : Nat)
  /-- VAULT_SLOT_QUARANTINE_EXPIRY (R444): 2 ms after every discard confirmation a RETIRING slot is zeroed and EMPTY. -/
  | vaultSlotQuarantineExpiry (slot : Nat)
  /-- REMASK_PASS (R447): Every REMASK_PERIOD each slot is re-masked, or the pass is skipped without RNG words. -/
  | remaskPass
  /-- QUOTE_REQUEST (R457): A QUOTE_REQUEST write starts a quote, or is refused. -/
  | quoteRequest (src : Src) (nonce n : Nat)
  /-- QUOTE_SIGN (R457): Once a signing token is available, the quote body is taken, signed and QUOTE_STATUS set READY. -/
  | quoteSign (f : Nat)
  /-- POLICY_BUNDLE (R460): A signed policy bundle is checked and applied with LOCK and digest in one step. -/
  | policyBundle (src : Src) (b : BundleData)
  /-- PROVISION (R463): LC_COMMAND PROVISION draws and burns the DUS, computes the DEV identity and burns DEV. `len` is
  the length of the write. -/
  | provision (src : Src) (now dus len : Nat)
  /-- PRODUCE (R463): LC_COMMAND PRODUCE computes the PROD identity and burns PROD. `len` is the length of the
  write. -/
  | produce (src : Src) (now len : Nat)
  /-- LC_RETIRE (R463): LC_COMMAND RETIRE fences every tenant, zeroes the vault and burns RETIRED and DUS_KILL. -/
  | lcRetire (src : Src) (now : Nat)
  /-- DEBUG_CHALLENGE (R464): A read of DEBUG_CHALLENGE returns the unlock challenge, renewing an expired one. -/
  | debugChallenge (src : Src) (now : Nat)
  /-- DEBUG_RESPONSE (R465): A debug response is verified; on acceptance every tenant is fenced, the vault zeroed and DEBUG_OPEN entered. -/
  | debugResponse (src : Src) (now pub : Nat) (sigOk : Bool)
  /-- TAMPER (R455): An open TAMPER_N loop zeroes every slot and seed, increments TAMPER_COUNT and sets TAMPERED. -/
  | tamper
  /-- RNG_SAMPLE (R475): Each raw sample is health-tested and conditioned into seed material. -/
  | rngSample (x : Byte)
  /-- RNG_ESTIMATE_WINDOW (R476): At the end of each 4,096-sample window BIAS and AUTOCORR are published and checked. -/
  | rngEstimateWindow
  /-- RNG_STARTUP_COMPLETE (R474): Startup tests end and the DRBG is instantiated, or the RNG halts. -/
  | rngStartupComplete (katOk : Bool)
  /-- DRBG_GENERATE (R478): A generate request fills one 64-byte output queue entry when there is room. -/
  | drbgGenerate
  /-- RESEED_INTERVAL_EXPIRY (R479): After RI requests the DRBG reseeds, stretches RI, or blocks. -/
  | reseedIntervalExpiry
  /-- SEED_BLOCK_ARRIVAL_RESEED (R479): A seed block arriving during BLOCKED reseeds the DRBG at once. -/
  | seedBlockArrivalReseed
  /-- RNG_QUEUE_READ (R481): A consumer read takes one whole output entry, or receives the not-valid tag. `ptrFault`: the
  queue's pointers are found wrong on this read (R298). -/
  | rngQueueRead (consumer : HsAccess)
  /-- RNG_WAIT_LIMIT_EXPIRY (R482): A consumer waiting past RNG_WAIT_LIMIT fails with RNG_UNAVAILABLE. -/
  | rngWaitLimitExpiry (consumer : Nat)
  /-- RNG_RESTART (R484): RESTART in HALTED starts the startup tests and clears FAIL_CAUSE. -/
  | rngRestart (viaOd : Option Src)
  /-- RAW_CAPTURE_SET (R486): Setting RAW_CAPTURE in DEV diverts samples to RNG_RAW. -/
  | rawCaptureSet
  /-- RAW_CAPTURE_CLEAR (R486): Clearing RAW_CAPTURE zeroes the DRBG, flushes the queue and runs startup tests. -/
  | rawCaptureClear
  /-- FLASH (R495): FN_COMMAND FLASH starts a fence of the function through steps 1 to 4. -/
  | flash (src : Src) (f : Nat) (stuck : List Nat)
  /-- FUNCTION_LEVEL_RESET (R494): A PCIe function-level reset starts a fence of the function. -/
  | functionLevelReset (f : Nat) (stuck : List Nat)
  /-- FENCE_ENGINE_TIMEOUT (R495): An engine not stopped within 100 µs of fence step 3 is reset. -/
  | fenceEngineTimeout (f : Nat)
  /-- FENCE_SCRUB (R497): Fence step 5 overwrites and reads back everything the module holds for the function. -/
  | fenceScrub (f : Nat) (bad : List (Nat × Nat))
  /-- SCRUB_DONE (R495): Once the scrub has ended and 2 ms have passed since step 4, SCRUB_DONE is set and FENCE_DONE recorded. -/
  | scrubDone (f : Nat)
  /-- RELEASE (R496): FN_COMMAND RELEASE installs fresh XTS keys, maps BAR0 and makes the function OPEN. -/
  | release (src : Src) (f : Nat)
  /-- GRANT_WRITE (R491): A write of the DRAM grant or quotas is accepted only for a non-OPEN function and returns it to UNCLEAN. -/
  | grantWrite (src : Src) (f sub value : Nat)
  /-- VF_ENABLE (R527): Setting VF Enable or raising NumVFs adds virtual functions in UNCLEAN. -/
  | vfEnable (num : Nat)
  /-- VF_REMOVAL (R527): Clearing VF Enable or lowering NumVFs fences each removed virtual function. -/
  | vfRemoval (num : Nat)
  /-- WATCHDOG_EXPIRY (R507): A unit without progress for WATCHDOG_US gets a HANG record and an engine reset. -/
  | watchdogExpiry (unit : Nat)
  /-- HEARTBEAT_LOSS (R507): A Ringmaster heartbeat missing for 100 ms, or a root-die unit hang, starts a module reset. -/
  | heartbeatLoss (unit : Nat)
  /-- ENGINE_RESET_COMPLETE (R512): An engine reset returns the unit to service and its descriptor completes with HANG_RESET. -/
  | engineResetComplete (unit micros : Nat)
  /-- ENGINE_RESET_OVERRUN (R512): A unit not quiesced 64 µs into its engine reset starts a die reset. -/
  | engineResetOverrun (unit : Nat)
  /-- DIE_RESET_COMPLETE (R516): A die reset completes, failing every context with work on the die. -/
  | dieResetComplete (die micros : Nat)
  /-- DIE_RESET_OVERRUN (R515): A die reset not completed at 2 ms starts a module reset. -/
  | dieResetOverrun (die : Nat)
  /-- MODULE_RESET (R520): A module reset writes its record, sends job aborts, idles transmitters and resets as RESET_N. -/
  | moduleReset (cause : Nat)
  /-- RESET_REQUEST_ENGINE (R521): RESET_REQUEST at level 1 resets the named engine. -/
  | resetRequestEngine (src : Src) (unit : Nat)
  /-- RESET_REQUEST_DIE (R521): RESET_REQUEST at level 2 resets the named die. -/
  | resetRequestDie (src : Src) (unit : Nat)
  /-- RESET_REQUEST_MODULE (R521): RESET_REQUEST at level 3 resets the module. -/
  | resetRequestModule (src : Src) (unit : Nat)
  /-- SNAPSHOT_TAKE (R544): TAKE copies every counter into its holding copy at one strobe. -/
  | snapshotTake (viaOd : Option Src)
  /-- LINK_WIDTH_REDUCTION (R526): After 100 µs under a quarter of width use the endpoint enters L0p. -/
  | linkWidthReduction
  /-- ASPM_L1_ENTRY (R526): After 64 µs of idle with ASPM enabled the link enters L1. -/
  | aspmL1Entry
  /-- D3HOT (R535): The physical function entering D3hot requests module Sleep. -/
  | d3hot
  /-- D3COLD (R535): The physical function entering D3cold requests module Deep sleep. -/
  | d3cold
  /-- LOCK_INTERFACE (R538): TDISP LOCK_INTERFACE moves an OPEN function's interface to CONFIG_LOCKED. -/
  | lockInterface (f : Nat)
  /-- START_INTERFACE (R538): TDISP START_INTERFACE moves a locked interface to RUN. -/
  | startInterface (f : Nat)
  /-- STOP_INTERFACE (R538): TDISP STOP_INTERFACE unlocks the interface, or errors it if SCRUB_DONE is 0. -/
  | stopInterface (f : Nat)
  /-- GET_DEVICE_INTERFACE_REPORT (R538): Returns the interface's MMIO range and attributes. -/
  | getDeviceInterfaceReport (f : Nat)
  /-- TDISP_ERROR (R538): A BAR0 request without the T bit or a changed binding puts the interface in ERROR and fences the function. -/
  | tdispError (f : Nat) (isRead : Bool)
  /-- SPDM_REQUEST (R537): A DOE SPDM request is answered with alias-signed responses and measurements. -/
  | spdmRequest (code : Nat) (offered : Bool)
  /-- K_SET_GO (R536): K_SET_GO switches an IDE stream to its refreshed key. -/
  | kSetGo (stream : Nat)
  /-- MODULE_REQUEST_WAKE (R556): MODULE_REQUEST wake brings the module to Idle. -/
  | moduleRequestWake (src : Src)
  /-- MODULE_REQUEST_SLEEP (R557): MODULE_REQUEST Sleep puts every die in Sleep, or is refused. -/
  | moduleRequestSleep (src : Src)
  /-- MODULE_REQUEST_DEEP_SLEEP (R557): MODULE_REQUEST Deep sleep puts every die in Deep sleep, or is refused. -/
  | moduleRequestDeepSleep (src : Src)
  /-- DIE_REQUEST_WAKE (R556): DIE_REQUEST wake brings one die to Idle. -/
  | dieRequestWake (src : Src) (die : Nat)
  /-- DIE_REQUEST_SLEEP (R557): DIE_REQUEST Sleep puts one die in Sleep, or is refused. -/
  | dieRequestSleep (src : Src) (die : Nat)
  /-- DIE_REQUEST_DEEP_SLEEP (R557): DIE_REQUEST Deep sleep puts one die in Deep sleep, or is refused. -/
  | dieRequestDeepSleep (src : Src) (die : Nat)
  /-- SLEEP_ENTRY_COMPLETE (R557): Sleep or Deep sleep entry finishes with clocks stopped and DRAM in self-refresh. -/
  | sleepEntryComplete (die : Nat)
  /-- WAKE_COMPLETE (R566): A waking die or module reaches Idle. -/
  | wakeComplete (die : Nat)
  /-- ENGINE_GATE (R555): An engine without work for GATE_DELAY is power-gated. -/
  | engineGate (unit : Nat)
  /-- ENGINE_POWER_UP (R555): A gated engine finishes powering up 8 µs after dispatch and starts its descriptor. -/
  | enginePowerUp (unit : Nat)
  /-- WAKE_N (R562): WAKE_N asserted wakes a sleeping module. -/
  | wakeN
  /-- WAKE_TIMER (R562): WAKE_TIMER expiry wakes a sleeping module. -/
  | wakeTimer
  /-- MANAGEMENT_WAKE_PACKET (R562): A datagram or ST packet to the management port wakes a sleeping module. -/
  | managementWakePacket
  /-- PCIE_WAKE (R562): The physical function moving to D0, or PERST# deasserting after D3cold, wakes the module. -/
  | pcieWake (perst : Bool)
  /-- CALLIOPE_PATTERN (R563): Detection of the wake pattern on a port in SLEEP wakes the die. -/
  | calliopePattern (p : Nat)
  /-- PEER_WAKE (R564): A PEER_WAKE write sends the wake pattern on the named sleeping ports. -/
  | peerWake (src : Src) (mask : Nat)
  /-- INPUT_POWER_LOSS (R559): 48 V outside 40-56 V for 10 µs deasserts PWR_GOOD and enters Off. -/
  | inputPowerLoss
  /-- PWR_GOOD_ASSERT (R572): The carrier regulators come into regulation and PWR_GOOD asserts. -/
  | pwrGoodAssert
  /-- THERMAL_SAMPLE (R567): Each millisecond die temperatures are measured, driving THERM_ALERT_N and tripping at 115 °C. -/
  | thermalSample (temps : List Nat)
  /-- THERMAL_RECOVERY (R567): When every die reads below 95 °C after a trip, the module boots again. -/
  | thermalRecovery (temps : List Nat)
  /-- ALWAYS_ON_TRIM (R571): Each second the always-on clock is trimmed against REFCLK. -/
  | alwaysOnTrim
  /-- FREEZE_N (R593): FREEZE_N, where honoured, stops every clock domain and freezes the module. -/
  | freezeN
  /-- PRESENCE_PRESS (R578): PRESENCE_N low for 20 ms counts a press and lights LED_LOCATE for 1 s. -/
  | presencePress (now : Nat)
  /-- LED_ACT_TIMEOUT (R583): 50 ms after the last activity LED_ACT goes dark. -/
  | ledActTimeout
  /-- TAP_RESET (R584): TRST_N or five TMS-high cycles reset the TAP and load IDCODE. -/
  | tapReset
  /-- TAP_INSTRUCTION_LOAD (R584): An instruction is loaded into the TAP instruction register, falling back to BYPASS where not permitted. -/
  | tapInstructionLoad (code now : Nat)
  /-- UNLOCK_RESPONSE (R586): Update-DR of UNLOCK_RESPONSE submits a debug response to the vault. -/
  | unlockResponse (now pub : Nat) (sigOk : Bool)
  /-- DBG_NOP (R587): DBG_ACCESS NOP does nothing. -/
  | dbgNop (w : DbgWord)
  /-- DBG_READ32 (R591): READ32 reads a word from a permitted space. -/
  | dbgRead32 (w : DbgWord)
  /-- DBG_WRITE32 (R591): WRITE32 writes a word to a permitted space. -/
  | dbgWrite32 (w : DbgWord)
  /-- DBG_HALT (R588): HALT stops a core or sequencer at its next boundary. -/
  | dbgHalt (w : DbgWord)
  /-- DBG_RESUME (R588): RESUME continues a halted core or sequencer. -/
  | dbgResume (w : DbgWord)
  /-- DBG_STEP (R588): STEP advances a halted target by SLOT instructions or steps. -/
  | dbgStep (w : DbgWord)
  /-- DBG_SET_BP (R590): SET_BP arms a breakpoint or watchpoint slot. -/
  | dbgSetBp (w : DbgWord)
  /-- DBG_CLEAR_BP (R590): CLEAR_BP disarms a breakpoint slot. -/
  | dbgClearBp (w : DbgWord)
  /-- DBG_STATUS (R588): STATUS returns the halt state of a core or sequencer. -/
  | dbgStatus (w : DbgWord)
  /-- LOCATE_WRITE (R581): A LOCATE write starts or stops the LED_LOCATE blink. -/
  | locateWrite (src : Src) (value : Nat)
  /-- RESET_N_ASSERT (R572): RESET_N low on two consecutive always-on samples, or for 1 µs while frozen, starts a reset and holds the module in reset with transmitters in electrical idle. -/
  | resetNAssert
  /-- PCIE_COMPLETION_TIMEOUT (R534): A host read whose completion does not arrive within the completion timeout ends the issuing operation with TIMEOUT, or sets FETCH_ERROR for a ring fetch. -/
  | pcieCompletionTimeout (r : HostRead)
  /-- OVER_TEMPERATURE_COMPARATOR (R594): While frozen, a die's analogue comparator at 115 °C drives THERM_ALERT_N and removes the die's logic supply. -/
  | overTemperatureComparator (die : Nat)
  /-- ETH_LINK_UP (R321): An Ethernet logical port completes training or auto-negotiation and its LINK_UP bit sets. -/
  | ethLinkUp (p lp : Nat)
  /-- ETH_LINK_DOWN (R321): An Ethernet logical port loses its link and its LINK_UP bit clears. -/
  | ethLinkDown (p lp : Nat)
  /-- IDE_STREAM_TLP (R536): A TLP arriving on a selective IDE stream bound to another function is discarded and counted in IDE_MISROUTED. -/
  | ideStreamTlp (stream f : Nat)
  /-- REGISTER_READ (R543): A BAR register read that has behaviour of its own: a low-half read latches the high half, and a read to a sleeping die wakes its register domain. -/
  | registerRead (r : RegRead)
  /-- COHORT_CLOSE_GRACE_EXPIRY (R125): CLOSE_GRACE after a cohort SHUT, the cohort's still uncommitted contributions are reversed and its survivor set is fixed, with the round staying OPEN. -/
  | cohortCloseGraceExpiry (n k : Nat)
  /-- OD_READ_COPY_LAPSE (R548): 100 ms after a READ at offset 0, the latched copy for that source and transaction lapses. -/
  | odReadCopyLapse (src : Src) (txn : Nat)
  /-- LOCATE_ACKNOWLEDGEMENT_END (R578): 1 s after a counted press, LED_LOCATE ends its steady acknowledgement and the locate pattern resumes. -/
  | locateAcknowledgementEnd
  /-- AUXILIARY_RAIL_VALID (R572): The 3.3 V auxiliary rail becomes valid, the always-on oscillator starts and sideband pins become active. -/
  | auxiliaryRailValid
  /-- AUXILIARY_RAIL_LOSS (R576): The 3.3 V auxiliary rail is lost; every sideband pin goes high impedance and every input is ignored. -/
  | auxiliaryRailLoss
  /-- REFCLK_STABLE (R570): REFCLK becomes stable, REFCLK_OK sets, and a wake from Deep sleep waiting on it proceeds. -/
  | refclkStable
  /-- REFCLK_LOSS (R571): REFCLK stops in Deep sleep or Off; REFCLK_OK clears and the always-on clock holds its last trim. -/
  | refclkLoss
  deriving DecidableEq, Repr

end Sys2Proof
end

