-- ==== Sys2Proof/Machine/Bits.lean ====
section
/-!
DEFINITION. Bit fields, sparse tables, byte memories in their canonical form, and the little-endian
byte order of R4. All values are natural numbers; a field is cut out by division and remainder.
-/

namespace Sys2Proof.Machine

open Sys2Proof

/-- Bits hi:lo of v (R3). -/
def bits (v hi lo : Nat) : Nat := (v / 2 ^ lo) % 2 ^ (hi + 1 - lo)

/-- Bit i of v. -/
def bit (v i : Nat) : Bool := v.testBit i

/-- 1 for true, 0 for false. -/
def b2n (b : Bool) : Nat := if b then 1 else 0

/-- v with bits hi:lo replaced by x. -/
def putBits (v hi lo x : Nat) : Nat :=
  v - bits v hi lo * 2 ^ lo + (x % 2 ^ (hi + 1 - lo)) * 2 ^ lo

/-- Set or clear bit i of v. -/
def putBit (v i : Nat) (b : Bool) : Nat := putBits v i i (b2n b)

/-- n bytes of v from byte offset off, v little-endian (R4). -/
def fld (v off n : Nat) : Nat := (v / 2 ^ (8 * off)) % 2 ^ (8 * n)

/-- Add with saturation at hi. -/
def satAdd (hi v x : Nat) : Nat := if v + x ≤ hi then v + x else hi

/-- ceil(a / b). -/
def cdiv (a b : Nat) : Nat := (a + b - 1) / b

/-- The number of set bits among the low n bits of v. -/
def popCount : Nat → Nat → Nat
  | 0, _ => 0
  | n + 1, v => v % 2 + popCount n (v / 2)

/-- The positions of the set bits among the low n bits of v, rising. -/
def setBits (n v : Nat) : List Nat := (List.range n).filter (fun i => v.testBit i)

/-- Two's complement: the n-bit word w as an integer. -/
def toS (n w : Nat) : Int := if w < 2 ^ (n - 1) then (w : Int) else (w : Int) - 2 ^ n

/-- The n-bit word of an integer (R4, two's complement). -/
def ofS (n : Nat) (x : Int) : Nat := (x % (2 ^ n : Int)).toNat

/-- Clamp an integer into [lo, hi]. -/
def clampI (lo hi x : Int) : Int := if x < lo then lo else if hi < x then hi else x

/-- The entry at key k, or the reader's default. -/
def tget {α : Type} (t : Tbl α) (d : α) (k : Nat) : α :=
  match t with
  | [] => d
  | (j, v) :: r => if j = k then v else tget r d k

/-- The entry at key k, if one is listed. -/
def tfind {α : Type} (t : Tbl α) (k : Nat) : Option α :=
  match t with
  | [] => none
  | (j, v) :: r => if j = k then some v else tfind r k

/-- Remove the entry at key k. -/
def terase {α : Type} (t : Tbl α) (k : Nat) : Tbl α := t.filter (fun x => x.1 != k)

/-- Put v at key k, keys strictly rising. -/
def tput {α : Type} (t : Tbl α) (k : Nat) (v : α) : Tbl α :=
  match t with
  | [] => [(k, v)]
  | (j, w) :: r => if k < j then (k, v) :: (j, w) :: r
      else if j = k then (k, v) :: r else (j, w) :: tput r k v

/-- Put v at key k, or remove the key when v is the default: equal tables are equal data. -/
def tset {α : Type} [DecidableEq α] (t : Tbl α) (d : α) (k : Nat) (v : α) : Tbl α :=
  if v = d then terase t k else tput t k v

/-- The keys of a table, rising. -/
def tkeys {α : Type} (t : Tbl α) : List Nat := t.map (·.1)

/-- Strictly rising keys. -/
def keysRise {α : Type} : Tbl α → Bool
  | [] => true
  | [_] => true
  | a :: b :: r => decide (a.1 < b.1) && keysRise (b :: r)

/-- The byte at address a; an unlisted byte reads 0 (DESIGN CHOICE, log 6). (DESIGN CHOICE, log 118.) -/
def mget (m : Mem) (a : Nat) : Byte := tget m 0 a

/-- Write one byte, keeping the canonical form. -/
def mset (m : Mem) (a : Nat) (b : Byte) : Mem := tset m 0 a b

/-- The canonical form of a memory: addresses strictly rising, no listed byte equal to what an
unlisted address reads as. -/
def memWf (m : Mem) : Bool := keysRise m && m.all (fun c => c.2 != 0)

/-- n bytes from address a as a little-endian number (R4). -/
def mrd (m : Mem) (a : Nat) : Nat → Nat
  | 0 => 0
  | n + 1 => (mget m a).toNat + 256 * mrd m (a + 1) n

/-- Write the n low bytes of v at address a, little-endian (R4). -/
def mwr (m : Mem) (a : Nat) : Nat → Nat → Mem
  | 0, _ => m
  | n + 1, v => mwr (mset m a (BitVec.ofNat 8 (v % 256))) (a + 1) n (v / 256)

/-- Remove every listed byte in [a, a + n): the bytes then read 0. -/
def mclear (m : Mem) (a n : Nat) : Mem := m.filter (fun c => c.1 < a || a + n ≤ c.1)

/-- The listed bytes in [a, a + n), moved to address 0. -/
def mcut (m : Mem) (a n : Nat) : Mem :=
  (m.filter (fun c => a ≤ c.1 && c.1 < a + n)).map (fun c => (c.1 - a, c.2))

/-- Write the listed bytes of p at address a over a cleared range of n bytes. -/
def mpaste (m : Mem) (a n : Nat) (p : Mem) : Mem :=
  (p.filter (fun c => c.1 < n)).foldl (fun acc c => mset acc (a + c.1) c.2) (mclear m a n)

/-- Copy n bytes of one memory to another (or the same). -/
def mcopy (src : Mem) (sa : Nat) (dst : Mem) (da n : Nat) : Mem :=
  mpaste dst da n (mcut src sa n)

/-- Fill n bytes from address a with a repeating 8-byte pattern (R283): byte i takes byte
i mod 8 of the pattern. `i` counts up from the start. -/
def mfill (m : Mem) (a p : Nat) : Nat → Nat → Mem
  | 0, _ => m
  | n + 1, i => mfill (mset m (a + i) (BitVec.ofNat 8 (fld p (i % 8) 1))) a p n (i + 1)

/-- The byte list of n bytes from a. -/
def mbytes (m : Mem) (a : Nat) : Nat → List Nat
  | 0 => []
  | n + 1 => (mget m a).toNat :: mbytes m (a + 1) n

/-- The n low bytes of v, byte 0 first (R4). -/
def bytesOf (v : Nat) : Nat → List Nat
  | 0 => []
  | n + 1 => v % 256 :: bytesOf (v / 256) n

/-- Little-endian number of a byte list (R4). -/
def ofBytes : List Nat → Nat
  | [] => 0
  | b :: r => b % 256 + 256 * ofBytes r

/-- [a, a + n) and [b, b + m) share a byte. -/
def overlaps (a n b m : Nat) : Bool := n != 0 && m != 0 && decide (a < b + m) && decide (b < a + n)

/-- One step of CRC-32C (polynomial 0x1EDC6F41, reflected 0x82F63B78) over one bit. -/
def crcStep (c : Nat) : Nat := if c % 2 = 1 then (c / 2) ^^^ 0x82F63B78 else c / 2

/-- CRC-32C register after one byte. -/
def crcByte (c b : Nat) : Nat :=
  crcStep (crcStep (crcStep (crcStep (crcStep (crcStep (crcStep (crcStep (c ^^^ b))))))))

/-- CRC-32C over bytes (R420): initial value and final inversion all ones. -/
def crc32c (bs : List Nat) : Nat := (bs.foldl crcByte 0xFFFFFFFF) ^^^ 0xFFFFFFFF

/-- Base^exp mod m by repeated squaring; `fuel` bounds the bits of the exponent. -/
def powMod (fuel b e m : Nat) : Nat :=
  match fuel with
  | 0 => 1 % m
  | f + 1 => if e = 0 then 1 % m
      else
        let h := powMod f (b * b % m) (e / 2) m
        if e % 2 = 1 then h * b % m else h

/-- The least element of a list of numbers, or d when it is empty. -/
def leastOr (d : Nat) (l : List Nat) : Nat := l.foldl (fun a b => if b < a then b else a) (l.headD d)

/-- The first of `List.range n` shifted by `lo` that passes p. -/
def firstFrom (p : Nat → Bool) (lo n : Nat) : Option Nat := ((List.range n).map (· + lo)).find? p

/-- Replace the first element that passes p. -/
def replaceFirst {α : Type} (p : α → Bool) (f : α → α) : List α → List α
  | [] => []
  | x :: r => if p x then f x :: r else x :: replaceFirst p f r

/-- Apply f to every element that passes p. -/
def mapIf {α : Type} (p : α → Bool) (f : α → α) (l : List α) : List α :=
  l.map (fun x => if p x then f x else x)

/-- The last n elements of a list. -/
def lastN {α : Type} (n : Nat) (l : List α) : List α := l.drop (l.length - n)

end Sys2Proof.Machine
end

