-- ==== Sys2Proof/Machine/Ntt.lean ====
section
/-!
DEFINITION. The arithmetic of one limb (R132, R133, R138, R139): Montgomery products, inverses, the transform
and its inverse, and the words of a limb in memory.
-/

namespace Sys2Proof.Machine

open Sys2Proof

/-- Steps of Euclid's algorithm: r = t * x modulo p holds of both pairs. -/
def invGo (p : Nat) : Nat → Nat → Nat → Nat → Nat → Nat
  | 0, _, t, _, _ => t
  | f + 1, r, t, r1, t1 => if r1 = 0 then t else invGo p f r1 t1 (r % r1) ((t + (p - r / r1 * t1 % p)) % p)

/-- The inverse of x modulo p, for x prime to p; 0 for a multiple of p. -/
def invMod (p x : Nat) : Nat := invGo p 128 p 0 (x % p) 1

/-- Montgomery product modulo p with the entry's MONT (R132). -/
def montMul (p mont x y : Nat) : Nat :=
  let t := x * y
  let m := t % 2 ^ 32 * mont % 2 ^ 32
  let u := (t + m * p) / 2 ^ 32
  if p ≤ u then u - p else u

/-- Reverse the n low bits of i (R138). -/
def brv : Nat → Nat → Nat
  | 0, _ => 0
  | n + 1, i => (i % 2) * 2 ^ n + brv n (i / 2)

/-- ψ_N of an entry for N = 2^n (R128). -/
def psiN (p root n : Nat) : Nat := powMod 40 root (2 ^ (17 - n)) p

/-- Sum of f over the first k indices, modulo p. -/
def sumMod (p : Nat) (f : Nat → Nat) : Nat → Nat
  | 0 => 0
  | k + 1 => (sumMod p f k + f k) % p

/-- Slot i of the NTT of a limb (R138). -/
def nttAt (p psi n : Nat) (a : Nat → Nat) (i : Nat) : Nat :=
  sumMod p (fun t => a t * powMod 40 psi ((2 * brv n i + 1) * t % 2 ^ (n + 1)) p) (2 ^ n)

/-- Coefficient t of the INTT, the exact inverse of R138 (R139). -/
def inttAt (p psi n : Nat) (a : Nat → Nat) (t : Nat) : Nat :=
  let inv := invMod p psi
  sumMod p (fun i => a i * powMod 40 inv ((2 * brv n i + 1) * t % 2 ^ (n + 1)) p) (2 ^ n) * invMod p (2 ^ n) % p

/-- Write f over the first k words from address a. -/
def limbWrite (m : Mem) (a : Nat) (f : Nat → Nat) : Nat → Mem
  | 0 => m
  | k + 1 => mwr (limbWrite m a f k) (a + 4 * k) 4 (f k)

/-- The word t of a limb at address a. -/
def limbAt (m : Mem) (a t : Nat) : Nat := mrd m (a + 4 * t) 4

end Sys2Proof.Machine
end

