-- ==== Sys2Proof/Machine/Fp.lean ====
section
/-!
DEFINITION. Binary floating point with round-to-nearest-even (R4, R228, R247): FP32 arithmetic on
32-bit words, narrowing to BF16 and FP16, and the pair node of R228. A value m * 2^e is rounded
exactly; subnormals are kept; every NaN produced is the quiet NaN.
-/

namespace Sys2Proof.Machine

/-- Divide by 2^k, rounding to nearest even. -/
def rneShift (m k : Nat) : Nat :=
  let q := m / 2 ^ k
  let r := m % 2 ^ k
  if k = 0 then m
  else if 2 * r < 2 ^ k then q
  else if 2 ^ k < 2 * r then q + 1
  else q + q % 2

/-- The magnitude word of m * 2^e in a format of precision p whose least subnormal is 2^qmin. -/
def roundMag (p : Nat) (qmin : Int) (m : Nat) (e : Int) : Nat :=
  if m = 0 then 0
  else
    let q := max ((Nat.log2 m : Int) + e - (p - 1)) qmin
    let n := if q ≤ e then m * 2 ^ (e - q).toNat else rneShift m (q - e).toNat
    (q - qmin).toNat * 2 ^ (p - 1) + n

/-- +infinity in FP32. -/
def fInf : Nat := 0x7F800000
/-- The quiet NaN of FP32 (R228). (DEDUCED, log 109.) -/
def fNan : Nat := 0x7FC00000

/-- The sign bit of an FP32 word. -/
def fSign (w : Nat) : Bool := decide (2 ^ 31 ≤ w)
/-- The magnitude bits of an FP32 word. -/
def fMagW (w : Nat) : Nat := w % 2 ^ 31
/-- NaN. -/
def fIsNan (w : Nat) : Bool := decide (fInf < fMagW w)
/-- Infinite. -/
def fIsInf (w : Nat) : Bool := fMagW w == fInf
/-- Finite. -/
def fFinite (w : Nat) : Bool := decide (fMagW w < fInf)
/-- Zero of either sign. -/
def fIsZero (w : Nat) : Bool := fMagW w == 0
/-- The integer significand of a finite word. -/
def fMant (w : Nat) : Nat := if bits w 30 23 = 0 then bits w 22 0 else 2 ^ 23 + bits w 22 0
/-- Its exponent: the value is fMant * 2^fExp. -/
def fExp (w : Nat) : Int := (max (bits w 30 23) 1 : Nat) - 150
/-- Signed significand. -/
def fSig (w : Nat) : Int := if fSign w then -(fMant w : Int) else fMant w

/-- The FP32 word of (-1)^neg * m * 2^e. -/
def fRound (neg : Bool) (m : Nat) (e : Int) : Nat :=
  b2n neg * 2 ^ 31 + min (roundMag 24 (-149) m e) fInf

/-- The FP32 word of x * 2^e; a zero takes the sign given. -/
def fRoundI (zneg : Bool) (x : Int) (e : Int) : Nat :=
  if x = 0 then b2n zneg * 2 ^ 31 else fRound (decide (x < 0)) x.natAbs e

/-- Negation. -/
def fNeg (w : Nat) : Nat := if fSign w then w - 2 ^ 31 else w + 2 ^ 31
/-- Magnitude. -/
def fAbs (w : Nat) : Nat := fMagW w

/-- FP32 addition. -/
def fAdd (a b : Nat) : Nat :=
  if fIsNan a || fIsNan b then fNan
  else if fIsInf a then (if fIsInf b && fSign a != fSign b then fNan else a)
  else if fIsInf b then b
  else
    let e := min (fExp a) (fExp b)
    fRoundI (fSign a && fSign b)
      (fSig a * 2 ^ (fExp a - e).toNat + fSig b * 2 ^ (fExp b - e).toNat) e

/-- FP32 subtraction. -/
def fSub (a b : Nat) : Nat := if fIsNan b then fNan else fAdd a (fNeg b)

/-- FP32 multiplication. -/
def fMul (a b : Nat) : Nat :=
  let neg := fSign a != fSign b
  if fIsNan a || fIsNan b then fNan
  else if fIsInf a || fIsInf b then (if fIsZero a || fIsZero b then fNan else b2n neg * 2 ^ 31 + fInf)
  else fRound neg (fMant a * fMant b) (fExp a + fExp b)

/-- FP32 division. -/
def fDiv (a b : Nat) : Nat :=
  let neg := fSign a != fSign b
  if fIsNan a || fIsNan b || (fIsInf a && fIsInf b) || (fIsZero a && fIsZero b) then fNan
  else if fIsInf a || fIsZero b then b2n neg * 2 ^ 31 + fInf
  else if fIsInf b || fIsZero a then b2n neg * 2 ^ 31
  else
    let n := fMant a * 2 ^ 90
    fRound neg (2 * (n / fMant b) + b2n (n % fMant b != 0)) (fExp a - fExp b - 91)

/-- An integer rounded to FP32 (R63). -/
def fOfInt (x : Int) : Nat := fRoundI false x 0

/-- The conversion of an integer rounds (R63). -/
def fIntInexact (x : Int) : Bool :=
  let w := fOfInt x
  if fExp w < 0 then fSig w != x * 2 ^ (-fExp w).toNat else fSig w * 2 ^ (fExp w).toNat != x

/-- The order of R256: −∞ < … < −0.0 < +0.0 < … < +∞. -/
def fKey (w : Nat) : Int := if fSign w then -(fMagW w : Int) - 1 else fMagW w

/-- a < b as numbers, −0.0 equal to +0.0; false for a NaN. -/
def fLt (a b : Nat) : Bool :=
  !fIsNan a && !fIsNan b && !(fIsZero a && fIsZero b) && decide (fKey a < fKey b)

/-- maximumNumber of IEEE 754-2019 (R84). -/
def fMaxNum (a b : Nat) : Nat :=
  if fIsNan a then (if fIsNan b then fNan else b)
  else if fIsNan b then a else if fKey a < fKey b then b else a

/-- minimumNumber of IEEE 754-2019 (R84). -/
def fMinNum (a b : Nat) : Nat :=
  if fIsNan a then (if fIsNan b then fNan else b)
  else if fIsNan b then a else if fKey a < fKey b then a else b

/-- The power-of-two step of R84: a NaN, a value not above 0 and +∞ unchanged, any other value to the
smallest power of two at or above it. -/
def fPow2Up (t : Nat) : Nat :=
  if fIsNan t || fSign t || fIsZero t || fIsInf t then t
  else
    let l := Nat.log2 (fMant t)
    if fMant t = 2 ^ l then t else fRound false 1 (fExp t + l + 1)

/-- The float value as an exact rational scaled by 2^149. -/
def fScaled (w : Nat) : Int := fSig w * 2 ^ (fExp w + 149).toNat

/-- Round a rational x / 2^149 to the nearest integer, ties to even (R63, R247). -/
def rneScaled (x : Int) : Int :=
  if x < 0 then -(rneShift x.natAbs 149 : Int) else rneShift x.natAbs 149

/-- Narrow an FP32 word to BF16 (R247). -/
def toBf16 (w : Nat) : Nat :=
  if fIsNan w then 0x7FC0
  else if fIsInf w then b2n (fSign w) * 2 ^ 15 + 0x7F80
  else b2n (fSign w) * 2 ^ 15 + min (roundMag 8 (-133) (fMant w) (fExp w)) 0x7F80

/-- Narrow an FP32 word to FP16, and whether a finite value saturated (R247). -/
def toFp16 (w : Nat) : Nat × Bool :=
  if fIsNan w then (0x7E00, false)
  else if fIsInf w then (b2n (fSign w) * 2 ^ 15 + 0x7C00, false)
  else
    let m := roundMag 11 (-24) (fMant w) (fExp w)
    (b2n (fSign w) * 2 ^ 15 + min m 0x7BFF, decide (0x7BFF < m))

/-- Narrow an FP32 word to an n-bit integer word, and whether it saturated or was a NaN (R247). -/
def toIntN (n w : Nat) : Nat × Bool :=
  if fIsNan w then (0, true)
  else
    let lo : Int := -(2 ^ (n - 1) : Int)
    let hi : Int := 2 ^ (n - 1) - 1
    if fIsInf w then (ofS n (if fSign w then lo else hi), true)
    else
      let x := rneScaled (fScaled w)
      (ofS n (clampI lo hi x), decide (x < lo ∨ hi < x))

/-- TwoSum (R228). -/
def twoSum (a b : Nat) : Nat × Nat :=
  let s := fAdd a b
  let bb := fSub s a
  let aa := fSub s bb
  (s, fAdd (fSub a aa) (fSub b bb))

/-- Pair addition (R228). -/
def fNode (l r : Nat × Nat) : Nat × Nat :=
  let st := twoSum l.1 r.1
  if !fFinite st.1 then (st.1, 0)
  else
    let ve := twoSum st.1 (fAdd (fAdd l.2 r.2) st.2)
    if fFinite ve.1 then ve else (ve.1, 0)

/-- A node placed whole in the tree: height, index and value (R234). -/
abbrev Placed := Nat × Nat × (Nat × Nat)

/-- N(h, i) of R229 over the leaves listed (slot and FP32 value) and the subtrees placed whole. A
subtree with neither is (+0.0, +0.0) at every level. -/
def floatTree (placed : List Placed) : Nat → Nat → List (Nat × Nat) → Nat × Nat
  | 0, i, ls =>
    match placed.find? (fun q => q.1 == 0 && q.2.1 == i) with
    | some q => q.2.2
    | none => ((tfind ls i).getD 0, 0)
  | h + 1, i, ls =>
    match placed.find? (fun q => q.1 == h + 1 && q.2.1 == i) with
    | some q => q.2.2
    | none =>
      if ls.isEmpty && placed.all (fun q => decide (h + 1 < q.1) || q.2.1 / 2 ^ (h + 1 - q.1) != i) then (0, 0)
      else
        let mid := (2 * i + 1) * 2 ^ h
        fNode (floatTree placed h (2 * i) (ls.filter (fun l => decide (l.1 < mid))))
          (floatTree placed h (2 * i + 1) (ls.filter (fun l => decide (mid ≤ l.1))))

end Sys2Proof.Machine
end

