-- ==== Sys2Proof/Config.lean ====
section
/-!
DEFINITION. What the spec leaves to published standards, to the world or open: constants without a
body. Nothing can be proved of their values, so a statement holds whatever they are (DESIGN CHOICE, logs 9, 11).
-/

namespace Sys2Proof.Config

/-- The k-th free value: a time, a temperature, a random word or another value the spec does not
give (DESIGN CHOICE, log 11). -/
opaque freeNat : Nat → Nat

/-- SHA-256 of a byte string, as the number whose byte 0 is the digest's first byte (DESIGN CHOICE, log 9). -/
opaque sha256 : List Nat → Nat

/-- Byte k of the SHAKE-256 output for an input byte string (DESIGN CHOICE, log 9). -/
opaque shake256 : List Nat → Nat → Nat

/-- SHAKE-128 likewise (DESIGN CHOICE, log 9). -/
opaque shake128 : List Nat → Nat → Nat

/-- KDF(K, label, x) of R440, the label by its bytes (DESIGN CHOICE, log 9). -/
opaque kdf : Nat → List Nat → List Nat → Nat

/-- The identity and alias signatures of R449 over a message (DESIGN CHOICE, log 9). -/
opaque signature : Nat → List Nat → Nat

/-- The root of an LMS tree: its seed, its identifier I and its height (RFC 8554, R449; DESIGN CHOICE, log 9). -/
opaque lmsRoot : Nat → Nat → Nat → Nat

/-- The nodes of an LMS tree that MRAM keeps: its seed, its I and its height (R450; DESIGN CHOICE, log 9). -/
opaque lmsNodes : Nat → Nat → Nat → Nat

/-- SHA-256 of the boot ROM (R439, DESIGN CHOICE, log 9). -/
opaque romHash : Nat

/-- The firmware-signing key whose hash is burnt as VENDOR_KEY_HASH_0 at manufacture (DESIGN CHOICE, log 5). -/
opaque vendorKey : Nat

/-- Under guard levels G1 and G2, the child node that a listed module is a copy of: the job record lists
modules only (DESIGN CHOICE, log 37). -/
opaque childNode : Nat → Nat

/-- PARTNER_SET_ID and PARTY_INDEX of a parent's context for a job, which no message carries (R192; DESIGN
CHOICE, log 133). -/
opaque parentParty : Nat → Nat → Nat × Nat

/-- AES-256 of one block under a key, byte 0 of the block first (R408; DESIGN CHOICE, log 9). -/
opaque aesBlock : Nat → List Nat → Nat

/-- The tag of AES-256-GCM: key, IV, additional data, encrypted bytes (R408; DESIGN CHOICE, log 9). -/
opaque gcmTag : Nat → List Nat → List Nat → List Nat → Nat

/-- A link frame: key, number of the frame under it, whether its tag is the one that verifies, and the bytes inside. The
framing of a lane is not given (R307, R314, R318; DESIGN CHOICE, log 153). -/
opaque linkFrame : Nat → Nat → Bool → List Nat → List Nat

/-- Whether a virtual lane of a module port holds a credit at a moment: how many its peer grants and when they come back
is not given (R323; DESIGN CHOICE, log 154). -/
opaque linkCredit : Nat → Nat → Nat → Bool

/-- The logical port and the next hop's MAC address that the stack finds for an external destination (R320, R353;
DESIGN CHOICE, log 139). -/
opaque ethHop : Nat → Nat × Nat

/-- CTR_DRBG of AES-256 with the derivation function, instantiated: entropy input, nonce, personalisation string (R473;
DESIGN CHOICE, log 9). -/
opaque drbgInit : Nat → Nat → List Nat → Nat

/-- The DRBG's state reseeded with an entropy input (R479; DESIGN CHOICE, log 9). -/
opaque drbgReseed : Nat → Nat → Nat

/-- The 64 bytes that a generate request yields, byte 0 lowest, and the DRBG's state after it (R478; DESIGN CHOICE, log 9). -/
opaque drbgOut : Nat → Nat × Nat

end Sys2Proof.Config
end

