-- ==== Sys2Proof/Machine/Codes.lean ====
section
/-!
DEFINITION. The codes the spec assigns: completion statuses (R13), context, round and cohort states
(R35, R39, R44, R50), event types (R301), fault types (R510), die and unit identifiers (R17, R29).
-/

namespace Sys2Proof.Machine

/-- OK (R13). -/
def stOk : Nat := 0x00
/-- EMPTY (R13). -/
def stEmpty : Nat := 0x01
/-- FLUSHED (R13). -/
def stFlushed : Nat := 0x02
/-- INEXACT (R13). -/
def stInexact : Nat := 0x03
/-- PARAM_MISMATCH (R13). -/
def stParam : Nat := 0x10
/-- KEY_MISMATCH (R13). -/
def stKey : Nat := 0x11
/-- NOISE_EXHAUSTED (R13). -/
def stNoise : Nat := 0x12
/-- POLICY_REFUSED (R13). -/
def stPolicy : Nat := 0x13
/-- SATURATED (R13). -/
def stSaturated : Nat := 0x14
/-- DIVERGED (R13). -/
def stDiverged : Nat := 0x15
/-- INTEGRITY (R13). -/
def stIntegrity : Nat := 0x16
/-- RNG_UNAVAILABLE (R13). -/
def stRng : Nat := 0x17
/-- ACCESS (R13). -/
def stAccess : Nat := 0x18
/-- GENERATION (R13). -/
def stGeneration : Nat := 0x19
/-- ABORTED (R13). -/
def stAborted : Nat := 0x1A
/-- HANG_RESET (R13). -/
def stHang : Nat := 0x1B
/-- LEDGER_DUPLICATE (R13). -/
def stDuplicate : Nat := 0x1C
/-- TIMEOUT (R13). -/
def stTimeout : Nat := 0x1D
/-- FENCED (R13). -/
def stFenced : Nat := 0x1E
/-- UNSUPPORTED (R13). -/
def stUnsupported : Nat := 0x1F

/-- The codes of outcome W: OK, EMPTY, INEXACT and SATURATED (R13). -/
def outcomeW (st : Nat) : Bool := st == stOk || st == stEmpty || st == stInexact || st == stSaturated

/-- Context states (R35). -/
def cxFree : Nat := 0
/-- CONFIGURED (R35). -/
def cxConfigured : Nat := 1
/-- ACTIVE (R35). -/
def cxActive : Nat := 2
/-- QUARANTINE (R35). -/
def cxQuarantine : Nat := 3

/-- Round states (R44). -/
def rsNone : Nat := 0
/-- OPEN (R44). -/
def rsOpen : Nat := 1
/-- CLOSING (R44). -/
def rsClosing : Nat := 2
/-- COMBINING (R44). -/
def rsCombining : Nat := 3
/-- READY (R44). -/
def rsReady : Nat := 4
/-- EXPORTED (R44). -/
def rsExported : Nat := 5
/-- ABANDONED (R44). -/
def rsAbandoned : Nat := 6

/-- Cohort modes (R44). -/
def mdClearInt : Nat := 0
/-- Clear-Float (R44). -/
def mdClearFloat : Nat := 1
/-- Masked (R44). -/
def mdMasked : Nat := 2
/-- Shared (R44). -/
def mdShared : Nat := 3
/-- Sealed (R44). -/
def mdSealed : Nat := 4

/-- Total types (R44). -/
def ttInt32 : Nat := 0
/-- FP32 pair (R44). -/
def ttPair : Nat := 1
/-- SHARED (R44). -/
def ttShared : Nat := 2
/-- SEALED (R44). -/
def ttSealed : Nat := 3

/-- Function states (R489). -/
def fnOpen : Nat := 0
/-- FENCED (R489). -/
def fnFenced : Nat := 1
/-- UNCLEAN (R489). -/
def fnUnclean : Nat := 2

/-- Event types (R301). -/
def evCompletion : Nat := 0x01
/-- SHARES_WANTED (R301). -/
def evSharesWanted : Nat := 0x02
/-- ROUND_STATE (R301). -/
def evRoundState : Nat := 0x03
/-- QUEUE_ERROR (R301). -/
def evQueueError : Nat := 0x04
/-- COUNTER_SATURATED (R301). -/
def evCounterSat : Nat := 0x05

/-- Fault types (R510). -/
def ftFenceDone : Nat := 0x10
/-- HANG (R510). -/
def ftHang : Nat := 0x11
/-- ENGINE_RESET (R510). -/
def ftEngineReset : Nat := 0x12
/-- DIE_RESET (R510). -/
def ftDieReset : Nat := 0x13
/-- MODULE_RESET (R510). -/
def ftModuleReset : Nat := 0x14
/-- INTEGRITY (R510). -/
def ftIntegrity : Nat := 0x15
/-- LINK (R510). -/
def ftLink : Nat := 0x16
/-- RNG (R510). -/
def ftRng : Nat := 0x17
/-- QUEUE_PTR (R510). -/
def ftQueuePtr : Nat := 0x18
/-- DISSENT (R510). -/
def ftDissent : Nat := 0x19
/-- DIVERGED (R510). -/
def ftDiverged : Nat := 0x1A
/-- THERMAL (R510). -/
def ftThermal : Nat := 0x1B
/-- TAMPER (R510). -/
def ftTamper : Nat := 0x1C

/-- The identifier that names no engine or unit (R275, R301, R508). -/
def noUnit : Nat := 0x01FF

/-- Port die 0 (R17). -/
def diePd0 : Nat := 6
/-- Port die 1 (R17). -/
def diePd1 : Nat := 7
/-- The root die (R17). -/
def dieRt : Nat := 8

/-- The local indices that name an engine or unit of a die (R29). -/
def unitExists (u : Nat) : Bool :=
  let d := u / 32
  let i := u % 32
  if d < 6 then i != 15 else if d < 8 then decide (i < 5) else d == 8 && decide (i < 14)

/-- The route of R19 from die a to die b, both ends included; a pair of no row and no direct link keeps the bare pair
(DESIGN CHOICE, log 156). -/
def route (a b : Nat) : List Nat :=
  if a = b then [a]
  else if a < 6 ∧ b < 6 then
    let up := (b + 6 - a) % 6
    if up ≤ 3 then (List.range (up + 1)).map (fun i => (a + i) % 6)
    else (List.range (7 - up)).map (fun i => (a + 6 - i) % 6)
  else if a = 6 ∧ b = 3 then [6, 2, 3]
  else if a = 6 ∧ b = 4 then [6, 2, 3, 4]
  else if a = 6 ∧ b = 5 then [6, 0, 5]
  else if a = 7 ∧ b = 0 then [7, 5, 0]
  else if a = 7 ∧ b = 1 then [7, 5, 0, 1]
  else if a = 7 ∧ b = 2 then [7, 3, 2]
  else if a = 6 ∧ b = 7 then [6, 8, 7]
  else if a = 7 ∧ b = 6 then [7, 8, 6]
  else if a = 8 ∧ b = 1 then [8, 0, 1]
  else if a = 8 ∧ b = 2 then [8, 3, 2]
  else if a = 8 ∧ b = 4 then [8, 3, 4]
  else if a = 8 ∧ b = 5 then [8, 0, 5]
  else [a, b]

end Sys2Proof.Machine
end

