-- ==== Sys2Proof/Machine/Entries.lean ====
section
/-!
DEFINITION. The object dictionary: every entry of the spec's tables with its type, access class,
default and range (R35, R36, R546, R547 and the tables the docstrings name). An entry with several
numbered records (one per context, function, Ethernet port) or several subindices is one `Ent`.
-/

namespace Sys2Proof.Machine

open Sys2Proof

/-- Value types (R546). -/
inductive Ty where
  | bool
  | uint (bytes : Nat)
  | octets (n : Nat)
  | str (n : Nat)
  deriving DecidableEq, Repr

/-- Access classes (R547). -/
inductive Acc where
  | ro
  | rw
  | wo
  | rwl
  | rws
  deriving DecidableEq, Repr

/-- The values an entry's table admits (R36). -/
inductive Vals where
  /-- every value of the type -/
  | any
  /-- lo to hi -/
  | span (lo hi : Nat)
  /-- no bit outside the mask, and at least `least` -/
  | mask (m least : Nat)
  /-- a multiple of k below `bound` -/
  | mult (k bound : Nat)
  | oneOf (l : List Nat)
  /-- 0, or a power of two from lo to hi -/
  | pow2 (lo hi : Nat)
  /-- a finite FP32 value, at most `hi`; zero admitted or not -/
  | f32 (zero : Bool) (hi : Nat)
  /-- command codes 1 to hi; another code is UNSUPPORTED (R599) -/
  | codes (hi : Nat)
  /-- a sync counter, or 0xFFFF -/
  | sigctr
  /-- SLOT_SIZE: a multiple of 4 KiB from 4 KiB to 64 MiB -/
  | sized
  /-- a function, or 0xFF -/
  | synOwner
  /-- a module identifier, or 0xFFFF -/
  | modId
  deriving DecidableEq, Repr

/-- A row of the dictionary's tables. `count` records from index `base`, subindices `subLo` to
`subHi`; the default of subindex subLo + j is `dflt`, plus j / ddiv where ddiv is not 0; `perFn`
says that each function's mailbox has its own copy under one index. -/
structure Ent where
  base : Nat
  count : Nat
  subLo : Nat
  subHi : Nat
  ty : Ty
  acc : Acc
  dflt : Nat
  ddiv : Nat
  perFn : Bool
  rng : Vals
  deriving DecidableEq, Repr

/-- CTX_STATE (0x5100+n.01), R35. -/
def eCtxState : Ent := ⟨0x5100, 256, 1, 1, .uint 1, .ro, 0, 0, false, .any⟩

/-- CTX_COMMAND (0x5100+n.02), R35. -/
def eCtxCommand : Ent := ⟨0x5100, 256, 2, 2, .uint 1, .wo, 0, 0, false, .codes 2⟩

/-- DIE_MASK (0x5100+n.03), R35. -/
def eDieMask : Ent := ⟨0x5100, 256, 3, 3, .uint 1, .rw, 63, 0, false, .mask 0x3F 1⟩

/-- AREA_BASE (0x5100+n.04), R35. -/
def eAreaBase : Ent := ⟨0x5100, 256, 4, 4, .uint 8, .rw, 0, 0, false, .mult 1 (2^48)⟩

/-- AREA_SIZE (0x5100+n.05), R35. -/
def eAreaSize : Ent := ⟨0x5100, 256, 5, 5, .uint 8, .rw, 0, 0, false, .mult 65536 (2^64)⟩

/-- VECTOR_LENGTH (0x5100+n.06), R35. -/
def eVectorLength : Ent := ⟨0x5100, 256, 6, 6, .uint 8, .rw, 0, 0, false, .span 1 (2^33)⟩

/-- LANE_WIDTH (0x5100+n.07), R35. -/
def eLaneWidth : Ent := ⟨0x5100, 256, 7, 7, .uint 1, .rw, 32, 0, false, .oneOf [16, 24, 32]⟩

/-- CONTRIB_BITS (0x5100+n.08), R35. -/
def eContribBits : Ent := ⟨0x5100, 256, 8, 8, .uint 1, .rw, 4, 0, false, .oneOf [1, 2, 4, 8]⟩

/-- GUARD_BITS (0x5100+n.09), R35. -/
def eGuardBits : Ent := ⟨0x5100, 256, 9, 9, .uint 1, .rw, 14, 0, false, .any⟩

/-- COHORT_EXP (0x5100+n.0A), R35. -/
def eCohortExp : Ent := ⟨0x5100, 256, 10, 10, .uint 1, .rw, 13, 0, false, .span 0 21⟩

/-- SAFETY_NET (0x5100+n.0B), R35. -/
def eSafetyNet : Ent := ⟨0x5100, 256, 11, 11, .bool, .rw, 1, 0, false, .any⟩

/-- KEY_RESIDENCY (0x5100+n.0C), R35. -/
def eKeyResidency : Ent := ⟨0x5100, 256, 12, 12, .uint 1, .rw, 0, 0, false, .span 0 1⟩

/-- KEY_SET_ID (0x5100+n.0D), R35. -/
def eKeySetId : Ent := ⟨0x5100, 256, 13, 13, .uint 4, .rw, 0, 0, false, .any⟩

/-- FLOAT_SHIFT (0x5100+n.0E), R35. -/
def eFloatShift : Ent := ⟨0x5100, 256, 14, 14, .uint 1, .rw, 16, 0, false, .span 0 30⟩

/-- CLOSE_GRACE (0x5100+n.0F), R35. -/
def eCloseGrace : Ent := ⟨0x5100, 256, 15, 15, .uint 4, .rw, 2000, 0, false, .span 1 1000000⟩

/-- ROUND_STATE (0x5300+n.01), R44. -/
def eRoundState : Ent := ⟨0x5300, 256, 1, 1, .uint 1, .ro, 0, 0, false, .any⟩

/-- ROUND_NUMBER (0x5300+n.02), R44. -/
def eRoundNumber : Ent := ⟨0x5300, 256, 2, 2, .uint 4, .ro, 0, 0, false, .any⟩

/-- ROUND_COMMAND (0x5300+n.03), R44. -/
def eRoundCommand : Ent := ⟨0x5300, 256, 3, 3, .uint 1, .wo, 0, 0, false, .codes 4⟩

/-- COHORT_FIRST (0x5300+n.04), R44. -/
def eCohortFirst : Ent := ⟨0x5300, 256, 4, 4, .uint 4, .rw, 0, 0, false, .any⟩

/-- COHORT_COUNT (0x5300+n.05), R44. -/
def eCohortCount : Ent := ⟨0x5300, 256, 5, 5, .uint 4, .rw, 1, 0, false, .any⟩

/-- COHORT_MODE (0x5300+n.06), R44. -/
def eCohortMode : Ent := ⟨0x5300, 256, 6, 6, .uint 1, .rw, 2, 0, false, .span 0 4⟩

/-- COHORT_COMMAND (0x5300+n.07), R44. -/
def eCohortCommand : Ent := ⟨0x5300, 256, 7, 7, .uint 1, .wo, 0, 0, false, .codes 2⟩

/-- COMMITTED (0x5300+n.08), R44. -/
def eCommitted : Ent := ⟨0x5300, 256, 8, 8, .uint 4, .ro, 0, 0, false, .any⟩

/-- MERGED (0x5300+n.09), R44. -/
def eMerged : Ent := ⟨0x5300, 256, 9, 9, .uint 4, .ro, 0, 0, false, .any⟩

/-- OPEN_COHORTS (0x5300+n.0A), R44. -/
def eOpenCohorts : Ent := ⟨0x5300, 256, 10, 10, .uint 4, .ro, 0, 0, false, .any⟩

/-- FAILED_COHORTS (0x5300+n.0B), R44. -/
def eFailedCohorts : Ent := ⟨0x5300, 256, 11, 11, .uint 4, .ro, 0, 0, false, .any⟩

/-- REVERSED (0x5300+n.0C), R44. -/
def eReversed : Ent := ⟨0x5300, 256, 12, 12, .uint 4, .ro, 0, 0, false, .any⟩

/-- TOTAL_TYPE (0x5300+n.0D), R44. -/
def eTotalType : Ent := ⟨0x5300, 256, 13, 13, .uint 1, .ro, 0, 0, false, .any⟩

/-- LAST_REFUSAL (0x5300+n.0E), R44. -/
def eLastRefusal : Ent := ⟨0x5300, 256, 14, 14, .uint 1, .ro, 0, 0, false, .any⟩

/-- SATURATION (0x5300+n.0F), R44. -/
def eSaturation : Ent := ⟨0x5300, 256, 15, 15, .bool, .ro, 0, 0, false, .any⟩

/-- MIN_SURVIVORS (0x5200+n.01), R56. -/
def eMinSurvivors : Ent := ⟨0x5200, 256, 1, 1, .uint 4, .rwl, 2, 0, false, .span 1 2097152⟩

/-- MIN_CONTRIBUTORS (0x5200+n.02), R56. -/
def eMinContributors : Ent := ⟨0x5200, 256, 2, 2, .uint 4, .rwl, 1000, 0, false, .span 1 (2^32-1)⟩

/-- PERMITTED_MODES (0x5200+n.03), R56. -/
def ePermittedModes : Ent := ⟨0x5200, 256, 3, 3, .uint 1, .rwl, 31, 0, false, .mask 0x1F 0⟩

/-- COMMITTEE_SIZE (0x5200+n.04), R56. -/
def eCommitteeSize : Ent := ⟨0x5200, 256, 4, 4, .uint 1, .rwl, 0, 0, false, .span 0 64⟩

/-- COMMITTEE_THRESHOLD (0x5200+n.05), R56. -/
def eCommitteeThreshold : Ent := ⟨0x5200, 256, 5, 5, .uint 1, .rwl, 1, 0, false, .span 1 64⟩

/-- LOCK (0x5200+n.06), R56. -/
def ePolicyLock : Ent := ⟨0x5200, 256, 6, 6, .bool, .rwl, 0, 0, false, .any⟩

/-- POLICY_DIGEST (0x5200+n.07), R56. -/
def ePolicyDigest : Ent := ⟨0x5200, 256, 7, 7, .octets 32, .ro, 0, 0, false, .any⟩

/-- MEMBER_k (0x5400+n.k), R56. -/
def eMemberK : Ent := ⟨0x5400, 256, 1, 64, .octets 40, .rwl, 0, 0, false, .any⟩

/-- SCALE_BASE (0x5500+n.01), R78. -/
def eScaleBase : Ent := ⟨0x5500, 256, 1, 1, .uint 8, .rw, 0, 0, false, .mult 64 (2^48)⟩

/-- SCALE_SOURCE (0x5500+n.02), R78. -/
def eScaleSource : Ent := ⟨0x5500, 256, 2, 2, .uint 1, .rw, 1, 0, false, .span 0 1⟩

/-- SCALE_HEADROOM (0x5500+n.03), R78. -/
def eScaleHeadroom : Ent := ⟨0x5500, 256, 3, 3, .uint 4, .rw, 0x41000000, 0, false, .f32 false 65536⟩

/-- SCALE_SPREAD (0x5500+n.04), R78. -/
def eScaleSpread : Ent := ⟨0x5500, 256, 4, 4, .uint 4, .rw, 0x40400000, 0, false, .f32 true 1024⟩

/-- SCALE_POW2 (0x5500+n.05), R78. -/
def eScalePow2 : Ent := ⟨0x5500, 256, 5, 5, .bool, .rw, 1, 0, false, .any⟩

/-- STATS_BASE (0x5500+n.06), R78. -/
def eStatsBase : Ent := ⟨0x5500, 256, 6, 6, .uint 8, .rw, 0, 0, false, .mult 64 (2^48)⟩

/-- STATS_VALID (0x5500+n.07), R78. -/
def eStatsValid : Ent := ⟨0x5500, 256, 7, 7, .bool, .ro, 0, 0, false, .any⟩

/-- SCALE_DIGEST (0x5500+n.08), R78. -/
def eScaleDigest : Ent := ⟨0x5500, 256, 8, 8, .octets 32, .ro, 0, 0, false, .any⟩

/-- RANGE_FAULT_ROWS (0x5500+n.09), R78. -/
def eRangeFaultRows : Ent := ⟨0x5500, 256, 9, 9, .uint 4, .ro, 0, 0, false, .any⟩

/-- MASK_SEED_SOURCE (0x5600+n.01), R99. -/
def eMaskSeedSource : Ent := ⟨0x5600, 256, 1, 1, .uint 1, .rw, 1, 0, false, .span 0 1⟩

/-- MASK_SEED (0x5600+n.02), R99. -/
def eMaskSeed : Ent := ⟨0x5600, 256, 2, 2, .octets 32, .rw, 0, 0, false, .any⟩

/-- ROUND_MASK_SEED (0x5600+n.03), R99. -/
def eRoundMaskSeed : Ent := ⟨0x5600, 256, 3, 3, .octets 32, .ro, 0, 0, false, .any⟩

/-- RING_STRIDE (0x5600+n.04), R99. -/
def eRingStride : Ent := ⟨0x5600, 256, 4, 4, .uint 1, .ro, 0, 0, false, .any⟩

/-- RING_ELEMENTS (0x5600+n.05), R99. -/
def eRingElements : Ent := ⟨0x5600, 256, 5, 5, .uint 4, .ro, 0, 0, false, .any⟩

/-- WORK_BASE (0x5600+n.06), R99. -/
def eWorkBase : Ent := ⟨0x5600, 256, 6, 6, .uint 8, .rw, 0, 0, false, .mult 65536 (2^48)⟩

/-- WORK_SIZE (0x5600+n.07), R99. -/
def eWorkSize : Ent := ⟨0x5600, 256, 7, 7, .uint 8, .rw, 0, 0, false, .mult 65536 (2^64)⟩

/-- SHARE_BUFFERS (0x5600+n.08), R99. -/
def eShareBuffers : Ent := ⟨0x5600, 256, 8, 8, .uint 1, .rw, 4, 0, false, .span 1 64⟩

/-- DERIVED (0x5600+n.09), R99. -/
def eDerived : Ent := ⟨0x5600, 256, 9, 9, .uint 4, .ro, 0, 0, false, .any⟩

/-- SHARES_ACCEPTED (0x5600+n.0A), R99. -/
def eSharesAccepted : Ent := ⟨0x5600, 256, 10, 10, .uint 4, .ro, 0, 0, false, .any⟩

/-- SHARES_DROPPED (0x5600+n.0B), R99. -/
def eSharesDropped : Ent := ⟨0x5600, 256, 11, 11, .uint 4, .ro, 0, 0, false, .any⟩

/-- LAST_DISAGREE (0x5600+n.0C), R99. -/
def eLastDisagree : Ent := ⟨0x5600, 256, 12, 12, .uint 8, .ro, 0, 0, false, .any⟩

/-- AWAITING (0x5600+n.0D), R99. -/
def eAwaiting : Ent := ⟨0x5600, 256, 13, 13, .uint 4, .ro, 0, 0, false, .any⟩

/-- BASIS_k (0x5700+n.01–.50), R129. -/
def eBasisK : Ent := ⟨0x5700, 256, 1, 80, .octets 16, .rw, 0, 0, false, .any⟩

/-- BASIS_LOAD (0x5700+n.51), R129. -/
def eBasisLoad : Ent := ⟨0x5700, 256, 81, 81, .uint 2, .wo, 0, 0, false, .mask 0x7FFF 0⟩

/-- BASIS_AGREE (0x5700+n.52), R129. -/
def eBasisAgree : Ent := ⟨0x5700, 256, 82, 82, .octets 10, .ro, 0, 0, false, .any⟩

/-- LOFT_FIRST (0x5700+n.53), R129. -/
def eLoftFirst : Ent := ⟨0x5700, 256, 83, 83, .uint 2, .rw, 1, 0, false, .span 0 1535⟩

/-- LOFT_LAST (0x5700+n.54), R129. -/
def eLoftLast : Ent := ⟨0x5700, 256, 84, 84, .uint 2, .rw, 0, 0, false, .span 0 1535⟩

/-- ROM_PRIME_i (0x5010.01–.80), R129. -/
def eRomPrimeI : Ent := ⟨0x5010, 1, 1, 128, .uint 4, .ro, 0, 0, false, .any⟩

/-- ROM_ROOT_i (0x5011.01–.80), R129. -/
def eRomRootI : Ent := ⟨0x5011, 1, 1, 128, .uint 4, .ro, 0, 0, false, .any⟩

/-- KEYSET_BASE (0x5800+n.01), R169. -/
def eKeysetBase : Ent := ⟨0x5800, 256, 1, 1, .uint 8, .rw, 0, 0, false, .mult 65536 (2^48)⟩

/-- KEYSET_STRIDE (0x5800+n.02), R169. -/
def eKeysetStride : Ent := ⟨0x5800, 256, 2, 2, .uint 8, .rw, 0, 0, false, .mult 65536 (2^64)⟩

/-- KEY_LOFT_FIRST (0x5800+n.03), R169. -/
def eKeyLoftFirst : Ent := ⟨0x5800, 256, 3, 3, .uint 2, .rw, 0, 0, false, .any⟩

/-- SELF_MEMBER (0x5800+n.04), R169. -/
def eSelfMember : Ent := ⟨0x5800, 256, 4, 4, .uint 1, .rw, 0, 0, false, .span 0 64⟩

/-- KEYSHARE_BASE (0x5800+n.05), R169. -/
def eKeyshareBase : Ent := ⟨0x5800, 256, 5, 5, .uint 8, .rw, 0, 0, false, .any⟩

/-- KEYSHARE_STATE (0x5800+n.06), R169. -/
def eKeyshareState : Ent := ⟨0x5800, 256, 6, 6, .uint 1, .ro, 0, 0, false, .any⟩

/-- TOP_LEVEL (0x5800+n.07), R169. -/
def eTopLevel : Ent := ⟨0x5800, 256, 7, 7, .uint 1, .ro, 0, 0, false, .any⟩

/-- FRESH_BOUND (0x5800+n.08), R169. -/
def eFreshBound : Ent := ⟨0x5800, 256, 8, 8, .uint 8, .ro, 0, 0, false, .any⟩

/-- TOTAL_CTS (0x5800+n.09), R169. -/
def eTotalCts : Ent := ⟨0x5800, 256, 9, 9, .uint 4, .ro, 0, 0, false, .any⟩

/-- KEY_RELOADS (0x5800+n.0A), R169. -/
def eKeyReloads : Ent := ⟨0x5800, 256, 10, 10, .uint 4, .ro, 0, 0, false, .any⟩

/-- KEY_BYTES (0x5800+n.0B), R169. -/
def eKeyBytes : Ent := ⟨0x5800, 256, 11, 11, .uint 8, .ro, 0, 0, false, .any⟩

/-- PARTY_COUNT (0x5900+n.01), R188. -/
def ePartyCount : Ent := ⟨0x5900, 256, 1, 1, .uint 1, .rwl, 2, 0, false, .span 2 3⟩

/-- PARTY_INDEX (0x5900+n.02), R188. -/
def ePartyIndex : Ent := ⟨0x5900, 256, 2, 2, .uint 1, .rwl, 0, 0, false, .span 0 2⟩

/-- PARTNER_SET_ID (0x5900+n.03), R188. -/
def ePartnerSetId : Ent := ⟨0x5900, 256, 3, 3, .uint 4, .rwl, 0, 0, false, .span 1 (2^32-1)⟩

/-- PEER_1_MODULE (0x5900+n.04), R188. -/
def ePeer1Module : Ent := ⟨0x5900, 256, 4, 4, .uint 2, .rwl, 0, 0, false, .span 0 32767⟩

/-- PEER_1_KEY (0x5900+n.05), R188. -/
def ePeer1Key : Ent := ⟨0x5900, 256, 5, 5, .octets 32, .rwl, 0, 0, false, .any⟩

/-- PEER_2_MODULE (0x5900+n.06), R188. -/
def ePeer2Module : Ent := ⟨0x5900, 256, 6, 6, .uint 2, .rwl, 0, 0, false, .span 0 32767⟩

/-- PEER_2_KEY (0x5900+n.07), R188. -/
def ePeer2Key : Ent := ⟨0x5900, 256, 7, 7, .octets 32, .rwl, 0, 0, false, .any⟩

/-- DEALER_KEY (0x5900+n.08), R188. -/
def eDealerKey : Ent := ⟨0x5900, 256, 8, 8, .octets 32, .rwl, 0, 0, false, .any⟩

/-- SH_WORK_BASE (0x5900+n.09), R188. -/
def eShWorkBase : Ent := ⟨0x5900, 256, 9, 9, .uint 8, .rw, 0, 0, false, .mult 65536 (2^48)⟩

/-- SH_WORK_SIZE (0x5900+n.0A), R188. -/
def eShWorkSize : Ent := ⟨0x5900, 256, 10, 10, .uint 8, .rw, 0, 0, false, .mult 65536 (2^64)⟩

/-- TRIPLE_BATCHES (0x5900+n.0B), R188. -/
def eTripleBatches : Ent := ⟨0x5900, 256, 11, 11, .uint 4, .rw, 0, 0, false, .span 0 (2^23)⟩

/-- EXCHANGE_TIMEOUT (0x5900+n.0C), R188. -/
def eExchangeTimeout : Ent := ⟨0x5900, 256, 12, 12, .uint 4, .rw, 100000, 0, false, .span 1 10000000⟩

/-- PEER_STATE (0x5900+n.0D), R188. -/
def ePeerState : Ent := ⟨0x5900, 256, 13, 13, .uint 1, .ro, 0, 0, false, .any⟩

/-- SHARED_MERGED (0x5900+n.0E), R188. -/
def eSharedMerged : Ent := ⟨0x5900, 256, 14, 14, .uint 4, .ro, 0, 0, false, .any⟩

/-- ROUND_SHARE_DIGEST (0x5900+n.0F), R188. -/
def eRoundShareDigest : Ent := ⟨0x5900, 256, 15, 15, .octets 32, .ro, 0, 0, false, .any⟩

/-- TRIPLE_MARK (0x5900+n.10), R188. -/
def eTripleMark : Ent := ⟨0x5900, 256, 16, 16, .uint 4, .ro, 0, 0, false, .any⟩

/-- TRIPLES_HELD (0x5900+n.11), R188. -/
def eTriplesHeld : Ent := ⟨0x5900, 256, 17, 17, .uint 4, .ro, 0, 0, false, .any⟩

/-- ROWS_OPENED (0x5900+n.12), R188. -/
def eRowsOpened : Ent := ⟨0x5900, 256, 18, 18, .uint 4, .ro, 0, 0, false, .any⟩

/-- EXCHANGE_DROPPED (0x5900+n.13), R188. -/
def eExchangeDropped : Ent := ⟨0x5900, 256, 19, 19, .uint 4, .ro, 0, 0, false, .any⟩

/-- LAST_DISAGREE (0x5900+n.14), R188. -/
def eShLastDisagree : Ent := ⟨0x5900, 256, 20, 20, .uint 1, .ro, 0, 0, false, .any⟩

/-- TILE_FIRST (0x5A00+n.01), R217. -/
def eTileFirst : Ent := ⟨0x5A00, 256, 1, 1, .uint 1, .rw, 0, 0, false, .span 0 47⟩

/-- TILE_COUNT (0x5A00+n.02), R217. -/
def eTileCount : Ent := ⟨0x5A00, 256, 2, 2, .uint 1, .rw, 0, 0, false, .span 0 48⟩

/-- STAGE_TILES (0x5A00+n.03), R217. -/
def eStageTiles : Ent := ⟨0x5A00, 256, 3, 3, .uint 1, .rw, 0, 0, false, .span 0 48⟩

/-- FLOAT_WINDOW (0x5A00+n.04), R217. -/
def eFloatWindow : Ent := ⟨0x5A00, 256, 4, 4, .uint 1, .rw, 8, 0, false, .span 1 64⟩

/-- FLOAT_PART (0x5A00+n.05), R217. -/
def eFloatPart : Ent := ⟨0x5A00, 256, 5, 5, .uint 1, .rw, 0, 0, false, .mask 0x1F 0⟩

/-- SPEC_INFLIGHT (0x5A00+n.06), R217. -/
def eSpecInflight : Ent := ⟨0x5A00, 256, 6, 6, .uint 4, .ro, 0, 0, false, .any⟩

/-- FLOAT_WINDOW_FULL (0x5A00+n.07), R217. -/
def eFloatWindowFull : Ent := ⟨0x5A00, 256, 7, 7, .uint 4, .ro, 0, 0, false, .any⟩

/-- IMPORTS (0x5A00+n.08), R217. -/
def eImports : Ent := ⟨0x5A00, 256, 8, 8, .uint 1, .ro, 0, 0, false, .any⟩

/-- SYN_BLOCK_k (0x8200.k+1), R279. -/
def eSynBlockLo : Ent := ⟨0x8200, 1, 1, 128, .uint 1, .rw, 0, 4, false, .synOwner⟩

/-- SYN_BLOCK_k (0x8201.k−127), R279. -/
def eSynBlockHi : Ent := ⟨0x8201, 1, 1, 128, .uint 1, .rw, 32, 4, false, .synOwner⟩

/-- ETH_MODE (0x3100+e.01), R321. -/
def eEthMode : Ent := ⟨0x3100, 4, 1, 1, .uint 1, .rw, 0, 0, false, .span 0 2⟩

/-- ETH_INTERFACE (0x3100+e.02), R321. -/
def eEthInterface : Ent := ⟨0x3100, 4, 2, 2, .uint 1, .rw, 0, 0, false, .span 0 1⟩

/-- LP_k_MAC (0x3100+e.03–.06), R321. -/
def eLpKMac : Ent := ⟨0x3100, 4, 3, 6, .octets 6, .rw, 0, 0, false, .any⟩

/-- LP_k_IPV6 (0x3100+e.07–.0A), R321. -/
def eLpKIpv6 : Ent := ⟨0x3100, 4, 7, 10, .octets 16, .rw, 0, 0, false, .any⟩

/-- LP_k_IPV4 (0x3100+e.0B–.0E), R321. -/
def eLpKIpv4 : Ent := ⟨0x3100, 4, 11, 14, .uint 4, .rw, 0, 0, false, .any⟩

/-- VLAN_ID (0x3100+e.0F), R321. -/
def eVlanId : Ent := ⟨0x3100, 4, 15, 15, .uint 2, .rw, 0, 0, false, .span 0 4094⟩

/-- LINK_UP (0x3100+e.10), R321. -/
def eLinkUp : Ent := ⟨0x3100, 4, 16, 16, .uint 1, .ro, 0, 0, false, .any⟩

/-- RX_DISCARD (0x3100+e.11), R321. -/
def eRxDiscard : Ent := ⟨0x3100, 4, 17, 17, .uint 8, .ro, 0, 0, false, .any⟩

/-- MODULE_ID (0x3000.01), R333. -/
def eModuleId : Ent := ⟨0x3000, 1, 1, 1, .uint 2, .rwl, 0, 0, false, .span 0 32767⟩

/-- FABRIC_ID (0x3000.02), R333. -/
def eFabricId : Ent := ⟨0x3000, 1, 2, 2, .uint 4, .rwl, 0, 0, false, .any⟩

/-- FABRIC_AUTHORITY (0x3000.03), R333. -/
def eFabricAuthority : Ent := ⟨0x3000, 1, 3, 3, .octets 60, .rwl, 0, 0, false, .any⟩

/-- FABRIC_EPOCH_MIN (0x3000.04), R333. -/
def eFabricEpochMin : Ent := ⟨0x3000, 1, 4, 4, .uint 4, .rwl, 0, 0, false, .any⟩

/-- FABRIC_CERT (0x3000.05), R333. -/
def eFabricCert : Ent := ⟨0x3000, 1, 5, 5, .octets 4096, .rw, 0, 0, false, .any⟩

/-- FABRIC_SIZE (0x3000.06), R333. -/
def eFabricSize : Ent := ⟨0x3000, 1, 6, 6, .uint 2, .rwl, 1, 0, false, .span 1 32768⟩

/-- GUARD_MIN (0x3000.07), R333. -/
def eGuardMin : Ent := ⟨0x3000, 1, 7, 7, .uint 1, .rwl, 0, 0, false, .span 0 2⟩

/-- GUARD_LEVEL (0x3000.08), R333. -/
def eGuardLevel : Ent := ⟨0x3000, 1, 8, 8, .uint 1, .ro, 0, 0, false, .any⟩

/-- PATH_DEAD (0x3000.09), R333. -/
def ePathDead : Ent := ⟨0x3000, 1, 9, 9, .uint 4, .rw, 50000, 0, false, .span 1000 10000000⟩

/-- UNREACHABLE (0x3000.0A), R333. -/
def eUnreachable : Ent := ⟨0x3000, 1, 10, 10, .uint 4, .ro, 0, 0, false, .any⟩

/-- ABORTS_RECEIVED (0x3000.0B), R333. -/
def eAbortsReceived : Ent := ⟨0x3000, 1, 11, 11, .uint 4, .ro, 0, 0, false, .any⟩

/-- ABORTS_DROPPED (0x3000.0C), R333. -/
def eAbortsDropped : Ent := ⟨0x3000, 1, 12, 12, .uint 4, .ro, 0, 0, false, .any⟩

/-- JOB_ID (0x3400+n.01), R333. -/
def eJobId : Ent := ⟨0x3400, 256, 1, 1, .uint 4, .rw, 0, 0, false, .any⟩

/-- PARENT_k (0x3400+n.02–.04), R333. -/
def eParentK : Ent := ⟨0x3400, 256, 2, 4, .uint 2, .rw, 65535, 0, false, .modId⟩

/-- PARENT_CONTEXT (0x3400+n.05), R333. -/
def eParentContext : Ent := ⟨0x3400, 256, 5, 5, .uint 1, .rw, 0, 0, false, .any⟩

/-- COPY_PEER_k (0x3400+n.06–.07), R333. -/
def eCopyPeerK : Ent := ⟨0x3400, 256, 6, 7, .uint 2, .rw, 65535, 0, false, .modId⟩

/-- CHILD_COUNT (0x3400+n.08), R333. -/
def eChildCount : Ent := ⟨0x3400, 256, 8, 8, .uint 1, .rw, 0, 0, false, .any⟩

/-- CHILD_LIST (0x3400+n.09), R333. -/
def eChildList : Ent := ⟨0x3400, 256, 9, 9, .uint 8, .rw, 0, 0, false, .mult 1 (2^48)⟩

/-- ABORT_CAUSE (0x3400+n.0A), R333. -/
def eAbortCause : Ent := ⟨0x3400, 256, 10, 10, .uint 1, .ro, 0, 0, false, .any⟩

/-- ABORT_ORIGIN (0x3400+n.0B), R333. -/
def eAbortOrigin : Ent := ⟨0x3400, 256, 11, 11, .uint 2, .ro, 65535, 0, false, .any⟩

/-- CHILD_WAIT (0x3400+n.0F), R333. -/
def eChildWait : Ent := ⟨0x3400, 256, 15, 15, .uint 4, .rw, 10000000, 0, false, .span 1000 600000000⟩

/-- ST_UDP_PORT (0x4000.01), R368. -/
def eStUdpPort : Ent := ⟨0x4000, 1, 1, 1, .uint 2, .rw, 47821, 0, false, .span 1 65535⟩

/-- RTO_INIT_SHL (0x4000.02), R368. -/
def eRtoInitShl : Ent := ⟨0x4000, 1, 2, 2, .uint 4, .rw, 40, 0, false, .span 1 10000⟩

/-- RTO_INIT_ETH (0x4000.03), R368. -/
def eRtoInitEth : Ent := ⟨0x4000, 1, 3, 3, .uint 4, .rw, 400, 0, false, .span 1 100000⟩

/-- RTO_MIN_SHL (0x4000.04), R368. -/
def eRtoMinShl : Ent := ⟨0x4000, 1, 4, 4, .uint 4, .rw, 10, 0, false, .span 1 10000⟩

/-- RTO_MIN_ETH (0x4000.05), R368. -/
def eRtoMinEth : Ent := ⟨0x4000, 1, 5, 5, .uint 4, .rw, 100, 0, false, .span 1 100000⟩

/-- RTO_MAX (0x4000.06), R368. -/
def eRtoMax : Ent := ⟨0x4000, 1, 6, 6, .uint 4, .rw, 10000, 0, false, .span 100 1000000⟩

/-- RATE_MAX_SHL (0x4000.07), R368. -/
def eRateMaxShl : Ent := ⟨0x4000, 1, 7, 7, .uint 4, .rw, 400000, 0, false, .span 1024 1600000⟩

/-- INTERVAL_MIN (0x4000.08), R368. -/
def eIntervalMin : Ent := ⟨0x4000, 1, 8, 8, .uint 4, .rw, 4, 0, false, .span 1 1000⟩

/-- DSCP_MAP (0x4000.09), R368. -/
def eDscpMap : Ent := ⟨0x4000, 1, 9, 9, .uint 4, .rw, 0, 0, false, .mask 0xFFFFFF 0⟩

/-- HOP_LIMIT (0x4000.0A), R368. -/
def eHopLimit : Ent := ⟨0x4000, 1, 10, 10, .uint 1, .rw, 64, 0, false, .span 1 255⟩

/-- TX_PACKETS (0x4000.10), R368. -/
def eTxPackets : Ent := ⟨0x4000, 1, 16, 16, .uint 8, .ro, 0, 0, false, .any⟩

/-- RETX_TIMEOUT (0x4000.11), R368. -/
def eRetxTimeout : Ent := ⟨0x4000, 1, 17, 17, .uint 8, .ro, 0, 0, false, .any⟩

/-- RETX_FAST (0x4000.12), R368. -/
def eRetxFast : Ent := ⟨0x4000, 1, 18, 18, .uint 8, .ro, 0, 0, false, .any⟩

/-- RX_DUPLICATE (0x4000.13), R368. -/
def eRxDuplicate : Ent := ⟨0x4000, 1, 19, 19, .uint 8, .ro, 0, 0, false, .any⟩

/-- RX_DROP_HEADER (0x4000.14), R368. -/
def eRxDropHeader : Ent := ⟨0x4000, 1, 20, 20, .uint 8, .ro, 0, 0, false, .any⟩

/-- RX_DROP_KEY (0x4000.15), R368. -/
def eRxDropKey : Ent := ⟨0x4000, 1, 21, 21, .uint 8, .ro, 0, 0, false, .any⟩

/-- RX_DROP_GENERATION (0x4000.16), R368. -/
def eRxDropGeneration : Ent := ⟨0x4000, 1, 22, 22, .uint 8, .ro, 0, 0, false, .any⟩

/-- CE_RECEIVED (0x4000.17), R368. -/
def eCeReceived : Ent := ⟨0x4000, 1, 23, 23, .uint 8, .ro, 0, 0, false, .any⟩

/-- RATE_EVICTIONS (0x4000.18), R368. -/
def eRateEvictions : Ent := ⟨0x4000, 1, 24, 24, .uint 8, .ro, 0, 0, false, .any⟩

/-- OBJ_KIND (0x4100.01), R382. -/
def eObjKind : Ent := ⟨0x4100, 1, 1, 1, .uint 1, .rw, 0, 0, true, .any⟩

/-- OBJ_INDEX (0x4100.02), R382. -/
def eObjIndex : Ent := ⟨0x4100, 1, 2, 2, .uint 4, .rw, 0, 0, true, .any⟩

/-- OBJ_COMMAND (0x4100.03), R382. -/
def eObjCommand : Ent := ⟨0x4100, 1, 3, 3, .uint 1, .wo, 0, 0, true, .codes 7⟩

/-- OBJ_RESULT (0x4100.04), R382. -/
def eObjResult : Ent := ⟨0x4100, 1, 4, 4, .uint 1, .ro, 0, 0, true, .any⟩

/-- PD (0x4100.05), R382. -/
def eObjPd : Ent := ⟨0x4100, 1, 5, 5, .uint 2, .rw, 0, 0, true, .span 0 1023⟩

/-- CONTEXT (0x4100.06), R382. -/
def eObjContext : Ent := ⟨0x4100, 1, 6, 6, .uint 1, .rw, 0, 0, true, .any⟩

/-- REGION_BASE (0x4100.07), R382. -/
def eRegionBase : Ent := ⟨0x4100, 1, 7, 7, .uint 8, .rw, 0, 0, true, .mult 1 (2^48)⟩

/-- REGION_LIMIT (0x4100.08), R382. -/
def eRegionLimit : Ent := ⟨0x4100, 1, 8, 8, .uint 8, .rw, 0, 0, true, .mult 1 (2^48)⟩

/-- REGION_ACCESS (0x4100.09), R382. -/
def eRegionAccess : Ent := ⟨0x4100, 1, 9, 9, .uint 1, .rw, 0, 0, true, .mask 7 0⟩

/-- SIGNAL_COUNTER (0x4100.0A), R382. -/
def eSignalCounter : Ent := ⟨0x4100, 1, 10, 10, .uint 2, .rw, 65535, 0, true, .sigctr⟩

/-- SIGNAL_INCREMENT (0x4100.0B), R382. -/
def eSignalIncrement : Ent := ⟨0x4100, 1, 11, 11, .uint 4, .rw, 1, 0, true, .any⟩

/-- GEN (0x4100.0C), R382. -/
def eObjGen : Ent := ⟨0x4100, 1, 12, 12, .uint 2, .ro, 0, 0, true, .any⟩

/-- EP_FLAGS (0x4100.0D), R382. -/
def eEpFlags : Ent := ⟨0x4100, 1, 13, 13, .uint 1, .rw, 0, 0, true, .mask 7 0⟩

/-- RXQ_REGION (0x4100.0E), R382. -/
def eRxqRegion : Ent := ⟨0x4100, 1, 14, 14, .uint 2, .rw, 0, 0, true, .any⟩

/-- RXQ_DEPTH (0x4100.0F), R382. -/
def eRxqDepth : Ent := ⟨0x4100, 1, 15, 15, .uint 2, .rw, 0, 0, true, .pow2 2 4096⟩

/-- SLOT_REGION (0x4100.10), R382. -/
def eSlotRegion : Ent := ⟨0x4100, 1, 16, 16, .uint 2, .rw, 0, 0, true, .any⟩

/-- SLOT_SIZE (0x4100.11), R382. -/
def eSlotSize : Ent := ⟨0x4100, 1, 17, 17, .uint 4, .rw, 4096, 0, true, .sized⟩

/-- SLOT_COUNT (0x4100.12), R382. -/
def eSlotCount : Ent := ⟨0x4100, 1, 18, 18, .uint 2, .rw, 0, 0, true, .span 0 4096⟩

/-- OBJ_STATE (0x4100.13), R382. -/
def eObjState : Ent := ⟨0x4100, 1, 19, 19, .uint 1, .ro, 0, 0, true, .any⟩

/-- CTX_KEY_GEN (0x4100.14), R382. -/
def eObjCtxKeyGen : Ent := ⟨0x4100, 1, 20, 20, .uint 2, .ro, 0, 0, true, .any⟩

/-- KEY_PEER (0x4100.15), R382. -/
def eKeyPeer : Ent := ⟨0x4100, 1, 21, 21, .octets 24, .ro, 0, 0, true, .any⟩

/-- EP_FOREIGN (0x4100.16), R382. -/
def eEpForeign : Ent := ⟨0x4100, 1, 22, 22, .uint 4, .ro, 0, 0, true, .any⟩

/-- EP_BACKING (0x4000.20), R398. -/
def eEpBacking : Ent := ⟨0x4000, 1, 32, 32, .uint 1, .rwl, 0, 0, false, .span 0 1⟩

/-- EP_TABLE_PD0 (0x4000.21), R398. -/
def eEpTablePd0 : Ent := ⟨0x4000, 1, 33, 33, .uint 8, .rwl, 0, 0, false, .mult 65536 (2^64)⟩

/-- EP_TABLE_PD1 (0x4000.22), R398. -/
def eEpTablePd1 : Ent := ⟨0x4000, 1, 34, 34, .uint 8, .rwl, 0, 0, false, .mult 65536 (2^64)⟩

/-- EPC_FETCHES (0x4000.30), R398. -/
def eEpcFetches : Ent := ⟨0x4000, 1, 48, 48, .uint 8, .ro, 0, 0, false, .any⟩

/-- EPC_EVICTIONS (0x4000.31), R398. -/
def eEpcEvictions : Ent := ⟨0x4000, 1, 49, 49, .uint 8, .ro, 0, 0, false, .any⟩

/-- EPC_FETCH_INTEGRITY (0x4000.32), R398. -/
def eEpcFetchIntegrity : Ent := ⟨0x4000, 1, 50, 50, .uint 4, .ro, 0, 0, false, .any⟩

/-- PRK_PARKED (0x4000.33), R398. -/
def ePrkParked : Ent := ⟨0x4000, 1, 51, 51, .uint 8, .ro, 0, 0, false, .any⟩

/-- PRK_DROP_FULL (0x4000.34), R398. -/
def ePrkDropFull : Ent := ⟨0x4000, 1, 52, 52, .uint 8, .ro, 0, 0, false, .any⟩

/-- PRK_DROP_TIMEOUT (0x4000.35), R398. -/
def ePrkDropTimeout : Ent := ⟨0x4000, 1, 53, 53, .uint 8, .ro, 0, 0, false, .any⟩

/-- RX_WINDOW_DROP (0x4000.36), R398. -/
def eRxWindowDrop : Ent := ⟨0x4000, 1, 54, 54, .uint 8, .ro, 0, 0, false, .any⟩

/-- RX_STREAM_FULL (0x4000.37), R398. -/
def eRxStreamFull : Ent := ⟨0x4000, 1, 55, 55, .uint 8, .ro, 0, 0, false, .any⟩

/-- RX_NO_SLOT (0x4000.38), R398. -/
def eRxNoSlot : Ent := ⟨0x4000, 1, 56, 56, .uint 8, .ro, 0, 0, false, .any⟩

/-- ANON_CONTRIB (0x5B00+n.01), R430. -/
def eAnonContrib : Ent := ⟨0x5B00, 256, 1, 1, .bool, .rwl, 1, 0, false, .any⟩

/-- GATEWAY_KEY_k (0x5B00+n.02–.11), R430. -/
def eGatewayKeyK : Ent := ⟨0x5B00, 256, 2, 17, .octets 32, .rwl, 0, 0, false, .any⟩

/-- MSG_IDLE_LIMIT (0x5B00+n.12), R430. -/
def eMsgIdleLimit : Ent := ⟨0x5B00, 256, 18, 18, .uint 4, .rw, 20000, 0, false, .span 100 10000000⟩

/-- RIDGE_BASE (0x3400+n.0C), R430. -/
def eRidgeBase : Ent := ⟨0x3400, 256, 12, 12, .uint 8, .rw, 0, 0, false, .mult 65536 (2^48)⟩

/-- RIDGE_SIZE (0x3400+n.0D), R430. -/
def eRidgeSize : Ent := ⟨0x3400, 256, 13, 13, .uint 8, .rw, 0, 0, false, .mult 65536 (2^64)⟩

/-- IMPORT_WAIT (0x3400+n.0E), R430. -/
def eImportWait : Ent := ⟨0x3400, 256, 14, 14, .uint 4, .rw, 10000, 0, false, .span 100 1000000⟩

/-- TAG_FAILS (0x9200.01), R430. -/
def eTagFails : Ent := ⟨0x9200, 1, 1, 1, .uint 8, .ro, 0, 0, false, .any⟩

/-- SESSION_FAILS (0x9200.02), R430. -/
def eSessionFails : Ent := ⟨0x9200, 1, 2, 2, .uint 8, .ro, 0, 0, false, .any⟩

/-- SLOT_PENDING (0x9200.03), R430. -/
def eSlotPending : Ent := ⟨0x9200, 1, 3, 3, .uint 8, .ro, 0, 0, false, .any⟩

/-- RING_FULL (0x9200.04), R430. -/
def eRingFull : Ent := ⟨0x9200, 1, 4, 4, .uint 8, .ro, 0, 0, false, .any⟩

/-- CHECK_FAILS (0x9200.05), R430. -/
def eCheckFails : Ent := ⟨0x9200, 1, 5, 5, .uint 8, .ro, 0, 0, false, .any⟩

/-- DUAL_DISAGREE (0x9200.06), R430. -/
def eDualDisagree : Ent := ⟨0x9200, 1, 6, 6, .uint 8, .ro, 0, 0, false, .any⟩

/-- ECC_CORRECTED (0x9200.07), R430. -/
def eEccCorrected : Ent := ⟨0x9200, 1, 7, 7, .uint 8, .ro, 0, 0, false, .any⟩

/-- ECC_UNCORRECTED (0x9200.08), R430. -/
def eEccUncorrected : Ent := ⟨0x9200, 1, 8, 8, .uint 8, .ro, 0, 0, false, .any⟩

/-- RECOMBINES (0x9200.09), R430. -/
def eRecombines : Ent := ⟨0x9200, 1, 9, 9, .uint 4, .ro, 0, 0, false, .any⟩

/-- DISSENTS (0x9200.0A), R430. -/
def eDissents : Ent := ⟨0x9200, 1, 10, 10, .uint 4, .ro, 0, 0, false, .any⟩

/-- LIFECYCLE (0x6000.01), R466. -/
def eLifecycle : Ent := ⟨0x6000, 1, 1, 1, .uint 1, .ro, 0, 0, false, .any⟩

/-- MODULE_SERIAL (0x6000.02), R466. -/
def eModuleSerial : Ent := ⟨0x6000, 1, 2, 2, .uint 8, .ro, 0, 0, false, .any⟩

/-- DIE_IDS (0x6000.03), R466. -/
def eDieIds : Ent := ⟨0x6000, 1, 3, 3, .octets 72, .ro, 0, 0, false, .any⟩

/-- IDENTITY_PUB (0x6000.04), R466. -/
def eIdentityPub : Ent := ⟨0x6000, 1, 4, 4, .octets 60, .ro, 0, 0, false, .any⟩

/-- ENDORSEMENT (0x6000.05), R466. -/
def eEndorsement : Ent := ⟨0x6000, 1, 5, 5, .octets 4096, .rwl, 0, 0, false, .any⟩

/-- ALIAS_CERT (0x6000.06), R466. -/
def eAliasCert : Ent := ⟨0x6000, 1, 6, 6, .octets 5748, .ro, 0, 0, false, .any⟩

/-- ALIAS_NEXT_CERT (0x6000.07), R466. -/
def eAliasNextCert : Ent := ⟨0x6000, 1, 7, 7, .octets 5748, .ro, 0, 0, false, .any⟩

/-- FW_SVN (0x6000.08), R466. -/
def eFwSvn : Ent := ⟨0x6000, 1, 8, 8, .uint 4, .ro, 0, 0, false, .any⟩

/-- SVN_COMMIT (0x6000.09), R466. -/
def eSvnCommit : Ent := ⟨0x6000, 1, 9, 9, .uint 4, .rws, 0, 0, false, .any⟩

/-- BOOT_COUNT (0x6000.0A), R466. -/
def eBootCount : Ent := ⟨0x6000, 1, 10, 10, .uint 4, .ro, 0, 0, false, .any⟩

/-- IDENTITY_LEFT (0x6000.0B), R466. -/
def eIdentityLeft : Ent := ⟨0x6000, 1, 11, 11, .uint 8, .ro, 0, 0, false, .any⟩

/-- ALIAS_STATE (0x6000.0C), R466. -/
def eAliasState : Ent := ⟨0x6000, 1, 12, 12, .uint 8, .ro, 0, 0, false, .any⟩

/-- MR_k (0x6001.01–.08), R466. -/
def eMrK : Ent := ⟨0x6001, 1, 1, 8, .octets 32, .ro, 0, 0, false, .any⟩

/-- MR_EXTEND (0x6001.09), R466. -/
def eMrExtend : Ent := ⟨0x6001, 1, 9, 9, .octets 33, .wo, 0, 0, false, .any⟩

/-- QUOTE_REQUEST (0x6002.01), R466. -/
def eQuoteRequest : Ent := ⟨0x6002, 1, 1, 1, .octets 34, .wo, 0, 0, true, .any⟩

/-- QUOTE_STATUS (0x6002.02), R466. -/
def eQuoteStatus : Ent := ⟨0x6002, 1, 2, 2, .uint 1, .ro, 0, 0, true, .any⟩

/-- QUOTE (0x6002.03), R466. -/
def eQuote : Ent := ⟨0x6002, 1, 3, 3, .octets 6132, .ro, 0, 0, true, .any⟩

/-- LC_COMMAND (0x6003.01), R466. -/
def eLcCommand : Ent := ⟨0x6003, 1, 1, 1, .uint 1, .wo, 0, 0, false, .codes 3⟩

/-- LC_STATUS (0x6003.02), R466. -/
def eLcStatus : Ent := ⟨0x6003, 1, 2, 2, .uint 1, .ro, 0, 0, false, .any⟩

/-- DEBUG_CHALLENGE (0x6003.03), R466. -/
def eDebugChallenge : Ent := ⟨0x6003, 1, 3, 3, .octets 48, .ro, 0, 0, false, .any⟩

/-- DEBUG_RESPONSE (0x6003.04), R466. -/
def eDebugResponse : Ent := ⟨0x6003, 1, 4, 4, .octets 4096, .wo, 0, 0, false, .any⟩

/-- UNLOCK_FAILS (0x6003.05), R466. -/
def eUnlockFails : Ent := ⟨0x6003, 1, 5, 5, .uint 1, .ro, 0, 0, false, .any⟩

/-- POLICY_BUNDLE (0x6004.01), R466. -/
def ePolicyBundle : Ent := ⟨0x6004, 1, 1, 1, .octets 16384, .wo, 0, 0, false, .any⟩

/-- BUNDLE_STATUS (0x6004.02), R466. -/
def eBundleStatus : Ent := ⟨0x6004, 1, 2, 2, .uint 1, .ro, 0, 0, false, .any⟩

/-- REMASK_PERIOD (0x6005.01), R466. -/
def eRemaskPeriod : Ent := ⟨0x6005, 1, 1, 1, .uint 4, .rw, 250000, 0, false, .span 1000 1000000⟩

/-- REMASK_SKIPPED (0x6005.02), R466. -/
def eRemaskSkipped : Ent := ⟨0x6005, 1, 2, 2, .uint 4, .ro, 0, 0, false, .any⟩

/-- SLOT_COUNTS (0x6005.03), R466. -/
def eSlotCounts : Ent := ⟨0x6005, 1, 3, 3, .uint 8, .ro, 0, 0, false, .any⟩

/-- POLICY_AUTHORITY (0x6100+f.01), R466. -/
def ePolicyAuthority : Ent := ⟨0x6100, 64, 1, 1, .octets 32, .rw, 0, 0, false, .any⟩

/-- RNG_WAIT_LIMIT (0x7000.01), R485. -/
def eRngWaitLimit : Ent := ⟨0x7000, 1, 1, 1, .uint 4, .rw, 5000, 0, false, .span 100 1000000⟩

/-- RNG_RESTART (0x7000.02), R485. -/
def eRngRestart : Ent := ⟨0x7000, 1, 2, 2, .bool, .wo, 0, 0, false, .any⟩

/-- RNG_STATE (0x7000.03), R485. -/
def eRngStateCopy : Ent := ⟨0x7000, 1, 3, 3, .uint 4, .ro, 0, 0, false, .any⟩

/-- RNG_FAILURES (0x7000.04), R485. -/
def eRngFailuresCopy : Ent := ⟨0x7000, 1, 4, 4, .uint 4, .ro, 0, 0, false, .any⟩

/-- FN_STATE (0x8100+f.01), R490. -/
def eFnState : Ent := ⟨0x8100, 64, 1, 1, .uint 1, .ro, 2, 0, false, .any⟩

/-- FN_COMMAND (0x8100+f.02), R490. -/
def eFnCommand : Ent := ⟨0x8100, 64, 2, 2, .uint 1, .wo, 0, 0, false, .codes 2⟩

/-- DRAM_FIRST (0x8100+f.03), R490. -/
def eDramFirst : Ent := ⟨0x8100, 64, 3, 3, .uint 2, .rw, 0, 0, false, .span 0 239⟩

/-- DRAM_COUNT (0x8100+f.04), R490. -/
def eDramCount : Ent := ⟨0x8100, 64, 4, 4, .uint 2, .rw, 0, 0, false, .span 0 240⟩

/-- QUOTA_PD (0x8100+f.05), R490. -/
def eQuotaPd : Ent := ⟨0x8100, 64, 5, 5, .uint 2, .rw, 16, 0, false, .span 0 1024⟩

/-- QUOTA_REGIONS (0x8100+f.06), R490. -/
def eQuotaRegions : Ent := ⟨0x8100, 64, 6, 6, .uint 4, .rw, 1024, 0, false, .span 0 65536⟩

/-- QUOTA_ENDPOINTS (0x8100+f.07), R490. -/
def eQuotaEndpoints : Ent := ⟨0x8100, 64, 7, 7, .uint 4, .rw, 4096, 0, false, .span 0 262144⟩

/-- QUOTA_KEYS (0x8100+f.08), R490. -/
def eQuotaKeys : Ent := ⟨0x8100, 64, 8, 8, .uint 4, .rw, 1024, 0, false, .span 0 65535⟩

/-- TGEN (0x8100+f.09), R490. -/
def eTgen : Ent := ⟨0x8100, 64, 9, 9, .uint 2, .ro, 0, 0, false, .any⟩

/-- FENCE_CAUSE (0x8100+f.0A), R490. -/
def eFenceCause : Ent := ⟨0x8100, 64, 10, 10, .uint 1, .ro, 5, 0, false, .any⟩

/-- FENCE_COUNT (0x8100+f.0B), R490. -/
def eFenceCount : Ent := ⟨0x8100, 64, 11, 11, .uint 4, .ro, 0, 0, false, .any⟩

/-- SCRUB_ERRORS (0x8100+f.0C), R490. -/
def eScrubErrors : Ent := ⟨0x8100, 64, 12, 12, .uint 4, .ro, 0, 0, false, .any⟩

/-- SCRUB_ACTIVE (0x8000.01), R490. -/
def eScrubActive : Ent := ⟨0x8000, 1, 1, 1, .uint 8, .ro, 0, 0, false, .any⟩

/-- DRAM_BAD (0x8000.02), R490. -/
def eDramBad : Ent := ⟨0x8000, 1, 2, 2, .octets 192, .ro, 0, 0, false, .any⟩

/-- FAULT_NEWEST (0x9000.01), R524. -/
def eFaultNewest : Ent := ⟨0x9000, 1, 1, 1, .uint 4, .ro, 0, 0, false, .any⟩

/-- FAULT_SELECT (0x9000.02), R524. -/
def eFaultSelect : Ent := ⟨0x9000, 1, 2, 2, .uint 4, .rw, 0, 0, false, .any⟩

/-- FAULT_RECORD (0x9000.03), R524. -/
def eFaultRecord : Ent := ⟨0x9000, 1, 3, 3, .octets 64, .ro, 0, 0, false, .any⟩

/-- PERSIST_COUNT (0x9000.04), R524. -/
def ePersistCount : Ent := ⟨0x9000, 1, 4, 4, .uint 1, .ro, 0, 0, false, .any⟩

/-- PERSIST_k (0x9000.05–.14), R524. -/
def ePersistK : Ent := ⟨0x9000, 1, 5, 20, .octets 64, .ro, 0, 0, false, .any⟩

/-- WATCHDOG_US (0x9000.15), R524. -/
def eWatchdogUs : Ent := ⟨0x9000, 1, 21, 21, .uint 4, .rw, 10000, 0, false, .span 1 10000000⟩

/-- RESET_REQUEST (0x9000.16), R524. -/
def eResetRequest : Ent := ⟨0x9000, 1, 22, 22, .uint 2, .wo, 0, 0, false, .mask 0x31FF 0⟩

/-- DIE_HEALTH (0x9000.17), R524. -/
def eDieHealth : Ent := ⟨0x9000, 1, 23, 23, .uint 4, .ro, 0, 0, false, .any⟩

/-- WATCHDOG_EXPIRIES (0x9300.01), R524. -/
def eWatchdogExpiries : Ent := ⟨0x9300, 1, 1, 1, .uint 8, .ro, 0, 0, false, .any⟩

/-- ENGINE_RESETS (0x9300.02), R524. -/
def eEngineResets : Ent := ⟨0x9300, 1, 2, 2, .uint 8, .ro, 0, 0, false, .any⟩

/-- DIE_RESETS (0x9300.03), R524. -/
def eDieResets : Ent := ⟨0x9300, 1, 3, 3, .uint 4, .ro, 0, 0, false, .any⟩

/-- MODULE_RESETS (0x9300.04), R524. -/
def eModuleResets : Ent := ⟨0x9300, 1, 4, 4, .uint 4, .ro, 0, 0, false, .any⟩

/-- FAULT_LOST (0x9300.05), R524. -/
def eFaultLost : Ent := ⟨0x9300, 1, 5, 5, .uint 4, .ro, 0, 0, false, .any⟩

/-- VENDOR (0x1000.01), R552. -/
def eVendor : Ent := ⟨0x1000, 1, 1, 1, .str 16, .ro, 32221606716403534, 0, false, .any⟩

/-- PRODUCT (0x1000.02), R552. -/
def eProduct : Ent := ⟨0x1000, 1, 2, 2, .str 16, .ro, 15815590928013381, 0, false, .any⟩

/-- MODULE_SERIAL (0x1000.03), R552. -/
def eIdSerial : Ent := ⟨0x1000, 1, 3, 3, .uint 8, .ro, 0, 0, false, .any⟩

/-- FW_BUILD (0x1000.04), R552. -/
def eFwBuild : Ent := ⟨0x1000, 1, 4, 4, .uint 4, .ro, 0, 0, false, .any⟩

/-- OD_VERSION (0x1000.05), R552. -/
def eOdVersion : Ent := ⟨0x1000, 1, 5, 5, .uint 2, .ro, 256, 0, false, .any⟩

/-- IMAGE_DATA (0x1F00.01), R552. -/
def eImageData : Ent := ⟨0x1F00, 1, 1, 1, .octets 3162368, .wo, 0, 0, false, .any⟩

/-- IMAGE_COMMIT (0x1F00.02), R552. -/
def eImageCommit : Ent := ⟨0x1F00, 1, 2, 2, .uint 4, .wo, 0, 0, false, .any⟩

/-- PLCA_ID (0x3200.01), R552. -/
def ePlcaId : Ent := ⟨0x3200, 1, 1, 1, .uint 1, .rw, 255, 0, false, .any⟩

/-- PLCA_NODES (0x3200.02), R552. -/
def ePlcaNodes : Ent := ⟨0x3200, 1, 2, 2, .uint 1, .rw, 8, 0, false, .span 1 255⟩

/-- MGMT_IPV6 (0x3200.03), R552. -/
def eMgmtIpv6 : Ent := ⟨0x3200, 1, 3, 3, .octets 16, .rw, 0, 0, false, .any⟩

/-- OD_UDP_PORT (0x3200.04), R552. -/
def eOdUdpPort : Ent := ⟨0x3200, 1, 4, 4, .uint 2, .rw, 47822, 0, false, .span 1 65535⟩

/-- MGMT_KEY_k (0x6006.01–.04), R552. -/
def eMgmtKeyK : Ent := ⟨0x6006, 1, 1, 4, .octets 32, .rwl, 0, 0, false, .any⟩

/-- MGMT_LOCK (0x6006.05), R552. -/
def eMgmtLock : Ent := ⟨0x6006, 1, 5, 5, .bool, .rwl, 0, 0, false, .any⟩

/-- MODULE_STATE (0x2000.01), R573. -/
def eModuleState : Ent := ⟨0x2000, 1, 1, 1, .uint 1, .ro, 1, 0, false, .any⟩

/-- MODULE_REQUEST (0x2000.02), R573. -/
def eModuleRequest : Ent := ⟨0x2000, 1, 2, 2, .uint 1, .wo, 0, 0, false, .codes 3⟩

/-- DIE_REQUEST (0x2000.03), R573. -/
def eDieRequest : Ent := ⟨0x2000, 1, 3, 3, .uint 2, .wo, 0, 0, false, .mask 0x30F 0⟩

/-- DIE_POWER (0x2000.04), R573. -/
def eDiePower : Ent := ⟨0x2000, 1, 4, 4, .uint 4, .ro, 87381, 0, false, .any⟩

/-- GATE_DELAY (0x2000.05), R573. -/
def eGateDelay : Ent := ⟨0x2000, 1, 5, 5, .uint 4, .rw, 100, 0, false, .span 10 1000000⟩

/-- WAKE_TIMER (0x2000.06), R573. -/
def eWakeTimer : Ent := ⟨0x2000, 1, 6, 6, .uint 4, .rw, 0, 0, false, .span 0 86400000⟩

/-- WAKE_ENABLE (0x2000.07), R573. -/
def eWakeEnable : Ent := ⟨0x2000, 1, 7, 7, .uint 1, .rw, 31, 0, false, .mask 0x1F 0⟩

/-- WAKE_CAUSE (0x2000.08), R573. -/
def eWakeCause : Ent := ⟨0x2000, 1, 8, 8, .uint 1, .ro, 0, 0, false, .any⟩

/-- DIE_TEMP (0x2000.09), R573. -/
def eDieTemp : Ent := ⟨0x2000, 1, 9, 9, .octets 9, .ro, 0, 0, false, .any⟩

/-- MODULE_POWER (0x2000.0A), R573. -/
def eModulePower : Ent := ⟨0x2000, 1, 10, 10, .uint 4, .ro, 0, 0, false, .any⟩

/-- THERM_TRIPS (0x2000.0B), R573. -/
def eThermTrips : Ent := ⟨0x2000, 1, 11, 11, .uint 4, .ro, 0, 0, false, .any⟩

/-- PEER_WAKE (0x2000.0C), R573. -/
def ePeerWake : Ent := ⟨0x2000, 1, 12, 12, .uint 4, .wo, 0, 0, false, .mask 0x3FFFFFF 0⟩

/-- LOCATE (0x1100.01), R581. -/
def eLocate : Ent := ⟨0x1100, 1, 1, 1, .bool, .rw, 0, 0, false, .any⟩

/-- PRESENCE_AGE (0x1100.02), R581. -/
def ePresenceAge : Ent := ⟨0x1100, 1, 2, 2, .uint 4, .ro, 4294967295, 0, false, .any⟩

/-- CABLE_PRESENT (0x1100.03), R581. -/
def eCablePresent : Ent := ⟨0x1100, 1, 3, 3, .uint 4, .ro, 0, 0, false, .any⟩

/-- PANEL_INPUTS (0x1100.04), R581. -/
def ePanelInputs : Ent := ⟨0x1100, 1, 4, 4, .uint 1, .ro, 0, 0, false, .any⟩

/-- IDE_MISROUTED (0x8000.03), R536. -/
def eIdeMisrouted : Ent := ⟨0x8000, 1, 3, 3, .uint 8, .ro, 0, 0, false, .any⟩

/-- SNAP_TAKE (0x9001.01), R544. -/
def eSnapTake : Ent := ⟨0x9001, 1, 1, 1, .bool, .wo, 0, 0, false, .any⟩

/-- SNAP_SEQ (0x9001.02), R544. -/
def eSnapSeq : Ent := ⟨0x9001, 1, 2, 2, .uint 4, .ro, 0, 0, false, .any⟩

/-- SNAP_VIEW (0x9001.03), R544. -/
def eSnapView : Ent := ⟨0x9001, 1, 3, 3, .bool, .rw, 0, 0, true, .any⟩

/-- STARVE_PROMOTIONS (0x9100.01), R291. -/
def eStarvePromotions : Ent := ⟨0x9100, 1, 1, 1, .uint 8, .ro, 0, 0, false, .any⟩

/-- HS_PTR_FAULTS (0x9100.02), R298. -/
def eHsPtrFaults : Ent := ⟨0x9100, 1, 2, 2, .uint 4, .ro, 0, 0, false, .any⟩

/-- SYN_FOREIGN (0x9100.03), R278. -/
def eSynForeign : Ent := ⟨0x9100, 1, 3, 3, .uint 4, .ro, 0, 0, false, .any⟩

/-- FABRIC_LOCK (0x3000.0D), R541. -/
def eFabricLock : Ent := ⟨0x3000, 1, 13, 13, .bool, .rwl, 0, 0, false, .any⟩

/-- EP_LOCK (0x4000.23), R541. -/
def eEpLock : Ent := ⟨0x4000, 1, 35, 35, .bool, .ro, 0, 0, false, .any⟩

/-- Entries of the dictionary, part 0. -/
def odTable0 : List Ent :=
  [eCtxState, eCtxCommand, eDieMask, eAreaBase, eAreaSize,
   eVectorLength, eLaneWidth, eContribBits, eGuardBits, eCohortExp,
   eSafetyNet, eKeyResidency, eKeySetId, eFloatShift, eCloseGrace,
   eRoundState, eRoundNumber, eRoundCommand, eCohortFirst, eCohortCount,
   eCohortMode, eCohortCommand, eCommitted, eMerged, eOpenCohorts,
   eFailedCohorts, eReversed, eTotalType, eLastRefusal, eSaturation]

/-- Entries of the dictionary, part 1. -/
def odTable1 : List Ent :=
  [eMinSurvivors, eMinContributors, ePermittedModes, eCommitteeSize, eCommitteeThreshold,
   ePolicyLock, ePolicyDigest, eMemberK, eScaleBase, eScaleSource,
   eScaleHeadroom, eScaleSpread, eScalePow2, eStatsBase, eStatsValid,
   eScaleDigest, eRangeFaultRows, eMaskSeedSource, eMaskSeed, eRoundMaskSeed,
   eRingStride, eRingElements, eWorkBase, eWorkSize, eShareBuffers,
   eDerived, eSharesAccepted, eSharesDropped, eLastDisagree, eAwaiting]

/-- Entries of the dictionary, part 2. -/
def odTable2 : List Ent :=
  [eBasisK, eBasisLoad, eBasisAgree, eLoftFirst, eLoftLast,
   eRomPrimeI, eRomRootI, eKeysetBase, eKeysetStride, eKeyLoftFirst,
   eSelfMember, eKeyshareBase, eKeyshareState, eTopLevel, eFreshBound,
   eTotalCts, eKeyReloads, eKeyBytes, ePartyCount, ePartyIndex,
   ePartnerSetId, ePeer1Module, ePeer1Key, ePeer2Module, ePeer2Key,
   eDealerKey, eShWorkBase, eShWorkSize, eTripleBatches, eExchangeTimeout]

/-- Entries of the dictionary, part 3. -/
def odTable3 : List Ent :=
  [ePeerState, eSharedMerged, eRoundShareDigest, eTripleMark, eTriplesHeld,
   eRowsOpened, eExchangeDropped, eShLastDisagree, eTileFirst, eTileCount,
   eStageTiles, eFloatWindow, eFloatPart, eSpecInflight, eFloatWindowFull,
   eImports, eSynBlockLo, eSynBlockHi, eEthMode, eEthInterface,
   eLpKMac, eLpKIpv6, eLpKIpv4, eVlanId, eLinkUp,
   eRxDiscard, eModuleId, eFabricId, eFabricAuthority, eFabricEpochMin]

/-- Entries of the dictionary, part 4. -/
def odTable4 : List Ent :=
  [eFabricCert, eFabricSize, eGuardMin, eGuardLevel, ePathDead,
   eUnreachable, eAbortsReceived, eAbortsDropped, eJobId, eParentK,
   eParentContext, eCopyPeerK, eChildCount, eChildList, eAbortCause,
   eAbortOrigin, eChildWait, eStUdpPort, eRtoInitShl, eRtoInitEth,
   eRtoMinShl, eRtoMinEth, eRtoMax, eRateMaxShl, eIntervalMin,
   eDscpMap, eHopLimit, eTxPackets, eRetxTimeout, eRetxFast]

/-- Entries of the dictionary, part 5. -/
def odTable5 : List Ent :=
  [eRxDuplicate, eRxDropHeader, eRxDropKey, eRxDropGeneration, eCeReceived,
   eRateEvictions, eObjKind, eObjIndex, eObjCommand, eObjResult,
   eObjPd, eObjContext, eRegionBase, eRegionLimit, eRegionAccess,
   eSignalCounter, eSignalIncrement, eObjGen, eEpFlags, eRxqRegion,
   eRxqDepth, eSlotRegion, eSlotSize, eSlotCount, eObjState,
   eObjCtxKeyGen, eKeyPeer, eEpForeign, eEpBacking, eEpTablePd0]

/-- Entries of the dictionary, part 6. -/
def odTable6 : List Ent :=
  [eEpTablePd1, eEpcFetches, eEpcEvictions, eEpcFetchIntegrity, ePrkParked,
   ePrkDropFull, ePrkDropTimeout, eRxWindowDrop, eRxStreamFull, eRxNoSlot,
   eAnonContrib, eGatewayKeyK, eMsgIdleLimit, eRidgeBase, eRidgeSize,
   eImportWait, eTagFails, eSessionFails, eSlotPending, eRingFull,
   eCheckFails, eDualDisagree, eEccCorrected, eEccUncorrected, eRecombines,
   eDissents, eLifecycle, eModuleSerial, eDieIds, eIdentityPub]

/-- Entries of the dictionary, part 7. -/
def odTable7 : List Ent :=
  [eEndorsement, eAliasCert, eAliasNextCert, eFwSvn, eSvnCommit,
   eBootCount, eIdentityLeft, eAliasState, eMrK, eMrExtend,
   eQuoteRequest, eQuoteStatus, eQuote, eLcCommand, eLcStatus,
   eDebugChallenge, eDebugResponse, eUnlockFails, ePolicyBundle, eBundleStatus,
   eRemaskPeriod, eRemaskSkipped, eSlotCounts, ePolicyAuthority, eRngWaitLimit,
   eRngRestart, eRngStateCopy, eRngFailuresCopy, eFnState, eFnCommand]

/-- Entries of the dictionary, part 8. -/
def odTable8 : List Ent :=
  [eDramFirst, eDramCount, eQuotaPd, eQuotaRegions, eQuotaEndpoints,
   eQuotaKeys, eTgen, eFenceCause, eFenceCount, eScrubErrors,
   eScrubActive, eDramBad, eFaultNewest, eFaultSelect, eFaultRecord,
   ePersistCount, ePersistK, eWatchdogUs, eResetRequest, eDieHealth,
   eWatchdogExpiries, eEngineResets, eDieResets, eModuleResets, eFaultLost,
   eVendor, eProduct, eIdSerial, eFwBuild, eOdVersion]

/-- Entries of the dictionary, part 9. -/
def odTable9 : List Ent :=
  [eImageData, eImageCommit, ePlcaId, ePlcaNodes, eMgmtIpv6,
   eOdUdpPort, eMgmtKeyK, eMgmtLock, eModuleState, eModuleRequest,
   eDieRequest, eDiePower, eGateDelay, eWakeTimer, eWakeEnable,
   eWakeCause, eDieTemp, eModulePower, eThermTrips, ePeerWake,
   eLocate, ePresenceAge, eCablePresent, ePanelInputs, eIdeMisrouted,
   eSnapTake, eSnapSeq, eSnapView, eStarvePromotions, eHsPtrFaults]

/-- Entries of the dictionary, part 10. -/
def odTable10 : List Ent :=
  [eSynForeign, eFabricLock, eEpLock]

/-- Every entry of the object dictionary. -/
def odTable : List Ent :=
  odTable0 ++ odTable1 ++ odTable2 ++ odTable3 ++ odTable4 ++ odTable5 ++ odTable6 ++ odTable7 ++ odTable8 ++ odTable9 ++ odTable10

/-- The key under which record n, subindex subLo + j of an entry is held. -/
def entKey (e : Ent) (n j : Nat) : Nat :=
  (if e.perFn then 65536 * (n + 1) + e.base else e.base + n) * 256 + (e.subLo + j)

/-- The default of record n, subindex subLo + j. -/
def entDflt (e : Ent) (j : Nat) : Nat := if e.ddiv = 0 then e.dflt else e.dflt + j / e.ddiv

/-- The row that INDEX and SUB name (order 1 of R600). -/
def odFind (index sub : Nat) : Option Ent :=
  odTable.find? (fun e => e.base ≤ index && index < e.base + (if e.perFn then 1 else e.count) &&
    e.subLo ≤ sub && sub ≤ e.subHi)

/-- The highest subindex of an index, read at subindex 0 as a U8 (R546); none for an unknown index. -/
def odHighest (index : Nat) : Option Nat :=
  let l := odTable.filter (fun e => e.base ≤ index && index < e.base + (if e.perFn then 1 else e.count))
  if l.isEmpty then none else some (l.foldl (fun a e => max a e.subHi) 0)

/-- The longest value of a type in bytes. -/
def tyLen : Ty → Nat
  | .bool => 1
  | .uint n => n
  | .octets n => n
  | .str n => n

/-- The write length fits the type (R546). -/
def lenOk (e : Ent) (len : Nat) : Bool :=
  match e.ty with
  | .bool => len == 1
  | .uint n => len == n
  | .octets n => if e.acc = .wo then decide (1 ≤ len ∧ len ≤ n) else len == n
  | .str n => decide (len ≤ n)

/-- Is the FP32 word finite, of clear sign (zero admitted only where `zero`), and at most hi? -/
def f32Ok (zero : Bool) (hi v : Nat) : Bool :=
  let ex := bits v 30 23
  let mant := if ex = 0 then bits v 22 0 else 2 ^ 23 + bits v 22 0
  let e := if ex = 0 then 1 else ex
  ex != 255 && (if mant = 0 then zero else v < 2 ^ 31 && decide (mant * 2 ^ e ≤ hi * 2 ^ 150))

/-- The value lies in the entry's range and sets no reserved bit (R36, R546). -/
def valueOk (e : Ent) (v : Nat) : Bool :=
  let fits := match e.ty with
    | .bool => decide (v ≤ 1)
    | t => decide (v < 2 ^ (8 * tyLen t))
  fits && match e.rng with
    | .any => true
    | .span lo hi => decide (lo ≤ v ∧ v ≤ hi)
    | .mask m least => (v &&& m) == v && decide (least ≤ v)
    | .mult k bound => v % k == 0 && decide (v < bound)
    | .oneOf l => l.contains v
    | .pow2 lo hi => v == 0 || (decide (lo ≤ v ∧ v ≤ hi) && v == 2 ^ (Nat.log2 v))
    | .f32 z hi => f32Ok z hi v
    | .codes _ => true
    | .sigctr => decide (v < 16384) || v == 0xFFFF
    | .sized => v % 4096 == 0 && decide (4096 ≤ v ∧ v ≤ 67108864)
    | .synOwner => decide (v < 64) || v == 0xFF
    | .modId => decide (v < 32768) || v == 0xFFFF

/-- A command or request code that the entry's table does not assign (R599). -/
def codeUnassigned (e : Ent) (v : Nat) : Bool :=
  match e.rng with
  | .codes hi => decide (v < 1 ∨ hi < v)
  | _ => false

end Sys2Proof.Machine
end

