-- ==== Sys2Proof/Machine/State.lean ====
section
/-!
DEFINITION. The state of the block, as plain data: every register, buffer, counter, mode and pin the
spec gives it, the queue of waiting commands, and its value at reset. Values of the object
dictionary live in one table `od` keyed by entry, record and subindex (an unlisted key holds the
entry's default); BAR2 registers in `bar2` keyed by byte offset; everything else in records below.
-/

namespace Sys2Proof.Machine

open Sys2Proof

/-- Why a command makes the block stop with a fault. No rule of the spec stops the block, so no
command raises one: safe. -/
inductive Fault where
  /-- Raised by no command; the type is closed. Safe: it is never the answer. -/
  | unused
  deriving DecidableEq, Repr

/-- Why a command has no meaning here. -/
inductive Refusal where
  /-- An arm of the dispatcher whose meaning is not written. Safe: nothing can be proved of it. -/
  | notModelled (mnemonic : String)
  deriving DecidableEq, Repr

/-- A command queue's registers (R265, R266) and its producer index (R267). -/
structure Cq where
  base : Nat := 0
  enable : Bool := false
  space : Nat := 0
  cls : Nat := 2
  evq : Nat := 0
  ctx : Nat := 0
  depth : Nat := 0
  urgentAge : Nat := 1000
  head : Nat := 0
  fetchErr : Bool := false
  laneFull : Bool := false
  starve : Nat := 0
  overruns : Nat := 0
  prod : Nat := 0
  deriving DecidableEq, Repr

/-- An event queue (R300): registers, entries oldest first (16 bytes each, R301), and whether the
next entry written carries LOST_BEFORE. -/
structure Evq where
  enable : Bool := false
  vector : Nat := 0
  depth : Nat := 0
  lost : Nat := 0
  entries : List Nat := []
  lostBefore : Bool := false
  deriving DecidableEq, Repr

/-- Where a descriptor stands between its fetch and its completion. -/
inductive Phase where
  /-- fetched; the fetcher holds it (a control descriptor, or no lane room yet) -/
  | held
  /-- in the lanes of its dies, or in the trigger stream's order, not started on some die -/
  | lanes
  /-- started on every die that executes it -/
  | running
  /-- an operation that waits for a peer, a message or random words, with its progress -/
  | waiting (stage : Nat)
  deriving DecidableEq, Repr

/-- A descriptor that has been fetched and has not completed (R40, R273). `raw` is its 64 bytes,
`addr` and `space` where it came from (R508), `cls` the class of a fired trigger, `lanes` the dies
on which it waits, `started` those on which it has started, `latch` the entries it latched when it
started (R131, R218, R245, R248), `table` the conversion table a BASECONV copied then, from offset 0 (R145),
`taken` the shares a SEED_RECON took then (R118), `units` the units completed (R601), `aux` the progress of
an operation in parts, `err` the hardware error that an exchange meets in its output (R422). -/
structure Desc where
  id : Nat := 0
  fn : Nat := 0
  queue : Nat := 0
  seq : Nat := 0
  raw : Nat := 0
  addr : Nat := 0
  space : Nat := 0
  cls : Nat := 2
  phase : Phase := .held
  lanes : List Nat := []
  started : List Nat := []
  promoted : Bool := false
  latch : Tbl Nat := []
  table : Mem := []
  taken : Tbl (Tbl Nat) := []
  units : Nat := 0
  aux : Nat := 0
  err : HwErr := .none
  unit : Nat := 0x01FF
  engs : List Nat := []
  deriving DecidableEq, Repr

/-- A trigger slot in use (R286, R288): the stored descriptor, its class, counter and threshold, and
whether it has fired and waits for room in the stream (R289). -/
structure Trig where
  raw : Nat := 0
  addr : Nat := 0
  cls : Nat := 2
  ctx : Nat := 0
  counter : Nat := 0
  threshold : Nat := 0
  fired : Bool := false
  deriving DecidableEq, Repr

/-- Cohort states (R50). -/
inductive CoSt where
  | idle | opened | shut | merged | failed
  deriving DecidableEq, Repr

/-- A cohort of a round (R50): its state, mode, count of uncommitted contributions, whether its
survivor set is fixed (R51), its accumulator (word by element; a Clear-Float leaf by slot * 2^33 +
element; a Sealed limb word by ciphertext * 2^26 + word; never readable, R54), the check value held of each of
its rows (R421; a Clear-Float row by slot * 2^23 + row, a chunk of limbs by ciphertext * 2^16 + chunk), the Clear-Float slots
assigned, the local rows merged by UNMASK (die * 2^24 + local row, R121) and whether one was clamped,
the first UNMASK's comparison (R120), and its digest (R193). -/
structure Cohort where
  st : CoSt := .idle
  mode : Nat := 2
  uncommitted : Nat := 0
  graceDone : Bool := false
  fixedSet : Bool := false
  acc : Tbl Nat := []
  chk : Tbl Nat := []
  assigned : List Nat := []
  rowsDone : List Nat := []
  clamped : Bool := false
  minChecked : Bool := false
  digest : Nat := 0
  deriving DecidableEq, Repr

/-- A share buffer of the mask workspace (R103, R104, R110): the cohort bound to it, its header, the
shares stored per member, the rebuilt seed sum and the 4 KiB chunks expanded (element * 64 + chunk, R115,
R116, R118). -/
structure ShareBuf where
  cohort : Nat := 0
  survivors : Nat := 0
  digest : Nat := 0
  stored : Tbl (Tbl Nat) := []
  storedBy : Tbl Nat := []
  seedSum : Tbl Nat := []
  seedDone : Bool := false
  expanded : List Nat := []
  deriving DecidableEq, Repr

/-- A triple batch of the pool (R203). -/
structure Triple where
  batch : Nat := 0
  words : Tbl Nat := []
  deriving DecidableEq, Repr

/-- What an aggregation context and its round hold beyond their dictionary entries: the owner (R34),
the round copy (R37), the guard level and committee size in force at OPEN (R107, R336), the modes
permitted and the total type fixed at OPEN (R61), whether a non-float total joined (R233), cohorts,
the cohorts waiting for a share buffer (R103), share buffers, derived ring elements, the row-flag map
by global row (R225), the clear subtotal's count and dies done (R66), the Shared round's opened rows,
messages and triples (R204 to R211), whether the Shared workspace was zeroed for the round, the check values
held of total and share rows by address (R421), whether a conversion of the total rounded (R63), the imports
that have arrived (module * 2^33 + segment * 2 + ATTEMPT, R334), the ranges where a key share was stored
(R182), the staging rows held (die * 6144 + array * 3072 + tile * 64 + row to
cohort * 2^24 + global row, R258), the ridge's imports (R425 to R428), the loaded RESIDENT keys
(R171) and their tag, the tile
indices removed from the range and not yet zeroed (R219), the teardown's stage (R502), and an accepted OPEN that
waits for the descriptors that still write its tables (R79), and the sources of range writes that wait (R219). -/
structure Ctx where
  owner : Nat := 0
  copy : Tbl Nat := []
  guard : Nat := 0
  committee : Nat := 0
  modes : Nat := 0
  tt : Nat := 0
  nonFloat : Bool := false
  cohorts : Tbl Cohort := []
  pendingSlots : List Nat := []
  bindWait : List Nat := []
  bufs : Tbl ShareBuf := []
  derived : List Nat := []
  rowFlags : Tbl Nat := []
  subMerged : Nat := 0
  subDone : List Nat := []
  opened : List Nat := []
  digestFixed : Bool := false
  xmsgs : List ExchangeMsg := []
  triples : List Triple := []
  staged : Tbl Nat := []
  imports : List ImportMsg := []
  added : Tbl (List Nat) := []
  retried : Tbl (List Nat) := []
  accepted : List ImportMsg := []
  totalFormed : Bool := false
  rootDigests : List RidgeMsg := []
  shImports : Tbl Nat := []
  keysLoaded : List Nat := []
  keyTag : Nat := 0
  tileGone : List Nat := []
  teardown : Nat := 0
  stuck : List Nat := []
  shInit : Bool := false
  chk : Tbl Nat := []
  inexact : Bool := false
  importSeen : List Nat := []
  kshare : List (Nat × Nat) := []
  opening : Bool := false
  rangeSrc : List Src := []
  deriving DecidableEq, Repr

/-- A Thatch tile (R216, R221, R222): its type (0 empty, 1 INT40, 2 FP32 pair, 3 MOD, 4 MOD32), lane
width, provisional mark (R254), words (row * 1024 + lane; a pair holds value and error), per-row
saturation and range flags, and the check value held of each row (R242, R421). -/
structure Tile where
  ty : Nat := 0
  laneW : Nat := 0
  prov : Bool := false
  words : Tbl Nat := []
  errs : Tbl Nat := []
  sat : List Nat := []
  rangeF : List Nat := []
  chk : Tbl Nat := []
  deriving DecidableEq, Repr

/-- A function's fence state beyond its entries (R489, R495): SCRUB_DONE, STEP, the stage of the
running fence (0 none, 3 waiting for engines, 5 scrubbing), the engines awaited, whether BAR0 is
mapped, and the lifecycle action that waits for the fence of every function (R463, R465). -/
structure FnSt where
  scrubDone : Bool := false
  step : Nat := 0
  stage : Nat := 0
  stuck : List Nat := []
  deriving DecidableEq, Repr

/-- A mailbox (R549). -/
structure Mbox where
  busy : Bool := false
  respValid : Bool := false
  vector : Nat := 0
  overruns : Nat := 0
  deriving DecidableEq, Repr

/-- A staged segmented write (R548): its bytes so far, and whether it lapsed. -/
structure Staging where
  src : Src
  txn : Nat
  index : Nat
  sub : Nat
  value : Nat
  len : Nat
  lapsed : Bool
  deriving DecidableEq, Repr

/-- A latched copy of a read value (R548). -/
structure ReadCopy where
  src : Src
  txn : Nat
  value : Nat
  len : Nat
  deriving DecidableEq, Repr

/-- A fault record (R508). -/
structure FaultRec where
  seq : Nat := 0
  ty : Nat := 0
  status : Nat := 0
  level : Nat := 0
  flags : Nat := 0
  source : Nat := 0x01FF
  ctx : Nat := 0
  fn : Nat := 0xFF
  queue : Nat := 0xFFFF
  opcode : Nat := 0
  sequence : Nat := 0
  descAddr : Nat := 0
  descSpace : Nat := 0
  uptime : Nat := 0
  bootCount : Nat := 0
  mods : List Nat := []
  detail : Nat := 0
  deriving DecidableEq, Repr

/-- A reset in progress of a unit or a die (R512, R515). -/
structure ResetRun where
  die : Bool
  id : Nat
  host : Bool
  escalated : Bool
  retire : Bool
  deriving DecidableEq, Repr

/-- A Shuhal module port (R308 to R317): training state, width, lanes, the step and the
failures of the training in progress, whether it waits for a sleeping partner (R557), the lane that a retrain left out
(9 for none), and of each direction the frames under its key, the rekey count and the frame count agreed for the next key. -/
structure Port where
  st : Nat := 0
  width : Nat := 0
  spareInUse : Bool := false
  spareHot : Bool := false
  cable : Bool := false
  debounced : Bool := false
  verified : Bool := false
  lanesGood : Nat := 0
  enable : Bool := true
  forceHalf : Bool := false
  peer : Nat := 0
  peerValid : Bool := false
  trainStep : Nat := 0
  failsInRow : Nat := 0
  tagRun : Nat := 0
  hold : Bool := false
  outLane : Nat := 9
  txN : Nat := 0
  rxN : Nat := 0
  txE : Nat := 0
  rxE : Nat := 0
  txAt : Option Nat := none
  rxAt : Option Nat := none
  deriving DecidableEq, Repr

/-- A packet held by a switch (R324), with the port it came in on and the egress queue it waits in; whether the queue
had no room for it yet (R325), and what its ingress tag was found to be: 0 not checked, 1 verified, 2 failed (R318). -/
structure Held where
  pkt : Pkt
  inPort : Nat
  egress : Nat
  vl : Nat
  waits : Bool := false
  tagSt : Nat := 1
  deriving DecidableEq, Repr

/-- A rate cache entry (R363 to R366), times in ns; `expAt` is the count of transmissions at the last
timer expiry (R360). -/
structure Rate where
  dst : Nat
  eth : Bool := false
  rate : Nat := 0
  rmax : Nat := 0
  alpha : Nat := 65536
  acked : Nat := 0
  marked : Nat := 0
  clean : Nat := 0
  sampled : Bool := false
  srtt : Nat := 0
  rttvar : Nat := 0
  rto : Nat := 0
  rtoBase : Nat := 0
  expAt : Nat := 0
  cursor : Nat := 0
  mask : Nat := 2 ^ 256 - 1
  touts : Tbl Nat := []
  halved : Bool := false
  deriving DecidableEq, Repr

/-- One packet of a message being sent: the path it left on, the count of transmissions when it first
left, its transmissions, whether it is held by the receiver, and its timer in ns (R360). -/
structure TxPkt where
  path : Nat := 0
  order : Nat := 0
  sends : Nat := 0
  fast : Bool := false
  held : Bool := false
  timer : Nat := 0
  deriving DecidableEq, Repr

/-- A message being sent (R342, R359): its descriptor (0 for the response to a READ_REQ), its endpoint,
rate-cache destination, header and payload; `solicit` asks for an acknowledgement of the last packet,
and `placed` counts the bytes of a READ_RESP placed for an ST_READ (R387). -/
structure TxMsg where
  id : Nat
  die : Nat
  desc : Nat := 0
  ep : Nat := 0
  dst : Nat := 0
  hdr : Pkt
  len : Nat := 0
  data : Mem := []
  cum : Nat := 0
  pkts : Tbl TxPkt := []
  solicit : Bool := false
  placed : Nat := 0
  deriving DecidableEq, Repr

/-- A contribution in reception after its packet 0 passed R413: context, cohort, slot and mode, data
bytes, the pieces of rows already added speculatively and those deferred in the ring (row * 4 + piece, R416). -/
structure Contrib where
  ctx : Nat := 0
  cohort : Nat := 0
  slot : Nat := 0
  mode : Nat := 0
  dataBytes : Nat := 0
  added : List Nat := []
  deferred : List Nat := []
  deriving DecidableEq, Repr

/-- A message being received (R350, R351, R390): its first header, the packets held, its payload by
offset, the cohorts OPEN, the round's being OPEN and its number when the first packet arrived (R413),
the refusal it will be ended with (R410), and its contribution if it is one. -/
structure RxMsg where
  id : Nat
  die : Nat
  hdr : Pkt
  held : List Nat := []
  data : Mem := []
  len : Nat := 0
  tagSeen : Bool := false
  tagOk : Bool := true
  newSinceAck : Nat := 0
  ceSinceAck : Nat := 0
  echo : Nat := 0
  ackArmed : Bool := false
  slot : Nat := 0xFFFF
  hasRec : Bool := false
  refusal : Nat := 0
  checked : Bool := false
  firstOpen : List Nat := []
  roundOpen : Bool := false
  firstRound : Nat := 0
  con : Option Contrib := none
  verified : Bool := false
  deriving DecidableEq, Repr

/-- A stream slot of an endpoint (R388 to R390): receive NEXT_SEQ and settled window, send numbers. -/
structure Strm where
  key : Nat
  peer : Nat
  nextSeq : Nat := 0
  settled : List Nat := []
  txNext : Nat := 0
  txLow : Nat := 0
  txSettled : List Nat := []
  deriving DecidableEq, Repr

/-- An endpoint (R370 to R372, R382, R393, R394, R400). `st`: 0 FREE, 1 READY, 2 ERROR,
3 QUARANTINE; `slots` lists the slots taken (1 placing, 2 record written); `recFree` the free
receive records, `recOut` those written and not yet returned. -/
structure Ep where
  st : Nat := 0
  owner : Nat := 0
  ctx : Nat := 0
  pd : Nat := 0
  flags : Nat := 0
  rxqRegion : Nat := 0
  rxqDepth : Nat := 0
  slotRegion : Nat := 0
  slotSize : Nat := 4096
  slotCount : Nat := 0
  slots : Tbl Nat := []
  recFree : Nat := 0
  recOut : Nat := 0
  recWritten : Nat := 0
  streams : List Strm := []
  evictions : Nat := 0
  resident : Bool := false
  fetching : Bool := false
  deriving DecidableEq, Repr

/-- A protection domain (R373): 0 FREE, 1 in use, 2 in quarantine. -/
structure Pd where
  st : Nat := 0
  owner : Nat := 0
  deriving DecidableEq, Repr

/-- A region (R378): 0 FREE, 1 in use, 2 in quarantine. -/
structure Region where
  st : Nat := 0
  owner : Nat := 0
  ctx : Nat := 0
  pd : Nat := 0
  base : Nat := 0
  limit : Nat := 0
  gen : Nat := 0
  access : Nat := 0
  sigCtr : Nat := 0xFFFF
  sigInc : Nat := 1
  deriving DecidableEq, Repr

/-- A transport key (R375) with the session that installed it (R403): `st` 0 FREE, 1 LIVE,
2 RETIRED; `quar` while the KEY_ID may not be installed again; `slot` the vault slot of a
management session (256 for none); the control counters accepted and the next to send (R409), the local endpoint and the
number of the next message the module itself sends under the key, the message key, and whether the module was
the session's responder, and the CONFIRM value (R405, R408). -/
structure Key where
  st : Nat := 0
  gen : Nat := 0
  owner : Nat := 0
  ctx : Nat := 0
  pd : Nat := 0
  ctxGen : Nat := 0
  form : Nat := 0
  peer : Nat := 0
  peerPort : Nat := 0
  peerTclass : Nat := 0
  kind : Nat := 0
  keyed : Bool := false
  member : Nat := 0
  peerHash : Nat := 0
  dstEp : Nat := 0
  slot : Nat := 256
  quar : Bool := false
  ctlHigh : Nat := 0
  ctlSeen : List Nat := []
  ctlNext : Nat := 0
  localEp : Nat := 0
  sendNext : Nat := 0
  msgKey : Nat := 0
  resp : Bool := false
  confirm : Nat := 0
  deriving DecidableEq, Repr

/-- A handshake in progress (R404 to R407): the HELLO, the KEY_ID reserved, its step, the CREDENTIAL payloads the peer
has sent, the transcript digest T and the two shared secrets (R405). -/
structure Hs where
  id : Nat
  die : Nat := 6
  hello : HelloMsg
  step : Nat := 1
  keyId : Nat := 0xFFFF
  keyGen : Nat := 0
  peerEp : Nat := 0
  localEp : Nat := 0
  credParts : List Nat := []
  cred : Credential := {}
  initiator : Bool := false
  parts : Tbl Nat := []
  t : Nat := 0
  ss : Nat := 0
  deriving DecidableEq, Repr

/-- The output log: what the block sends or answers, newest last (DESIGN CHOICE, log 12). -/
inductive Out where
  | odResp (src : Src) (status value len : Nat) (more : Bool)
  | regData (v : Nat)
  | msix (f vec : Nat)
  | packet (die : Nat) (k : Pkt)
  | forward (die egress : Nat) (k : Pkt)
  | frame (p n : Nat) (raw : List Nat)
  | eth (p lp : Nat) (raw : List Nat)
  | linkHand (p : Nat) (raw : List Nat)
  | ack (key ep src ctr seq cum rx sack echo ce : Nat) (delivered : Bool)
  | status (key ep src ctr seq code idx : Nat)
  | abort (dst job round cause origin : Nat)
  | reply (hs keyId keyGen dstEp : Nat) (raw : List Nat)
  | accept (keyId keyGen status : Nat) (raw : List Nat)
  | close (keyId : Nat) (raw : List Nat)
  | credential (hs part : Nat) (raw : List Nat)
  | hello (dst kind ctx ep : Nat) (raw : List Nat)
  | finish (hs keyId : Nat) (raw : List Nat)
  | importSeg (dst : Nat) (m : ImportMsg)
  | recombine (dst job round rowFirst : Nat)
  | rootDigest (dst : Nat) (m : RidgeMsg)
  | exchange (dst : Nat) (m : ExchangeMsg)
  | arp (p lp : Nat)
  | linkKey (p dir frame : Nat)
  | calliope (p : Nat)
  | wakePin
  | pme
  | sleepNotice (p kind : Nat)
  | spdm (code : Nat) (ok : Bool) (data : Nat)
  | tdispReport (f : Nat)
  | tdispError (f : Nat)
  | rngEntry (consumer tag word : Nat)
  | dbgData (data status : Nat)
  | tap (dr : Nat)
  deriving DecidableEq, Repr

/-- The fuse block of the root die (R432) and the die identities (R433): what is burnt. `svnFloor` is
the number of burnt SVN bits, `dieIds` the nine identities as the root die last read them. -/
structure Fuses where
  serial : Nat := 1
  manifest : Nat := 0
  lifecycle : Nat := 0
  dus : Nat := 0
  vendor0 : Nat := 0
  vendor1 : Nat := 0
  vendorRevoke : Nat := 0
  debugKey : Nat := 0
  svnFloor : Nat := 0
  macBase : Nat := 0
  dieIds : Nat := 0
  deriving DecidableEq, Repr

/-- What MRAM keeps (R453, R466, R509, R524): boot and tamper counts, the identity tree with its
reservation mark, the nodes of the level-1 tree in use, of the next one and of level 0 (R450), the public keys of the present identity and of the one that the next reset takes up, the next
alias index and the alias mark, ENDORSEMENT, MODULE_RESETS, the persisted
fault records newest first, and the auxiliary logic's tamper latch (R560). -/
structure Mram where
  bootCount : Nat := 0
  tamperCount : Nat := 0
  idPub : Nat := 0
  nextIdPub : Option Nat := none
  idTree : Nat := 0
  idMark : Nat := 0
  idNodes : Nat := 0
  idTop : Nat := 0
  nextNodes : Option Nat := none
  aliasNext : Nat := 0
  aliasMark : Nat := 0
  endorsement : Nat := 0
  moduleResets : Nat := 0
  persist : List FaultRec := []
  tamperLatch : Bool := false
  deriving DecidableEq, Repr

/-- Boot, keys and lifecycle (R434 to R437, R449 to R467, R530): BOOT_STATE and its companions, the
effective lifecycle fused at boot, boot window and its claim (0 none, 1 host, 2 management), the running image's SVN and BUILD, the
identity and alias leaves, signing tokens, waiting quotes, the debug challenge in force, the
time of the last counted press (R578), and the masks of the DUS and of the signing seeds (R447). -/
structure Boot where
  st : Nat := 0
  error : Nat := 0
  refusals : Nat := 0
  keysReady : Bool := false
  tampered : Bool := false
  zeroized : Bool := false
  debugOpen : Bool := false
  win : Mem := []
  written : Nat := 0
  claim : Nat := 0
  svn : Nat := 0
  build : Nat := 0
  salt : Nat := 0
  idPub : Nat := 0
  idLeaf : Nat := 0
  aliasIdx : Nat := 0
  aliasLeaf : Nat := 0
  aliasPub : Nat := 0
  nextPub : Nat := 0
  nextIdx : Nat := 0
  nextReady : Bool := false
  lc : Nat := 0
  quoteSeq : Nat := 0
  quotes : Tbl (Nat × Nat) := []
  challenge : Option Nat := none
  challengeAt : Nat := 0
  press : Option Nat := none
  dusMask : Nat := 0
  seedMask : Nat := 0
  deriving DecidableEq, Repr

/-- A vault slot (R443): 0 EMPTY, 1 PENDING, 2 ACTIVE, 3 RETIRING; the key itself and
its mask (R447) are numbers no register shows. (DEDUCED, log 95.) -/
structure VSlot where
  st : Nat := 0
  moduleOwned : Bool := false
  owner : Nat := 0
  purpose : Nat := 0
  port : Nat := 0
  rights : Nat := 0
  gen : Nat := 0
  key : Nat := 0
  mask : Nat := 0
  deriving DecidableEq, Repr

/-- The random number generator (R469 to R487): 0 STARTUP, 1 READY, 2 BLOCKED, 3 HALTED, 4 STOPPED;
the entries of the output queue (64 bytes each, byte 0 lowest), the valid-byte tag of the tail stage (R293), the seed blocks, oldest
first, the DRBG's state, RI, requests served, health-test and estimate windows, the samples held by the conditioner (R470), raw capture, and the consumers waiting in the order of their first read. -/
structure Rng where
  st : Nat := 0
  failCause : Nat := 0
  queue : List Nat := []
  tail : Nat := 0
  seeds : List Nat := []
  drbg : Nat := 0
  ri : Nat := 16384
  served : Nat := 0
  instantiated : Bool := false
  last : Nat := 0
  run : Nat := 0
  aptFirst : Nat := 0
  aptCount : Nat := 0
  aptIdx : Nat := 0
  win : List Nat := []
  cond : List Nat := []
  raw : List Nat := []
  capture : Bool := false
  waiting : List Nat := []
  deriving DecidableEq, Repr

/-- Power, clocks and resets (R554 to R575): per-die states (1 Idle, 2 Sleep, 3 Deep sleep), powered
units, transitions in progress (1 to Idle, 2 and 3 to Sleep and Deep sleep, 4 more with a wake that
follows), dies at 115 °C or more in the last sample, that sample, the inputs, the running wake timer,
dies whose logic supply is off, and what holds the module in reset. -/
structure Pwr where
  die : Tbl Nat := []
  powered : List Nat := []
  entering : Tbl Nat := []
  hot : List Nat := []
  temps : List Nat := []
  thermAlert : Bool := false
  tripped : Bool := false
  inReset : Bool := true
  frozen : Bool := false
  v48 : Bool := true
  pwrGood : Bool := true
  aux : Bool := true
  refclk : Bool := true
  timer : Nat := 0
  trimmed : Bool := false
  logicOff : List Nat := []
  deriving DecidableEq, Repr

/-- The panel's own state (R578 to R583): LED_ACT lit, the acknowledgement of a press on LED_LOCATE, and
SCRUB_ERRORS of every function when the last fence began. -/
structure Panel where
  ledAct : Bool := false
  locateAck : Bool := false
  scrubErrMark : Nat := 0
  deriving DecidableEq, Repr

/-- The debug port (R584 to R591): the TAP instruction, the last result, halted units and cores with
their steps since the halt, armed breakpoints keyed unit * 16 + slot, core and sequencer memory keyed
unit * 2^48 + address. -/
structure Dbg where
  ir : Nat := 2
  data : Nat := 0
  status : Nat := 0
  halted : List Nat := []
  steps : Tbl Nat := []
  bps : Tbl Nat := []
  coreMem : Mem := []
  deriving DecidableEq, Repr

/-- The PCIe endpoint (R525 to R538, R543, R544): virtual functions, the functions whose Memory Space Enable
is set and the virtual functions in D3hot (R529, R535), link width and power, the physical function's
D-state, the function (plus 1) each IDE stream is bound to, TDISP states, snapshot holding copies and the
latched high halves. -/
structure Pcie where
  numVfs : Nat := 0
  vfEnable : Bool := false
  memOn : List Nat := []
  vfD3 : List Nat := []
  width : Nat := 8
  l1 : Bool := false
  dstate : Nat := 0
  wakePin : Bool := false
  streams : Tbl Nat := []
  tdisp : Tbl Nat := []
  snapView : Bool := false
  snapOd : Tbl Nat := []
  snapBar2 : Tbl Nat := []
  snapBar0 : Tbl Nat := []
  snapUptime : Nat := 0
  hiLatch : Tbl Nat := []
  deriving DecidableEq, Repr

/-- The state of the block. (DESIGN CHOICE, log 130.) -/
structure State where
  /-- commands that wait, first in, first out -/
  pending : List Instr := []
  /-- dictionary values by key; an unlisted key holds its entry's default -/
  od : Tbl Nat := []
  /-- BAR2 registers by byte offset; an unlisted register holds its reset value -/
  bar2 : Tbl Nat := []
  /-- MSI-X table words (function * 1024 + word) and pending bits (R532) -/
  msix : Tbl Nat := []
  msixPend : Tbl Nat := []
  /-- host memory, each context's device memory, each compute die's Loft -/
  host : Mem := []
  vm : Tbl Mem := []
  /-- the function, plus 1, whose keys a context's device memory lies under (R492) -/
  vmFn : Tbl Nat := []
  loft : Tbl Mem := []
  /-- Thatch tiles, keyed die * 96 + array * 48 + tile -/
  tiles : Tbl Tile := []
  ctxs : Tbl Ctx := []
  /-- command queues (function * 64 + queue) and event queues (function * 4 + queue) -/
  cqs : Tbl Cq := []
  evqs : Tbl Evq := []
  /-- descriptors fetched and not completed, in fetch order; the next descriptor identifier -/
  descs : List Desc := []
  nextDesc : Nat := 1
  /-- trigger slots (function * 256 + slot), slots that fired and wait in firing order, the identifiers that
  entered each function's stream (those still held are in it), firings since boot -/
  trigs : Tbl Trig := []
  firedWait : Tbl (List Nat) := []
  stream : Tbl (List Nat) := []
  firings : Tbl Nat := []
  /-- promoted queues (die * 8192 + function * 128 + queue), first promoted first; the queue last
  served (die * 4 + class) -/
  promoted : List Nat := []
  served : Tbl Nat := []
  /-- sync counters -/
  syn : Tbl Nat := []
  mboxes : Tbl Mbox := []
  mboxMem : Tbl Mem := []
  staging : List Staging := []
  copies : List ReadCopy := []
  fns : Tbl FnSt := []
  /-- action that waits until every function is fenced: 0 none, 1 RETIRE, 2 debug unlock -/
  lcWait : Nat := 0
  /-- the source that waits for its answer -/
  lcSrc : Option Src := none
  faults : List FaultRec := []
  faultSeq : Nat := 0
  resets : List ResetRun := []
  dieResetCount : Tbl Nat := []
  ports : Tbl Port := []
  switchq : Tbl (List Held) := []
  /-- bytes by which services 0 and 1 of an egress have drained while both waited
  ((die * 16 + egress) * 2 + service, R323) -/
  swShare : Tbl Nat := []
  abortsSeen : List (Nat × Nat) := []
  rates : Tbl (List Rate) := []
  txs : List TxMsg := []
  rxs : List RxMsg := []
  nextMsg : Nat := 1
  /-- transmissions so far, which number the order of sending -/
  txCount : Nat := 0
  eps : Tbl Ep := []
  pds : Tbl Pd := []
  regions : Tbl Region := []
  keys : Tbl Key := []
  ctxKeyGen : Tbl Nat := []
  parked : Tbl (List Pkt) := []
  lru : Tbl (List Nat) := []
  hss : List Hs := []
  nextHs : Nat := 1
  fuses : Fuses := {}
  mram : Mram := {}
  boot : Boot := {}
  vault : Tbl VSlot := []
  rng : Rng := {}
  pwr : Pwr := {}
  panel : Panel := {}
  dbg : Dbg := {}
  pcie : Pcie := {}
  /-- what the block has sent or answered, newest last -/
  sent : List Out := []
  /-- counter of free values (DESIGN CHOICE, log 11) -/
  free : Nat := 0
  deriving DecidableEq, Repr

/-- The module as it left manufacture, powered, with RESET_N held low: the fuses of package assembly burnt
(serial number, die manifest, first vendor key), no boot yet, every function UNCLEAN, every die in Idle
(R432, R488, R572, R573; DESIGN CHOICE, log 5). -/
def State.reset : State :=
  { fuses := {
      manifest := Config.sha256 (bytesOf 0 72)
      vendor0 := Config.sha256 (bytesOf Config.vendorKey 60) } }

end Sys2Proof.Machine
end

