-- ==== Sys2Proof/Machine/Ops.lean ====
section
/-!
DEFINITION. The named operations over the state that every family of commands shares: dictionary
entries and registers, the output log, interrupts, events, fault records, sync counters, contexts
and regions. The block has no exception entry; raising an interrupt, event or fault record is the
effect on the state these operations say once.
-/

namespace Sys2Proof.Machine

open Sys2Proof

/-- The outcome type of a meaning. -/
abbrev Res := Host.Outcome State Fault Refusal

/-! ### Dictionary entries -/

/-- Record n, subindex subLo + j of an entry. -/
def rdEj (s : State) (e : Ent) (n j : Nat) : Nat := tget s.od (entDflt e j) (entKey e n j)

/-- Record n of an entry with one subindex. -/
def rdE (s : State) (e : Ent) (n : Nat) : Nat := rdEj s e n 0

/-- Set record n, subindex subLo + j. -/
def wrEj (s : State) (e : Ent) (n j v : Nat) : State :=
  { s with od := tset s.od (entDflt e j) (entKey e n j) v }

/-- Set record n of an entry with one subindex. -/
def wrE (s : State) (e : Ent) (n v : Nat) : State := wrEj s e n 0 v

/-- Add to a counter entry, saturating at the type's greatest value (R368, R430, R524). -/
def addE (s : State) (e : Ent) (n x : Nat) : State :=
  wrE s e n (satAdd (2 ^ (8 * tyLen e.ty) - 1) (rdE s e n) x)

/-- Count one. -/
def bumpE (s : State) (e : Ent) (n : Nat) : State := addE s e n 1

/-- Take one from a count, not below 0. -/
def decE (s : State) (e : Ent) (n : Nat) : State := wrE s e n (rdE s e n - 1)

/-- A BAR2 register by its byte offset, with its reset value. -/
def rdB (s : State) (off dflt : Nat) : Nat := tget s.bar2 dflt off

/-- Set a BAR2 register. -/
def wrB (s : State) (off dflt v : Nat) : State := { s with bar2 := tset s.bar2 dflt off v }

/-- Add to a BAR2 counter of n bytes, saturating (R311, R326, R483). -/
def bumpB (s : State) (off nbytes x : Nat) : State :=
  wrB s off 0 (satAdd (2 ^ (8 * nbytes) - 1) (rdB s off 0) x)

/-! ### Output log and free values -/

/-- Append to the output log (DESIGN CHOICE, log 12). -/
def emit (s : State) (o : Out) : State := { s with sent := s.sent ++ [o] }

/-- Send a control packet under a key: the sender numbers them per key (R409). -/
def sendCtl (s : State) (key : Nat) (o : Nat → Out) : State :=
  let x := tget s.keys {} key
  emit { s with keys := if x.st = 1 then tset s.keys {} key { x with ctlNext := x.ctlNext + 1 } else s.keys } (o x.ctlNext)

/-- The next free value (DESIGN CHOICE, log 11). -/
def freshVal (s : State) : Nat := Config.freeNat s.free

/-- Consume a free value. -/
def freshNext (s : State) : State := { s with free := s.free + 1 }

/-! ### Records by number -/

/-- Context n. -/
def cx (s : State) (n : Nat) : Ctx := tget s.ctxs {} n

/-- Replace context n. -/
def setCx (s : State) (n : Nat) (c : Ctx) : State := { s with ctxs := tset s.ctxs {} n c }

/-- Command queue q of function f. -/
def cq (s : State) (f q : Nat) : Cq := tget s.cqs {} (f * 64 + q)

/-- Replace a command queue. -/
def setCq (s : State) (f q : Nat) (c : Cq) : State := { s with cqs := tset s.cqs {} (f * 64 + q) c }

/-- Event queue e of function f. -/
def evq (s : State) (f e : Nat) : Evq := tget s.evqs {} (f * 4 + e)

/-- Replace an event queue. -/
def setEvq (s : State) (f e : Nat) (v : Evq) : State := { s with evqs := tset s.evqs {} (f * 4 + e) v }

/-- Function f. -/
def fnSt (s : State) (f : Nat) : FnSt := tget s.fns {} f

/-- Replace function f. -/
def setFn (s : State) (f : Nat) (x : FnSt) : State := { s with fns := tset s.fns {} f x }

/-- Endpoint e. -/
def epOf (s : State) (e : Nat) : Ep := tget s.eps {} e

/-- Replace endpoint e. -/
def setEp (s : State) (e : Nat) (x : Ep) : State := { s with eps := tset s.eps {} e x }

/-- Region r. -/
def regionOf (s : State) (r : Nat) : Region := tget s.regions {} r

/-- Replace region r. -/
def setRegion (s : State) (r : Nat) (x : Region) : State := { s with regions := tset s.regions {} r x }

/-- Transport key k. -/
def keyOf (s : State) (k : Nat) : Key := tget s.keys {} k

/-- Replace transport key k. -/
def setKey (s : State) (k : Nat) (x : Key) : State := { s with keys := tset s.keys {} k x }

/-- Module port p. -/
def portOf (s : State) (p : Nat) : Port := tget s.ports {} p

/-- Replace module port p. -/
def setPort (s : State) (p : Nat) (x : Port) : State := { s with ports := tset s.ports {} p x }

/-- Thatch tile t of array a of die d. -/
def tileOf (s : State) (d a t : Nat) : Tile := tget s.tiles {} (d * 96 + a * 48 + t)

/-- Replace a tile. -/
def setTile (s : State) (d a t : Nat) (x : Tile) : State :=
  { s with tiles := tset s.tiles {} (d * 96 + a * 48 + t) x }

/-- The device memory of context n. (DEDUCED, log 7.) -/
def vmOf (s : State) (n : Nat) : Mem := tget s.vm [] n

/-- Replace the device memory of context n. -/
def setVm (s : State) (n : Nat) (m : Mem) : State := { s with vm := tset s.vm [] n m }

/-- The Loft of die d. -/
def loftOf (s : State) (d : Nat) : Mem := tget s.loft [] d

/-- Replace the Loft of die d. -/
def setLoft (s : State) (d : Nat) (m : Mem) : State := { s with loft := tset s.loft [] d m }

/-- Mailbox of function f. -/
def mboxOf (s : State) (f : Nat) : Mbox := tget s.mboxes {} f

/-- Replace the mailbox of function f. -/
def setMbox (s : State) (f : Nat) (m : Mbox) : State := { s with mboxes := tset s.mboxes {} f m }

/-! ### Functions, interrupts and events -/

/-- The function is FENCED or UNCLEAN (R34, R488). -/
def fnBlocked (s : State) (f : Nat) : Bool := rdE s eFnState f != fnOpen

/-- The firmware runs (R437, R531). -/
def running (s : State) : Bool := s.boot.st == 3

/-- The effective lifecycle code (R462): 0 BLANK, 1 DEV, 2 PROD, 3 DEBUG_OPEN, 4 RETIRED. (DEDUCED, log 128.) -/
def effLc (s : State) : Nat := if s.boot.debugOpen then 3 else s.boot.lc

/-- The sideband pins are live: the auxiliary rail is there and the module is not Off (R576). -/
def pinsUp (s : State) : Bool := s.pwr.aux && s.pwr.v48

/-- LED_ACT lights (R583). -/
def actLed (s : State) : State := { s with panel := { s.panel with ledAct := true } }

/-- The function's memory space is on: Memory Space Enable set and D-state D0 (R529, R535). -/
def memUp (s : State) (f : Nat) : Bool :=
  s.pcie.memOn.contains f && (if f = 0 then s.pcie.dstate == 0 else !s.pcie.vfD3.contains f)

/-- Work of the endpoint restores the link to full width and power (R526; DEDUCED, log 70). -/
def linkWork (s : State) : State := { s with pcie := { s.pcie with width := 8, l1 := false } }

/-- An MSI-X message of vector v cannot leave: its vector is masked, its function fenced or its memory space off. -/
def msixHeld (s : State) (f v : Nat) : Bool :=
  tget s.msix 1 (f * 1024 + 4 * v + 3) % 2 == 1 || fnBlocked s f || !memUp s f

/-- Send an MSI-X message of function f, or record it as pending while the vector is masked, the
function fenced, or its memory space off (R495, R529, R532). A vector is masked at reset. -/
def raiseMsix (s : State) (f v : Nat) : State :=
  if msixHeld s f v then
    { s with msixPend := tset s.msixPend 0 f (putBit (tget s.msixPend 0 f) v true) }
  else emit (linkWork s) (.msix f v)

/-- Send the pending messages of function f that nothing holds any longer (R532). -/
def flushMsix (s : State) (f : Nat) : State :=
  (setBits 256 (tget s.msixPend 0 f)).foldl (fun s v =>
    if msixHeld s f v then s
    else emit (linkWork { s with msixPend := tset s.msixPend 0 f (putBit (tget s.msixPend 0 f) v false) }) (.msix f v)) s

/-- The 16 bytes of an event-queue entry (R301). -/
def evEntry (ty ctx st queue source d0 d1 : Nat) : Nat :=
  1 + 2 ^ 8 * ty + 2 ^ 16 * ctx + 2 ^ 24 * st + 2 ^ 32 * queue + 2 ^ 48 * source
    + 2 ^ 64 * (d0 % 2 ^ 32) + 2 ^ 96 * (d1 % 2 ^ 32)

/-- Set LOST_BEFORE in the oldest entry held (R300, R303). -/
def markLost (l : List Nat) : List Nat :=
  match l with
  | [] => []
  | x :: r => putBit x 1 true :: r

/-- Write an entry to event queue e of function f (R302): discarded for a FENCED or UNCLEAN function
(R495, R511), dropped and counted while the queue is disabled or has depth 0, overwriting the oldest
when full (R296, R299). The vector is raised when the queue passes from empty to non-empty. (DEDUCED, log 17.) -/
def postEvent (s : State) (f e ent : Nat) : State :=
  if fnBlocked s f then s
  else
    let q := evq s f e
    if q.enable = false ∨ q.depth = 0 then
      setEvq s f e { q with lost := satAdd 0xFFFFFFFF q.lost 1, lostBefore := true }
    else
      let ent' := if q.lostBefore then putBit ent 1 true else ent
      if q.depth ≤ q.entries.length then
        setEvq s f e { q with
          entries := markLost (q.entries.tail ++ [ent'])
          lost := satAdd 0xFFFFFFFF q.lost 1
          lostBefore := false }
      else
        let s1 := setEvq s f e { q with entries := q.entries ++ [ent'], lostBefore := false }
        if q.entries.isEmpty then raiseMsix s1 f q.vector else s1

/-- Post a context event to event queue 0 of the owner (R302). -/
def ctxEvent (s : State) (n ty st d0 : Nat) : State :=
  postEvent s (cx s n).owner 0
    (evEntry ty n st 0xFFFF noUnit d0 (rdE s eRoundNumber n))

/-! ### Fault records -/

/-- Keep the last n of a list, newest last. -/
def keepLast {α : Type} (n : Nat) (l : List α) : List α := lastN n l

/-- Write a fault record (R508, R509, R511): number it, keep the last 256 in the log, copy it to MRAM
at LEVEL 2 or above or for TAMPER, and post its events. -/
def writeFault (s : State) (r : FaultRec) : State :=
  let r1 := { r with seq := s.faultSeq + 1, uptime := freshVal s, bootCount := s.mram.bootCount }
  let s1 := freshNext { s with faultSeq := s.faultSeq + 1 }
  let s2 := if 256 ≤ s1.faults.length then bumpE s1 eFaultLost 0 else s1
  let s3 := { s2 with faults := keepLast 256 (s2.faults ++ [r1]) }
  let s4 := if 2 ≤ r.level ∨ r.ty = ftTamper then
      { s3 with mram := { s3.mram with persist := (r1 :: s3.mram.persist).take 16 } }
    else s3
  let s5 := wrE s4 eFaultNewest 0 r1.seq
  let ent := evEntry r.ty r.ctx r.status r.queue r.source r1.seq 0
  let s6 := postEvent s5 0 0 ent
  if r.fn < 64 ∧ r.fn ≠ 0 then postEvent s6 r.fn 0 ent else s6

/-- A fault record that concerns no descriptor. -/
def plainFault (ty status level source detail : Nat) : FaultRec :=
  { ty := ty, status := status, level := level, source := source, detail := detail }

/-! ### Sync counters and triggers -/

/-- The function that owns block k, or 0xFF (R279). -/
def synOwnerOf (s : State) (k : Nat) : Nat :=
  if k < 128 then rdEj s eSynBlockLo 0 k else rdEj s eSynBlockHi 0 (k - 128)

/-- Sync counter c. -/
def synGet (s : State) (c : Nat) : Nat := tget s.syn 0 c

/-- A counter of a block of the function (R274, R278). -/
def ownsCounter (s : State) (f c : Nat) : Bool := decide (c < 16384) && synOwnerOf s (c / 64) == f

/-- After a change of counter c: every armed trigger on c that has not fired and whose counter is at
least its threshold fires, in increasing slot order, and waits for its stream (R288, R289). -/
def markTriggers (s : State) (c : Nat) : State :=
  let due := s.trigs.filter (fun t => !t.2.fired && t.2.counter == c && decide (t.2.threshold ≤ synGet s c))
  due.foldl (fun s t =>
    { s with
      trigs := tput s.trigs t.1 { t.2 with fired := true }
      firedWait := tset s.firedWait [] (t.1 / 256) (tget s.firedWait [] (t.1 / 256) ++ [t.1 % 256]) }) s

/-- After a change of counter c: every WAIT on c that has come to the front of its queue and whose threshold is
reached has its condition held from now on (R287): WAIT_EN set, and FENCE_BEFORE clear or no earlier descriptor
of its queue left. -/
def markWaits (s : State) (c : Nat) : State :=
  { s with descs := s.descs.map (fun d =>
      if d.phase == .held && fld d.raw 0 1 == 0x70 && bit (fld d.raw 1 1) 0 && fld d.raw 8 4 % 16384 == c &&
          decide (fld d.raw 12 4 ≤ synGet s c) &&
          !s.descs.any (fun x => x.fn == d.fn && x.queue == d.queue && decide (x.id < d.id) &&
            (x.phase == .held || bit (fld d.raw 1 1) 5)) then { d with aux := 1 } else d) }

/-- Set a counter (R278, R287). -/
def synSet (s : State) (c v : Nat) : State := markTriggers (markWaits { s with syn := tset s.syn 0 c v } c) c

/-- Add to a counter, saturating with a COUNTER_SATURATED event to event queue 0 of the block's owner
(R277, R302). -/
def synAdd (s : State) (c x : Nat) : State :=
  let v := synGet s c
  let s1 := synSet s c (satAdd 0xFFFFFFFF v x)
  if v + x ≤ 0xFFFFFFFF then s1
  else
    let o := synOwnerOf s (c / 64)
    if o < 64 then postEvent s1 o 0 (evEntry evCounterSat 0 0 0xFFFF noUnit c 0) else s1

/-! ### Contexts -/

/-- The context whose record an index belongs to (R34): the records of chapters 2 to 8 and 13, and
the job record. -/
def ctxOfIndex (index : Nat) : Option Nat :=
  if (0x5100 ≤ index ∧ index < 0x5C00) ∨ (0x3400 ≤ index ∧ index < 0x3500) then some (index % 256)
  else none

/-- Context n is a context of function f in CONFIGURED or ACTIVE (R269, R274). -/
def ctxLive (s : State) (f n : Nat) : Bool :=
  decide (n < 256) && (rdE s eCtxState n == cxConfigured || rdE s eCtxState n == cxActive) &&
    (cx s n).owner == f

/-- The entry as the round of context n copied it at OPEN (R37). -/
def rcEj (s : State) (e : Ent) (n j : Nat) : Nat := tget (cx s n).copy (entDflt e j) (entKey e n j)

/-- The round copy of an entry with one subindex (R37). -/
def rcE (s : State) (e : Ent) (n : Nat) : Nat := rcEj s e n 0

/-- The entries a round copies at OPEN: the configuration, format, Masked, Sealed, Shared,
accumulation and job records of the context (R37, R78, R99, R169, R188, R217, R333). -/
def copyIndices : List Nat := [0x5100, 0x5500, 0x5600, 0x5800, 0x5900, 0x5A00, 0x3400]

/-- The listed values of those records. -/
def roundCopyOf (s : State) (n : Nat) : Tbl Nat :=
  s.od.filter (fun kv => copyIndices.contains (kv.1 / 256 - n))

/-- The compute dies of a mask, rising (R25). -/
def diesOf (mask : Nat) : List Nat := setBits 6 mask

/-- The dies of the round of context n. -/
def roundDies (s : State) (n : Nat) : List Nat := diesOf (rcE s eDieMask n)

/-- The die that owns global row r when the dies are ds (R25). -/
def rowDie (ds : List Nat) (r : Nat) : Nat := ds.getD (r % ds.length) 0

/-- The number of global rows of L elements (R68). -/
def rowsOf (l : Nat) : Nat := cdiv l 1024

/-- Global rows of the round of context n. -/
def roundRows (s : State) (n : Nat) : Nat := rowsOf (rcE s eVectorLength n)

/-- The round state of context n. -/
def roundSt (s : State) (n : Nat) : Nat := rdE s eRoundState n

/-- Set ROUND_STATE and post its event (R301, R302). -/
def setRound (s : State) (n st status : Nat) : State :=
  ctxEvent (wrE s eRoundState n st) n evRoundState status st

/-- Record the status of a refusal or of a failed cohort (R36, R52). -/
def noteRefusal (s : State) (n st : Nat) : State := wrE s eLastRefusal n st

/-- Cohort k of context n. -/
def cohortOf (s : State) (n k : Nat) : Cohort := tget (cx s n).cohorts {} k

/-- Replace cohort k of context n. -/
def setCohort (s : State) (n k : Nat) (c : Cohort) : State :=
  setCx s n { cx s n with cohorts := tset (cx s n).cohorts {} k c }

/-- Die d is in service (R518, R524). -/
def inService (s : State) (d : Nat) : Bool := bits (rdE s eDieHealth 0) (2 * d + 1) (2 * d) != 2

/-- Power state of a die (R554): 1 Idle or Run, 2 Sleep, 3 Deep sleep; a die whose entry has been accepted
counts as asleep (R557). -/
def dieState (s : State) (d : Nat) : Nat :=
  let e := tget s.pwr.entering 0 d % 4
  if 2 ≤ e then e else tget s.pwr.die 1 d

/-- Work at a sleeping die wakes it on demand (R558): the wake is in progress until WAKE_COMPLETE; one that
meets an entry in progress follows it (R575). -/
def wakeOnDemand (s : State) (d : Nat) : State :=
  let e := tget s.pwr.entering 0 d
  if dieState s d < 2 ∨ e = 1 ∨ 4 ≤ e then s
  else { s with pwr := { s.pwr with entering := tput s.pwr.entering d (if e = 0 then 1 else e + 4) } }

/-- Every die a route of R19 crosses, ends included, is in service. -/
def routeUp (s : State) (a b : Nat) : Bool := (route a b).all (inService s)

/-- The die mask names a compute die that is out of service, or one whose route from RT or from a
port die in service crosses a compute die out of service (R27, R518). (DEDUCED, log 18.) -/
def maskBad (s : State) (mask : Nat) : Bool :=
  (diesOf mask).any (fun d => !inService s d ||
    ([diePd0, diePd1, dieRt].filter (inService s)).any (fun p =>
      (route p d).any (fun x => decide (x < 6) && !inService s x)))

/-- One region of context n, owned by f, not empty and with LOCAL set, holds the len bytes from a
(R379); a range of no bytes is no access. A function with an empty DRAM grant has every access
refused (R304, R493). -/
def localOk (s : State) (f n a len : Nat) : Bool :=
  len == 0 || (rdE s eDramCount f != 0 &&
    s.regions.any (fun r => r.2.st == 1 && r.2.owner == f && r.2.ctx == n && bit r.2.access 0 &&
      decide (r.2.base ≤ r.2.limit ∧ r.2.base ≤ a ∧ a + len ≤ r.2.limit + 1)))

end Sys2Proof.Machine
end

