-- ==== Sys2Proof/Machine/Operands.lean ====
section
/-!
DEFINITION. Descriptors: the fields of their 64 bytes (R272, R282, R286, R385 and the chapters'
tables), the dies that execute one (R270), eligibility (R273), and
the fault records that name one (R508).
-/

namespace Sys2Proof.Machine

open Sys2Proof

/-- n bytes of a descriptor from byte offset off (R4). -/
def df (d : Desc) (off n : Nat) : Nat := fld d.raw off n

/-- OPCODE. -/
def dOp (d : Desc) : Nat := df d 0 1
/-- FLAGS. -/
def dFlags (d : Desc) : Nat := df d 1 1
/-- WAIT_EN. -/
def dWaitEn (d : Desc) : Bool := bit (dFlags d) 0
/-- SIGNAL_EN. -/
def dSignalEn (d : Desc) : Bool := bit (dFlags d) 1
/-- SIGNAL_ALWAYS. -/
def dSignalAlways (d : Desc) : Bool := bit (dFlags d) 2
/-- RECORD. -/
def dRecord (d : Desc) : Bool := bit (dFlags d) 3
/-- EVENT. -/
def dEvent (d : Desc) : Bool := bit (dFlags d) 4
/-- FENCE_BEFORE. -/
def dFenceBefore (d : Desc) : Bool := bit (dFlags d) 5
/-- CONTEXT. -/
def dCtx (d : Desc) : Nat := df d 2 1
/-- QUEUE. -/
def dQueue (d : Desc) : Nat := df d 4 2
/-- WAIT_COUNTER, bits 13:0. -/
def dWaitCtr (d : Desc) : Nat := df d 8 4 % 16384
/-- WAIT_THRESHOLD. -/
def dWaitThr (d : Desc) : Nat := df d 12 4
/-- SIGNAL_COUNTER, bits 13:0. -/
def dSigCtr (d : Desc) : Nat := df d 16 4 % 16384
/-- SIGNAL_INCREMENT. -/
def dSigInc (d : Desc) : Nat := df d 20 4
/-- COMPLETION_ADDR. -/
def dRecAddr (d : Desc) : Nat := df d 24 8

/-- The assigned opcodes (R113, R141, R173, R198, R237, R281, R285, R385). -/
def opAssigned (op : Nat) : Bool :=
  op ≤ 0x02 || (0x10 ≤ op && op ≤ 0x17) || (0x20 ≤ op && op ≤ 0x22) || (0x30 ≤ op && op ≤ 0x35) ||
  (0x40 ≤ op && op ≤ 0x46) || (0x50 ≤ op && op ≤ 0x53) || (0x60 ≤ op && op ≤ 0x61) ||
  (0x70 ≤ op && op ≤ 0x74) || (0x80 ≤ op && op ≤ 0x82)

/-- A control opcode, which the fetcher executes (R285). -/
def isControl (op : Nat) : Bool := 0x70 ≤ op && op ≤ 0x74

/-- A transport opcode (R385). -/
def isTransport (op : Nat) : Bool := 0x80 ≤ op && op ≤ 0x82

/-- CONTEXT is reserved in WAIT, SIGNAL, NOP and in FENCE with SCOPE 0 or 2 (R272). -/
def ctxReserved (d : Desc) : Bool :=
  dOp d == 0x70 || dOp d == 0x71 || dOp d == 0x73 ||
    (dOp d == 0x72 && (df d 32 1 == 0 || df d 32 1 == 2))

/-- The descriptor with identifier i, if it is fetched and not completed. -/
def descOf (s : State) (i : Nat) : Option Desc := s.descs.find? (fun d => d.id == i)

/-- Replace a descriptor. -/
def setDesc (s : State) (d : Desc) : State :=
  { s with descs := s.descs.map (fun x => if x.id = d.id then d else x) }

/-- The die mask in force for a context: the round's while one is active, else the entry's (R37). -/
def maskOf (s : State) (n : Nat) : Nat :=
  if roundSt s n = rsNone then rdE s eDieMask n else rcE s eDieMask n

/-- The dies that execute a descriptor (R270). One that names no die that could run it (an unassigned
opcode, a DIE that is no compute die, a foreign context) waits in CD0's lane, where the checks refuse
it (DEDUCED, log 13). -/
def execDies (s : State) (d : Desc) : List Nat :=
  let op := dOp d
  let one (x : Nat) : List Nat := if x < 6 then [x] else [0]
  if isTransport op then [if df d 32 5 % 2 ^ 18 < 131072 then diePd0 else diePd1]
  else if op = 0x20 then one (df d 33 1)
  else if op = 0x21 then [(diesOf (maskOf s (dCtx d))).headD 0]
  else if 0x50 ≤ op ∧ op ≤ 0x53 then
    (if (diesOf (maskOf s (dCtx d))).isEmpty then [0] else diesOf (maskOf s (dCtx d)))
  else if opAssigned op then one (df d 32 1)
  else [0]

/-- Some earlier descriptor of its queue has not completed (R273, R287). -/
def earlierOpen (s : State) (d : Desc) : Bool :=
  s.descs.any (fun x => x.fn == d.fn && x.queue == d.queue && decide (x.id < d.id))

/-- It is the oldest unstarted descriptor of its queue on the die (R273). -/
def isHead (s : State) (d : Desc) (die : Nat) : Bool :=
  d.lanes.contains die && !s.descs.any (fun x => x.fn == d.fn && x.queue == d.queue &&
    decide (x.id < d.id) && x.lanes.contains die)

/-- The counter condition and FENCE_BEFORE (R273). -/
def condMet (s : State) (d : Desc) : Bool :=
  (!dWaitEn d || decide (dWaitThr d ≤ synGet s (dWaitCtr d))) &&
    (!dFenceBefore d || !earlierOpen s d)

/-- Eligible to start on a die (R273). -/
def eligible (s : State) (d : Desc) (die : Nat) : Bool := isHead s d die && condMet s d

/-- COMPLETION_ADDR is well formed: non-zero, a multiple of 32, bits 63:48 at 0 (R274 order 3). -/
def recAddrOk (d : Desc) : Bool :=
  dRecAddr d != 0 && dRecAddr d % 32 == 0 && decide (dRecAddr d < 2 ^ 48)

/-- The reserved bits and fields of bytes 0 to 31 are 0 (R272, R274 order 1). -/
def commonReservedZero (d : Desc) : Bool :=
  decide (dFlags d < 64) && df d 3 1 == 0 && df d 6 2 == 0 && decide (df d 8 4 < 16384) &&
    decide (df d 16 4 < 16384) && (dRecord d || dRecAddr d == 0) && (!ctxReserved d || dCtx d == 0)

/-- A fault record that names a descriptor (R508). -/
def descFault (d : Desc) (ty status level source detail : Nat) : FaultRec :=
  { ty := ty
    status := status
    level := level
    flags := if ctxReserved d then 1 else 3
    source := source
    ctx := if ctxReserved d then 0 else dCtx d
    fn := d.fn
    queue := d.queue
    opcode := dOp d
    sequence := d.seq
    descAddr := d.addr
    descSpace := d.space
    detail := detail }

/-- A fault record that names a context (R508). -/
def ctxFault (s : State) (n ty status level source detail : Nat) : FaultRec :=
  { ty := ty
    status := status
    level := level
    flags := 2
    source := source
    ctx := n
    fn := (cx s n).owner
    detail := detail }

/-- The unit or its die is being reset, halted or out of service (R512, R515, R518, R589). -/
def unitStopped (s : State) (die u : Nat) : Bool :=
  s.dbg.halted.contains (die * 32 + u) || !inService s die ||
    s.resets.any (fun r => if r.die then r.id == die else r.id == die * 32 + u)

/-- The descriptor makes no progress: an engine it occupies has not powered up, is halted or being reset, or
the module is frozen (R512, R515, R555, R589, R593). -/
def stalled (s : State) (d : Desc) : Bool :=
  s.pwr.frozen || d.engs.any (fun u => !s.pwr.powered.contains u || unitStopped s (u / 32) (u % 32))

/-- A range of an operand space: bits 63:48 clear of a 48-bit address and end within 2^48. -/
def in48 (a len : Nat) : Bool := decide (a + len ≤ 2 ^ 48)

end Sys2Proof.Machine
end

