-- ==== Sys2Proof/Machine/Areas.lean ====
section
/-!
DEFINITION. Where a context's areas lie (R66, R68, R109, R110, R196, R226) and which pairs of fields
must agree (R67, R92, R111, R197, R244): the context area, the mask workspace, the Shared workspace,
the scale and statistics tables, the key set's header, the Loft window, and the sources and
destinations that the rules forbid. The order of the parts of the context area is DEDUCED, log 8.
-/

namespace Sys2Proof.Machine

open Sys2Proof

/-- An entry as it is in force for a context: the round's copy while a round is not NONE, else the
record (R37, R248). -/
def cfgEj (s : State) (e : Ent) (n j : Nat) : Nat :=
  if roundSt s n = rsNone then rdEj s e n j else rcEj s e n j

/-- An entry with one subindex as it is in force. -/
def cfgE (s : State) (e : Ent) (n : Nat) : Nat := cfgEj s e n 0

/-- The tile that an adder-array descriptor or a reduction of a tile names (R222, R238). -/
def tileOfD (d : Desc) : Option Nat :=
  if (0x10 ≤ dOp d ∧ dOp d ≤ 0x17) ∨ ((dOp d = 0x60 ∨ dOp d = 0x61) ∧ bit (df d 38 1) 1 = true) then
    some (df d 32 1 * 96 + bits (df d 33 1) 7 7 * 48 + bits (df d 33 1) 5 0)
  else none
/-- The running descriptors on a tile. (DEDUCED, log 125.) -/
def onTile (s : State) (k : Nat) : List Desc := s.descs.filter (fun d => !d.started.isEmpty && tileOfD d == some k)

/-- An entry of a started descriptor's latch (R131, R218, R245, R248). -/
def latE (d : Desc) (e : Ent) (j : Nat) : Nat := tget d.latch (entDflt e j) (entKey e (dCtx d) j)

/-- Round up to a multiple of 64 KiB. -/
def kib64 (x : Nat) : Nat := 65536 * cdiv x 65536

/-- Global rows E. -/
def rowsE (s : State) (n : Nat) : Nat := rowsOf (cfgE s eVectorLength n)
/-- Dies of the mask in force. -/
def diesE (s : State) (n : Nat) : List Nat := diesOf (cfgE s eDieMask n)
/-- Elements L' of whole rows (R68). -/
def elemsE (s : State) (n : Nat) : Nat := 1024 * rowsE s n
/-- Rows of die position k: E_k (R95). -/
def rowsOfPos (s : State) (n k : Nat) : Nat := cdiv (rowsE s n - k) (diesE s n).length
/-- Position of a die in the mask. -/
def posOf (s : State) (n die : Nat) : Nat := (diesE s n).findIdx (· == die)
/-- Global row of local row h on a die. -/
def globalRow (s : State) (n die h : Nat) : Nat := posOf s n die + (diesE s n).length * h
/-- Ring elements of die position k: I_k (R95). -/
def ringOfPos (s : State) (n k : Nat) : Nat := cdiv (rowsOfPos s n k) 64
/-- Sum over the die positions. -/
def sumPos (s : State) (n : Nat) (f : Nat → Nat) : Nat :=
  ((List.range (diesE s n).length).map f).sum
/-- Ring elements of the round: I (R95). -/
def ringElems (s : State) (n : Nat) : Nat := sumPos s n (ringOfPos s n)

/-- Cohort size C (R46). -/
def cohortSize (s : State) (n : Nat) : Nat := 2 ^ cfgE s eCohortExp n
/-- Cohorts of a round (R46). -/
def cohortsOf (s : State) (n : Nat) : Nat := 2 ^ (21 - cfgE s eCohortExp n)

/-- Modes permitted: fixed at OPEN for a round, else the policy's. -/
def modesE (s : State) (n : Nat) : Nat :=
  if roundSt s n = rsNone then rdE s ePermittedModes n else (cx s n).modes

/-- The total type that the permitted modes fix (R61). -/
def ttOf (modes : Nat) : Nat :=
  if bit modes 4 then ttSealed
  else if bit modes 1 then ttPair
  else if modes = 8 then ttShared
  else ttInt32

/-- Total type of the round, as fixed at OPEN. -/
def ttE (s : State) (n : Nat) : Nat := ttOf (modesE s n)

/-- The type of the clear words the ridge adds into: the round total's, or the clear subtotal's of a
SEALED round (R66). -/
def clearTt (s : State) (n : Nat) : Nat :=
  if ttE s n = ttSealed then (if bit (modesE s n) 1 then ttPair else ttInt32) else ttE s n

/-- Bytes per element of clear words (R68). -/
def clearB (s : State) (n : Nat) : Nat := if clearTt s n = ttPair then 8 else 4

/-! ### Key-set header (R158) -/

/-- Base of the key set of die position k (R170). -/
def ksBase (s : State) (n k : Nat) : Nat := cfgE s eKeysetBase n + k * cfgE s eKeysetStride n
/-- A field of the header at die position k. (DEDUCED, log 26.) -/
def ksFld (s : State) (n k off len : Nat) : Nat := mrd (vmOf s n) (ksBase s n k + off) len
/-- LOG_N. -/
def ksLogN (s : State) (n : Nat) : Nat := ksFld s n 0 1 1
/-- L. -/
def ksOrd (s : State) (n : Nat) : Nat := ksFld s n 0 2 1
/-- k. -/
def ksSpec (s : State) (n : Nat) : Nat := ksFld s n 0 3 1
/-- t. -/
def ksT (s : State) (n : Nat) : Nat := ksFld s n 0 20 4

/-- Rows per ciphertext ρ (R156). -/
def rhoE (s : State) (n : Nat) : Nat := 2 ^ ksLogN s n / 1024
/-- Ciphertexts of die position k (R156). -/
def ctsOfPos (s : State) (n k : Nat) : Nat := cdiv (rowsOfPos s n k) (rhoE s n)
/-- I_s (R164). -/
def ctsE (s : State) (n : Nat) : Nat := sumPos s n (ctsOfPos s n)
/-- Bytes of a ciphertext slot (R164). -/
def ctSlot (s : State) (n : Nat) : Nat := kib64 (4096 + 8 * ksOrd s n * 2 ^ ksLogN s n)

/-! ### Context area -/

/-- Base of the context area. -/
def areaBase (s : State) (n : Nat) : Nat := cfgE s eAreaBase n
/-- Base of the round total: after the 256 KiB ledger (DEDUCED, log 8). -/
def totalBase (s : State) (n : Nat) : Nat := areaBase s n + 262144
/-- Bytes of the round total (R68, R109, R164). -/
def totalSize (s : State) (n : Nat) : Nat :=
  if ttE s n = ttSealed then ctsE s n * ctSlot s n
  else kib64 ((if ttE s n = ttPair then 8 else 4) * elemsE s n)
/-- Base of the clear subtotal of a SEALED round (R66). -/
def subBase (s : State) (n : Nat) : Nat := totalBase s n + totalSize s n
/-- Its bytes. -/
def subSize (s : State) (n : Nat) : Nat :=
  if ttE s n = ttSealed then kib64 (clearB s n * elemsE s n) else 0
/-- Base of the words the ridge adds clear sums into (R66). -/
def clearBase (s : State) (n : Nat) : Nat :=
  if ttE s n = ttSealed then subBase s n else totalBase s n
/-- p of FLOAT_PART. -/
def partP (s : State) (n : Nat) : Nat := bits (cfgE s eFloatPart n) 1 0
/-- The part index. -/
def partX (s : State) (n : Nat) : Nat := bits (cfgE s eFloatPart n) 4 2
/-- The round stack, which counts as an accumulator of a round with an FP32 pair total (R226). -/
def stackSize (s : State) (n : Nat) : Nat :=
  if ttE s n = ttPair then kib64 ((22 - partP s n - cfgE s eCohortExp n) * 8 * elemsE s n) else 0
/-- Bytes of a cohort accumulator (R109, R164, R226). -/
def accSize (s : State) (n mode : Nat) : Nat :=
  if mode = mdClearFloat then
    kib64 ((cfgE s eCohortExp n + 1) * 8 * elemsE s n) + kib64 (cfgE s eFloatWindow n * 4 * elemsE s n)
  else if mode = mdMasked then kib64 (elemsE s n * (cfgE s eLaneWidth n / 8))
  else if mode = mdSealed then ctsE s n * ctSlot s n
  else kib64 (4 * elemsE s n)
/-- A live cohort (R109). -/
def coLive (c : Cohort) : Bool := c.st == .opened || c.st == .shut
/-- Bytes of the live cohorts' accumulators. -/
def liveSize (s : State) (n : Nat) : Nat :=
  (((cx s n).cohorts.filter (fun c => coLive c.2)).map (fun c => accSize s n c.2.mode)).sum
/-- The area holds everything that counts, with `extra` bytes more (R67). -/
def areaHolds (s : State) (n extra : Nat) : Bool :=
  decide (262144 + totalSize s n + subSize s n + stackSize s n + liveSize s n + extra ≤ cfgE s eAreaSize n)
/-- AREA_BASE and AREA_SIZE agree (R67). -/
def areaPairOk (s : State) (n : Nat) : Bool :=
  decide (0 < cfgE s eAreaSize n) && in48 (areaBase s n) (cfgE s eAreaSize n)

/-! ### Mask workspace (R110) -/

/-- Expansion buffer bytes. -/
def expSize (s : State) (n : Nat) : Nat := kib64 (elemsE s n * (cfgE s eLaneWidth n / 8))
/-- Committee size in force at OPEN (R107), or now outside a round. -/
def committeeE (s : State) (n : Nat) : Nat :=
  if roundSt s n = rsNone then rdE s eCommitteeSize n else (cx s n).committee
/-- Bytes of one share buffer. -/
def bufSize (s : State) (n : Nat) : Nat := 65536 + 524288 + expSize s n + committeeE s n * 524288
/-- Base of share buffer b. -/
def bufBase (s : State) (n b : Nat) : Nat :=
  cfgE s eWorkBase n + ringElems s n * 524288 + b * bufSize s n
/-- Bytes the workspace must hold. -/
def workNeed (s : State) (n : Nat) : Nat :=
  ringElems s n * 524288 + cfgE s eShareBuffers n * bufSize s n

/-! ### Scale and statistics tables -/

/-- Bytes of the scale table. -/
def scaleSize (s : State) (n : Nat) : Nat := if cfgE s eScaleBase n = 0 then 0 else 4 * rowsE s n
/-- Bytes of the statistics table. -/
def statsSize (s : State) (n : Nat) : Nat := if cfgE s eStatsBase n = 0 then 0 else 16 * rowsE s n

/-- The table pairs of R92. -/
def tablesOk (s : State) (n : Nat) : Bool :=
  in48 (cfgE s eScaleBase n) (scaleSize s n) && in48 (cfgE s eStatsBase n) (statsSize s n) &&
    !overlaps (cfgE s eScaleBase n) (scaleSize s n) (cfgE s eStatsBase n) (statsSize s n) &&
    !overlaps (cfgE s eScaleBase n) (scaleSize s n) (areaBase s n) (cfgE s eAreaSize n) &&
    !overlaps (cfgE s eStatsBase n) (statsSize s n) (areaBase s n) (cfgE s eAreaSize n)

/-- The mask-workspace pairs of R111. -/
def workOk (s : State) (n : Nat) : Bool :=
  let b := cfgE s eWorkBase n
  let z := cfgE s eWorkSize n
  decide (0 < z) && in48 b z && decide (workNeed s n ≤ z) &&
    !overlaps b z (areaBase s n) (cfgE s eAreaSize n) &&
    !overlaps b z (cfgE s eScaleBase n) (scaleSize s n) &&
    !overlaps b z (cfgE s eStatsBase n) (statsSize s n)

/-- GUARD_BITS, COHORT_EXP, LANE_WIDTH and CONTRIB_BITS agree (R67, R87). -/
def laneOk (s : State) (n : Nat) : Bool :=
  let c := (cfgE s eLaneWidth n - 1 - cfgE s eContribBits n) / 2
  cfgE s eGuardBits n == c + 1 && decide (cfgE s eCohortExp n ≤ c)

/-! ### Shared workspace (R196) -/

/-- Bytes of one share vector in round-total layout, padded. -/
def shVec (s : State) (n : Nat) : Nat := kib64 (4096 * rowsE s n)
/-- Offset of the shared subtotal. -/
def shSubOff (s : State) (n : Nat) : Nat := kib64 (32 * cohortsOf s n) + 65536
/-- Bytes of the shared subtotal. -/
def shSubSize (s : State) (n : Nat) : Nat := if ttE s n = ttShared then 0 else shVec s n
/-- Offset of the receive areas. -/
def shRecvOff (s : State) (n : Nat) : Nat := shSubOff s n + shSubSize s n
/-- Offset of the Beaver exchange area. -/
def shBeaverOff (s : State) (n : Nat) : Nat := shRecvOff s n + (cfgE s ePartyCount n - 1) * shVec s n
/-- Offset of the triple pool. -/
def shPoolOff (s : State) (n : Nat) : Nat := shBeaverOff s n + cfgE s ePartyCount n * 2097152
/-- Offset of the share scratch, which is the rest. -/
def shScratchOff (s : State) (n : Nat) : Nat := shPoolOff s n + kib64 (cfgE s eTripleBatches n * 12288)
/-- Base of the shared total (R191). -/
def shTotalBase (s : State) (n : Nat) : Nat :=
  if ttE s n = ttShared then totalBase s n else cfgE s eShWorkBase n + shSubOff s n

/-- The module's own identity key hash (R188, R449). -/
def ownKeyHash (s : State) : Nat := Config.sha256 (bytesOf s.boot.idPub 60)

/-- The Shared pairs of R197 but for the triples'. -/
def sharedOk (s : State) (n : Nat) : Bool :=
  let b := cfgE s eShWorkBase n
  let z := cfgE s eShWorkSize n
  let k1 := cfgE s ePeer1Key n
  let k2 := cfgE s ePeer2Key n
  decide (cfgE s ePartyIndex n < cfgE s ePartyCount n) &&
    k1 != 0 && k1 != ownKeyHash s &&
    (cfgE s ePartyCount n == 2 || (k2 != 0 && k2 != k1 && k2 != ownKeyHash s)) &&
    cfgE s ePartnerSetId n != 0 &&
    decide (0 < z) && in48 b z && decide (shScratchOff s n ≤ z) &&
    !overlaps b z (areaBase s n) (cfgE s eAreaSize n) &&
    !overlaps b z (cfgE s eScaleBase n) (scaleSize s n) &&
    !overlaps b z (cfgE s eStatsBase n) (statsSize s n) &&
    !overlaps b z (cfgE s eWorkBase n) (cfgE s eWorkSize n)

/-! ### Forbidden sources and destinations -/

/-- The range meets the cohort accumulators: the context area past the total and subtotal (R54). -/
def inAccum (s : State) (n a len : Nat) : Bool :=
  roundSt s n != rsNone &&
    overlaps a len (subBase s n + subSize s n) (areaBase s n + cfgE s eAreaSize n - (subBase s n + subSize s n))
/-- The range meets the round total's rows. -/
def inTotal (s : State) (n a len : Nat) : Bool :=
  roundSt s n != rsNone && overlaps a len (totalBase s n) (totalSize s n)
/-- The range meets the clear subtotal (R66). -/
def inSubtotal (s : State) (n a len : Nat) : Bool :=
  roundSt s n != rsNone && overlaps a len (subBase s n) (subSize s n)
/-- The range meets a seed-sum slot, expansion buffer or member slot (R112). -/
def inShareBufs (s : State) (n a len : Nat) : Bool :=
  roundSt s n != rsNone && bit (modesE s n) 2 &&
    (List.range (cfgE s eShareBuffers n)).any (fun b =>
      overlaps a len (bufBase s n b + 65536) (bufSize s n - 65536))
/-- The range meets a range where a key share is stored, which holds it until DESTROY scrubs it (R182, R183). -/
def inKeyShare (s : State) (n a len : Nat) : Bool := (cx s n).kshare.any (fun r => overlaps a len r.1 r.2)
/-- The round uses the Shared workspace: Shared was permitted at OPEN, or a Shared cohort opened under a policy
written since (R58). -/
def sharedIn (s : State) (n : Nat) : Bool := bit (modesE s n) 3 || (cx s n).shInit
/-- The range meets the shared total, receive areas, Beaver area, pool or scratch (R192). -/
def inShared (s : State) (n a len : Nat) : Bool :=
  roundSt s n != rsNone && sharedIn s n &&
    (overlaps a len (cfgE s eShWorkBase n + shSubOff s n) (cfgE s eShWorkSize n - shSubOff s n) ||
      (ttE s n == ttShared && rdE s eTotalType n == ttShared && inTotal s n a len))

/-- A source that R54, R112, R183, R192 or R66 forbids. -/
def srcForbidden (s : State) (n a len : Nat) : Bool :=
  inAccum s n a len || inShareBufs s n a len || inKeyShare s n a len || inShared s n a len ||
    inSubtotal s n a len

/-- The range meets the scale or the statistics table. -/
def inTables (s : State) (n a len : Nat) : Bool :=
  overlaps a len (cfgE s eScaleBase n) (scaleSize s n) || overlaps a len (cfgE s eStatsBase n) (statsSize s n)

/-- The destination meets a table from the acceptance of OPEN until the round is NONE again (R79). -/
def dstTables (s : State) (n a len : Nat) : Bool :=
  (roundSt s n != rsNone || (cx s n).opening) && inTables s n a len

/-- R58 for an export: the round is READY and MERGED is at least MIN_CONTRIBUTORS. -/
def exportOk (s : State) (n : Nat) : Bool :=
  roundSt s n == rsReady && decide (rdE s eMinContributors n ≤ rdE s eMerged n)

/-! ### Loft (R129, R131, R136) -/

/-- Two Loft windows share a byte. -/
def windowsMeet (a b c d : Nat) : Bool := decide (a ≤ b ∧ c ≤ d ∧ a ≤ d ∧ c ≤ b)

/-- The dies of the masks of two contexts meet: a window covers the same range on each die of the mask, and
of no other (R129). -/
def masksMeet (s : State) (n m : Nat) : Bool := (diesOf (maskOf s n)).any (diesOf (maskOf s m)).contains

/-- The context's window meets that of a live context of another tenant on some die (R129, R136). -/
def loftShared (s : State) (n : Nat) : Bool :=
  (List.range 256).any (fun m =>
    (cx s m).owner != (cx s n).owner && (rdE s eCtxState m == cxConfigured || rdE s eCtxState m == cxActive) &&
      masksMeet s n m &&
      windowsMeet (rdE s eLoftFirst n) (rdE s eLoftLast n) (rdE s eLoftFirst m) (rdE s eLoftLast m))

/-- The bytes lie in the Loft window that the descriptor latches at its start, where this is checked, and no
other tenant's window overlaps it then (R131, R136). -/
def loftOk (s : State) (d : Desc) (a len : Nat) : Bool :=
  len == 0 || (decide (latE d eLoftFirst 0 ≤ latE d eLoftLast 0 ∧ 65536 * latE d eLoftFirst 0 ≤ a ∧
    a + len ≤ 65536 * (latE d eLoftLast 0 + 1)) && !loftShared s (dCtx d))

/-- An operand lies in the Loft window, or in one region of the context. -/
def operandOk (s : State) (d : Desc) (loft : Bool) (a len : Nat) : Bool :=
  if loft then loftOk s d a len else localOk s d.fn (dCtx d) a len

/-- The memory an operand lies in, on a die. -/
def opMem (s : State) (d : Desc) (die : Nat) (loft : Bool) : Mem :=
  if loft then loftOf s die else vmOf s (dCtx d)

/-- Free bytes over a range: what a read would find in an accumulator or share buffer, whose bytes the spec does
not lay out (DEDUCED, log 25). Every descriptor that names one as a source is refused first. -/
def hiddenView (s : State) (n a len : Nat) (m : Mem) : Mem :=
  if inAccum s n a len || inShareBufs s n a len then
    (List.range len).foldl (fun m i => mset m (a + i) (BitVec.ofNat 8 (Config.freeNat (2 ^ 64 * (s.free + 1) + i)))) m
  else m

/-- The memory a source operand is read from. -/
def srcMem (s : State) (d : Desc) (die : Nat) (loft : Bool) (a len : Nat) : Mem :=
  if loft then loftOf s die else hiddenView s (dCtx d) a len (vmOf s (dCtx d))

/-- Replace the memory an operand lies in. -/
def setOpMem (s : State) (d : Desc) (die : Nat) (loft : Bool) (m : Mem) : State :=
  if loft then setLoft s die m else setVm s (dCtx d) m

/-- Write n free bytes from address a (DESIGN CHOICE, log 11). -/
def mfree (m : Mem) (a k : Nat) : Nat → Mem
  | 0 => m
  | n + 1 => mfree (mset m (a + n) (BitVec.ofNat 8 (Config.freeNat (k + n)))) a k n

/-- Bytes of an element of the round's total words. -/
def totalWidth (s : State) (n : Nat) : Nat := if ttE s n = ttPair then 8 else 4

/-- How many bytes of round-total words are padding (R76). Totals of shares and ciphertexts are not in such words. -/
def padBytes (s : State) (n : Nat) : Nat :=
  if roundSt s n = rsNone ∨ ttE s n = ttSealed ∨ ttE s n = ttShared then 0
  else totalWidth s n * (elemsE s n - cfgE s eVectorLength n)

/-- What an export of round-total rows reads: the words of the padding elements j ≥ L never leave (R76), and what
stands in their place is not given: free values (DESIGN CHOICE, log 148). -/
def exportView (s : State) (n : Nat) (m : Mem) : Mem :=
  mfree m (totalBase s n + totalWidth s n * cfgE s eVectorLength n) s.free (padBytes s n)

/-- Consume the free values of an export from a range that holds round-total rows. -/
def exportTake (s : State) (n a len : Nat) : State :=
  if inTotal s n a len then { s with free := s.free + padBytes s n } else s

/-! ### Rows -/

/-- The words of one row of 1,024 elements of b bytes at address a. -/
def rowRead (m : Mem) (a b : Nat) : List Nat := (List.range 1024).map (fun j => mrd m (a + b * j) b)

/-- Write words of b bytes from address a. -/
def rowWrite (m : Mem) (a b : Nat) : List Nat → Mem
  | [] => m
  | w :: ws => rowWrite (mwr m a b w) (a + b) b ws

/-- The 1,024 words of a sparse table from element e. -/
def tblRow (t : Tbl Nat) (e : Nat) : List Nat := (List.range 1024).map (fun j => tget t 0 (e + j))

/-- Σ (2ℓ + 1)·x over a row from lane l on (R420). -/
def weightedSum : List Int → Nat → Int
  | [], _ => 0
  | x :: r, l => (2 * l + 1) * x + weightedSum r (l + 1)

/-- The linear check value of a row modulo m (R420). -/
def linCheck (m : Nat) (xs : List Int) : Nat := (weightedSum xs 0 % (m : Int)).toNat

/-- The same of unsigned words. -/
def linCheckN (m : Nat) (xs : List Nat) : Nat := linCheck m (xs.map Int.ofNat)

/-- The check value held for the row at address a of a context's total or share vector (R421). -/
def chkAt (s : State) (n a : Nat) : Nat := tget (cx s n).chk 0 a

/-- Hold a row's check value in the check store. -/
def setChk (s : State) (n a v : Nat) : State := setCx s n { cx s n with chk := tset (cx s n).chk 0 a v }

/-- Put 1,024 words into a sparse table from element e. -/
def tblRowSet (t : Tbl Nat) (e : Nat) : List Nat → Tbl Nat
  | [] => t
  | w :: ws => tblRowSet (tset t 0 e w) (e + 1) ws

/-- Set bits of a row's flags in the row-flag map (R225): SATURATION is the OR of bit 0, and
RANGE_FAULT_ROWS counts the rows with bit 1. -/
def flagRow (s : State) (n r v : Nat) : State :=
  let c := cx s n
  let rf := tset c.rowFlags 0 r (tget c.rowFlags 0 r ||| v)
  let s1 := setCx s n { c with rowFlags := rf }
  let s2 := wrE s1 eSaturation n (b2n (rf.any (fun x => bit x.2 0)))
  wrE s2 eRangeFaultRows n (rf.filter (fun x => bit x.2 1)).length

/-- Add one row of integers into the die's rows of the round total, or of the clear subtotal in a
SEALED round (R62, R66, R227): a saturating INT32 addition per element, whose clamp sets the row's
saturation flag (R225). The check values add (R421); a clamp's is formed from the output (R422). -/
def addClearRow (s : State) (n r : Nat) (xs : List Int) : State :=
  let b := clearB s n
  let a := clearBase s n + b * 1024 * r
  let old := (rowRead (vmOf s n) a b).map (fun w => toS 32 (w % 2 ^ 32))
  let raw := List.zipWith (· + ·) old xs
  let new := raw.map (clampI (-(2 ^ 31)) (2 ^ 31 - 1))
  let s1 := setVm s n (rowWrite (vmOf s n) a b (new.map (ofS 32)))
  if raw = new then setChk s1 n a ((chkAt s n a + linCheck (2 ^ 32) xs) % 2 ^ 32)
  else flagRow (setChk s1 n a (linCheck (2 ^ 32) new)) n r 1

/-- Add one row modulo 2^32 into the shared total, and its check value (R191, R421). -/
def addSharedRow (s : State) (n r : Nat) (xs : List Nat) : State :=
  let a := shTotalBase s n + 4096 * r
  let old := rowRead (vmOf s n) a 4
  setChk (setVm s n (rowWrite (vmOf s n) a 4 (List.zipWith (fun x y => (x + y) % 2 ^ 32) old xs))) n a
    ((chkAt s n a + linCheckN (2 ^ 32) xs) % 2 ^ 32)

/-! ### Ledger (R48) -/

/-- The ledger bit of a slot. -/
def ledgerBit (s : State) (n slot : Nat) : Bool :=
  bit (mget (vmOf s n) (areaBase s n + slot / 8)).toNat (slot % 8)

/-- Set the ledger bit of a slot. -/
def setLedger (s : State) (n slot : Nat) : State :=
  let a := areaBase s n + slot / 8
  setVm s n (mset (vmOf s n) a (BitVec.ofNat 8 (putBit (mget (vmOf s n) a).toNat (slot % 8) true)))

/-- The survivor set of cohort k (R51). -/
def survivorSet (s : State) (n k : Nat) : List Nat :=
  ((List.range (cohortSize s n)).map (fun x => k * cohortSize s n + x)).filter (ledgerBit s n)

/-- The survivor count. -/
def survivors (s : State) (n k : Nat) : Nat := (survivorSet s n k).length

/-- ceil(C / 8) bytes of a cohort's ledger bits (R104). -/
def cohortBits (s : State) (n k : Nat) : List Nat :=
  (List.range (cdiv (cohortSize s n) 8)).map (fun y => (List.range 8).foldl (fun a x =>
    a + b2n (decide (8 * y + x < cohortSize s n) && ledgerBit s n (k * cohortSize s n + 8 * y + x)) * 2 ^ x) 0)

end Sys2Proof.Machine
end

