-- ==== Sys2Proof/Machine/Complete.lean ====
section
/-!
DEFINITION. The common checks of a descriptor (R274) and its completion with its record, signal and event (R275,
R276, R301).
-/

namespace Sys2Proof.Machine

open Sys2Proof

/-- The common checks of R274; the first failure decides. A record that would be written into a table that R79
makes read-only refuses with ACCESS too. -/
def commonCheck (s : State) (d : Desc) : Option Nat :=
  if !(opAssigned (dOp d) && commonReservedZero d) then some stUnsupported
  else if fnBlocked s d.fn then some stFenced
  else if dQueue d != d.queue || (dRecord d && (!recAddrOk d || ctxReserved d)) then some stParam
  else if (!ctxReserved d && !ctxLive s d.fn (dCtx d)) ||
      (dWaitEn d && !ownsCounter s d.fn (dWaitCtr d)) ||
      (dSignalEn d && !ownsCounter s d.fn (dSigCtr d)) ||
      (dRecord d && (!localOk s d.fn (dCtx d) (dRecAddr d) 32 || dstTables s (dCtx d) (dRecAddr d) 32)) then some stAccess
  else none

/-- The record's address passes every check of R275, and does not lie in a table that is read-only (R79). -/
def recordOk (s : State) (d : Desc) : Bool :=
  dRecord d && recAddrOk d && !ctxReserved d && ctxLive s d.fn (dCtx d) &&
    localOk s d.fn (dCtx d) (dRecAddr d) 32 && !dstTables s (dCtx d) (dRecAddr d) 32

/-- The signal is sent: SIGNAL_EN with outcome W, or SIGNAL_ALWAYS (R276). -/
def signals (d : Desc) (st : Nat) : Bool := dSignalEn d && (outcomeW st || dSignalAlways d)

/-- The 32 bytes of a completion record (R275). QUEUE_WAIT and EXEC_CYCLES are free values (DESIGN CHOICE, log 11). -/
def recordOf (s : State) (d : Desc) (st detail : Nat) : Nat :=
  st + 2 ^ 8 * dOp d + 2 ^ 16 * dCtx d + 2 ^ 24 * (b2n (signals d st) + 2 * b2n d.promoted)
    + 2 ^ 32 * dQueue d + 2 ^ 48 * d.unit + 2 ^ 64 * (d.seq % 2 ^ 32) + 2 ^ 96 * (detail % 2 ^ 32)
    + 2 ^ 128 * (Config.freeNat s.free % 2 ^ 32) + 2 ^ 160 * (Config.freeNat (s.free + 1) % 2 ^ 32)

/-- The event queue that receives the completion events of a queue (R302); the trigger stream has no
EVQ field of its own, and its events go to event queue 0 (DEDUCED, log 14). -/
def evqOf (s : State) (f q : Nat) : Nat := if q < 64 then (cq s f q).evq else 0

/-- The counter of a completion that signals (R276): SIGNAL with OP 1 sets it in place of the addition,
whatever its status (R287). -/
def signalOf (s : State) (d : Desc) : State :=
  if dOp d = 0x71 ∧ df d 32 1 = 1 then synSet s (dSigCtr d) (dSigInc d) else synAdd s (dSigCtr d) (dSigInc d)

/-- Complete a descriptor with a status and its DETAIL (R275, R276, R601): the record if its address passes,
then the signal, then the event, which names the queue the descriptor came through (R301); the descriptor
leaves the machine. -/
def completeDesc (s : State) (d : Desc) (st detail : Nat) : State :=
  let s1 := if recordOk s d then
      setVm s (dCtx d) (mwr (vmOf s (dCtx d)) (dRecAddr d) 32 (recordOf s d st detail))
    else s
  let s2 := { s1 with descs := s1.descs.filter (fun x => x.id != d.id), free := s1.free + 2 }
  let s3 := if signals d st then signalOf s2 d else s2
  if dEvent d then
    postEvent s3 d.fn (evqOf s d.fn d.queue)
      (evEntry evCompletion (dCtx d) st d.queue d.unit d.seq (dOp d))
  else s3

/-- A refusal of outcome N: no engine ran, DETAIL 0 (R13, R601). -/
def refuseDesc (s : State) (d : Desc) (st : Nat) : State :=
  completeDesc s { d with unit := noUnit } st 0

end Sys2Proof.Machine
end

