-- ==== Sys2Proof/Machine/Layout.lean ====
section
/-!
DEFINITION. What travels as bytes: the ST header (R344), the payloads of control packets (R346, R348, R356, R358),
message protection (R343, R408), the published headers around an ST packet over Ethernet in network byte order
(R5, R319, R353), the LMS and HSS encodings (R406), and the messages at an ADMISSION endpoint (R105, R182, R210,
R425, R429) and of a session (R404).
-/

namespace Sys2Proof.Machine

open Sys2Proof

/-- The n low bytes of v, most significant first: network byte order (R5). -/
def beBytes (v n : Nat) : List Nat := (bytesOf v n).reverse

/-- n bytes from address a as a number in network byte order. -/
def beRd (m : Mem) (a n : Nat) : Nat := ofBytes (mbytes m a n).reverse

/-- A memory that holds a byte list from address a. -/
def putBytes (m : Mem) (a : Nat) : List Nat → Mem
  | [] => m
  | b :: r => putBytes (mset m a (BitVec.ofNat 8 b)) (a + 1) r

/-- The non-zero of n words of w bytes from address a. -/
def tabOf (m : Mem) (a w n : Nat) : Tbl Nat :=
  ((List.range n).map (fun i => (i, mrd m (a + w * i) w))).filter (fun x => x.2 != 0)

/-- Write a table of words of w bytes from address a. -/
def putTab (m : Mem) (a w : Nat) (t : Tbl Nat) : Mem := t.foldl (fun m x => mwr m (a + w * x.1) w x.2) m

/-! ### The ST header (R344) -/

/-- The 64 bytes of a header, as a little-endian number (R4). -/
def hdrNum (k : Pkt) : Nat :=
  k.ty + 2 ^ 4 * k.ver + 2 ^ 8 * (b2n k.last + 2 * b2n k.cm + 4 * b2n k.dateline + 8 * b2n k.retx + 16 * b2n k.solicit)
    + 2 ^ 16 * k.hops + 2 ^ 24 * k.path + 2 ^ 32 * k.dstModule + 2 ^ 48 * (k.srcModule + 2 ^ 15 * b2n k.ext)
    + 2 ^ 64 * (k.dstEp + 2 ^ 18 * k.tclass + 2 ^ 24 * k.service) + 2 ^ 96 * k.srcEp + 2 ^ 128 * k.msgSeq
    + 2 ^ 160 * k.pktIndex + 2 ^ 192 * k.msgPkts + 2 ^ 224 * k.payloadLen + 2 ^ 240 * k.keyGen + 2 ^ 256 * k.keyId
    + 2 ^ 272 * k.region + 2 ^ 288 * k.regionGen + 2 ^ 304 * k.addr + 2 ^ 352 * k.imm + 2 ^ 384 * k.echo

/-- A reserved bit of the header is set. -/
def hdrRsv (w : Nat) : Bool :=
  bits w 15 13 != 0 || bit w 23 || bit w 47 || bits w 95 90 != 0 || bits w 127 114 != 0 || bits w 191 184 != 0 ||
    bits w 223 216 != 0 || bits w 511 416 != 0

/-- The header that 64 bytes spell. -/
def hdrOf (w : Nat) : Pkt :=
  { ver := bits w 7 4, ty := bits w 3 0, last := bit w 8, cm := bit w 9, dateline := bit w 10, retx := bit w 11,
    solicit := bit w 12, rsv := hdrRsv w, hops := bits w 22 16, path := bits w 31 24, dstModule := bits w 46 32,
    srcModule := bits w 62 48, ext := bit w 63, dstEp := bits w 81 64, tclass := bits w 87 82, service := bits w 89 88,
    srcEp := bits w 113 96, msgSeq := bits w 159 128, pktIndex := bits w 183 160, msgPkts := bits w 215 192,
    payloadLen := bits w 239 224, keyGen := bits w 255 240, keyId := bits w 271 256, region := bits w 287 272,
    regionGen := bits w 303 288, addr := bits w 351 304, imm := bits w 383 352, echo := bits w 415 384 }

/-! ### Message protection (R343, R408) -/

/-- A data type: WRITE, SEND, READ_REQ or READ_RESP. -/
def isData (ty : Nat) : Bool := 1 ≤ ty && ty ≤ 4

/-- The header as the tag sees it: HOPS, PATH, FLAGS bits 1 to 4 and ECHO_TIME change on the way (R343). -/
def tagView (k : Pkt) : Pkt :=
  { k with cm := false, dateline := false, retx := false, solicit := false, hops := 0, path := 0, echo := 0 }

/-- The additional data: bytes 0 to 47 of the last packet's header (R408). -/
def gcmAad (k : Pkt) : List Nat := bytesOf (hdrNum (tagView k)) 48

/-- The 12 bytes of the IV (R408): MSG_SEQ or the control counter, the endpoints, TYPE and DIR, which is 1 for the
session's responder. -/
def gcmIv (resp : Bool) (k : Pkt) : List Nat :=
  bytesOf (if isData k.ty then k.msgSeq else k.imm) 4 ++ bytesOf (k.srcEp + 2 ^ 24 * k.ty + 2 ^ 31 * b2n resp) 4 ++
    bytesOf k.dstEp 4

/-- The counter block of bytes 16 i to 16 i + 15 of packet k's payload (R408). -/
def gcmCounter (iv : List Nat) (k i : Nat) : List Nat := iv ++ beBytes (2 + 256 * k + i) 4

/-- Byte x of the payload of packet k, encrypted or decrypted. -/
def gcmByte (key : Nat) (iv : List Nat) (k x b : Nat) : Nat :=
  b ^^^ fld (Config.aesBlock key (gcmCounter iv k (x / 16))) (x % 16) 1

/-- The payload of a packet after encryption (R408). -/
def gcmPayload (key : Nat) (resp : Bool) (k : Pkt) : Mem :=
  putBytes [] 0 ((List.range k.payloadLen).map (fun x => gcmByte key (gcmIv resp k) k.pktIndex x (mget k.payload x).toNat))

/-- The tag of a message of len bytes whose last packet has header k (R343, R408): over the additional data and
the encrypted bytes of all its packets. -/
def gcmTagOf (key : Nat) (resp : Bool) (k : Pkt) (msg : Mem) (len : Nat) : Nat :=
  Config.gcmTag key (gcmIv resp k) (gcmAad k)
    ((List.range len).map (fun x => gcmByte key (gcmIv resp k) (x / 4096) (x % 4096) (mget msg x).toNat))

/-- A packet as it leaves: its payload encrypted, and with the last one the tag of the message (R343). -/
def sealPkt (x : Key) (k : Pkt) (msg : Mem) (len : Nat) : Pkt :=
  { k with
    payload := gcmPayload x.msgKey x.resp k
    tag := if k.last then gcmTagOf x.msgKey x.resp k msg len else 0 }

/-- The bytes of an ST packet: header, payload, and the tag of a last packet (R343). -/
def stBytes (k : Pkt) : List Nat :=
  bytesOf (hdrNum k) 64 ++ mbytes k.payload 0 k.payloadLen ++ (if k.last then bytesOf k.tag 16 else [])

/-- Bytes of a packet on the wire: header, payload and the tag of a last packet. -/
def pktBytes (k : Pkt) : Nat := 64 + k.payloadLen + (if k.last then 16 else 0)

/-! ### Control packets (R346, R348, R356, R358) -/

/-- A control packet under a key, with its counter in IMMEDIATE (R346, R409). -/
def ctlPkt (s : State) (key ty dst src seq ctr : Nat) (payload : List Nat) : Pkt :=
  let x := keyOf s key
  let k : Pkt :=
    { ty := ty, dstModule := if x.form = 1 then x.peer else 0, srcModule := rdE s eModuleId 0, dstEp := dst,
      tclass := x.peerTclass, service := if ty < 11 then 2 else 3, srcEp := src, msgSeq := seq, payloadLen := payload.length,
      keyGen := x.gen, keyId := key, imm := ctr, payload := putBytes [] 0 payload }
  sealPkt x k k.payload k.payloadLen

/-- The 64 bytes of an ACK (R356). -/
def ackPayload (cum rx sack echo ce : Nat) (delivered : Bool) : List Nat :=
  bytesOf cum 4 ++ bytesOf rx 4 ++ bytesOf sack 32 ++ bytesOf echo 4 ++ bytesOf ce 2 ++ [b2n delivered] ++ List.replicate 17 0

/-- The 16 bytes of a STATUS (R358). -/
def statusPayload (code idx : Nat) : List Nat := bytesOf code 4 ++ bytesOf idx 4 ++ List.replicate 8 0

/-- The 16 bytes of an ABORT (R348). -/
def abortPayload (job round cause origin : Nat) : List Nat :=
  bytesOf job 4 ++ bytesOf round 4 ++ bytesOf cause 2 ++ bytesOf origin 2 ++ bytesOf 0 4

/-- JOB_ID, ROUND_NUMBER, CAUSE and ORIGIN of an ABORT's payload, and whether its reserved bytes are 0 (R348). -/
def abortOf (m : Mem) : Nat × Nat × Nat × Nat × Bool :=
  (mrd m 0 4, mrd m 4 4, mrd m 8 1, mrd m 10 2 % 2 ^ 15, mrd m 9 1 == 0 && !bit (mrd m 10 2) 15 && mrd m 12 4 == 0)

/-- The payload of a READ_REQ (R346). -/
def readReqBytes (addr region gen len : Nat) : List Nat :=
  bytesOf addr 6 ++ bytesOf region 2 ++ bytesOf gen 2 ++ bytesOf 0 6 ++ bytesOf len 8 ++ bytesOf 0 8

/-! ### Ethernet, IP and UDP (R5, R319, R353) -/

/-- The 16-bit words of a byte list added up, most significant byte first. -/
def sum16 : List Nat → Nat
  | a :: b :: r => 256 * a + b + sum16 r
  | [a] => 256 * a
  | [] => 0

/-- The Internet checksum: the ones' complement of the ones' complement sum. -/
def inetSum (l : List Nat) : Nat :=
  let a := sum16 l % 65536 + sum16 l / 65536
  0xFFFF - (a % 65536 + a / 65536)

/-- An address is IPv4, mapped into IPv6 (R382): bytes 0 to 9 are 0 and bytes 10 and 11 are 0xFF. -/
def isV4 (a : Nat) : Bool := a % 2 ^ 80 == 0 && fld a 10 2 == 0xFFFF

/-- The bytes of an address in a header: 16, or the last 4 of a mapped one. -/
def ipBytes (a : Nat) : List Nat := if isV4 a then (bytesOf a 16).drop 12 else bytesOf a 16

/-- The pseudo header that a UDP checksum covers. -/
def pseudoHdr (src dst len : Nat) : List Nat :=
  ipBytes src ++ ipBytes dst ++ (if isV4 dst then [0, 17] ++ beBytes len 2 else beBytes len 4 ++ [0, 0, 0, 17])

/-- A UDP datagram with its checksum; a computed 0 is sent as all ones (R353). -/
def udpBytes (src dst sport dport : Nat) (data : List Nat) : List Nat :=
  let len := 8 + data.length
  let h := beBytes sport 2 ++ beBytes dport 2 ++ beBytes len 2
  let c := inetSum (pseudoHdr src dst len ++ h ++ [0, 0] ++ data)
  h ++ beBytes (if c = 0 then 0xFFFF else c) 2 ++ data

/-- The IPv6 header of a UDP datagram: DSCP and ECT(0), the flow label, the hop limit (R353). -/
def ipv6Bytes (src dst dscp label hop : Nat) (udp : List Nat) : List Nat :=
  beBytes (6 * 2 ^ 28 + (4 * dscp + 2) * 2 ^ 20 + label) 4 ++ beBytes udp.length 2 ++ [17, hop] ++
    ipBytes src ++ ipBytes dst ++ udp

/-- The IPv4 header of a UDP datagram: DF 1, identification 0 (R353). -/
def ipv4Bytes (src dst dscp ttl : Nat) (udp : List Nat) : List Nat :=
  let a := [0x45, 4 * dscp + 2] ++ beBytes (20 + udp.length) 2 ++ [0, 0, 0x40, 0, ttl, 17]
  let b := ipBytes src ++ ipBytes dst
  a ++ beBytes (inetSum (a ++ [0, 0] ++ b)) 2 ++ b ++ udp

/-- One bit of the IEEE 802.3 check sequence (polynomial 0x04C11DB7, reflected). -/
def fcsStep (c : Nat) : Nat := if c % 2 = 1 then (c / 2) ^^^ 0xEDB88320 else c / 2

/-- One byte of it. -/
def fcsByte (c b : Nat) : Nat := fcsStep (fcsStep (fcsStep (fcsStep (fcsStep (fcsStep (fcsStep (fcsStep (c ^^^ b))))))))

/-- An Ethernet frame: addresses, the one 802.1Q tag of a VLAN_ID that is not 0, type, padding and FCS (R319, R321). -/
def ethBytes (dst src vlan ty : Nat) (data : List Nat) : List Nat :=
  let h := bytesOf dst 6 ++ bytesOf src 6 ++ (if vlan = 0 then [] else beBytes 0x8100 2 ++ beBytes vlan 2) ++ beBytes ty 2 ++ data
  let p := h ++ List.replicate (60 - h.length) 0
  p ++ bytesOf ((p.foldl fcsByte 0xFFFFFFFF) ^^^ 0xFFFFFFFF) 4

/-- DSCP of a service (R368). -/
def dscpOf (s : State) (sv : Nat) : Nat := bits (rdE s eDscpMap 0) (6 * sv + 5) (6 * sv)

/-- Logical port lp of MAC p as an IP source: its IPv4 address mapped, or its IPv6 address (R321). -/
def lpAddr (s : State) (p lp dst : Nat) : Nat :=
  if isV4 dst then 2 ^ 80 * 0xFFFF + 2 ^ 96 * ofBytes (beBytes (rdEj s eLpKIpv4 p lp) 4) else rdEj s eLpKIpv6 p lp

/-- The frame that carries an ST packet to an external peer (R319, R321, R353): `mac` is the next hop's address, and
UDP source port and flow label carry PATH. -/
def frameOut (s : State) (p lp mac dst port : Nat) (k : Pkt) : List Nat :=
  let src := lpAddr s p lp dst
  let u := udpBytes src dst (0xC000 + k.path) port (stBytes k)
  ethBytes mac (rdEj s eLpKMac p lp) (rdE s eVlanId p) (if isV4 dst then 0x0800 else 0x86DD)
    (if isV4 dst then ipv4Bytes src dst (dscpOf s k.service) (rdE s eHopLimit 0) u
     else ipv6Bytes src dst (dscpOf s k.service) k.path (rdE s eHopLimit 0) u)

/-- The 802.1Q tags of a received frame. -/
def frTags (m : Mem) : Nat := if beRd m 12 2 ≠ 0x8100 then 0 else if beRd m 16 2 ≠ 0x8100 then 1 else 2
/-- Its VLAN identifier. -/
def frVlan (m : Mem) : Nat := beRd m 14 2 % 4096
/-- Its type. -/
def frType (m : Mem) : Nat := beRd m (12 + 4 * frTags m) 2
/-- Where its network header begins. -/
def frL3 (m : Mem) : Nat := 14 + 4 * frTags m
/-- The frame is IPv4. -/
def frV4 (m : Mem) : Bool := frType m == 0x0800
/-- The frame is IP. -/
def frIp (m : Mem) : Bool := frV4 m || frType m == 0x86DD
/-- Bytes of its network header. -/
def frIpLen (m : Mem) : Nat := if frV4 m then 4 * (mrd m (frL3 m) 1 % 16) else 40
/-- The protocol inside it. -/
def frProto (m : Mem) : Nat := mrd m (frL3 m + (if frV4 m then 9 else 6)) 1
/-- Where that protocol's header begins. -/
def frL4 (m : Mem) : Nat := frL3 m + frIpLen m
/-- It is a fragment: IPv4 with MF or an offset, IPv6 with a fragment header (R319). -/
def frFragment (m : Mem) : Bool :=
  frIp m && (if frV4 m then beRd m (frL3 m + 6) 2 % 16384 != 0 else frProto m == 44)
/-- CE stands in its ECN field (R319, R353). -/
def frCe (m : Mem) : Bool := bits (if frV4 m then mrd m (frL3 m + 1) 1 else beRd m (frL3 m) 2 / 16) 1 0 == 3
/-- Its source address, an IPv4 one mapped. -/
def frSrc (m : Mem) : Nat :=
  if frV4 m then 2 ^ 80 * 0xFFFF + 2 ^ 96 * mrd m (frL3 m + 12) 4 else mrd m (frL3 m + 8) 16
/-- Its destination address. -/
def frDst (m : Mem) : Nat :=
  if frV4 m then 2 ^ 80 * 0xFFFF + 2 ^ 96 * mrd m (frL3 m + 16) 4 else mrd m (frL3 m + 24) 16
/-- It is UDP. -/
def frUdp (m : Mem) : Bool := frIp m && !frFragment m && frProto m == 17
/-- The UDP destination port. -/
def frPort (m : Mem) : Nat := beRd m (frL4 m + 2) 2
/-- The UDP checksum holds; 0 is accepted over IPv4 only (R353). -/
def frSumOk (m : Mem) : Bool :=
  let len := beRd m (frL4 m + 4) 2
  if beRd m (frL4 m + 6) 2 = 0 then frV4 m
  else inetSum (pseudoHdr (frSrc m) (frDst m) len ++ mbytes m (frL4 m) len) == 0
/-- ARP, IPv6 Neighbour Discovery, or ICMP or ICMPv6 echo (R320). -/
def frAnswered (m : Mem) : Bool :=
  frType m == 0x0806 || (frIp m && !frFragment m && (if frV4 m then frProto m == 1 && mrd m (frL4 m) 1 == 8
    else frProto m == 58 && (mrd m (frL4 m) 1 == 128 || (133 ≤ mrd m (frL4 m) 1 && mrd m (frL4 m) 1 ≤ 137))))
/-- The ST packet inside a UDP frame: CE is a congestion mark, and the sender is known by its address (R353). -/
def frPkt (m : Mem) : Pkt :=
  let a := frL4 m + 8
  let k := hdrOf (mrd m a 64)
  { k with
    cm := k.cm || frCe m
    payload := mcut m (a + 64) k.payloadLen
    tag := if k.last then mrd m (a + 64 + k.payloadLen) 16 else 0
    eth := true
    addr6 := frSrc m }

/-! ### LMS and HSS (R406; RFC 8554) -/

/-- The 56 bytes of an LMS public key: its type (6, 7 and 8 for heights 10, 15 and 20), the one-time type (3 for W4, 4 for
W8), the identifier I and the root, as RFC 8554 orders them. -/
def lmsPubT (lms ots i root : Nat) : List Nat := beBytes lms 4 ++ beBytes ots 4 ++ bytesOf i 16 ++ bytesOf root 32

/-- An LMS signature: leaf q, the one-time signature of y bytes, the type and a path of p bytes; `g` is the value of the
signature's free parts. -/
def lmsSigT (lms ots y p q g : Nat) : List Nat :=
  beBytes q 4 ++ beBytes ots 4 ++ bytesOf g 32 ++ bytesOf (g / 2 ^ 256) y ++ beBytes lms 4 ++
    bytesOf (g / 2 ^ (256 + 8 * y)) p

/-- An alias public key (R449): height 10, W8. -/
def lmsPub (i root : Nat) : List Nat := lmsPubT 6 4 i root

/-- An alias signature: 1,452 bytes. -/
def lmsSig (q g : Nat) : List Nat := lmsSigT 6 4 1088 320 q g

/-- The HSS encoding of an LMS public key with L = 1 (R406). -/
def hssPub (pub : List Nat) : List Nat := beBytes 1 4 ++ pub

/-- The HSS encoding of an LMS signature with L = 1 (R406). -/
def hssSig (sig : List Nat) : List Nat := beBytes 0 4 ++ sig

/-! ### Messages at an ADMISSION endpoint -/

/-- A share message (R105). -/
def shareOf (m : Mem) (len : Nat) : ShareMsg :=
  { len := len, msgType := mrd m 0 1, member := mrd m 1 1, rsvZero := mrd m 2 2 == 0 && mrd m 48 16 == 0, round := mrd m 4 4,
    cohort := mrd m 8 4, survivors := mrd m 12 4, digest := mrd m 16 32, coeffs := tabOf m 64 8 65536 }

/-- A key-share message (R182). -/
def keyShareOf (m : Mem) (len : Nat) : KeyShareMsg :=
  { len := len, msgType := mrd m 0 1, member := mrd m 1 1, rsvZero := mrd m 2 2 == 0 && mrd m 18 46 == 0,
    keySetId := mrd m 4 4, tag := mrd m 8 8, logN := mrd m 16 1, limbs := mrd m 17 1, words := tabOf m 64 4 ((len - 64) / 4) }

/-- Rows of block b of an exchange of cnt rows (R210). -/
def exchangeRows (cnt b : Nat) : Nat := min 256 (cnt - 256 * b)

/-- The length of an exchange message (R210, R211): a handshake carries no data, an Open block its rows, a Beaver
block each row twice; none where the block lies beyond the rows. -/
def exchangeLen (ty cnt b : Nat) : Option Nat :=
  if b = 0xFFFFFFFF then some 64
  else if exchangeRows cnt b = 0 then none
  else some (64 + 4096 * exchangeRows cnt b * (if ty = 0x11 then 2 else 1))

/-- An Open or Beaver message (R210). -/
def exchangeOf (m : Mem) (len : Nat) : ExchangeMsg :=
  let open_ := mrd m 0 1 == 0x10
  { msgType := mrd m 0 1, party := mrd m 1 1, op := mrd m 2 1, len := len, setId := mrd m 4 4, round := mrd m 8 4,
    rsvZero := mrd m 3 1 == 0 && mrd m 60 4 == 0 && (open_ || mrd m 28 32 == 0),
    rowFirst := mrd m 12 4, rowCount := mrd m 16 4, block := mrd m 20 4, merged := mrd m 24 4, digest := mrd m 28 32,
    words := tabOf m 64 4 ((len - 64) / 4) }

/-- The bytes of an Open or Beaver message (R210). -/
def exchangeBytes (x : ExchangeMsg) : Mem :=
  putTab (mwr [] 0 60 (x.msgType + 2 ^ 8 * x.party + 2 ^ 16 * x.op + 2 ^ 32 * x.setId + 2 ^ 64 * x.round + 2 ^ 96 * x.rowFirst
    + 2 ^ 128 * x.rowCount + 2 ^ 160 * x.block + 2 ^ 192 * x.merged + 2 ^ 224 * x.digest)) 64 4 x.words

/-- A triple batch (R210). -/
def tripleOfBytes (m : Mem) (len : Nat) : TripleMsg :=
  { party := mrd m 1 1, rsvZero := mrd m 2 2 == 0 && mrd m 16 48 == 0, len := len, setId := mrd m 4 4, round := mrd m 8 4,
    batch := mrd m 12 4, words := tabOf m 64 4 3072 }

/-- A segment of a child's total (R425): header page, then the rows in round-total layout. -/
def importOf (m : Mem) (len : Nat) : ImportMsg :=
  let h (a n : Nat) : Nat := mrd m a n
  { copy := h 1 1, ty := h 2 1, attempt := h 3 1, job := h 4 4, round := h 8 4, rowFirst := h 12 4, rowCount := h 16 4,
    merged := h 20 4, child := h 24 2, tagP := h 26 1, tagX := h 27 1, rsvZero := h 28 36 == 0 && h 1152 2944 == 0,
    checks := tabOf m 64 4 256,
    flags := ((List.range 256).map (fun i => (i, mrd m (1088 + i / 4) 1 / 4 ^ (i % 4) % 4))).filter (fun x => x.2 != 0),
    words := tabOf m 4096 4 ((len - 4096) / 4) }

/-- The header page of a segment. -/
def importHead (x : ImportMsg) : Nat :=
  0x30 + 2 ^ 8 * x.copy + 2 ^ 16 * x.ty + 2 ^ 24 * x.attempt + 2 ^ 32 * x.job + 2 ^ 64 * x.round + 2 ^ 96 * x.rowFirst
    + 2 ^ 128 * x.rowCount + 2 ^ 160 * x.merged + 2 ^ 192 * x.child + 2 ^ 208 * x.tagP + 2 ^ 216 * x.tagX
    + 2 ^ 512 * (x.checks.map (fun c => c.2 * 2 ^ (32 * c.1))).sum
    + 2 ^ 8704 * (x.flags.map (fun f => f.2 * 2 ^ (2 * f.1))).sum

/-- The bytes of a segment. -/
def importBytes (x : ImportMsg) : Mem := putTab (mwr [] 0 1152 (importHead x)) 4096 4 x.words

/-- A RECOMBINE (0x31) or ROOT_DIGEST (0x32) message (R429). -/
def ridgeOf (m : Mem) (len : Nat) : RidgeMsg :=
  let root := mrd m 0 1 == 0x32
  { len := len
    rsvZero := mrd m 3 1 == 0 && mrd m 26 6 == 0 && (root || (mrd m 1 2 == 0 && mrd m 16 8 == 0 && mrd m 32 32 == 0))
    copy := mrd m 1 1, attempt := mrd m 2 1, job := mrd m 4 4, round := mrd m 8 4, rowFirst := mrd m 12 4, rowCount := mrd m 16 4,
    merged := mrd m 20 4, moduleId := mrd m 24 2, digest := mrd m 32 32 }

/-- The 64 bytes of a RECOMBINE or ROOT_DIGEST. -/
def ridgeBytes (ty : Nat) (x : RidgeMsg) : Mem :=
  mwr [] 0 64 (ty + 2 ^ 8 * x.copy + 2 ^ 16 * x.attempt + 2 ^ 32 * x.job + 2 ^ 64 * x.round + 2 ^ 96 * x.rowFirst
    + 2 ^ 128 * x.rowCount + 2 ^ 160 * x.merged + 2 ^ 192 * x.moduleId + 2 ^ 256 * x.digest)

/-! ### Session messages (R404, R405) -/

/-- HELLO: 1,640 bytes. -/
def helloBytes (h : HelloMsg) : List Nat :=
  [1, h.kind, h.context, h.member] ++ bytesOf h.initEp 4 ++ bytesOf h.nonce 32 ++ bytesOf h.x25519 32 ++ bytesOf h.kem 1568

/-- REPLY without its signature: bytes 0 to 1,643. -/
def replyHead (kind keyId keyGen ep nonce x25519 ct : Nat) : List Nat :=
  [2, kind] ++ bytesOf keyId 2 ++ bytesOf keyGen 2 ++ [0, 0] ++ bytesOf ep 4 ++ bytesOf nonce 32 ++ bytesOf x25519 32 ++ bytesOf ct 1568

/-- FINISH: 100 bytes and the signature. -/
def finishBytes (kind keyId confirm : Nat) (pub sig : List Nat) : List Nat :=
  [3, kind] ++ bytesOf keyId 2 ++ bytesOf confirm 32 ++ bytesOf sig.length 2 ++ [0, 0] ++ pub ++ sig

/-- ACCEPT: 16 bytes. -/
def acceptBytes (st keyId keyGen : Nat) : List Nat := [4, st] ++ bytesOf keyId 2 ++ bytesOf keyGen 2 ++ List.replicate 10 0

/-- CLOSE: 16 bytes. -/
def closeBytes (keyId : Nat) : List Nat := [5, 0] ++ bytesOf keyId 2 ++ List.replicate 12 0

/-- CREDENTIAL PART p: 4,092, 4,092 or 1,720 bytes of the bundle. -/
def credBytes (kind p : Nat) (bundle : List Nat) : List Nat := [6, kind, p, 0] ++ (bundle.drop (4092 * p)).take 4092

/-- PRK of a session or a link (R405, R442). -/
def prkOf (t ss : Nat) : Nat := Config.kdf t [] (bytesOf ss 64)

/-- ASCII "ELASH-ST-KEY". -/
def lblStKey : List Nat := [69, 76, 65, 83, 72, 45, 83, 84, 45, 75, 69, 89]
/-- ASCII "ELASH-ST-CONFIRM". -/
def lblStConfirm : List Nat := [69, 76, 65, 83, 72, 45, 83, 84, 45, 67, 79, 78, 70, 73, 82, 77]
/-- ASCII "ELASH-LINK". -/
def lblLink : List Nat := [69, 76, 65, 83, 72, 45, 76, 73, 78, 75]

/-- The message key K (R405). -/
def sessionKey (t ss keyId keyGen : Nat) : Nat := Config.kdf (prkOf t ss) lblStKey (bytesOf keyId 2 ++ bytesOf keyGen 2)

/-- CONFIRM (R405). -/
def confirmOf (t ss : Nat) : Nat := Config.kdf (Config.kdf (prkOf t ss) lblStConfirm []) [] (bytesOf t 32)

/-- The key of frames from module a to module b, for rekey count e (R440, R442). -/
def linkKeyOf (t ss a b e : Nat) : Nat := Config.kdf (prkOf t ss) lblLink (bytesOf a 2 ++ bytesOf b 2 ++ bytesOf e 4)

/-! ### The fabric certificate (R316) -/

/-- MODULE_ID, FABRIC_ID, KEY_HASH and EPOCH of a certificate, and whether its version and reserved bytes are as
R316 gives. -/
def fabricCertOf (w : Nat) : Nat × Nat × Nat × Nat × Bool :=
  (fld w 2 2 % 2 ^ 15, fld w 4 4, fld w 8 32, fld w 40 4, fld w 0 1 == 1 && fld w 1 1 == 0 && !bit (fld w 2 2) 15 && fld w 44 20 == 0)

end Sys2Proof.Machine
end

