-- ==== Sys2Proof/Machine/Tx.lean ====
section
/-!
DEFINITION. Messages being sent: their packets (R342), what is acknowledged of them (R387), and their
settlement in a stream (R389). Shared by the transport and by everything that ends a descriptor.
-/

namespace Sys2Proof.Machine

open Sys2Proof

/-- MSG_PKTS of a message of len bytes (R342). -/
def msgPkts (len : Nat) : Nat := max 1 (cdiv len 4096)

/-- Payload bytes of packet i of a message of len bytes (R342). -/
def pktLen (len i : Nat) : Nat := min 4096 (len - 4096 * i)

/-- The message that a descriptor is sending. -/
def txOf (s : State) (d : Desc) : Option TxMsg := s.txs.find? (fun t => t.desc == d.id)

/-- Bytes acknowledged as held (R387). -/
def txHeld (t : TxMsg) : Nat := ((t.pkts.filter (fun p => p.2.held)).map (fun p => pktLen t.len p.1)).sum

/-- Replace a message being sent. -/
def setTx (s : State) (t : TxMsg) : State := { s with txs := mapIf (fun x => x.id == t.id) (fun _ => t) s.txs }

/-- Move a lowest unsettled number past every settled one; `fuel` bounds the list. -/
def advancePast (fuel low : Nat) (l : List Nat) : Nat :=
  match fuel with
  | 0 => low
  | f + 1 => if l.contains low then advancePast f (low + 1) l else low

/-- The stream slot of an endpoint for a key and a peer endpoint (R388). -/
def strmOf (s : State) (e key peer : Nat) : Option Strm :=
  (epOf s e).streams.find? (fun x => x.key == key && x.peer == peer)

/-- Replace a stream slot. -/
def setStrm (s : State) (e : Nat) (x : Strm) : State :=
  setEp s e { epOf s e with
    streams := mapIf (fun y => y.key == x.key && y.peer == x.peer) (fun _ => x) (epOf s e).streams }

/-- A message that a stream sends is settled when it completes (R389). -/
def settleTx (s : State) (t : TxMsg) : State :=
  match strmOf s t.ep t.hdr.keyId t.hdr.dstEp with
  | none => s
  | some x =>
    let l := t.hdr.msgSeq :: x.txSettled
    let low := advancePast l.length x.txLow l
    setStrm s t.ep { x with
      txLow := low
      txSettled := l.filter (fun q => decide (low ≤ q)) }

/-- A message leaves the sender: it is retransmitted no more, and a stream's message is settled. A
READ_RESP carries the number of the request and belongs to no stream of the responder (DEDUCED, log 44). -/
def dropTx (s : State) (t : TxMsg) : State :=
  let s1 := { s with txs := s.txs.filter (fun x => x.id != t.id) }
  if t.hdr.ty = 4 then s1 else settleTx s1 t

/-- DETAIL of a transport descriptor: bytes acknowledged as held, or for ST_READ the bytes of its
READ_RESP placed (R387). -/
def txDetail (t : TxMsg) : Nat := if t.hdr.ty = 3 then t.placed else txHeld t

/-- End a transport descriptor in progress with a status (R15, R387). -/
def endTransport (s : State) (d : Desc) (st : Nat) : State :=
  match txOf s d with
  | none => completeDesc s d st 0
  | some t => completeDesc (dropTx s t) d st (txDetail t % 2 ^ 32)

/-! ### The module's own messages (R404, R411) -/

/-- The home die of an endpoint (R370). -/
def homeDie (e : Nat) : Nat := if e < 131072 then diePd0 else diePd1

/-- Destination of a key in the rate cache: a module identifier, or an address and port above 2^16 (R366). -/
def dstOf (x : Key) : Nat := if x.form = 1 then x.peer else 65536 + x.peerPort + 65536 * x.peer

/-- A message of the module itself to the peer of a session: a SEND from the session's endpoint with the key's next
number, whose packets leave like any other's (R342, R411; DESIGN CHOICE, log 150). Without a LIVE key, or with the
numbers used up (R409), none leaves. -/
def ownSend (s : State) (key : Nat) (msg : Mem) (len : Nat) : State :=
  let x := keyOf s key
  if x.st ≠ 1 ∨ 2 ^ 32 - 1 ≤ x.sendNext then s
  else
    let hdr : Pkt :=
      { ty := 2, dstModule := if x.form = 1 then x.peer else 0, srcModule := rdE s eModuleId 0, dstEp := x.dstEp, tclass := x.peerTclass, service := 1, srcEp := x.localEp, msgSeq := x.sendNext, msgPkts := msgPkts len, keyGen := x.gen, keyId := key }
    let t : TxMsg :=
      { id := s.nextMsg, die := homeDie x.localEp, ep := x.localEp, dst := dstOf x, hdr := hdr, len := len, data := msg, solicit := true }
    let s1 := setKey s key { x with sendNext := x.sendNext + 1 }
    { s1 with
      txs := s1.txs ++ [t]
      nextMsg := s1.nextMsg + 1 }

end Sys2Proof.Machine
end

