-- ==== Sys2Proof/Machine/Dest.lean ====
section
/-!
DEFINITION. Where a descriptor writes, and what a descriptor that ends with outcome D leaves there: no
result (R14), so the bytes and words of its destination are free values (DESIGN CHOICE, log 11).
-/

namespace Sys2Proof.Machine

open Sys2Proof

/-- Element size of a DRAIN output format (R239). -/
def drainSize (fmt : Nat) : Nat :=
  if fmt = 1 then 8 else if fmt = 0 ∨ fmt = 2 then 4 else if fmt = 6 then 1 else 2

/-- Limb stride of a modular descriptor in bytes (R135). -/
def limbStride (d : Desc) : Nat :=
  if df d 38 2 = 0 then 4 * 2 ^ df d 33 1 else 4096 * df d 38 2

/-- Bytes a modular operand of c limbs spans (R151). -/
def limbExtent (d : Desc) (c : Nat) : Nat :=
  if c = 0 then 0 else (c - 1) * limbStride d + 4 * 2 ^ df d 33 1

/-- The ranges of the c limbs at ADDR_D, without the gaps between strided limbs (R135). -/
def limbRanges (d : Desc) (c : Nat) : List (Bool × Nat × Nat) :=
  (List.range c).map (fun j => (bit (df d 36 1) 2, df d 52 6 + j * limbStride d, 4 * 2 ^ df d 33 1))

/-- Bytes of a conversion table (R145). -/
def convSize (a b : Nat) : Nat := 64 * cdiv (64 + 4 * (a + a * b + b) + 8 * a) 64

/-- Header byte field of an object that a Sealed descriptor names (R163). -/
def objFld (s : State) (d : Desc) (loft : Bool) (a off len : Nat) : Nat :=
  mrd (opMem s d (df d 32 1) loft) (a + off) len

/-- Bytes of a Sealed descriptor's destination object (R163, R175). -/
def ctDestSize (s : State) (d : Desc) : Nat :=
  let op := dOp d
  let aLoft := bit (df d 33 1) 0
  let a := df d 36 6
  let nn := if op = 0x45 then 2 ^ ksLogN s (dCtx d) else 2 ^ objFld s d aLoft a 1 1
  let l := if op = 0x44 ∨ op = 0x45 then df d 34 1 else objFld s d aLoft a 2 1
  4096 + (if op = 0x46 then 1 else 2) * (l + 1) * 4 * nn

/-- The memory ranges a descriptor writes: in Loft or not, address and length. -/
def destOf (s : State) (d : Desc) : List (Bool × Nat × Nat) :=
  let op := dOp d
  if op ≤ 0x02 then [(bit (df d 33 1) 1, df d 42 6, df d 48 8)]
  else if op = 0x15 then
    let lf := bit (df d 38 1) 0
    let x := df d 46 6
    let m := vmOf s (dCtx d)
    let rows := df d 37 1
    let tab (a k : Nat) : List (Bool × Nat × Nat) := if x = 0 ∨ a = 0 then [] else [(false, a, k * rows)]
    (lf, df d 40 6, rows * 1024 * drainSize (df d 35 1)) :: tab (mrd m (x + 16) 8) 32 ++ tab (mrd m (x + 24) 8) 1
  else if op = 0x16 then [(bit (df d 38 1) 0, df d 40 6, 8256 * df d 37 1)]
  else if op = 0x60 ∨ op = 0x61 then [(false, df d 46 6, 16)]
  else if op = 0x34 ∧ df d 37 1 = 2 then [(bit (df d 36 1) 2, df d 52 6, convSize (df d 35 1) (df d 59 1))]
  else if op = 0x34 then limbRanges d (df d 59 1)
  else if 0x30 ≤ op ∧ op ≤ 0x35 then limbRanges d (df d 35 1)
  else if 0x40 ≤ op ∧ op ≤ 0x46 then [(bit (df d 33 1) 2, df d 48 6, ctDestSize s d)]
  else if 0x50 ≤ op ∧ op ≤ 0x52 then [(false, df d 54 6 + 4096 * df d 34 4, 4096 * df d 38 4)]
  else []

/-- The tile a descriptor names (R238). -/
def tileKey (d : Desc) : Nat := df d 32 1 * 96 + bits (df d 33 1) 7 7 * 48 + bits (df d 33 1) 5 0

/-- The tile rows a descriptor writes. -/
def destRows (d : Desc) : List Nat :=
  let op := dOp d
  if (0x10 ≤ op ∧ op ≤ 0x14) ∨ op = 0x17 then (List.range (df d 37 1)).map (· + df d 36 1) else []

/-- Free words in one row of a tile. -/
def freeRow (t : Tbl Nat) (row k : Nat) : Tbl Nat :=
  tblRowSet t (1024 * row) ((List.range 1024).map (fun j => Config.freeNat (k + j) % 2 ^ 64))

/-- Leave no result in the destinations of a started descriptor: free bytes and words (R14). -/
def junkDest (s : State) (d : Desc) : State :=
  let s1 := (destOf s d).foldl (fun s r =>
    { setOpMem s d (df d 32 1) r.1 (mfree (opMem s d (df d 32 1) r.1) r.2.1 s.free r.2.2) with
      free := s.free + r.2.2 }) s
  (destRows d).foldl (fun s row =>
    match tfind s.tiles (tileKey d) with
    | none => s
    | some t => { s with
      tiles := tput s.tiles (tileKey d) { t with words := freeRow t.words row s.free }
      free := s.free + 1024 }) s1

/-- The full count of R601 of an opcode whose units complete one after another before it ends; 0 for an
opcode whose one unit is its whole result, and for control opcodes. -/
def unitsFull (d : Desc) : Nat :=
  let op := dOp d
  if op ≤ 0x02 then df d 48 8
  else if 0x10 ≤ op ∧ op ≤ 0x17 then df d 37 1
  else if op = 0x20 ∨ op = 0x22 then df d 44 4
  else if op = 0x34 then (if df d 37 1 = 2 then 0 else df d 59 1)
  else if 0x30 ≤ op ∧ op ≤ 0x35 then df d 35 1
  else if 0x50 ≤ op ∧ op ≤ 0x53 then df d 38 4
  else 0

/-- The units of a descriptor that stops after k of them (R601): SH_BEAVER and SH_OPEN keep count of the
rows written or opened. -/
def unitsDone (s : State) (d : Desc) (k : Nat) : Nat :=
  if dOp d = 0x52 then d.units
  else if dOp d = 0x53 then
    ((List.range (df d 38 4)).filter (fun i => (cx s (dCtx d)).opened.contains (df d 34 4 + i))).length
  else min k (unitsFull d)

/-- Complete a started descriptor with outcome D after k of its units (R14, R601): its destination holds no
result; a transport descriptor counts bytes (R387). -/
def endAt (s : State) (d : Desc) (st k : Nat) : State :=
  if isTransport (dOp d) then endTransport s d st
  else if d.started.isEmpty = false then completeDesc (junkDest s d) d st (unitsDone s d k)
  else completeDesc s d st 0

/-- Complete a descriptor with outcome D where nothing tells how many of its units were complete: that
count is a free value, at most the full count (DESIGN CHOICE, log 11). -/
def endDesc (s : State) (d : Desc) (st : Nat) : State :=
  endAt (freshNext s) d st (freshVal s % (unitsFull d + 1))

/-- Complete every descriptor that passes p, oldest first: outcome D for one that has started, N for
one that has not (R13, R601). -/
def completeAll (s : State) (p : Desc → Bool) (st : Nat) : State :=
  (s.descs.filter p).foldl (fun s d =>
    if d.started.isEmpty then refuseDesc s d st else endDesc s d st) s

end Sys2Proof.Machine
end

