-- ==== Sys2Proof/Machine/Rom.lean ====
section
/-!
DEFINITION. The ROM prime table of R127 and its roots of R128, computed from their definitions: the
128 largest primes p below 2^31 with p = 1 modulo 2^18, and for each the smallest integer whose
2^17-th power is p - 1.
-/

namespace Sys2Proof.Machine

/-- ROM primes (R127), entries 0 to 31. -/
def romPrimes0 : List Nat :=
  [2146959361, 2142502913, 2135162881, 2134638593, 2132279297, 2130706433, 2130444289, 2125725697,
   2121793537, 2120482817, 2114977793, 2114191361, 2113929217, 2107113473, 2102132737, 2099249153,
   2096889857, 2095054849, 2094530561, 2094268417, 2090598401, 2090336257, 2088763393, 2086404097,
   2085093377, 2077229057, 2075394049, 2070937601, 2070675457, 2070151169, 2067529729, 2067005441]

/-- ROM primes (R127), entries 32 to 63. -/
def romPrimes1 : List Nat :=
  [2062811137, 2055995393, 2055733249, 2050490369, 2047868929, 2047082497, 2043150337, 2035548161,
   2035286017, 2033975297, 2032402433, 2025848833, 2023489537, 2022965249, 2017984513, 2015887361,
   2013265921, 2010382337, 2009333761, 2003304449, 2002518017, 1998585857, 1996750849, 1993605121,
   1986789377, 1981022209, 1978662913, 1977352193, 1976303617, 1969487873, 1964769281, 1963982849]

/-- ROM primes (R127), entries 64 to 95. -/
def romPrimes2 : List Nat :=
  [1960574977, 1959264257, 1956118529, 1954283521, 1953759233, 1953497089, 1947467777, 1946419201,
   1945894913, 1945108481, 1940389889, 1938554881, 1935409153, 1931476993, 1927544833, 1926758401,
   1922039809, 1916010497, 1914437633, 1909719041, 1906573313, 1905524737, 1901592577, 1900281857,
   1896087553, 1894776833, 1893728257, 1893203969, 1892155393, 1888485377, 1886650369, 1875640321]

/-- ROM primes (R127), entries 96 to 127. -/
def romPrimes3 : List Nat :=
  [1874329601, 1874067457, 1868562433, 1867251713, 1866465281, 1863319553, 1860698113, 1857814529,
   1855193089, 1849163777, 1848901633, 1844183041, 1836318721, 1835008001, 1829502977, 1823211521,
   1821638657, 1819017217, 1813512193, 1811939329, 1811415041, 1808007169, 1807482881, 1803288577,
   1791492097, 1790967809, 1787559937, 1782054913, 1781268481, 1779957761, 1767374849, 1763442689]

/-- ROM primes (R127). -/
def romPrimes : List Nat := romPrimes0 ++ romPrimes1 ++ romPrimes2 ++ romPrimes3

/-- ROM roots (R128), entries 0 to 31. -/
def romRoots0 : List Nat :=
  [3829, 13912, 12450, 1074, 1388, 16795, 3476, 907,
   24924, 7618, 10113, 18056, 7425, 8258, 3024, 9671,
   21671, 32246, 3599, 30789, 8422, 18312, 2731, 3853,
   5730, 28232, 9636, 38840, 15352, 35516, 8507, 5909]

/-- ROM roots (R128), entries 32 to 63. -/
def romRoots1 : List Nat :=
  [4600, 16788, 70678, 22323, 1228, 6421, 19987, 22464,
   1999, 5465, 3319, 3322, 7188, 1939, 7295, 41066,
   84488, 77995, 2332, 6980, 645, 13667, 31096, 44426,
   3537, 28132, 3018, 10374, 6576, 25731, 8403, 22991]

/-- ROM roots (R128), entries 64 to 95. -/
def romRoots2 : List Nat :=
  [6916, 9832, 4631, 3261, 2641, 25149, 42934, 9084,
   16338, 2627, 7324, 9556, 2112, 43916, 31982, 9634,
   12486, 14073, 3143, 14129, 3588, 2783, 17, 19934,
   448, 5590, 3415, 2086, 18416, 9311, 6087, 3269]

/-- ROM roots (R128), entries 96 to 127. -/
def romRoots3 : List Nat :=
  [29201, 3639, 15731, 20951, 8172, 17136, 38652, 35615,
   32977, 5771, 12275, 22688, 33659, 6824, 7532, 1748,
   51103, 36353, 1115, 512, 8992, 118, 2939, 2283,
   11880, 34518, 9418, 510, 9123, 5037, 11654, 19871]

/-- ROM roots (R128). -/
def romRoots : List Nat := romRoots0 ++ romRoots1 ++ romRoots2 ++ romRoots3

/-- Prime of ROM entry i. -/
def romPrime (i : Nat) : Nat := romPrimes.getD i 0

/-- Root of ROM entry i. -/
def romRoot (i : Nat) : Nat := romRoots.getD i 0

/-- The number i with the entry loaded as BASIS_k holds it: PRIME, MONT, MONT_SQ, ROOT (R129), for a
prime p and root r. MONT is found by Newton's iteration modulo 2^32. -/
def basisWord (p r : Nat) : Nat :=
  let inv (x : Nat) : Nat := x * (2 ^ 33 + 2 - p * x % 2 ^ 32) % 2 ^ 32
  let y := inv (inv (inv (inv (inv p))))
  p + 2 ^ 32 * ((2 ^ 32 - y) % 2 ^ 32) + 2 ^ 64 * (2 ^ 64 % p) + 2 ^ 96 * r

end Sys2Proof.Machine
end

