-- ==== Sys2Proof/Machine/Round.lean ====
section
/-!
DEFINITION. What several families do to a round (chapter 2): contributions' words, reversal and the
fixing of survivor sets, cohort failure and merging, abandonment, job aborts, the Sealed key-set
header and noise words, and the end of a round.
-/

namespace Sys2Proof.Machine

open Sys2Proof

/-- Take one RNG queue entry (R481). -/
def rngTake (s : State) (k : Nat) : State := { s with rng := { s.rng with queue := s.rng.queue.drop k } }

/-! ### Contribution words (R74, R75, R190) -/

/-- Modulus of a cohort accumulator's words. -/
def accMod (s : State) (n mode : Nat) : Nat :=
  if mode = mdMasked then 2 ^ cfgE s eLaneWidth n else 2 ^ 32

/-- Bytes of a row of a contribution: 128 bytes per bit of width. -/
def conRowBytes (s : State) (n mode : Nat) : Nat :=
  if mode = mdClearInt then 128 * cfgE s eContribBits n
  else if mode = mdMasked then 128 * cfgE s eLaneWidth n
  else if mode = mdClearFloat then 0
  else 4096

/-- Element j of row r of a contribution's data, which starts at byte 4,096 of its message (R412). -/
def conWord (s : State) (n mode : Nat) (m : Mem) (r j : Nat) : Nat :=
  let a := 4096 + conRowBytes s n mode * r
  if mode = mdClearInt then
    let b := cfgE s eContribBits n
    (mget m (a + j * b / 8)).toNat / 2 ^ (j * b % 8) % 2 ^ b
  else
    let k := if mode = mdMasked then cfgE s eLaneWidth n / 8 else 4
    mrd m (a + k * j) k

/-- x + y modulo q, or x - y. -/
def addMod (q : Nat) (neg : Bool) (x y : Nat) : Nat := if neg then (x + (q - y % q)) % q else (x + y) % q

/-- The piece of row r that lane j lies in: 0 when its bytes lie in the first packet of the row, 2 when in the
packet after it, 1 when it straddles them, as a lane of 24 bits may (R412, R416). -/
def lanePiece (s : State) (n mode r j : Nat) : Nat :=
  if mode = mdClearInt then 0
  else
    let k := if mode = mdMasked then cfgE s eLaneWidth n / 8 else 4
    let a := conRowBytes s n mode * r
    (a + k * j) / 4096 + (a + k * j + k - 1) / 4096 - 2 * (a / 4096)

/-- The words that piece p of row r of a contribution brings; 0 in the other lanes. -/
def conPiece (s : State) (n mode : Nat) (m : Mem) (p r : Nat) : List Nat :=
  (List.range 1024).map (fun j => if lanePiece s n mode r j = p then conWord s n mode m r j else 0)

/-- The type code of a staging row of a mode (R221). -/
def stageTy (mode : Nat) : Nat := if mode = mdMasked then 3 else if mode = mdShared then 4 else 1
/-- Its lane width. -/
def stageW (s : State) (n mode : Nat) : Nat := if mode = mdMasked then cfgE s eLaneWidth n else 0

/-- The staging row that holds row r of cohort k shows its words and check value in Thatch (R221, R416, R421). -/
def showStage (s : State) (n k r : Nat) : State :=
  let c := cohortOf s n k
  match (cx s n).staged.find? (fun x => x.2 == k * 2 ^ 24 + r) with
  | none => s
  | some x =>
    let t := tget s.tiles {} (x.1 / 64)
    let ws := (tblRow c.acc (1024 * r)).map (fun w => if c.mode = mdClearInt then ofS 40 (toS 32 w) else w)
    let t1 : Tile := { t with
      ty := stageTy c.mode
      laneW := stageW s n c.mode
      words := tblRowSet t.words (1024 * (x.1 % 64)) ws
      chk := tset t.chk 0 (x.1 % 64) (tget c.chk 0 r) }
    { s with tiles := tput s.tiles (x.1 / 64) t1 }

/-- The staging rows of the cohorts that p picks are held no longer: the row is zeroed, and a tile that holds no
other is empty. -/
def unstage (s : State) (n : Nat) (p : Nat → Bool) : State :=
  let c := cx s n
  let keep := c.staged.filter (fun x => !p (x.2 / 2 ^ 24))
  (c.staged.filter (fun x => p (x.2 / 2 ^ 24))).foldl (fun s x =>
    let t := tget s.tiles {} (x.1 / 64)
    let t1 : Tile := { t with
      words := tblRowSet t.words (1024 * (x.1 % 64)) (List.replicate 1024 0)
      chk := tset t.chk 0 (x.1 % 64) 0 }
    { s with tiles := tset s.tiles {} (x.1 / 64) (if keep.any (fun y => y.1 / 64 == x.1 / 64) then t1 else {}) }) (setCx s n { c with staged := keep })

/-- Add (or subtract) a piece of a row of a contribution (row * 4 + piece) into its cohort's accumulator, and its
check value into the row's (R109, R259, R420, R421); a cohort that has failed has none (R50). -/
def accAddPiece (s : State) (n k mode : Nat) (m : Mem) (neg : Bool) (rp : Nat) : State :=
  let c := cohortOf s n k
  let q := accMod s n mode
  let r := rp / 4
  let xs := conPiece s n mode m (rp % 4) r
  if coLive c then
    showStage (setCohort s n k { c with
      acc := tblRowSet c.acc (1024 * r) (List.zipWith (addMod q neg) (tblRow c.acc (1024 * r)) xs)
      chk := tset c.chk 0 r (addMod q neg (tget c.chk 0 r) (linCheckN q xs)) }) n k r
  else s

/-- The words of row r of a cohort agree with the check value held of it (R421). -/
def accRowOk (s : State) (n k r : Nat) : Bool :=
  let c := cohortOf s n k
  let q := accMod s n c.mode
  linCheckN q (tblRow c.acc (1024 * r)) == tget c.chk 0 r % q

/-- Uncommitted contributions of a context that have words in Thatch (SPEC_INFLIGHT, R217). -/
def specInflight (s : State) (n : Nat) : Nat :=
  (s.rxs.filter (fun x => match x.con with | some c => c.ctx == n && !c.added.isEmpty | none => false)).length

/-! ### Cohorts -/

/-- A contribution message has begun that may still name a slot of cohort k: its packet 0 is not decided yet, and the
cohort was OPEN when its first packet arrived (R39, R49, R413, DEDUCED, log 81). A grace that has passed waits for none. -/
def begunFor (s : State) (n k : Nat) : Bool :=
  (roundSt s n == rsOpen || roundSt s n == rsClosing) && !(cohortOf s n k).graceDone &&
    s.rxs.any (fun x => !x.checked && x.roundOpen && x.firstRound == rdE s eRoundNumber n && x.firstOpen.contains k &&
      (keyOf s x.hdr.keyId).kind == 1 && (keyOf s x.hdr.keyId).ctx == n && bit (epOf s x.hdr.dstEp).flags 0)

/-- A SHUT cohort with no uncommitted contribution has its survivor set fixed; a Masked one then
waits for a share buffer in that order (R51, R103). -/
def settle (s : State) (n k : Nat) : State :=
  let c := cohortOf s n k
  if c.st == .shut && c.uncommitted == 0 && !c.fixedSet && !begunFor s n k then
    let s1 := setCohort s n k { c with fixedSet := true }
    if c.mode = mdMasked then setCx s1 n { cx s1 n with bindWait := (cx s1 n).bindWait ++ [k] } else s1
  else s

/-- Settle every cohort of a context. -/
def settleAll (s : State) (n : Nat) : State := (tkeys (cx s n).cohorts).foldl (fun s k => settle s n k) s

/-- Reverse one contribution (R418): its accumulated words are subtracted exactly, its pending mark
cleared, and REVERSED counts it; the message leaves the machine. (DEDUCED, log 107.) (DEDUCED, log 120.) -/
def reverseOne (s : State) (x : RxMsg) : State :=
  let s0 := { s with rxs := s.rxs.filter (fun y => y.id != x.id) }
  match x.con with
  | none => settleAll s0 (keyOf s x.hdr.keyId).ctx
  | some c =>
    let s1 := c.added.foldl (accAddPiece · c.ctx c.cohort c.mode x.data true ·) s0
    let co := cohortOf s1 c.ctx c.cohort
    let s2 := setCohort s1 c.ctx c.cohort { co with uncommitted := co.uncommitted - 1 }
    let s3 := setCx s2 c.ctx { cx s2 c.ctx with pendingSlots := (cx s2 c.ctx).pendingSlots.filter (· != c.slot) }
    let s4 := wrE (bumpE s3 eReversed c.ctx) eSpecInflight c.ctx (specInflight s3 c.ctx)
    settle s4 c.ctx c.cohort

/-- Reverse every uncommitted contribution of a context that passes p (R418). -/
def reverseAll (s : State) (n : Nat) (p : Contrib → Bool) : State :=
  (s.rxs.filter (fun x => match x.con with | some c => c.ctx == n && p c | none => false)).foldl reverseOne s

/-- A range of a context after its scrub: the pattern is not stated for it, so its bytes are free values
(DESIGN CHOICE, log 11). -/
def scrubRange (s : State) (n a len : Nat) : State :=
  { setVm s n (mfree (vmOf s n) a s.free len) with free := s.free + len }

/-- Free the share buffer of cohort k with a scrub of its contents (R112); AWAITING follows. -/
def dropBuf (s : State) (n k : Nat) : State :=
  let c := cx s n
  let bufs := c.bufs.filter (fun b => b.2.cohort != k)
  let gone := c.bufs.filter (fun b => b.2.cohort == k)
  let s0 := gone.foldl (fun s b => scrubRange s n (bufBase s n b.1) (bufSize s n)) s
  let s1 := setCx s0 n { cx s0 n with bufs := bufs }
  wrE s1 eAwaiting n (bufs.filter (fun b => !b.2.seedDone)).length

/-- A cohort becomes FAILED (R52): its accumulator is scrubbed, its buffer freed and the status of the
cause recorded in LAST_REFUSAL. -/
def failCohort (s : State) (n k st : Nat) : State :=
  let c := cohortOf s n k
  let s1 := if c.st == .opened then decE s eOpenCohorts n else s
  let s2 := unstage (setCohort s1 n k { c with st := .failed, acc := [], chk := [] }) n (· == k)
  let s3 := setCx s2 n { cx s2 n with bindWait := (cx s2 n).bindWait.filter (· != k) }
  noteRefusal (bumpE (dropBuf s3 n k) eFailedCohorts n) n st

/-- What a cohort of a mode brings joins the round's total type (R62, R65): an INT32 sum joins every type but
SHARED, an FP32 pair sum a pair total or a SEALED one whose clear subtotal is of pairs, a Shared sum every
type (opened first where it is not SHARED), a Sealed one only SEALED. -/
def mergeTypeOk (s : State) (n mode : Nat) : Bool :=
  if mode = mdShared then true
  else if mode = mdSealed then ttE s n == ttSealed
  else if mode = mdClearFloat then clearTt s n == ttPair
  else ttE s n != ttShared

/-- A cohort becomes MERGED with its survivors counted (R50, R122); a Clear-Float cohort keeps its
leaves for the round stack (R230). -/
def mergedCohort (s : State) (n k cnt : Nat) : State :=
  let c := cohortOf s n k
  let s1 := setCohort s n k { c with
    st := .merged
    acc := if c.mode = mdClearFloat then c.acc else []
    chk := if c.mode = mdClearFloat then c.chk else [] }
  let s2 := unstage (addE (dropBuf s1 n k) eMerged n cnt) n (· == k)
  let s3 := if c.mode = mdClearFloat then s2 else setCx s2 n { cx s2 n with nonFloat := true }
  if ttE s n = ttSealed ∧ c.mode ≠ mdSealed ∧ c.mode ≠ mdShared then
    setCx s3 n { cx s3 n with subMerged := (cx s3 n).subMerged + cnt }
  else s3

/-- Every cohort opened in the round is MERGED or FAILED (R39). -/
def cohortsDone (s : State) (n : Nat) : Bool := !(cx s n).cohorts.any (fun c => coLive c.2)

/-! ### Abandonment (R40) and job aborts (R338) -/

/-- Children named by CHILD_LIST (R333). -/
def childList (s : State) (n : Nat) : List Nat :=
  (List.range (cfgE s eChildCount n)).map (fun i => mrd (vmOf s n) (cfgE s eChildList n + 2 * i) 2)

/-- Parents, copy peers and children of a context. -/
def jobPeers (s : State) (n : Nat) : List Nat :=
  (((List.range 3).map (cfgEj s eParentK n ·)) ++ ((List.range 2).map (cfgEj s eCopyPeerK n ·))).filter (· != 0xFFFF)
    ++ childList s n

/-- Send an abort on to every peer but one, and record cause and origin (R338, R339). -/
def sendAborts (s : State) (n cause origin except : Nat) : State :=
  let job := cfgE s eJobId n
  let rnd := rdE s eRoundNumber n
  let s1 := (((jobPeers s n).filter (· != except)).foldl (fun s p => emit s (.abort p job rnd cause origin)) s)
  let s2 := wrE (wrE s1 eAbortCause n cause) eAbortOrigin n origin
  { s2 with abortsSeen := s2.abortsSeen ++ [(job, rnd)] }

/-- Start a job abort: nothing for a context without a job (R338). -/
def jobAbort (s : State) (n cause : Nat) : State :=
  if cfgE s eJobId n = 0 then s else sendAborts s n cause (rdE s eModuleId 0) 0x10000

/-- Zero a tile and set it empty (R219, R254). -/
def clearTiles (s : State) (p : Nat → Tile → Bool) : State :=
  { s with tiles := s.tiles.filter (fun t => !p t.1 t.2) }

/-- The tile lies in the given range on a die of the mask, on either array. -/
def tileIn (dies : List Nat) (first cnt key : Nat) : Bool :=
  dies.contains (key / 96) && decide (first ≤ key % 48 ∧ key % 48 < first + cnt)

/-- Zero the PROV tiles of a context when its round leaves READY, unless a descriptor on one is
running (R254). -/
def dropProv (s : State) (n : Nat) : State :=
  let dies := diesE s n
  clearTiles s (fun k t => t.prov &&
    tileIn dies (rdE s eTileFirst n) (rdE s eTileCount n) k &&
    (onTile s k).isEmpty)

/-- The contents of a round that end with it: cohorts, share buffers with their scrub (R112), derived elements,
exchange data, triples, imports (R125, R192, R426). The counts of what is held go to 0 with it: AWAITING,
TRIPLES_HELD (R188) and OPEN_COHORTS, the cohorts now OPEN (R44; DEDUCED, log 131). RESIDENT keys stay in
Loft (R171). -/
def dropRoundData (s0 : State) (n : Nat) : State :=
  let s := (cx s0 n).bufs.foldl (fun s b => scrubRange s n (bufBase s n b.1) (bufSize s n)) s0
  let c := cx s n
  [eAwaiting, eTriplesHeld, eOpenCohorts].foldl (fun s e => wrE s e n 0) (setCx s n { c with
    cohorts := []
    pendingSlots := []
    bindWait := []
    bufs := []
    derived := []
    xmsgs := []
    triples := []
    staged := []
    imports := []
    added := []
    retried := []
    accepted := []
    totalFormed := false
    rootDigests := []
    shImports := [] })

/-- Abandon the round (R40): its descriptors complete with the given status, those that `own` picks
with `ownSt`; every uncommitted contribution is reversed and the round enters ABANDONED. The event carries `ev`. -/
def abandonBy (s : State) (n st ownSt ev : Nat) (own : Desc → Bool) : State :=
  let mine (d : Desc) : Bool := !ctxReserved d && dCtx d == n
  let s1 := completeAll s (fun d => mine d && own d) ownSt
  let s2 := completeAll s1 mine st
  let s3 := reverseAll s2 n (fun _ => true)
  setRound (dropRoundData (dropProv s3 n) n) n rsAbandoned ev

/-- An abandonment whose event carries the status of the round's descriptors (DEDUCED, log 20). -/
def abandonRound (s : State) (n st : Nat) : State := abandonBy s n st st st (fun _ => false)

/-- The round is in a state that abandonment reaches (R40). -/
def abandonable (s : State) (n : Nat) : Bool := decide (rsOpen ≤ roundSt s n ∧ roundSt s n ≤ rsReady)

/-- Abandon the round where it can be. -/
def tryAbandon (s : State) (n st : Nat) : State :=
  if abandonable s n then abandonRound s n st else s

/-! ### Running a started descriptor -/

/-- The status with which a hardware error ends a descriptor (R421, R422, R424, R482, R534). -/
def hwStatus : HwErr → Nat
  | .none => stOk
  | .check _ => stIntegrity
  | .dual _ => stIntegrity
  | .ecc _ => stIntegrity
  | .eccAccum _ => stIntegrity
  | .eccTotal _ => stIntegrity
  | .rng => stRng
  | .poisoned => stIntegrity
  | .completer => stAccess
  | .timeout => stTimeout

/-- Count a hardware error in its counter (R421, R422, R430, R482). -/
def hwCount (s : State) : HwErr → State
  | .check _ => bumpE s eCheckFails 0
  | .dual _ => bumpE s eDualDisagree 0
  | .ecc _ => bumpE s eEccUncorrected 0
  | .eccAccum _ => bumpE s eEccUncorrected 0
  | .eccTotal _ => bumpE s eEccUncorrected 0
  | .rng => bumpB s 0x240030 4 1
  | _ => s

/-- What an uncorrectable error means for the cohort or round whose words it lies in (R424): the
cohort that an UNMASK names becomes FAILED; a round total or ledger abandons the round. -/
def hwReach (s : State) (d : Desc) : HwErr → State
  | .eccAccum _ =>
    if dOp d = 0x22 ∧ coLive (cohortOf s (dCtx d) (df d 36 4)) then failCohort s (dCtx d) (df d 36 4) stIntegrity
    else s
  | .eccTotal _ => tryAbandon s (dCtx d) stAborted
  | _ => s

/-- The INTEGRITY record of an uncorrectable memory error, naming the die and unit (R424, R510). -/
def eccRec (d : Desc) : FaultRec :=
  descFault d ftIntegrity stIntegrity 0 d.unit (d.unit / 32 + 256 * d.unit)

/-- An uncorrectable memory error writes its record. -/
def hwFault (s : State) (d : Desc) : HwErr → State
  | .ecc _ => writeFault s (eccRec d)
  | .eccAccum _ => writeFault s (eccRec d)
  | .eccTotal _ => writeFault s (eccRec d)
  | _ => s

/-- The descriptor that met the error ends: with outcome D after the units complete before it, but for a
completer error, whose ACCESS has outcome N (R13, R534). -/
def hwStop (s : State) (d : Desc) : HwErr → State
  | .check k => endAt s d stIntegrity k
  | .dual k => endAt s d stIntegrity k
  | .ecc k => endAt s d stIntegrity k
  | .eccAccum k => endAt s d stIntegrity k
  | .eccTotal k => endAt s d stIntegrity k
  | .completer => completeDesc s d stAccess 0
  | e => endDesc s d (hwStatus e)

/-- A hardware error ends the descriptor (R14, R601). (DESIGN CHOICE, log 103.) -/
def hwEnd (s : State) (d : Desc) (e : HwErr) : State :=
  hwFault (hwReach (hwStop (hwCount s e) d e) d e) d e

/-- Run a started descriptor, whose checks were made when it started (R274): its effect, or its end on a hardware
error. A descriptor that is not running this opcode is left alone (DEDUCED, log 2). -/
def runDescE (s : State) (i : Nat) (op : Nat) (e : HwErr) (eff : Desc → State → State)
    (err : Desc → HwErr → State → State) : Res :=
  match descOf s i with
  | none => .next s
  | some d =>
    if dOp d != op || d.phase != .running || stalled s d then .next s
    else .next (if e = .none then eff d s else err d e s)

/-- The same for an opcode whose hardware errors all end it as `hwEnd` says. -/
def runDesc (s : State) (i : Nat) (op : Nat) (e : HwErr) (eff : Desc → State → State) : Res :=
  runDescE s i op e eff (fun d e s => hwEnd s d e)

/-- Run a started descriptor when its operation fields select this command. -/
def runDescIf (s : State) (i op : Nat) (sel : Desc → Bool) (e : HwErr) (eff : Desc → State → State)
    (err : Desc → HwErr → State → State := fun d e s => hwEnd s d e) : Res :=
  match descOf s i with
  | none => .next s
  | some d => if sel d then runDescE s i op e eff err else .next s

/-! ### Sealed: moduli and noise (R158 to R168) -/

/-- BASIS_k as held: 16 bytes; entries 80 to 95 hold ROM entries 0 to 15 (R129). -/
def basisOf (s : State) (n k : Nat) : Nat :=
  if k < 80 then rdEj s eBasisK n k else basisWord (romPrime (k - 80)) (romRoot (k - 80))

/-- PRIME of a basis entry. -/
def basisPrime (s : State) (n k : Nat) : Nat := fld (basisOf s n k) 0 4

/-- The checks of R130. -/
def basisOk (w : Nat) : Bool :=
  let p := fld w 0 4
  let r := fld w 12 4
  p % 2 == 1 && decide (2 ^ 30 < p ∧ p < 2 ^ 31) && fld w 4 4 * p % 2 ^ 32 == 0xFFFFFFFF &&
    fld w 8 4 == 2 ^ 64 % p && (r == 0 || (decide (r < p) && powMod 18 r (2 ^ 17) p == p - 1))

/-- Prime of ordinary limb i, special limb i, of the round key set. -/
def ordPrime (s : State) (n i : Nat) : Nat := basisPrime s n (ksFld s n 0 16 1 + i)
/-- Prime of special limb i. -/
def specPrime (s : State) (n i : Nat) : Nat := basisPrime s n (ksFld s n 0 17 1 + i)

/-- CRC-32C over PRIME values (R145, R158, R163). -/
def primesDigest (ps : List Nat) : Nat := crc32c (ps.flatMap (bytesOf · 4))

/-- Digest over limbs 0 to ℓ. -/
def levelDigest (s : State) (n l : Nat) : Nat := primesDigest ((List.range (l + 1)).map (ordPrime s n))

/-- Q_ℓ. -/
def bigQ (s : State) (n l : Nat) : Nat := ((List.range (l + 1)).map (ordPrime s n)).foldl (· * ·) 1

/-- A noise word's value (R165). A word that is computed may have an exponent above 65,535, which no header
holds; no limit admits it (R168). -/
def noiseVal (w : Nat) : Nat := w % 2 ^ 48 * 2 ^ (w / 2 ^ 48)

/-- The smallest noise word at least num / den (R165). Of the pairs with that value the one with the least
exponent is taken (DESIGN CHOICE, log 146). -/
def noiseWord (num den : Nat) : Nat :=
  let x := cdiv num den
  let e := if x < 2 ^ 48 then 0 else Nat.log2 x - 47
  let m := cdiv num (den * 2 ^ e)
  if m < 2 ^ 48 then m + e * 2 ^ 48 else 2 ^ 47 + (e + 1) * 2 ^ 48

/-- B_fresh exactly (R167). -/
def freshBound (s : State) (n : Nat) : Nat :=
  let t := ksT s n
  let nn := 2 ^ ksLogN s n
  (t - 1) / 2 + t * (nn * ksFld s n 0 28 4 + ksFld s n 0 19 1 * (nn + 1))

/-- α = ceil(L / DNUM). -/
def ksAlpha (s : State) (n : Nat) : Nat := cdiv (ksOrd s n) (ksFld s n 0 18 1)

/-- log2 of the limit of level ℓ, floor(log2 Q_ℓ) − 1 − MARGIN_BITS (R166), within which
the bound lies; only 0 meets a limit below 1. -/
def lamOk (s : State) (n l bound : Nat) : Bool :=
  let e := Nat.log2 (bigQ s n l)
  bound == 0 || decide (1 + ksFld s n 0 36 1 ≤ e) && decide (bound ≤ 2 ^ (e - 1 - ksFld s n 0 36 1))

/-- B_ks(ℓ) as a numerator over 2^(30k) (R167), its second term halved exactly over 2. -/
def ksBoundNum (s : State) (n l : Nat) : Nat × Nat :=
  let t := ksT s n
  let nn := 2 ^ ksLogN s n
  let a := ksAlpha s n
  let k := ksSpec s n
  let d := cdiv (l + 1) a
  (2 * t * d * nn * a * ksFld s n 0 28 4 * 2 ^ (31 * a) + t * (nn + 1) * (2 * k + 1) * 2 ^ (30 * k),
    2 * 2 ^ (30 * k))

/-- Miller–Rabin to one base (R159). -/
def mrPass (t a : Nat) : Bool :=
  let rec up (fuel x : Nat) : Bool :=
    match fuel with
    | 0 => false
    | f + 1 => x == t - 1 || up f (x * x % t)
  let rec odd (fuel d r : Nat) : Nat × Nat :=
    match fuel with
    | 0 => (d, r)
    | f + 1 => if d % 2 = 0 then odd f (d / 2) (r + 1) else (d, r)
  let dr := odd 40 (t - 1) 0
  let x := powMod 40 a dr.1 t
  a % t == 0 || x == 1 || up dr.2 x

/-- Every range of R158, and BASIS_DIGEST over the basis entries now held (R159 step 2). -/
def ksRangesOk (s : State) (n : Nat) : Bool :=
  let l := ksOrd s n
  let k := ksSpec s n
  let t := ksT s n
  let nn := 2 ^ ksLogN s n
  let r := ksFld s n 0 24 4
  ksFld s n 0 0 1 == 0x4B && decide (12 ≤ ksLogN s n ∧ ksLogN s n ≤ 17) && decide (1 ≤ l ∧ l ≤ 64) &&
    decide (k ≤ 16) && ksFld s n 0 4 4 != 0 && decide (1 ≤ ksFld s n 0 18 1 ∧ ksFld s n 0 18 1 ≤ 8) &&
    decide (1 ≤ ksFld s n 0 19 1 ∧ ksFld s n 0 19 1 ≤ 21) && decide (2 ^ 12 < t ∧ t < 2 ^ 31) &&
    t % (2 * nn) == 1 && powMod 40 r nn t == t - 1 && decide (1 ≤ ksFld s n 0 28 4 ∧ ksFld s n 0 28 4 ≤ 2 ^ 20) &&
    decide (1 ≤ ksFld s n 0 36 1 ∧ ksFld s n 0 36 1 ≤ 64) && decide (ksFld s n 0 37 1 ≤ 64) &&
    decide (ksFld s n 0 38 2 ≤ 256) && ksFld s n 0 44 20 == 0 &&
    decide (ksFld s n 0 16 1 + l ≤ 96 ∧ ksFld s n 0 17 1 + k ≤ 96) &&
    ksFld s n 0 32 4 == primesDigest ((List.range l).map (ordPrime s n) ++ (List.range k).map (specPrime s n))

/-- Bytes of a padded polynomial of m limbs (R161). -/
def ksPoly (s : State) (n m : Nat) : Nat := kib64 (m * 4 * 2 ^ ksLogN s n)
/-- Bytes of all switch keys. -/
def switchBytes (s : State) (n : Nat) : Nat :=
  ksFld s n 0 38 2 * ksFld s n 0 18 1 * 2 * ksPoly s n (ksOrd s n + ksSpec s n)
/-- Offset of the switch keys in the object (R161). -/
def switchOff (s : State) (n : Nat) : Nat := 65536 + 2 * ksPoly s n (ksOrd s n)

/-- SHA-256 over the bytes of pk0 and pk1, each without the padding that follows it (R161): first 8 bytes
(R158, R159 step 4). -/
def ksTagOf (s : State) (n : Nat) : Nat :=
  let len := ksOrd s n * 4 * 2 ^ ksLogN s n
  let a := ksBase s n 0 + 65536
  Config.sha256 (mbytes (vmOf s n) a len ++ mbytes (vmOf s n) (a + ksPoly s n (ksOrd s n)) len) % 2 ^ 64

/-- KEY_SET_ID and KEY_RESIDENCY agree (R67, R171). (DEDUCED, log 108.) -/
def residencyOk (s : State) (n : Nat) : Bool :=
  let id := cfgE s eKeySetId n
  id != 0 && ((List.range (diesE s n).length).all (fun k => ksFld s n k 4 4 == id)) &&
    (cfgE s eKeyResidency n == 1 ||
      decide (rdE s eLoftFirst n ≤ cfgE s eKeyLoftFirst n ∧
        65536 * cfgE s eKeyLoftFirst n + switchBytes s n ≤ 65536 * (rdE s eLoftLast n + 1)))

/-- The checks of the header at OPEN (R159, R171), in order. -/
def keySetCheck (s : State) (n : Nat) : Option Nat :=
  if ksFld s n 0 4 4 != cfgE s eKeySetId n || !ksRangesOk s n || !([2, 3, 5, 7].all (mrPass (ksT s n))) then
    some stParam
  else if ksTagOf s n != ksFld s n 0 8 8 then some stKey
  else if !lamOk s n (ksOrd s n - 1) (2097152 * freshBound s n) then some stNoise
  else if !residencyOk s n then some stParam
  else none

/-- Load the RESIDENT switch keys into the Loft of a die (R171). -/
def loadKeys (s : State) (n die : Nat) : State :=
  let s1 := setLoft s die (mcopy (vmOf s n) (ksBase s n (posOf s n die) + switchOff s n) (loftOf s die)
    (65536 * cfgE s eKeyLoftFirst n) (switchBytes s n))
  setCx s1 n { cx s1 n with keysLoaded := (cx s1 n).keysLoaded ++ [die] }

end Sys2Proof.Machine
end

