-- ==== Sys2Proof/Machine/Rounds.lean ====
section
/-!
DEFINITION. Contexts, rounds and cohorts (chapter 2): the rules of CTX_COMMAND, ROUND_COMMAND and
COHORT_COMMAND, what OPEN does, and the round's own transitions. A rule answers the status of the
command and the state after it; the object-dictionary access around it is Machine/Reply.lean.
-/

namespace Sys2Proof.Machine

open Sys2Proof

/-- CREATE for function f (R33, R38): POLICY_REFUSED outside FREE or for a fifth context,
PARAM_MISMATCH when the default mask names a die it may not (R27). -/
def createCheck (s : State) (f n : Nat) : Option Nat :=
  if rdE s eCtxState n != cxFree then some stPolicy
  else if 4 ≤ ((List.range 256).filter (fun m => rdE s eCtxState m != cxFree && (cx s m).owner == f)).length then
    some stPolicy
  else if maskBad s (rdE s eDieMask n) then some stParam
  else none

/-- CREATE's effect. What another function left in the context's device memory is not readable under the keys
of this one (R492, R502; DESIGN CHOICE, log 62). -/
def createCtx (s : State) (f n : Nat) : State :=
  let s1 := if tget s.vmFn 0 n = f + 1 then s
    else { s with
      vm := tset s.vm [] n []
      vmFn := tset s.vmFn 0 n (f + 1) }
  wrE (setCx s1 n { owner := f }) eCtxState n cxConfigured

/-- The guard level that FABRIC_SIZE and GUARD_MIN decide (R336). -/
def guardLevel (s : State) : Nat :=
  let z := rdE s eFabricSize 0
  max (rdE s eGuardMin 0) (if z ≤ 16 then 0 else if z ≤ 1024 then 1 else 2)

/-- The parents of a context. -/
def parentsOf (s : State) (n : Nat) : List Nat :=
  ((List.range 3).map (cfgEj s eParentK n ·)).filter (· != 0xFFFF)
/-- Its copy peers. -/
def peersOf (s : State) (n : Nat) : List Nat :=
  ((List.range 2).map (cfgEj s eCopyPeerK n ·)).filter (· != 0xFFFF)

/-- The pairs of the combining tree (R337) and the ridge workspace (R430). -/
def jobOk (s : State) (n : Nat) : Bool :=
  let kids := rdE s eChildCount n
  let all := parentsOf s n ++ peersOf s n ++ childList s n
  (rdE s eJobId n != 0 || ((parentsOf s n).isEmpty && kids == 0)) &&
    ((parentsOf s n).isEmpty || (parentsOf s n).length == guardLevel s + 1) &&
    (peersOf s n).length == (if kids = 0 then 0 else guardLevel s) &&
    !all.contains (rdE s eModuleId 0) &&
    (kids == 0 || (localOk s (cx s n).owner n (rdE s eChildList n) (2 * kids) &&
      localOk s (cx s n).owner n (rdE s eRidgeBase n) (rdE s eRidgeSize n) &&
      rdE s eRidgeSize n != 0 && decide ((kids + 1) * totalSize s n ≤ rdE s eRidgeSize n) &&
      in48 (rdE s eRidgeBase n) (rdE s eRidgeSize n)))

/-- The tile pairs of R244 checked at round OPEN. -/
def tilePairOk (s : State) (n : Nat) : Bool :=
  decide (cfgE s eTileFirst n + cfgE s eTileCount n ≤ 48) && decide (cfgE s eStageTiles n ≤ cfgE s eTileCount n)

/-- The Masked seed at OPEN (R97). -/
def seedCheck (s : State) (n : Nat) : Option Nat :=
  if rdE s eMaskSeedSource n = 1 then (if s.rng.queue = [] then some stRng else none)
  else if rdE s eMaskSeed n = 0 ∨ rdE s eMaskSeed n = rdE s eRoundMaskSeed n then some stParam
  else none

/-- The checks of OPEN after the state's (R27, R41, R67, R92, R111, R159, R197, R244, R337, R379, R430).
(DEDUCED, log 104.) -/
def openCheck (s : State) (n : Nat) : Option Nat :=
  let f := (cx s n).owner
  let modes := rdE s ePermittedModes n
  if rdE s eRoundNumber n == 0xFFFFFFFF || maskBad s (rdE s eDieMask n) then some stParam
  else if bit modes 4 && (keySetCheck s n).isSome then keySetCheck s n
  else if !areaPairOk s n || !areaHolds s n 0 || !tablesOk s n ||
      (rdE s eScaleBase n != 0 && rdE s eScaleSource n == 1 && rdE s eStatsBase n == 0) || !tilePairOk s n ||
      (bit modes 2 && !workOk s n) || (bit modes 3 && !sharedOk s n) || !jobOk s n then some stParam
  else if !localOk s f n (rdE s eScaleBase n) (scaleSize s n) ||
      !localOk s f n (rdE s eStatsBase n) (statsSize s n) ||
      !localOk s f n (rdE s eAreaBase n) (rdE s eAreaSize n) ||
      (bit modes 2 && !localOk s f n (rdE s eWorkBase n) (rdE s eWorkSize n)) ||
      (bit modes 3 && !localOk s f n (rdE s eShWorkBase n) (rdE s eShWorkSize n)) then some stAccess
  else if bit modes 2 then seedCheck s n
  else none

/-- The scale of one row for the next round (R84). -/
def nextScale (b head spread : Nat) (p2 : Bool) (old mx sm cnt fl : Nat) : Nat :=
  let z := fDiv (fOfInt (2 ^ b - 1)) (fOfInt 2)
  let two := fMul (fOfInt 2) old
  let t :=
    if bit fl 2 then two
    else
      let a := fMaxNum mx (fDiv (fMul spread sm) (fOfInt cnt))
      let t0 := if fIsZero a then old else fDiv (fMul head a) z
      if bit fl 0 || bit fl 1 then fMaxNum t0 two else t0
  let t1 := if p2 then fPow2Up t else t
  fMinNum (fMaxNum t1 (fRound false 1 (-64))) (fRound false 1 64)

/-- Replace each row's scale from the statistics table (R84). -/
def deriveScales (s : State) (n : Nat) : Nat → Mem → Mem
  | 0, m => m
  | r + 1, m =>
    let a := rdE s eScaleBase n + 4 * r
    let t := rdE s eStatsBase n + 16 * r
    deriveScales s n r (mwr m a 4 (nextScale (rdE s eContribBits n) (rdE s eScaleHeadroom n)
      (rdE s eScaleSpread n) (rdE s eScalePow2 n == 1) (mrd m a 4) (mrd m t 4) (mrd m (t + 4) 4)
      (mrd m (t + 8) 4) (mrd m (t + 12) 4)))

/-- Scales, digest and STATS_VALID at OPEN (R80, R84, R85). Without a scale table STATS_VALID is cleared too: the
round that opens leaves no statistics, so at its READY they would no longer be those of the last round (R78). -/
def openScales (s : State) (n : Nat) : State :=
  if rdE s eScaleBase n = 0 then wrE (wrE s eScaleDigest n 0) eStatsValid n 0
  else
    let s1 := if rdE s eScaleSource n = 1 ∧ rdE s eStatsValid n = 1 then
        setVm s n (deriveScales s n (rowsE s n) (vmOf s n)) else s
    let s2 := wrE s1 eScaleDigest n
      (Config.sha256 (mbytes (vmOf s1 n) (rdE s eScaleBase n) (4 * rowsE s n)))
    wrE s2 eStatsValid n 0

/-- The Masked entries at OPEN, where Masked is permitted (R96, R97, R99). -/
def openMasked (s : State) (n : Nat) : State :=
  let drawn := rdE s eMaskSeedSource n == 1
  let seed := if drawn then freshVal s % 2 ^ 256 else rdE s eMaskSeed n
  let s1 := if drawn then rngTake (freshNext s) 1 else s
  let s2 := wrE (wrE (wrE s1 eRoundMaskSeed n seed) eRingStride n (diesE s n).length) eRingElements n (ringElems s n)
  [eDerived, eSharesAccepted, eSharesDropped, eLastDisagree, eAwaiting].foldl (fun s e => wrE s e n 0) s2

/-- The Sealed entries at OPEN, where Sealed is permitted (R169). (DEDUCED, log 106.) -/
def openSealed (s : State) (n : Nat) : State :=
  let tag := ksFld s n 0 8 8
  let s1 := wrE (wrE (wrE s eTopLevel n (ksOrd s n - 1)) eFreshBound n (noiseWord (freshBound s n) 1))
    eTotalCts n (ctsE s n)
  let s2 := wrE (wrE s1 eKeyReloads n 0) eKeyBytes n 0
  if (cx s n).keyTag = tag then s2
  else wrE (setCx s2 n { cx s2 n with keyTag := tag }) eKeyshareState n 0

/-- The digest table, the import list and the shared subtotal hold zeros when the round begins to use the Shared
workspace (R191, R193). -/
def zeroShared (s : State) (n : Nat) : State :=
  let s1 := setVm s n (mclear (vmOf s n) (cfgE s eShWorkBase n) (shSubOff s n + shSubSize s n))
  setCx s1 n { cx s1 n with shInit := true }

/-- OPEN's effect (R41): the records are copied (R37), the type fixed (R61), counters cleared, ledger,
total and row-flag map cleared, the context ACTIVE and the round OPEN. -/
def openRound (s : State) (n : Nat) : State :=
  let modes := rdE s ePermittedModes n
  let s1 := openScales s n
  let s2 := if bit modes 2 then openMasked s1 n else s1
  let s3 := if bit modes 4 then openSealed s2 n else s2
  let s4 := setVm s3 n (mclear (vmOf s3 n) (areaBase s n) (262144 + totalSize s n + subSize s n))
  let s5 := [eCommitted, eMerged, eOpenCohorts, eFailedCohorts, eReversed, eSaturation, eRangeFaultRows,
    eImports, eFloatWindowFull, eSharedMerged, eRoundShareDigest, eTripleMark, eTriplesHeld, eRowsOpened,
    eExchangeDropped, eShLastDisagree].foldl (fun s e => wrE s e n 0) s4
  let s6 := wrE (wrE s5 eTotalType n (ttOf modes)) eRoundNumber n (rdE s eRoundNumber n + 1)
  let c := cx s6 n
  let s7 := setCx s6 n {
    owner := c.owner
    copy := roundCopyOf s n
    guard := guardLevel s
    committee := rdE s eCommitteeSize n
    modes := modes
    tt := ttOf modes
    keysLoaded := if bit modes 4 then [] else c.keysLoaded
    keyTag := c.keyTag
    tileGone := c.tileGone
    kshare := c.kshare }
  let s8 := setRound (wrE (if bit modes 3 then zeroShared s7 n else s7) eCtxState n cxActive) n rsOpen stOk
  if bit modes 4 && rdE s eKeyResidency n == 0 then (diesE s n).foldl (fun s d => loadKeys s n d) s8 else s8

/-- A descriptor that has started writes the scale or the statistics table (R79). -/
def tableWriter (s : State) (n : Nat) (d : Desc) : Bool :=
  !d.started.isEmpty && !ctxReserved d && dCtx d == n && (destOf s d).any (fun r => !r.1 && inTables s n r.2.1 r.2.2)

/-- ROUND_COMMAND OPEN (R41, R43). An OPEN that is accepted while a started descriptor still writes a table waits
for it (R79). -/
def openRule (n : Nat) (s : State) : Nat × State :=
  if roundSt s n ≠ rsNone ∨ rdE s eCtxState n ≠ cxConfigured ∨ (cx s n).opening = true then (stPolicy, s)
  else match openCheck s n with
    | some st => (st, if st = stRng then hwCount s .rng else s)
    | none =>
      let s1 := (diesE s n).foldl wakeOnDemand s
      (stOk, if s.descs.any (tableWriter s n) then setCx s1 n { cx s1 n with opening := true } else openRound s1 n)

/-- An OPEN that waited goes on once the last such descriptor has completed (R79). What it was accepted under is
checked again; where that fails now, the round stays NONE and LAST_REFUSAL says why (DESIGN CHOICE, log 132). -/
def resumeOpen (s : State) (n : Nat) : State :=
  if (cx s n).opening = true ∧ s.descs.any (tableWriter s n) = false then
    let s1 := setCx s n { cx s n with opening := false }
    if roundSt s n ≠ rsNone ∨ rdE s eCtxState n ≠ cxConfigured then s1
    else match openCheck s1 n with
      | some st => noteRefusal s1 n st
      | none => openRound s1 n
  else s

/-- Every context whose OPEN may go on. -/
def resumeAll (s : State) : State := (tkeys (s.ctxs.filter (fun c => c.2.opening))).foldl resumeOpen s

/-- Shut one cohort (R50). -/
def shutCohort (s : State) (n k : Nat) : State :=
  settle (decE (setCohort s n k { cohortOf s n k with st := .shut }) eOpenCohorts n) n k

/-- ROUND_COMMAND CLOSE (R42). -/
def closeRule (n : Nat) (s : State) : Nat × State :=
  if roundSt s n ≠ rsOpen then (stPolicy, s)
  else
    let opens := (cx s n).cohorts.filter (fun c => c.2.st == .opened)
    (stOk, setRound (opens.foldl (fun s c => shutCohort s n c.1) s) n rsClosing stOk)

/-- ROUND_COMMAND ABANDON (R40, R338). -/
def abandonRule (n : Nat) (s : State) : Nat × State :=
  if abandonable s n then (stOk, tryAbandon (jobAbort s n 1) n stAborted) else (stPolicy, s)

/-- ROUND_COMMAND RELEASE (R39). -/
def releaseRule (n : Nat) (s : State) : Nat × State :=
  if roundSt s n ≠ rsReady then (stPolicy, s)
  else (stOk, setRound (dropRoundData (dropProv s n) n) n rsExported stOk)

/-- ROUND_SHARE_DIGEST (R195). -/
def shareDigest (s : State) (n : Nat) : Nat :=
  let c := cx s n
  let merged := c.cohorts.filter (fun k => k.2.mode == mdShared && k.2.st == .merged)
  Config.sha256 ([69, 76, 65, 83, 72, 45, 83, 72, 65, 82, 69, 45, 82, 68] ++
    bytesOf (cfgE s ePartnerSetId n) 4 ++ bytesOf (rdE s eRoundNumber n) 4 ++
    merged.flatMap (fun k => bytesOf k.1 4 ++ bytesOf k.2.digest 32) ++
    c.shImports.flatMap (fun i => bytesOf i.1 2 ++ bytesOf i.2 32))

/-- A contribution of the context is uncommitted, or has begun and is not decided (DEDUCED, log 81). -/
def anyUncommitted (s : State) (n : Nat) : Bool :=
  (cx s n).cohorts.any (fun c => c.2.uncommitted != 0 || (coLive c.2 && begunFor s n c.1))

/-- COHORT_CLOSE_GRACE_EXPIRY (R125): the grace of a SHUT cohort has passed. -/
def execCohortCloseGraceExpiry (n k : Nat) (s : State) : Res :=
  if s.pwr.frozen then .next s else
  let c := cohortOf s n k
  if c.st == .shut && !c.graceDone then
    .next (settle (reverseAll (setCohort s n k { c with graceDone := true }) n (fun x => x.cohort == k)) n k)
  else .next s

/-- The round's staging tiles (R218). -/
def stagingTile (s : State) (n key : Nat) : Bool :=
  roundSt s n != rsNone && tileIn (roundDies s n) (rcE s eTileFirst n) (rcE s eStageTiles n) key

/-- AREA_SCRUB_COMPLETE (R39, R41, R192, R219): the area and the Shared workspace are scrubbed, the staging tiles
are emptied, the round is NONE and the context CONFIGURED. -/
def execAreaScrubComplete (n : Nat) (s : State) : Res :=
  if s.pwr.frozen then .next s else
  if roundSt s n = rsExported ∨ roundSt s n = rsAbandoned then
    let s1 := scrubRange s n (areaBase s n) (rcE s eAreaSize n)
    let s2 := if sharedIn s n then scrubRange s1 n (rcE s eShWorkBase n) (rcE s eShWorkSize n) else s1
    let s3 := clearTiles s2 (fun k _ => stagingTile s n k)
    let staged (t : Nat) : Bool := decide (rcE s eTileFirst n ≤ t ∧ t < rcE s eTileFirst n + rcE s eStageTiles n)
    let s4 := setCx s3 n { cx s3 n with tileGone := (cx s3 n).tileGone.filter (fun t => !staged t) }
    .next (setRound (wrE s4 eCtxState n cxConfigured) n rsNone stOk)
  else .next s

/-- Every dictionary entry of context n returns to its default (R57, R497). -/
def dropCtxEntries (s : State) (n : Nat) : State :=
  { s with od := s.od.filter (fun kv => ctxOfIndex (kv.1 / 256) != some n) }

/-- CONTEXT_QUARANTINE_EXPIRY (R38): after 2 ms the context is FREE, and its entries hold their defaults (R34). -/
def execContextQuarantineExpiry (n : Nat) (s : State) : Res :=
  if s.pwr.frozen then .next s else
  if rdE s eCtxState n = cxQuarantine then .next (wrE (setCx (dropCtxEntries s n) n {}) eCtxState n cxFree) else .next s

/-! ### Cohort commands -/

/-- The cohorts a command names. -/
def namedCohorts (s : State) (n : Nat) : List Nat :=
  (List.range (rdE s eCohortCount n)).map (· + rdE s eCohortFirst n)

/-- The pairs checked when cohorts of a mode open (R67, R197, R231, R232, R244). -/
def cohortPairsOk (s : State) (n mode : Nat) : Bool :=
  let first := rdE s eCohortFirst n
  let cnt := rdE s eCohortCount n
  let c := cohortSize s n
  let p := partP s n
  areaPairOk s n && decide (rdE s eMinSurvivors n ≤ c) &&
    (mode != mdMasked || laneOk s n) &&
    (mode == mdClearFloat || mode == mdSealed || cfgE s eStageTiles n != 0) &&
    (mode != mdShared || sharedOk s n) &&
    (mode != mdClearFloat ||
      (decide (partX s n < 2 ^ p) && decide (cfgE s eCohortExp n ≤ 21 - p) &&
        decide (partX s n * 2 ^ (21 - p) ≤ first * c ∧ (first + cnt) * c ≤ (partX s n + 1) * 2 ^ (21 - p)) &&
        !(cx s n).cohorts.any (fun k => k.2.mode == mdClearFloat && k.2.st != .idle && decide (first < k.1)))) &&
    areaHolds s n (cnt * accSize s n mode)

/-- COHORT_COMMAND OPEN's checks (R45, R58, R67). -/
def cohortOpenCheck (s : State) (n : Nat) : Option Nat :=
  let mode := rdE s eCohortMode n
  if cohortsOf s n < rdE s eCohortFirst n + rdE s eCohortCount n then some stParam
  else if roundSt s n != rsOpen || (namedCohorts s n).any (fun k => (cohortOf s n k).st != .idle) ||
      !bit (rdE s ePermittedModes n) mode then some stPolicy
  else if cohortPairsOk s n mode then none else some stParam

/-- COHORT_COMMAND OPEN (R45, R50). -/
def cohortOpenRule (n : Nat) (s : State) : Nat × State :=
  if rdE s eCohortCount n = 0 then (stOk, s)
  else match cohortOpenCheck s n with
    | some st => (st, s)
    | none =>
      let s1 := if rdE s eCohortMode n = mdShared ∧ sharedIn s n = false then zeroShared s n else s
      (stOk, (namedCohorts s n).foldl (fun s k =>
        bumpE (setCohort s n k { st := .opened, mode := rdE s eCohortMode n }) eOpenCohorts n) s1)

/-- COHORT_COMMAND SHUT (R45, R50). -/
def cohortShutRule (n : Nat) (s : State) : Nat × State :=
  if rdE s eCohortCount n = 0 then (stOk, s)
  else if cohortsOf s n < rdE s eCohortFirst n + rdE s eCohortCount n then (stParam, s)
  else if (namedCohorts s n).any (fun k => (cohortOf s n k).st != .opened) then (stPolicy, s)
  else (stOk, (namedCohorts s n).foldl (fun s k => shutCohort s n k) s)

/-- SHA-256 over the 2,571 bytes of R57. -/
def policyDigest (s : State) (n : Nat) : Nat :=
  Config.sha256 (bytesOf (rdE s eMinSurvivors n) 4 ++ bytesOf (rdE s eMinContributors n) 4 ++
    [rdE s ePermittedModes n, rdE s eCommitteeSize n, rdE s eCommitteeThreshold n] ++
    (List.range 64).flatMap (fun k => bytesOf (rdEj s eMemberK n k) 40))

/-- Writing 1 to LOCK locks the record and the roster and fixes POLICY_DIGEST (R56, R57). -/
def policyLockRule (n : Nat) (s : State) : Nat × State :=
  (stOk, wrE (wrE s ePolicyLock n 1) ePolicyDigest n (policyDigest s n))

end Sys2Proof.Machine
end

