-- ==== Sys2Proof/Machine/Masked.lean ====
section
/-!
DEFINITION. Masked aggregation (chapter 4): the mask function, share buffers and share messages, and
the descriptors PRG_EXPAND, SEED_RECON and UNMASK.
-/

namespace Sys2Proof.Machine

open Sys2Proof

/-- q_1 (R93). -/
def maskQ1 : Nat := romPrime 0
/-- q_2 (R93). -/
def maskQ2 : Nat := romPrime 1
/-- q (R93). -/
def maskQ : Nat := maskQ1 * maskQ2

/-- The value below q with the two residues (R98). -/
def crt2 (r1 r2 : Nat) : Nat :=
  r1 + maskQ1 * ((r2 + maskQ2 - r1 % maskQ2) * invMod maskQ2 maskQ1 % maskQ2)

/-- Word k of the stream for ring element i under a round mask seed, reduced to 31 bits (R98): the
input is the 12 bytes ELASH-MASK-A, the seed and i. (DEDUCED, log 110.) -/
def maskStream (seed i k : Nat) : Nat :=
  let inp := [69, 76, 65, 83, 72, 45, 77, 65, 83, 75, 45, 65] ++ bytesOf seed 32 ++ bytesOf i 4
  ofBytes ((List.range 4).map (fun j => Config.shake256 inp (4 * k + j))) % 2 ^ 31

/-- Accepted residues in order: 65,536 below q_1, then 65,536 below q_2 (R98). `fuel` bounds the words
drawn; `need` counts the residues still wanted. -/
def maskDraw (seed i : Nat) : Nat → Nat → Nat → List Nat
  | 0, _, _ => []
  | fuel + 1, k, need =>
    if need = 0 then []
    else
      let w := maskStream seed i k
      if w < (if 65536 < need then maskQ1 else maskQ2) then w :: maskDraw seed i fuel (k + 1) (need - 1)
      else maskDraw seed i fuel (k + 1) need

/-- The residues of a_i: 65,536 modulo q_1, then 65,536 modulo q_2 (R98). -/
def maskResidues (seed i : Nat) : List Nat := maskDraw seed i 1048576 0 131072

/-- The coefficients of a_i (R98). -/
def maskElem (seed i : Nat) : List Nat :=
  let l := maskResidues seed i
  List.zipWith crt2 (l.take 65536) (l.drop 65536)

/-- Word i of the limb of ROM entry k whose coefficients are l: in Montgomery and in NTT form (R133, R138). -/
def maskNttWord (k : Nat) (l : List Nat) (i : Nat) : Nat :=
  let p := romPrime k
  nttAt p (psiN p (romRoot k) 16) 16 (fun t => l.getD t 0 * 2 ^ 32 % p) i

/-- Coefficient t of the product of a and a sparse ring element in P (R93, R94). -/
def ringCoef (a : List Nat) (k : Tbl Nat) (t : Nat) : Nat :=
  k.foldl (fun acc c =>
    (acc + c.2 * (if c.1 ≤ t then a.getD (t - c.1) 0 else maskQ - a.getD (65536 + t - c.1) 0)) % maskQ) 0

/-- F of R94 from a product coefficient c in lanes of w bits. -/
def maskRound (w c : Nat) : Nat := (2 ^ w * c + (maskQ - 1) / 2) / maskQ % 2 ^ w

/-- F(S) over local row h of the die at position k: 1,024 lane values (R95). -/
def maskRow (s : State) (n k h : Nat) (sum : Tbl Nat) : List Nat :=
  let a := maskElem (rdE s eRoundMaskSeed n) ((diesE s n).length * (h / 64) + k)
  (List.range 1024).map (fun l => maskRound (cfgE s eLaneWidth n) (ringCoef a sum (1024 * (h % 64) + l)))

/-! ### Share buffers -/

/-- The buffer bound to a cohort, with its number. -/
def bufOf (s : State) (n k : Nat) : Option (Nat × ShareBuf) := (cx s n).bufs.find? (fun b => b.2.cohort == k)

/-- Replace share buffer b; AWAITING counts the buffers whose seed sum is not rebuilt (R99). -/
def setBuf (s : State) (n b : Nat) (x : ShareBuf) : State :=
  let bufs := tput (cx s n).bufs b x
  wrE (setCx s n { cx s n with bufs := bufs }) eAwaiting n (bufs.filter (fun y => !y.2.seedDone)).length

/-- The survivor digest of a cohort (R104). -/
def survivorDigest (s : State) (n k : Nat) : Nat :=
  Config.sha256 (bytesOf (rdE s eRoundMaskSeed n) 32 ++ bytesOf (rdE s eRoundNumber n) 4 ++ bytesOf k 4 ++
    bytesOf (cohortSize s n) 4 ++ cohortBits s n k)

/-- Bind a cohort to a buffer: header written (its layout is DESIGN CHOICE, log 24), SHARES_WANTED posted (R104). -/
def bindBuf (s : State) (n k b : Nat) : State :=
  let dg := survivorDigest s n k
  let x : ShareBuf := { cohort := k, survivors := survivors s n k, digest := dg }
  let s1 := setVm s n (mwr (mwr (vmOf s n) (bufBase s n b) 4 x.survivors) (bufBase s n b + 4) 32 dg)
  let s2 := setCx s1 n { cx s1 n with bindWait := (cx s1 n).bindWait.filter (· != k) }
  ctxEvent (setBuf s2 n b x) n evSharesWanted stOk k

/-- SHARE_BUFFER_BIND (R103): the first cohort that waits fails below MIN_SURVIVORS, or takes the
lowest free buffer; without one it stays unbound. -/
def execShareBufferBind (n : Nat) (s : State) : Res :=
  if s.pwr.frozen then .next s else
  match (cx s n).bindWait with
  | [] => .next s
  | k :: _ =>
    if survivors s n k < rdE s eMinSurvivors n then .next (failCohort s n k stPolicy)
    else match (List.range (cfgE s eShareBuffers n)).find? (fun b => (tfind (cx s n).bufs b).isNone) with
      | none => .next s
      | some b => .next (bindBuf s n k b)

/-- MEMBER_m's key hash in the roster now (R56). -/
def rosterHash (s : State) (n m : Nat) : Nat := fld (rdEj s eMemberK n (m - 1)) 8 32

/-- A live session key of one of the kinds of R403. -/
def liveKind (s : State) (key : Nat) (kinds : List Nat) : Bool :=
  (keyOf s key).st == 1 && kinds.contains (keyOf s key).kind

/-- The receiver's answers to a complete single message: STATUS with a code, or the DELIVERED ACK. -/
def replyMsg (s : State) (key code : Nat) : State :=
  let k := keyOf s key
  sendCtl s key (fun c => if code = stOk then .ack key k.dstEp k.localEp c 0 0 0 0 0 0 true else .status key k.dstEp k.localEp c 0 code 0)

/-- The checks of R106, in order. -/
def shareCheck (s : State) (key : Nat) (m : ShareMsg) : Option Nat :=
  let n := (keyOf s key).ctx
  if m.len ≠ 524352 ∨ m.msgType ≠ 1 ∨ m.rsvZero = false then some stUnsupported
  else if m.member = 0 ∨ (cx s n).committee < m.member ∨ rosterHash s n m.member ≠ (keyOf s key).peerHash then
    some stPolicy
  else if m.round ≠ rdE s eRoundNumber n ∨ roundSt s n < rsOpen ∨ rsCombining < roundSt s n then some stGeneration
  else match bufOf s n m.cohort with
    | none => some stPolicy
    | some b =>
      if m.survivors ≠ b.2.survivors ∨ m.digest ≠ b.2.digest ∨ m.coeffs.any (fun c => decide (maskQ ≤ c.2)) then
        some stParam
      else if (tfind b.2.stored m.member).isSome then some stDuplicate
      else none

/-- A seed-sum share message: checked, stored and answered (R106). -/
def shareIn (key : Nat) (m : ShareMsg) (reply : State → Nat → State) (s : State) : State :=
  let n := (keyOf s key).ctx
  if (keyOf s key).st ≠ 1 then s
  else if (keyOf s key).kind ≠ 2 then reply s stPolicy
  else match shareCheck s key m with
    | some st => (reply (bumpE s eSharesDropped n) st)
    | none => match bufOf s n m.cohort with
      | none => s
      | some b =>
        let x := { b.2 with
          stored := tput b.2.stored m.member m.coeffs
          storedBy := tput b.2.storedBy m.member (keyOf s key).peerHash }
        (reply (bumpE (setBuf s n b.1 x) eSharesAccepted n) stOk)

/-- SEED_SUM_SHARE_MESSAGE (R106): a complete, authenticated message on a committee session. -/
def execSeedSumShareMessage (key : Nat) (m : ShareMsg) (s : State) : Res :=
  if s.pwr.frozen then .next s else .next (shareIn key m (replyMsg · key ·) s)

/-! ### PRG_EXPAND -/

/-- LOCAL_FIRST to LOCAL_FIRST + LOCAL_COUNT − 1 as ring elements of the round (R95). -/
def prgElems (s : State) (d : Desc) : List Nat :=
  let n := dCtx d
  (List.range (df d 44 4)).map (fun i => (diesE s n).length * (df d 40 4 + i) + posOf s n (df d 33 1))

/-- The checks of PRG_EXPAND (R9, R111, R114, R115), in order. (DEDUCED, log 111.) -/
def prgCheck (s : State) (d : Desc) : Option Nat :=
  let n := dCtx d
  let mode := df d 32 1
  if df d 34 2 != 0 || df d 48 16 != 0 || (mode == 0 && df d 36 4 != 0) then some stUnsupported
  else if roundSt s n == rsNone || decide (1 < mode) || !(diesE s n).contains (df d 33 1) ||
      decide (ringOfPos s n (posOf s n (df d 33 1)) < df d 40 4 + df d 44 4) || !workOk s n ||
      rdE s eRingStride n != (diesE s n).length then some stParam
  else if mode = 0 then none
  else match bufOf s n (df d 36 4) with
    | none => some stPolicy
    | some b =>
      if !b.2.seedDone || (prgElems s d).any (fun i => !(cx s n).derived.contains i) then some stParam
      else none

/-- A public element in its place in the store: NTT form, limb after limb (R110, R114, R133, R135, R138). -/
def storeElem (s : State) (n i : Nat) : State :=
  let l := maskResidues (rdE s eRoundMaskSeed n) i
  let a := cfgE s eWorkBase n + 524288 * i
  setVm s n (limbWrite (limbWrite (vmOf s n) a (maskNttWord 0 (l.take 65536)) 65536) (a + 262144)
    (maskNttWord 1 (l.drop 65536)) 65536)

/-- The first k named elements are derived, stored and counted in DERIVED (R98, R114). -/
def deriveElems (s : State) (d : Desc) (k : Nat) : State :=
  let n := dCtx d
  let es := (prgElems s d).take k
  let s1 := es.foldl (fun s i => storeElem s n i) s
  let s2 := setCx s1 n { cx s1 n with
    derived := (cx s1 n).derived ++ es.filter (fun i => !(cx s1 n).derived.contains i) }
  wrE s2 eDerived n (cx s2 n).derived.length

/-- DERIVE's effect. -/
def prgDerive (d : Desc) (s : State) : State := completeDesc (deriveElems s d (df d 44 4)) d stOk (df d 44 4)

/-- DERIVE's end on a hardware error: the elements before it stay derived (R116, R601). -/
def prgDeriveErr (d : Desc) (e : HwErr) (s : State) : State :=
  match e with
  | .check k => hwEnd (deriveElems s d k) d e
  | .dual k => hwEnd (deriveElems s d k) d e
  | .ecc k => hwEnd (deriveElems s d k) d e
  | _ => hwEnd s d e

/-- PRG_EXPAND in DERIVE mode (R114). -/
def execPrgExpandDerive (i : Nat) (e : HwErr) (s : State) : Res :=
  runDescIf s i 0x20 (fun d => df d 32 1 != 1) e prgDerive prgDeriveErr

/-- 4 KiB chunks of one expanded ring element: 65,536 lanes of w bits (R115, R116). -/
def maskChunks (s : State) (n : Nat) : Nat := 2 * cfgE s eLaneWidth n

/-- Every chunk of a ring element is expanded in a buffer (R116, R120). -/
def elemExpanded (s : State) (n : Nat) (b : ShareBuf) (i : Nat) : Bool :=
  (List.range (maskChunks s n)).all (fun c => b.expanded.contains (64 * i + c))

/-- The chunks that a MASK names, in order (element * 64 + chunk). -/
def maskNames (s : State) (d : Desc) : List Nat :=
  (prgElems s d).flatMap (fun i => (List.range (maskChunks s (dCtx d))).map (· + 64 * i))

/-- Mark the first k of them expanded in the cohort's buffer. -/
def markChunks (s : State) (d : Desc) (k : Nat) : State :=
  let n := dCtx d
  match bufOf s n (df d 36 4) with
  | none => s
  | some b => setBuf s n b.1 { b.2 with
      expanded := b.2.expanded ++ ((maskNames s d).take k).filter (fun c => !b.2.expanded.contains c) }

/-- MASK's effect (R114, R116): the elements are expanded in the cohort's buffer. -/
def prgMask (d : Desc) (s : State) : State :=
  completeDesc (markChunks s d (maskNames s d).length) d stOk (df d 44 4)

/-- MASK's end on a hardware error after k chunks: those are marked, the chunk that failed is not (R116); DETAIL
counts whole elements (R601). -/
def prgMaskErr (d : Desc) (e : HwErr) (s : State) : State :=
  let at_ (k : Nat) : State :=
    endAt (hwCount (markChunks s d k) e) d stIntegrity (k / maskChunks s (dCtx d))
  match e with
  | .check k => at_ k
  | .dual k => at_ k
  | .ecc k => hwFault (at_ k) d e
  | _ => hwEnd s d e

/-- PRG_EXPAND in MASK mode (R114, R116). -/
def execPrgExpandMask (i : Nat) (e : HwErr) (s : State) : Res :=
  runDescIf s i 0x20 (fun d => df d 32 1 == 1) e prgMask prgMaskErr

/-! ### SEED_RECON -/

/-- T: stored shares of members in the roster now and not excluded (R118). -/
def reconSet (s : State) (d : Desc) (b : ShareBuf) : Tbl (Tbl Nat) :=
  let n := dCtx d
  b.stored.filter (fun x => !bit (df d 40 8) (x.1 - 1) && decide (x.1 ≤ rdE s eCommitteeSize n) &&
    tfind b.storedBy x.1 == some (rosterHash s n x.1))

/-- The Lagrange factor of member m over the set B at point x, modulo a prime (R118). -/
def lagrange (p : Nat) (bs : List Nat) (x m : Nat) : Nat :=
  (bs.filter (· != m)).foldl (fun acc o => acc * ((x + p - o) % p) % p * invMod p ((m + p - o) % p) % p) 1

/-- The interpolation of one coefficient at point x, modulo q (R118). -/
def interpAt (base : Tbl (Tbl Nat)) (x t : Nat) : Nat :=
  let bs := tkeys base
  let one (p : Nat) : Nat := base.foldl (fun a m => (a + lagrange p bs x m.1 * (tget m.2 0 t % p)) % p) 0
  crt2 (one maskQ1) (one maskQ2)

/-- The coefficients some share of a set lists. -/
def listedCoefs (base : Tbl (Tbl Nat)) : List Nat := (base.flatMap (fun m => tkeys m.2)).eraseDups

/-- S of R118, sparse. -/
def seedSumOf (base : Tbl (Tbl Nat)) : Tbl Nat :=
  (listedCoefs base).foldl (fun acc t => tset acc 0 t (interpAt base 0 t)) []

/-- Members of T outside B whose share differs from the polynomial (R118 step 4). -/
def disagreeing (base t : Tbl (Tbl Nat)) : List Nat :=
  (t.filter (fun m => !(tkeys base).contains m.1 &&
    (listedCoefs (m :: base)).any (fun c => interpAt base m.1 c != tget m.2 0 c))).map (·.1)

/-- The checks of SEED_RECON up to step 2 of R118 (R9, R67, R111, R117). -/
def reconCheck (s : State) (d : Desc) : Option Nat :=
  let n := dCtx d
  if decide (1 < df d 32 1) || df d 33 3 != 0 || df d 48 16 != 0 then some stUnsupported
  else if rdE s eCommitteeSize n < rdE s eCommitteeThreshold n || !workOk s n then some stParam
  else match bufOf s n (df d 36 4) with
    | none => some stPolicy
    | some b =>
      if (reconSet s d b.2).length < rdE s eCommitteeThreshold n then some stPolicy
      else if !b.2.expanded.isEmpty then some stParam
      else none

/-- SEED_RECON from step 3 on (R118), over the shares it took at its start: VERIFY's disagreement ends with
INTEGRITY and LAST_DISAGREE. A cohort whose buffer has been freed since refuses it (DEDUCED, log 140). -/
def reconEff (d : Desc) (s : State) : State :=
  let n := dCtx d
  match bufOf s n (df d 36 4) with
  | none => refuseDesc s d stPolicy
  | some b =>
    let base := d.taken.take (latE d eCommitteeThreshold 0)
    let bad := if bit (df d 32 1) 0 then disagreeing base d.taken else []
    if bad.isEmpty then
      completeDesc (setBuf s n b.1 { b.2 with seedSum := seedSumOf base, seedDone := true }) d stOk 1
    else
      completeDesc (wrE s eLastDisagree n (bad.foldl (fun a m => a + 2 ^ (m - 1)) 0)) d stIntegrity 0

/-- SEED_RECON (R117, R118). -/
def execSeedRecon (i : Nat) (e : HwErr) (s : State) : Res := runDesc s i 0x21 e reconEff

/-! ### UNMASK -/

/-- The refusals of R120, in the order written, after the reserved fields (R9); a round whose total type takes no
Masked sum refuses with PARAM_MISMATCH (R65). -/
def unmaskCheck (s : State) (d : Desc) : Option Nat :=
  let n := dCtx d
  let k := df d 36 4
  if df d 33 3 != 0 || df d 48 16 != 0 then some stUnsupported
  else match bufOf s n k with
    | none => some stPolicy
    | some b =>
      if (cohortOf s n k).st != .shut then some stPolicy
      else if !(diesE s n).contains (df d 32 1) ||
          decide (rowsOfPos s n (posOf s n (df d 32 1)) < df d 40 4 + df d 44 4) ||
          (List.range (df d 44 4)).any (fun i => !elemExpanded s n b.2
            ((diesE s n).length * ((df d 40 4 + i) / 64) + posOf s n (df d 32 1))) || !mergeTypeOk s n mdMasked ||
          !laneOk s n || !areaPairOk s n || !workOk s n ||
          rdE s eRingStride n != (diesE s n).length then some stParam
      else none

/-- U_j of R90 from the lane value left by the subtraction. -/
def guardRound (w g v : Nat) : Nat := (v + 2 ^ (g - 1)) % 2 ^ w / 2 ^ g

/-- The code sums of a row before the range check: subtract F(S) and round (R90, R121). -/
def unmaskRaw (s : State) (d : Desc) (sum : Tbl Nat) (h : Nat) : List Nat :=
  let n := dCtx d
  let w := cfgE s eLaneWidth n
  let die := df d 32 1
  List.zipWith (fun a f => guardRound w (cfgE s eGuardBits n) ((a + 2 ^ w - f) % 2 ^ w))
    (tblRow (cohortOf s n (df d 36 4)).acc (1024 * globalRow s n die h)) (maskRow s n (posOf s n die) h sum)

/-- The bound of R91 for a cohort with cnt survivors. -/
def unmaskCap (s : State) (n cnt : Nat) : Nat := cnt * (2 ^ cfgE s eContribBits n - 1)

/-- Some element of the row lies above the bound (R91). -/
def unmaskOver (s : State) (d : Desc) (cnt : Nat) (sum : Tbl Nat) (h : Nat) : Bool :=
  (unmaskRaw s d sum h).any (fun u => decide (unmaskCap s (dCtx d) cnt < u))

/-- One row of R121: subtract, round, range-check, add into the total, mark merged. -/
def unmaskRow (d : Desc) (cnt : Nat) (sum : Tbl Nat) (s : State) (h : Nat) : State :=
  let n := dCtx d
  let k := df d 36 4
  let die := df d 32 1
  let r := globalRow s n die h
  let beyond := unmaskOver s d cnt sum h
  let s1 := if beyond then flagRow s n r 2 else s
  let s2 := addClearRow s1 n r ((unmaskRaw s d sum h).map (fun u => (min u (unmaskCap s n cnt) : Nat)))
  let c := cohortOf s2 n k
  setCohort s2 n k { c with
    rowsDone := c.rowsDone ++ [die * 2 ^ 24 + h]
    clamped := c.clamped || beyond }

/-- Named local row h is not merged yet for the cohort (R121). -/
def unmaskTodo (s : State) (d : Desc) (h : Nat) : Bool :=
  !(cohortOf s (dCtx d) (df d 36 4)).rowsDone.contains (df d 32 1 * 2 ^ 24 + h)

/-- The first k named local rows. -/
def unmaskRows (d : Desc) (k : Nat) : List Nat := (List.range (min k (df d 44 4))).map (· + df d 40 4)

/-- The difference of the row and of F(S) has the difference of their check values, modulo 2^w (R116, R421). -/
def maskedRowOk (s : State) (d : Desc) (sum : Tbl Nat) (h : Nat) : Bool :=
  let n := dCtx d
  let q := 2 ^ cfgE s eLaneWidth n
  let c := cohortOf s n (df d 36 4)
  let r := globalRow s n (df d 32 1) h
  let f := maskRow s n (posOf s n (df d 32 1)) h sum
  linCheckN q (List.zipWith (addMod q true) (tblRow c.acc (1024 * r)) f) == addMod q true (tget c.chk 0 r) (linCheckN q f)

/-- The seed sum of the cohort. -/
def unmaskSum (s : State) (d : Desc) : Tbl Nat :=
  match bufOf s (dCtx d) (df d 36 4) with | some b => b.2.seedSum | none => []

/-- Unmask the first k named rows; the last row of the cohort merges it (R121, R122). Answers the state and whether
a row was clamped that SATURATED reports. -/
def unmaskTo (s : State) (d : Desc) (k : Nat) : State × Bool :=
  let n := dCtx d
  let co := df d 36 4
  let cnt := survivors s n co
  let sum := unmaskSum s d
  let hit := (unmaskRows d k).filter (unmaskTodo s d)
  let s1 := hit.foldl (unmaskRow d cnt sum) s
  let c1 := cohortOf s1 n co
  let all := decide (rowsE s n ≤ c1.rowsDone.length) && !hit.isEmpty
  (if all then mergedCohort s1 n co cnt else s1, (all && c1.clamped) || hit.any (unmaskOver s d cnt sum))

/-- UNMASK's end at named row k with INTEGRITY: the rows before it stay merged (R121). -/
def unmaskStop (s : State) (d : Desc) (e : HwErr) (k : Nat) : State :=
  hwFault (hwReach (endAt (hwCount (unmaskTo s d k).1 e) d stIntegrity k) d e) d e

/-- UNMASK after its refusals (R120 to R122). A cohort that is no longer SHUT with rows left to merge refuses it
(DEDUCED, log 140); a row whose check value differs stops it there (R421). -/
def unmaskEff (d : Desc) (s : State) : State :=
  let n := dCtx d
  let hit := (unmaskRows d (df d 44 4)).filter (unmaskTodo s d)
  if !hit.isEmpty && ((cohortOf s n (df d 36 4)).st != .shut || (bufOf s n (df d 36 4)).isNone) then refuseDesc s d stPolicy
  else match hit.find? (fun h => !maskedRowOk s d (unmaskSum s d) h) with
    | some h => unmaskStop s d (.check (h - df d 40 4)) (h - df d 40 4)
    | none =>
      let r := unmaskTo s d (df d 44 4)
      completeDesc r.1 d (if r.2 then stSaturated else stOk) (df d 44 4)

/-- UNMASK's end on a hardware error. -/
def unmaskErr (d : Desc) (e : HwErr) (s : State) : State :=
  match e with
  | .check k => unmaskStop s d e k
  | .dual k => unmaskStop s d e k
  | .ecc k => unmaskStop s d e k
  | .eccAccum k => unmaskStop s d e k
  | .eccTotal k => unmaskStop s d e k
  | _ => hwEnd s d e

/-- UNMASK (R119 to R122). -/
def execUnmask (i : Nat) (e : HwErr) (s : State) : Res := runDescE s i 0x22 e unmaskEff unmaskErr

end Sys2Proof.Machine
end

