-- ==== Sys2Proof/Machine/Modular.lean ====
section
/-!
DEFINITION. The modular arithmetic fabric (chapter 5): BASIS_LOAD, Montgomery arithmetic, transforms,
and the descriptors NTT, INTT, VMUL, VMAC, BASECONV and AUTOMORPH.
-/

namespace Sys2Proof.Machine

open Sys2Proof

/-- The source coefficient of output position u of X → X^k, with whether it is negated (R140). -/
def autoCoef (n k u : Nat) : Nat × Bool :=
  let inv := powMod 40 k (2 ^ n - 1) (2 ^ (n + 1))
  let t := u * inv % 2 ^ (n + 1)
  if t < 2 ^ n then (t, false) else (t - 2 ^ n, true)

/-- The source slot of output slot i in NTT form (R140). -/
def autoSlot (n k i : Nat) : Nat := brv n (((2 * brv n i + 1) * k % 2 ^ (n + 1)) / 2)

/-! ### Fields and checks -/

/-- OP. -/
def mOp (d : Desc) : Nat := df d 37 1
/-- AUX. -/
def mAux (d : Desc) : Nat := df d 58 4
/-- Limbs the destination receives. -/
def mDstLimbs (d : Desc) : Nat := if dOp d = 0x34 then df d 59 1 else df d 35 1
/-- A basis entry as latched (R131). -/
def latBasis (d : Desc) (k : Nat) : Nat :=
  if k < 80 then latE d eBasisK k else basisWord (romPrime (k - 80)) (romRoot (k - 80))
/-- PRIME as latched. -/
def latPrime (d : Desc) (k : Nat) : Nat := fld (latBasis d k) 0 4
/-- The entries a descriptor names. -/
def namedEntries (d : Desc) : List Nat :=
  (List.range (df d 35 1)).map (· + df d 34 1) ++
    (if dOp d = 0x34 then (List.range (df d 59 1)).map (· + df d 58 1) else [])

/-- ADDR_A is used. -/
def usesA (d : Desc) : Bool := !(dOp d == 0x34 && mOp d == 2)
/-- ADDR_B is a polynomial. -/
def usesB (d : Desc) : Bool :=
  (dOp d == 0x32 && (mOp d == 0 || mOp d == 2 || mOp d == 3)) || (dOp d == 0x33 && (mOp d == 0 || mOp d == 2))
/-- ADDR_B is a scalar table. -/
def usesScalar (d : Desc) : Bool :=
  (dOp d == 0x32 && mOp d == 1) || (dOp d == 0x33 && (mOp d == 1 || mOp d == 3))
/-- ADDR_B is a conversion table. -/
def usesTable (d : Desc) : Bool := dOp d == 0x34 && mOp d != 2

/-- OP is assigned (R143). -/
def modOpOk (d : Desc) : Bool :=
  let hi := if dOp d ≤ 0x31 then 0 else if dOp d = 0x32 then 5 else if dOp d = 0x33 then 3
    else if dOp d = 0x34 then 2 else 1
  decide (mOp d ≤ hi)

/-- Reserved fields are 0 (R9, R142, R143). With an OP that is not assigned no operation says that ADDR_B is
unused, and OP itself is refused (R147). -/
def modReservedZero (d : Desc) : Bool :=
  let op := dOp d
  decide (df d 36 1 < 8) && df d 62 2 == 0 &&
    (usesB d || usesScalar d || usesTable d || !modOpOk d || df d 46 6 == 0) && (usesA d || df d 40 6 == 0) &&
    (if op = 0x34 then mAux d / 65536 == 0 else if op = 0x35 then decide (mAux d < 2 ^ 18) else mAux d == 0)

/-- The polynomial sources: in Loft, address, extent; VMAC reads its destination (R143). -/
def modSources (d : Desc) : List (Bool × Nat × Nat) :=
  (if usesA d then [(bit (df d 36 1) 0, df d 40 6, limbExtent d (df d 35 1))] else []) ++
    (if usesB d then [(bit (df d 36 1) 1, df d 46 6, limbExtent d (df d 35 1))] else []) ++
    (if dOp d = 0x33 then [(bit (df d 36 1) 2, df d 52 6, limbExtent d (df d 35 1))] else [])

/-- The table sources. -/
def modTables (d : Desc) : List (Bool × Nat × Nat) :=
  if usesScalar d then [(bit (df d 36 1) 1, df d 46 6, 4 * df d 35 1)]
  else if usesTable d then [(bit (df d 36 1) 1, df d 46 6, convSize (df d 35 1) (df d 59 1))] else []

/-- The destination: in Loft, address, extent. -/
def modDest (d : Desc) : Bool × Nat × Nat :=
  (bit (df d 36 1) 2, df d 52 6,
    if dOp d = 0x34 ∧ mOp d = 2 then convSize (df d 35 1) (df d 59 1) else limbExtent d (mDstLimbs d))

/-- Destination and sources as R151 wants them. Extents are compared whole, the gaps between strided limbs
included, though no byte of a gap is touched (DESIGN CHOICE, log 142). -/
def destApart (d : Desc) : Bool :=
  let x := modDest d
  let meets (y : Bool × Nat × Nat) : Bool := x.1 == y.1 && overlaps x.2.1 x.2.2 y.2.1 y.2.2
  (modSources d).all (fun y => !meets y || (decide (dOp d ≤ 0x33) && y.1 == x.1 && y.2.1 == x.2.1)) &&
    (modTables d).all (fun y => !meets y)

/-- The bytes of the conversion table at ADDR_B, as a BASECONV copies them at its start (R145). -/
def tableBytes (s : State) (d : Desc) : Mem :=
  if usesTable d then
    mcopy (opMem s d (df d 32 1) (bit (df d 36 1) 1)) (df d 46 6) [] 0 (convSize (df d 35 1) (df d 59 1))
  else []

/-- The copied conversion table agrees with the descriptor and the latched basis (R145, R151). -/
def tableOk (d : Desc) : Bool :=
  mrd d.table 0 1 == df d 34 1 && mrd d.table 1 1 == df d 35 1 && mrd d.table 2 1 == df d 58 1 &&
    mrd d.table 3 1 == df d 59 1 && mrd d.table 4 4 == primesDigest ((namedEntries d).map (latPrime d))

/-- The descriptor touches no memory: LIMB_COUNT or TARGET_COUNT 0 (R142, R143). -/
def modEmpty (d : Desc) : Bool := df d 35 1 == 0 || mDstLimbs d == 0

/-- The checks of a modular descriptor at its start (R9, R147, R151), with what it latches in place. The fields
decide before the extents, and the extents before the table's own bytes (DESIGN CHOICE, log 143). A count of 0
needs no more than its fields, so PREPARE with TARGET_COUNT 0 completes OK whatever its source moduli are (R143
before R145; DESIGN CHOICE, log 143). -/
def modCheck (s : State) (d : Desc) : Option Nat :=
  let n := df d 33 1
  let b := df d 34 1
  let k := mAux d
  if !modReservedZero d then some stUnsupported
  else if !(diesOf (maskOf s (dCtx d))).contains (df d 32 1) || decide (n < 12 ∨ 17 < n) ||
      decide (80 < df d 35 1) || decide (96 < b + df d 35 1) || !modOpOk d ||
      (dOp d == 0x34 && decide (80 < df d 59 1 ∨ 96 < df d 58 1 + df d 59 1)) ||
      (dOp d == 0x35 && (k % 2 == 0 || decide (2 ^ (n + 1) ≤ k))) ||
      df d 40 6 % 4096 != 0 || df d 46 6 % (if usesScalar d then 64 else 4096) != 0 || df d 52 6 % 4096 != 0 ||
      !((namedEntries d).all (fun e => basisOk (latBasis d e))) ||
      ((decide (dOp d ≤ 0x31) || (dOp d == 0x35 && mOp d == 1)) &&
        (namedEntries d).any (fun e => fld (latBasis d e) 12 4 == 0)) ||
      decide (limbStride d < 4 * 2 ^ n) then some stParam
  else if modEmpty d then none
  else if !destApart d ||
      (dOp d == 0x34 && mOp d == 2 && ((List.range (df d 35 1)).map (fun i => latPrime d (b + i))).eraseDups.length != df d 35 1) then
    some stParam
  else if !((modSources d ++ modTables d ++ [modDest d]).all (fun x => operandOk s d x.1 x.2.1 x.2.2)) ||
      (modSources d ++ modTables d).any (fun x => !x.1 && srcForbidden s (dCtx d) x.2.1 x.2.2) ||
      (!(modDest d).1 && dstTables s (dCtx d) (modDest d).2.1 (modDest d).2.2) then some stAccess
  else if usesTable d && !tableOk d then some stParam
  else none

/-! ### Effects -/

/-- Limb j of a source operand at address a. -/
def srcLimb (s : State) (d : Desc) (loft : Bool) (a j t : Nat) : Nat :=
  limbAt (srcMem s d (df d 32 1) loft a (limbExtent d (df d 35 1))) (a + j * limbStride d) t

/-- Limb j of ADDR_A. -/
def limbA (s : State) (d : Desc) (j t : Nat) : Nat := srcLimb s d (bit (df d 36 1) 0) (df d 40 6) j t
/-- Limb j of ADDR_B. -/
def limbB (s : State) (d : Desc) (j t : Nat) : Nat := srcLimb s d (bit (df d 36 1) 1) (df d 46 6) j t
/-- Limb j of ADDR_D as it stands. -/
def limbD (s : State) (d : Desc) (j t : Nat) : Nat := srcLimb s d (bit (df d 36 1) 2) (df d 52 6) j t
/-- Scalar j. -/
def scalarB (s : State) (d : Desc) (j : Nat) : Nat :=
  limbAt (srcMem s d (df d 32 1) (bit (df d 36 1) 1) (df d 46 6) (4 * df d 35 1)) (df d 46 6) j

/-- Some word of the k limbs of an operand is not below its modulus (R134). -/
def wordsHigh (d : Desc) (f : Nat → Nat → Nat) (std : Bool) : Bool :=
  !std && (List.range (df d 35 1)).any (fun j => (List.range (2 ^ df d 33 1)).any (fun t =>
    decide (latPrime d (df d 34 1 + j) ≤ f j t)))

/-- Write c limbs to ADDR_D, limb j by f j. -/
def writeLimbs (s : State) (d : Desc) (c : Nat) (f : Nat → Nat → Nat) : State :=
  let lf := bit (df d 36 1) 2
  let m := (List.range c).foldl (fun m j => limbWrite m (df d 52 6 + j * limbStride d) (f j) (2 ^ df d 33 1))
    (opMem s d (df d 32 1) lf)
  setOpMem s d (df d 32 1) lf m

/-- Finish: INTEGRITY without a result when a word was out of range, else the c limbs written (R134,
R601). -/
def modFinish (s : State) (d : Desc) (bad : Bool) (c : Nat) (f : Nat → Nat → Nat) : State :=
  if modEmpty d then completeDesc s d stOk 0
  else if bad then endDesc s d stIntegrity
  else completeDesc (writeLimbs s d c f) d stOk c

/-- The primes, MONT values and roots of limb j. -/
def limbBasis (d : Desc) (j : Nat) : Nat := latBasis d (df d 34 1 + j)

/-- An element-wise descriptor of VMUL or VMAC: `g p mont j a b old`. -/
def elementWise (d : Desc) (std : Bool) (g : Nat → Nat → Nat → Nat → Nat → Nat → Nat) (s : State) : State :=
  let b := fun j t => if usesScalar d then scalarB s d j else if usesB d then limbB s d j t else 0
  let acc := dOp d == 0x33
  let bad := wordsHigh d (limbA s d) std || ((usesB d || usesScalar d) && wordsHigh d b false) ||
    (acc && wordsHigh d (limbD s d) false)
  modFinish s d bad (df d 35 1) (fun j t =>
    let w := limbBasis d j
    g (fld w 0 4) (fld w 4 4) (fld w 8 4) (limbA s d j t) (b j t) (if acc then limbD s d j t else 0))

/-- NTT (R138). -/
def execNtt (i : Nat) (e : HwErr) (s : State) : Res :=
  runDesc s i 0x30 e (fun d s =>
    modFinish s d (wordsHigh d (limbA s d) false) (df d 35 1) (fun j =>
      let w := limbBasis d j
      nttAt (fld w 0 4) (psiN (fld w 0 4) (fld w 12 4) (df d 33 1)) (df d 33 1) (limbA s d j)))

/-- INTT (R139). -/
def execIntt (i : Nat) (e : HwErr) (s : State) : Res :=
  runDesc s i 0x31 e (fun d s =>
    modFinish s d (wordsHigh d (limbA s d) false) (df d 35 1) (fun j =>
      let w := limbBasis d j
      inttAt (fld w 0 4) (psiN (fld w 0 4) (fld w 12 4) (df d 33 1)) (df d 33 1) (limbA s d j)))

/-- VMUL OP 0, and VMUL with an OP that is not assigned (R143, R147). -/
def execVmulProduct (i : Nat) (e : HwErr) (s : State) : Res :=
  runDescIf s i 0x32 (fun d => mOp d == 0 || decide (5 < mOp d)) e
    (fun d => elementWise d false (fun p mont _ a b _ => montMul p mont a b))

/-- VMUL OP 1 (R143). -/
def execVmulScalar (i : Nat) (e : HwErr) (s : State) : Res :=
  runDescIf s i 0x32 (fun d => mOp d == 1) e
    (fun d => elementWise d false (fun p mont _ a b _ => montMul p mont a b))

/-- VMUL OP 2 (R143). -/
def execVmulAdd (i : Nat) (e : HwErr) (s : State) : Res :=
  runDescIf s i 0x32 (fun d => mOp d == 2) e
    (fun d => elementWise d false (fun p _ _ a b _ => (a + b) % p))

/-- VMUL OP 3 (R143). -/
def execVmulSubtract (i : Nat) (e : HwErr) (s : State) : Res :=
  runDescIf s i 0x32 (fun d => mOp d == 3) e
    (fun d => elementWise d false (fun p _ _ a b _ => (a + p - b) % p))

/-- VMUL OP 4: to Montgomery form, by MONT_SQ; its input is in standard form (R133, R143). An input word
that is not below the modulus ends it as any other (R134). -/
def execVmulToMontgomery (i : Nat) (e : HwErr) (s : State) : Res :=
  runDescIf s i 0x32 (fun d => mOp d == 4) e
    (fun d => elementWise d false (fun p mont sq a _ _ => montMul p mont a sq))

/-- VMUL OP 5: to standard form, by 1 (R133, R143). -/
def execVmulToStandard (i : Nat) (e : HwErr) (s : State) : Res :=
  runDescIf s i 0x32 (fun d => mOp d == 5) e
    (fun d => elementWise d false (fun p mont _ a _ _ => montMul p mont a 1))

/-- VMAC OP 0, and VMAC with an OP that is not assigned (R143, R147). -/
def execVmacAddProduct (i : Nat) (e : HwErr) (s : State) : Res :=
  runDescIf s i 0x33 (fun d => mOp d == 0 || decide (3 < mOp d)) e
    (fun d => elementWise d false (fun p mont _ a b o => (o + montMul p mont a b) % p))

/-- VMAC OP 1 (R143). -/
def execVmacAddScalar (i : Nat) (e : HwErr) (s : State) : Res :=
  runDescIf s i 0x33 (fun d => mOp d == 1) e
    (fun d => elementWise d false (fun p mont _ a b o => (o + montMul p mont a b) % p))

/-- VMAC OP 2 (R143). -/
def execVmacSubProduct (i : Nat) (e : HwErr) (s : State) : Res :=
  runDescIf s i 0x33 (fun d => mOp d == 2) e
    (fun d => elementWise d false (fun p mont _ a b o => (o + p - montMul p mont a b) % p))

/-- VMAC OP 3 (R143). -/
def execVmacSubScalar (i : Nat) (e : HwErr) (s : State) : Res :=
  runDescIf s i 0x33 (fun d => mOp d == 3) e
    (fun d => elementWise d false (fun p mont _ a b o => (o + p - montMul p mont a b) % p))

/-- A word of the copied conversion table: byte offset past the header. -/
def convWord (d : Desc) (off len : Nat) : Nat := mrd d.table (64 + off) len

/-- Every word of the table that target limb j uses lies below the modulus it is used with (R144). -/
def convRowOk (d : Desc) (j : Nat) : Bool :=
  let a := df d 35 1
  let b := df d 59 1
  let p := latPrime d (df d 58 1 + j)
  (List.range a).all (fun i => decide (convWord d (4 * i) 4 < latPrime d (df d 34 1 + i)) &&
    decide (convWord d (4 * (a + i * b + j)) 4 < p)) && decide (convWord d (4 * (a + a * b + j)) 4 < p)

/-- Output word t of target limb j of a conversion (R144). Of a table with a word that is not below its modulus
the spec states no result: the word is a free value (DESIGN CHOICE, log 144). -/
def convOut (s : State) (d : Desc) (exact : Bool) (j t : Nat) : Nat :=
  let a := df d 35 1
  let b := df d 59 1
  let y (i : Nat) : Nat :=
    let w := limbBasis d i
    montMul (fld w 0 4) (fld w 4 4) (limbA s d i t) (convWord d (4 * i) 4)
  let z := ((List.range a).map (fun i => y i * convWord d (4 * (a + a * b + b) + 8 * i) 8)).sum
  let u := if exact then (z + 2 ^ 63) / 2 ^ 64 else 0
  let w := latBasis d (df d 58 1 + j)
  let p := fld w 0 4
  let mont := fld w 4 4
  let sm := ((List.range a).map (fun i => montMul p mont (y i) (convWord d (4 * (a + i * b + j)) 4))).sum % p
  if convRowOk d j then (sm + p - montMul p mont u (convWord d (4 * (a + a * b + j)) 4)) % p
  else Config.freeNat (s.free + 2 ^ df d 33 1 * j + t) % p

/-- A conversion's effect (R144). -/
def convEff (exact : Bool) (d : Desc) (s : State) : State :=
  let s1 := { s with free := s.free + 2 ^ df d 33 1 * df d 59 1 }
  modFinish s1 d (wordsHigh d (limbA s d) false) (df d 59 1) (convOut s d exact)

/-- BASECONV FAST, and BASECONV with an OP that is not assigned (R144, R147). -/
def execBaseconvFast (i : Nat) (e : HwErr) (s : State) : Res :=
  runDescIf s i 0x34 (fun d => mOp d == 0 || decide (2 < mOp d)) e (convEff false)

/-- BASECONV EXACT (R144). -/
def execBaseconvExact (i : Nat) (e : HwErr) (s : State) : Res :=
  runDescIf s i 0x34 (fun d => mOp d == 1) e (convEff true)

/-- The conversion table of R145 for source and target primes, as bytes from offset 0. Where a source modulus
shares a factor with another, as composite moduli may, its c_i does not exist and the word is a free value
(DESIGN CHOICE, log 144). -/
def convTable (k sf : Nat) (src : List Nat) (tf : Nat) (tgt : List Nat) : List Nat :=
  let q := src.foldl (· * ·) 1
  let hat (x : Nat) : Nat := q / x
  [sf, src.length, tf, tgt.length] ++ bytesOf (primesDigest (src ++ tgt)) 4 ++ List.replicate 56 0 ++
    src.zipIdx.flatMap (fun x => bytesOf (if Nat.gcd x.1 (hat x.1) = 1 then invMod x.1 (hat x.1 % x.1)
      else Config.freeNat (k + x.2) % 2 ^ 32) 4) ++
    src.flatMap (fun x => tgt.flatMap (fun p => bytesOf (hat x * 2 ^ 64 % p) 4)) ++
    tgt.flatMap (fun p => bytesOf (q * 2 ^ 64 % p) 4) ++
    src.flatMap (fun x => bytesOf ((2 ^ 65 + x) / (2 * x)) 8)

/-- Write a list of bytes. -/
def writeBytes (m : Mem) (a : Nat) : List Nat → Mem
  | [] => m
  | b :: r => writeBytes (mset m a (BitVec.ofNat 8 b)) (a + 1) r

/-- BASECONV PREPARE (R145): the table, padded with zeros to a multiple of 64 bytes. -/
def execBaseconvPrepare (i : Nat) (e : HwErr) (s : State) : Res :=
  runDescIf s i 0x34 (fun d => mOp d == 2) e (fun d s =>
    if modEmpty d then completeDesc s d stOk 0
    else
      let ps (f c : Nat) : List Nat := (List.range c).map (fun x => latPrime d (f + x))
      let tab := convTable s.free (df d 34 1) (ps (df d 34 1) (df d 35 1)) (df d 58 1) (ps (df d 58 1) (df d 59 1))
      let lf := bit (df d 36 1) 2
      let m := opMem s d (df d 32 1) lf
      let z := mclear m (df d 52 6) (convSize (df d 35 1) (df d 59 1))
      completeDesc { setOpMem s d (df d 32 1) lf (writeBytes z (df d 52 6) tab) with free := s.free + df d 35 1 } d stOk 1)

/-- AUTOMORPH in coefficient form, and AUTOMORPH with an OP that is not assigned (R140, R147). -/
def execAutomorphCoefficient (i : Nat) (e : HwErr) (s : State) : Res :=
  runDescIf s i 0x35 (fun d => mOp d != 1) e (fun d s =>
    modFinish s d (wordsHigh d (limbA s d) false) (df d 35 1) (fun j u =>
      let src := autoCoef (df d 33 1) (mAux d) u
      let p := fld (limbBasis d j) 0 4
      if src.2 then (p - limbA s d j src.1) % p else limbA s d j src.1))

/-- AUTOMORPH in NTT form (R140). -/
def execAutomorphNtt (i : Nat) (e : HwErr) (s : State) : Res :=
  runDescIf s i 0x35 (fun d => mOp d == 1) e (fun d s =>
    modFinish s d (wordsHigh d (limbA s d) false) (df d 35 1) (fun j u =>
      limbA s d j (autoSlot (df d 33 1) (mAux d) u)))

/-! ### BASIS_LOAD -/

/-- BASIS_LOAD's rule (R129): entry in bits 6:0, ROM index in bits 14:8; an entry above 79 lies outside
the range (R36). Bit 7 is in no field and is not called reserved: a value that sets it is taken to lie outside the
range too (DESIGN CHOICE, log 141). -/
def basisLoadRule (n v : Nat) (s : State) : Nat × State :=
  if 80 ≤ bits v 6 0 ∨ bit v 7 then (stParam, s)
  else (stOk, wrEj s eBasisK n (bits v 6 0) (basisWord (romPrime (bits v 14 8)) (romRoot (bits v 14 8))))

end Sys2Proof.Machine
end

