-- ==== Sys2Proof/Machine/Sealed.lean ====
section
/-!
DEFINITION. Sealed aggregation (chapter 6): ciphertext objects, noise, encryption, and the descriptors
CT_ADD, CT_PMUL, KEYSWITCH, ROTATE, MODDROP, ENCRYPT_CLEAR and DECRYPT_SHARE, with the key-share
message. Limbs are named by index: 0 to L - 1 ordinary, L to L + k - 1 special; a polynomial is a
function of limb and slot in Montgomery form (R133).
-/

namespace Sys2Proof.Machine

open Sys2Proof

/-! ### Limbs -/

/-- Basis entry of a limb (R158). -/
def limbEnt (s : State) (n i : Nat) : Nat :=
  if i < ksOrd s n then ksFld s n 0 16 1 + i else ksFld s n 0 17 1 + (i - ksOrd s n)

/-- The basis word of a limb, from an accessor of basis entries. -/
def limbWord (s : State) (n : Nat) (ent : Nat → Nat) (i : Nat) : Nat := ent (limbEnt s n i)

/-- Prime of a basis word. -/
def wPrime (w : Nat) : Nat := fld w 0 4
/-- MONT of a basis word. -/
def wMont (w : Nat) : Nat := fld w 4 4
/-- Product in Montgomery form. -/
def wMul (w x y : Nat) : Nat := montMul (wPrime w) (wMont w) x y
/-- The Montgomery form of an integer. -/
def wOf (w : Nat) (x : Int) : Nat := (x * 2 ^ 32 % (wPrime w : Int)).toNat
/-- Standard form. -/
def wStd (w x : Nat) : Nat := wMul w x 1
/-- NTT of one limb (R138). -/
def wNtt (w n : Nat) (a : Nat → Nat) : Nat → Nat := nttAt (wPrime w) (psiN (wPrime w) (fld w 12 4) n) n a
/-- INTT of one limb (R139). -/
def wIntt (w n : Nat) (a : Nat → Nat) : Nat → Nat := inttAt (wPrime w) (psiN (wPrime w) (fld w 12 4) n) n a

/-- Centred residue. -/
def centred (p x : Nat) : Int := if 2 * (x % p) < p then ((x % p : Nat) : Int) else ((x % p : Nat) : Int) - p

/-- F_l of R154 modulo t. -/
def plainFactor (s : State) (n : Nat) (ent : Nat → Nat) (l : Nat) : Nat :=
  ((List.range (ksOrd s n - 1 - l)).map (fun i => wPrime (limbWord s n ent (l + 1 + i)))).foldl
    (fun f q => f * invMod (ksT s n) q % ksT s n) (1 % ksT s n)

/-- CRC-32C over the primes of limbs 0 to l (R163). -/
def cDigest (s : State) (n : Nat) (ent : Nat → Nat) (l : Nat) : Nat :=
  primesDigest ((List.range (l + 1)).map (fun i => wPrime (limbWord s n ent i)))

/-- Q_l (R153). -/
def cQ (s : State) (n : Nat) (ent : Nat → Nat) (l : Nat) : Nat :=
  ((List.range (l + 1)).map (fun i => wPrime (limbWord s n ent i))).foldl (· * ·) 1

/-- A bound is within the limit of level l (R166, R168); 0 is within a limit below 1. -/
def cLimit (s : State) (n : Nat) (ent : Nat → Nat) (l bound : Nat) : Bool :=
  let e := Nat.log2 (cQ s n ent l)
  bound == 0 || decide (1 + ksFld s n 0 36 1 ≤ e) && decide (bound ≤ 2 ^ (e - 1 - ksFld s n 0 36 1))

/-! ### Ciphertexts -/

/-- A ciphertext as its limb words: part (0 or 1), limb, slot. -/
abbrev CtPoly := Nat → Nat → Nat → Nat

/-- Words of an object at address a of memory m, level l, degree 2^n (R163). -/
def objPoly (m : Mem) (a l n : Nat) : CtPoly := fun part i t =>
  mrd m (a + 4096 + (part * (l + 1) + i) * 4 * 2 ^ n + 4 * t) 4

/-- The 64-byte header of an object (R163). -/
def ctHeader (ty logN level member id tag bound digest count : Nat) : Nat :=
  ty + 2 ^ 8 * logN + 2 ^ 16 * level + 2 ^ 24 * member + 2 ^ 32 * (id % 2 ^ 32) + 2 ^ 64 * (tag % 2 ^ 64)
    + 2 ^ 128 * (bound % 2 ^ 64) + 2 ^ 192 * digest + 2 ^ 224 * (count % 2 ^ 32)

/-- Write the parts of an object below a header; bytes 64 to 4,095 take free values (DESIGN CHOICE, log 28). -/
def objWrite (m : Mem) (a k hdr parts l n : Nat) (c : CtPoly) : Mem :=
  (List.range (parts * (l + 1))).foldl
    (fun m i => limbWrite m (a + 4096 + i * 4 * 2 ^ n) (c (i / (l + 1)) (i % (l + 1))) (2 ^ n))
    (mwr (mfree m (a + 64) k 4032) a 64 hdr)

/-- The random part of an encryption (R180): the 2 + 4η bits of a coefficient, free values from k. -/
def encBits (k eta c : Nat) : Nat := Config.freeNat (k + c) % 2 ^ (2 + 4 * eta)
/-- u. -/
def encU (k eta c : Nat) : Int := if encBits k eta c % 4 = 1 then 1 else if encBits k eta c % 4 = 2 then -1 else 0
/-- e1 (which = 0) and e2 (which = 1). -/
def encE (k eta which c : Nat) : Int :=
  let b := encBits k eta c / 4 / 2 ^ (2 * eta * which)
  (popCount eta b : Int) - popCount eta (b / 2 ^ eta)

/-- Queue entries of 64 bytes that so many random bits take (R180, R480, R481). -/
def rngEntries (nbits : Nat) : Nat := cdiv (cdiv nbits 32 * 4) 64

/-- Draw them; a longer draw than the queue holds waits for the generator (DEDUCED, log 23). -/
def rngDraw (s : State) (nbits : Nat) : State := rngTake s (rngEntries nbits)

/-- Encryption of the plaintext slots under the public key at level l (R180): part, limb, slot. The
plaintext polynomial is taken centred (DEDUCED, log 27). -/
def encrypt (s : State) (n pos : Nat) (ent : Nat → Nat) (slots : Nat → Nat) (k : Nat) : CtPoly :=
  fun part i j =>
    let ln := ksLogN s n
    let t := ksT s n
    let eta := ksFld s n 0 19 1
    let w := limbWord s n ent i
    let m (c : Nat) : Int := if part = 0 then centred t (inttAt t (ksFld s n 0 24 4) ln slots c) else 0
    let pk := mrd (vmOf s n) (ksBase s n pos + 65536 + part * ksPoly s n (ksOrd s n) + i * 4 * 2 ^ ln + 4 * j) 4
    (wMul w pk (wNtt w ln (fun c => wOf w (encU k eta c)) j) +
      wNtt w ln (fun c => wOf w (t * encE k eta part c + m c)) j) % wPrime w

/-- The slot value of a clear word: its residue modulo t, whether it rounded, whether it saturated
(R63, R180). A NaN has no stated value and takes a free one (DESIGN CHOICE, log 29). -/
def clearSlot (s : State) (n : Nat) (pair : Bool) (shift w k : Nat) : Nat × Bool × Bool :=
  let t := ksT s n
  if pair then
    let v := w % 2 ^ 32
    let e := w / 2 ^ 32
    let h : Int := ((t - 1) / 2 : Nat)
    if fIsNan v || (fFinite v && !fFinite e) then (Config.freeNat k % t, false, false)
    else if fIsInf v then (((if fSign v then -h else h) % (t : Int)).toNat, false, true)
    else
      let x := (fScaled v + fScaled e) * 2 ^ shift
      let r := rneScaled x
      ((clampI (-h) h r % (t : Int)).toNat, decide (r * 2 ^ 149 ≠ x), decide (r < -h ∨ h < r))
  else ((toS 32 (w % 2 ^ 32) % (t : Int)).toNat, false, false)

/-- The plaintext slots of `rows` clear rows from address a (R156, R180), with the status they give. -/
def clearSlots (s : State) (n : Nat) (pair : Bool) (m : Mem) (a rows : Nat) : List (Nat × Bool × Bool) :=
  (List.range (1024 * rows)).map (fun x =>
    clearSlot s n pair (cfgE s eFloatShift n) (mrd m (a + (if pair then 8 else 4) * x) (if pair then 8 else 4)) (s.free + x))

/-- SATURATED, else INEXACT, else OK. -/
def slotStatus (l : List (Nat × Bool × Bool)) : Nat :=
  if l.any (fun x => x.2.2) then stSaturated else if l.any (fun x => x.2.1) then stInexact else stOk

/-- F_l times each value in its slot, 0 elsewhere (R180). -/
def scaledSlots (s : State) (n : Nat) (ent : Nat → Nat) (l : Nat) (v : List (Nat × Bool × Bool)) (i : Nat) : Nat :=
  plainFactor s n ent l * (v.getD i (0, false, false)).1 % ksT s n

/-- One prime dropped (R179): the highest limb i of each part. -/
def dropOne (s : State) (n : Nat) (ent : Nat → Nat) (i : Nat) (c : CtPoly) : CtPoly := fun part j x =>
  let ln := ksLogN s n
  let t := ksT s n
  let wq := limbWord s n ent i
  let q := wPrime wq
  let w := limbWord s n ent j
  let p := wPrime w
  let delta (u : Nat) : Int := t * centred q (wStd wq (wIntt wq ln (c part i) u) * invMod q t)
  let diff := (c part j x + p - wNtt w ln (fun u => wOf w (delta u)) x) % p
  wMul w diff (wOf w (invMod p q : Nat))

/-- Drop from level l down to level `last` (R179). -/
def dropTo (s : State) (n : Nat) (ent : Nat → Nat) (l last : Nat) (c : CtPoly) : CtPoly :=
  (List.range (l - last)).foldl (fun c x => dropOne s n ent (l - x) c) c

/-- The noise word after those drops (R167). -/
def dropNoise (s : State) (n : Nat) (ent : Nat → Nat) (l last b : Nat) : Nat :=
  (List.range (l - last)).foldl (fun w x =>
    let q := wPrime (limbWord s n ent (l - x))
    noiseWord (2 * noiseVal w + q * ksT s n * (2 ^ ksLogN s n + 1)) (2 * q)) b

/-! ### Key switching -/

/-- BASECONV FAST of limbs `src` into limb j (R144). -/
def fastConv (s : State) (n : Nat) (ent : Nat → Nat) (src : List Nat) (x : Nat → Nat → Nat) (j u : Nat) : Nat :=
  let q (i : Nat) : Nat := wPrime (limbWord s n ent i)
  let prod := (src.map q).foldl (· * ·) 1
  let w := limbWord s n ent j
  wOf w ((src.map (fun i =>
    wStd (limbWord s n ent i) (x i u) * invMod (q i) (prod / q i % q i) % q i * (prod / q i))).sum : Nat)

/-- Ordinary limbs of digit j within level l (R161, R167). -/
def digitLimbs (s : State) (n l j : Nat) : List Nat :=
  (List.range (l + 1)).filter (fun i => decide (ksAlpha s n * j ≤ i ∧ i < ksAlpha s n * (j + 1)))

/-- Digits in use. -/
def digitsUsed (s : State) (n l : Nat) : Nat := cdiv (l + 1) (ksAlpha s n)

/-- Byte offset in the object of polynomial (digit j, part) of directory entry en. -/
def keyPolyOff (s : State) (n en j part : Nat) : Nat :=
  switchOff s n + ((en * ksFld s n 0 18 1 + j) * 2 + part) * ksPoly s n (ksOrd s n + ksSpec s n)

/-- A switch-key word: from the Loft of the die when RESIDENT, else from the key set's copy (R170, R171). -/
def keyWord (s : State) (n die en j part i x : Nat) : Nat :=
  let off := keyPolyOff s n en j part + i * 4 * 2 ^ ksLogN s n + 4 * x
  if cfgE s eKeyResidency n = 0 then mrd (loftOf s die) (65536 * cfgE s eKeyLoftFirst n + (off - switchOff s n)) 4
  else mrd (vmOf s n) (ksBase s n (posOf s n die) + off) 4

/-- The limbs a switch works over: 0 to l and the special limbs. -/
def switchLimbs (s : State) (n l : Nat) : List Nat :=
  List.range (l + 1) ++ (List.range (ksSpec s n)).map (· + ksOrd s n)

/-- u0 (part 0) and u1 (part 1) over limb i (R178). -/
def switchSum (s : State) (n die en : Nat) (ent : Nat → Nat) (l : Nat) (c : CtPoly) (part i x : Nat) : Nat :=
  let ln := ksLogN s n
  let w := limbWord s n ent i
  let xs (k : Nat) : Nat → Nat := wIntt (limbWord s n ent k) ln (c 1 k)
  sumMod (wPrime w) (fun j =>
    let ds := digitLimbs s n l j
    let y := if ds.contains i then c 1 i x else wNtt w ln (fastConv s n ent ds xs i) x
    wMul w y (keyWord s n die en j part i x)) (digitsUsed s n l)

/-- The result of a key switch (R178). -/
def switchCt (s : State) (n die en : Nat) (ent : Nat → Nat) (l : Nat) (c : CtPoly) : CtPoly := fun part i x =>
  let ln := ksLogN s n
  let t := ksT s n
  let sp := (List.range (ksSpec s n)).map (· + ksOrd s n)
  let u (k : Nat) : Nat → Nat := switchSum s n die en ent l c part k
  let v (k y : Nat) : Nat :=
    let wk := limbWord s n ent k
    wMul wk (wIntt wk ln (u k) y) (wOf wk (invMod (wPrime wk) t : Nat))
  let w := limbWord s n ent i
  let p := wPrime w
  let low := wNtt w ln (fastConv s n ent sp v i) x
  let bigP := (sp.map (fun k => wPrime (limbWord s n ent k))).foldl (· * ·) 1
  let r := wMul w ((u i x + p - wMul w low (wOf w (t : Nat))) % p) (wOf w (invMod p (bigP % p) : Nat))
  if part = 0 then (c 0 i x + r) % p else r

/-- The key chunks that a switch at level l reads, in order (R170, R171). -/
def switchChunks (s : State) (n en l : Nat) : List Nat :=
  let z := 4 * 2 ^ ksLogN s n
  ((List.range (digitsUsed s n l)).flatMap (fun j => (List.range 2).flatMap (fun part =>
    (switchLimbs s n l).flatMap (fun i => (List.range (cdiv z 65536)).map (fun c =>
      (keyPolyOff s n en j part + i * z + 65536 * c) / 65536))))).eraseDups

/-- The chunks of the public key that an encryption at level l reads. -/
def publicChunks (s : State) (n l : Nat) : List Nat :=
  let z := 4 * 2 ^ ksLogN s n
  ((List.range 2).flatMap (fun part => (List.range (l + 1)).flatMap (fun i => (List.range (cdiv z 65536)).map (fun c =>
    (65536 + part * ksPoly s n (ksOrd s n) + i * z + 65536 * c) / 65536)))).eraseDups

/-- The label of a chunk at die position pos names the round key set and the chunk (R162). -/
def labelOk (s : State) (n pos c : Nat) : Bool :=
  let a := ksBase s n pos + 65536 * ksFld s n pos 40 4 + 16 * c
  mrd (vmOf s n) a 4 == ksFld s n 0 4 4 && mrd (vmOf s n) (a + 4) 8 == ksFld s n 0 8 8 &&
    mrd (vmOf s n) (a + 12) 4 == c

/-! ### Descriptor fields and checks -/

/-- ADDR_A in Loft. -/
def sLoftA (d : Desc) : Bool := bit (df d 33 1) 0
/-- ADDR_B in Loft. -/
def sLoftB (d : Desc) : Bool := bit (df d 33 1) 1
/-- ADDR_D in Loft. -/
def sLoftD (d : Desc) : Bool := bit (df d 33 1) 2
/-- LEVEL of the object at ADDR_A. -/
def levelA (s : State) (d : Desc) : Nat := objFld s d (sLoftA d) (df d 36 6) 2 1
/-- Level of the result (R175). -/
def levelD (s : State) (d : Desc) : Nat := if dOp d = 0x44 ∨ dOp d = 0x45 then df d 34 1 else levelA s d
/-- ROWS of ENCRYPT_CLEAR. -/
def encRows (d : Desc) : Nat := df d 56 2
/-- Bytes of an object of two parts, or one, at level l. -/
def objSize (s : State) (n l parts : Nat) : Nat := 4096 + parts * (l + 1) * 4 * 2 ^ ksLogN s n
/-- Bytes of KEYSWITCH's scratch at level l (R175). -/
def scratchSize (s : State) (n l : Nat) : Nat := 3 * (l + 1 + ksSpec s n) * 4 * 2 ^ ksLogN s n

/-- Byte field of directory entry en at die position pos (R160). -/
def dirFld (s : State) (n pos en off len : Nat) : Nat := ksFld s n pos (64 + 16 * en + off) len

/-- Order 1 of R176: reserved fields and OP. -/
def sReservedOk (d : Desc) : Bool :=
  let op := dOp d
  decide (df d 33 1 < 8) &&
    (op == 0x40 || op == 0x41 || op == 0x42 || op == 0x43 || df d 42 6 == 0) &&
    (op == 0x44 || op == 0x45 || df d 34 1 == 0) &&
    (op == 0x42 || op == 0x43 || df d 54 2 == 0) &&
    (op == 0x43 || op == 0x45 || op == 0x46 || df d 56 8 == 0) &&
    (op != 0x43 || decide (df d 56 8 < 2 ^ 18)) && (op != 0x45 || decide (df d 62 2 = 0)) &&
    (if op = 0x45 then decide (df d 35 1 ≤ 1) else df d 35 1 == 0)

/-- Operand ranges: in Loft, address, bytes. -/
def sOperands (s : State) (d : Desc) : List (Bool × Nat × Nat) :=
  let n := dCtx d
  let op := dOp d
  if op = 0x45 then [(sLoftA d, df d 36 6, encRows d * (if df d 35 1 = 1 then 8192 else 4096))]
  else (sLoftA d, df d 36 6, objSize s n (levelA s d) 2) ::
    (if op = 0x40 then [(sLoftB d, df d 42 6, objSize s n (levelA s d) 2)]
    else if op = 0x41 then [(sLoftB d, df d 42 6, objSize s n (levelA s d) 1)] else [])

/-- Scratch ranges. -/
def sScratch (s : State) (d : Desc) : List (Bool × Nat × Nat) :=
  if dOp d = 0x42 ∨ dOp d = 0x43 then [(sLoftB d, df d 42 6, scratchSize s (dCtx d) (levelA s d))] else []

/-- The destination. -/
def sDest (s : State) (d : Desc) : Bool × Nat × Nat :=
  (sLoftD d, df d 48 6, objSize s (dCtx d) (levelD s d) (if dOp d = 0x46 then 1 else 2))

/-- Two ranges meet. -/
def rangesMeet (x y : Bool × Nat × Nat) : Bool := x.1 == y.1 && overlaps x.2.1 x.2.2 y.2.1 y.2.2

/-- Destination and scratch as R183 wants them. -/
def sApart (s : State) (d : Desc) : Bool :=
  let op := dOp d
  let dst := sDest s d
  let same := (op == 0x40 || op == 0x41 || op == 0x44) && sLoftD d == sLoftA d && df d 48 6 == df d 36 6
  (sOperands s d).zipIdx.all (fun x => !rangesMeet dst x.1 || (same && x.2 == 0)) &&
    (sScratch s d).all (fun x => !rangesMeet dst x && (sOperands s d).all (fun y => !rangesMeet x y))

/-- An object's TYPE, LOG_N, LEVEL and BASIS_DIGEST agree (R176 order 3). -/
def objOk (s : State) (d : Desc) (loft : Bool) (a ty lv : Nat) : Bool :=
  objFld s d loft a 0 1 == ty && objFld s d loft a 1 1 == ksLogN s (dCtx d) && objFld s d loft a 2 1 == lv &&
    decide (lv < ksOrd s (dCtx d)) && objFld s d loft a 24 4 == cDigest s (dCtx d) (latBasis d) lv

/-- Members of DECRYPT_SET. -/
def decryptSet (d : Desc) : List Nat := (setBits 64 (df d 56 8)).map (· + 1)

/-- The conditions of R181 and R67 on DECRYPT_SHARE. -/
def shareCondOk (s : State) (d : Desc) : Bool :=
  let n := dCtx d
  rdE s eCommitteeThreshold n ≤ rdE s eCommitteeSize n && (decryptSet d).contains (cfgE s eSelfMember n) &&
    (decryptSet d).length == rdE s eCommitteeThreshold n &&
    (decryptSet d).all (fun m => decide (m ≤ rdE s eCommitteeSize n)) && rdE s eKeyshareState n == 1

/-- The opcode's own conditions (R175, R178 to R181). -/
def sOpCond (s : State) (d : Desc) : Bool :=
  let n := dCtx d
  let en := df d 54 2
  let pos := posOf s n (df d 32 1)
  let g := df d 56 8
  let l := levelA s d
  let key (kind : Nat) : Bool := ksSpec s n != 0 && decide (en < ksFld s n 0 38 2) && dirFld s n pos en 0 1 == kind
  if dOp d = 0x45 then decide (df d 34 1 < ksOrd s n ∧ encRows d ≤ rhoE s n)
  else objOk s d (sLoftA d) (df d 36 6) 0x43 l &&
    (if dOp d = 0x40 then objOk s d (sLoftB d) (df d 42 6) 0x43 l
    else if dOp d = 0x41 then objOk s d (sLoftB d) (df d 42 6) 0x50 l
    else if dOp d = 0x42 then key 0
    else if dOp d = 0x43 then key 1 && g == dirFld s n pos en 4 4 && g % 2 == 1 && decide (g < 2 * 2 ^ ksLogN s n)
    else if dOp d = 0x44 then decide (df d 34 1 < l)
    else shareCondOk s d)

/-- The limbs a Sealed descriptor works over. -/
def sLimbs (s : State) (d : Desc) : List Nat :=
  if dOp d = 0x42 ∨ dOp d = 0x43 then switchLimbs s (dCtx d) (levelA s d)
  else if dOp d = 0x45 then List.range (df d 34 1 + 1)
  else List.range (levelA s d + 1)

/-- The latched entries of those limbs pass R130, with a root where the opcode transforms (R151), and the key
set's BASIS_DIGEST is that of the latched primes (R158, R176). -/
def sBasisOk (s : State) (d : Desc) : Bool :=
  let n := dCtx d
  let prime (i : Nat) : Nat := wPrime (limbWord s n (latBasis d) i)
  (sLimbs s d).all (fun i =>
    let w := limbWord s n (latBasis d) i
    basisOk w && (decide (dOp d ≤ 0x41) || fld w 12 4 != 0)) &&
    ksFld s n 0 32 4 == primesDigest ((switchLimbs s n (ksOrd s n - 1)).map prime)

/-- Order 2 of R176: a DECRYPT_SHARE outside READY, of another object than the round total's, or below
MIN_CONTRIBUTORS (R58). -/
def sharePolicyOk (s : State) (d : Desc) : Bool :=
  let n := dCtx d
  exportOk s n && !sLoftA d && ttE s n == ttSealed &&
    decide (totalBase s n ≤ df d 36 6 ∧ df d 36 6 < totalBase s n + totalSize s n)

/-- Order 5 of R176: identifiers, tags, and the label and header of the first key chunk. -/
def sKeyOk (s : State) (d : Desc) : Bool :=
  let n := dCtx d
  let pos := posOf s n (df d 32 1)
  let en := df d 54 2
  let op := dOp d
  let isKs (id tag : Nat) (loft : Bool) (a : Nat) : Bool := objFld s d loft a 4 4 == id && objFld s d loft a 8 8 == tag
  let id := ksFld s n 0 4 4
  let tag := ksFld s n 0 8 8
  let hdr := ksFld s n pos 4 4 == id && ksFld s n pos 8 8 == tag
  (op == 0x45 ||
    (if op = 0x42 then isKs (dirFld s n pos en 4 4) (dirFld s n pos en 8 8) (sLoftA d) (df d 36 6)
    else isKs id tag (sLoftA d) (df d 36 6) && (op != 0x40 || isKs id tag (sLoftB d) (df d 42 6)))) &&
    (if op = 0x42 ∨ op = 0x43 then
      hdr && labelOk s n pos ((switchChunks s n en (levelA s d)).headD 0)
    else op != 0x45 || (hdr && labelOk s n pos 1))

/-- The result's noise word (R167). -/
def sNoise (s : State) (d : Desc) : Nat :=
  let n := dCtx d
  let op := dOp d
  let b1 := objFld s d (sLoftA d) (df d 36 6) 16 8
  let v1 := noiseVal b1
  let ks := ksBoundNum s n (levelA s d)
  if op = 0x40 then noiseWord (v1 + noiseVal (objFld s d (sLoftB d) (df d 42 6) 16 8)) 1
  else if op = 0x41 then noiseWord (2 ^ ksLogN s n * objFld s d (sLoftB d) (df d 42 6) 16 4 * v1) 1
  else if op = 0x42 ∨ op = 0x43 then noiseWord (v1 * ks.2 + ks.1) ks.2
  else if op = 0x44 then dropNoise s n (latBasis d) (levelA s d) (df d 34 1) b1
  else if op = 0x45 then noiseWord (freshBound s n) 1
  else b1

/-- Order 6 of R176 (R168). -/
def sNoiseOk (s : State) (d : Desc) : Bool :=
  let n := dCtx d
  if dOp d = 0x46 then
    decide (noiseVal (sNoise s d) + rdE s eCommitteeThreshold n * ksT s n * 2 ^ ksFld s n 0 37 1 ≤
      2 ^ (Nat.log2 (cQ s n (latBasis d) (levelA s d)) - 1))
  else cLimit s n (latBasis d) (levelD s d) (noiseVal (sNoise s d))

/-- ENCRYPT_CLEAR with ROWS 0 touches no memory (R304). -/
def sEmpty (d : Desc) : Bool := dOp d == 0x45 && encRows d == 0

/-- The checks of R176, in order. -/
def sealedCheck (s : State) (d : Desc) : Option Nat :=
  let n := dCtx d
  if !sReservedOk d then some stUnsupported
  else if dOp d == 0x46 && !sharePolicyOk s d then some stPolicy
  else if !(diesE s n).contains (df d 32 1) || df d 36 6 % 4096 != 0 || df d 42 6 % 4096 != 0 ||
      df d 48 6 % 4096 != 0 || !residencyOk s n || !sBasisOk s d || !sOpCond s d then some stParam
  else if sEmpty d then none
  else if !sApart s d then some stParam
  else if !((sOperands s d ++ sScratch s d ++ [sDest s d]).all (fun x => operandOk s d x.1 x.2.1 x.2.2)) ||
      (sOperands s d).any (fun x => !x.1 && srcForbidden s n x.2.1 x.2.2) ||
      (sDest s d :: sScratch s d).any (fun x => !x.1 && dstTables s n x.2.1 x.2.2) then some stAccess
  else if !sKeyOk s d then some stKey
  else if !sNoiseOk s d then some stNoise
  else none

/-! ### Effects -/

/-- The ciphertext at an operand address. -/
def ctAt (s : State) (d : Desc) (loft : Bool) (a l : Nat) : CtPoly :=
  objPoly (srcMem s d (df d 32 1) loft a (objSize s (dCtx d) l 2)) a l (ksLogN s (dCtx d))

/-- Some word of limbs 0 to l is not below its prime (R134). -/
def ctHigh (s : State) (d : Desc) (l parts : Nat) (c : CtPoly) : Bool :=
  (List.range parts).any (fun part => (List.range (l + 1)).any (fun i =>
    (List.range (2 ^ ksLogN s (dCtx d))).any (fun t =>
      decide (wPrime (limbWord s (dCtx d) (latBasis d) i) ≤ c part i t))))

/-- Scratch after use: its contents are free values (DESIGN CHOICE, log 28). -/
def sScratchJunk (s : State) (d : Desc) : State :=
  (sScratch s d).foldl (fun s x =>
    { setOpMem s d (df d 32 1) x.1 (mfree (opMem s d (df d 32 1) x.1) x.2.1 s.free x.2.2) with
      free := s.free + x.2.2 }) s

/-- In a Sealed round RESIDENT keys that a die's Loft has lost are loaded again by the next Sealed descriptor on
it; OPEN has loaded them at first, and nothing loads them outside a round (R171; DEDUCED, log 145). -/
def sReload (s : State) (d : Desc) : State :=
  let n := dCtx d
  let die := df d 32 1
  if roundSt s n ≠ rsNone ∧ bit (modesE s n) 4 = true ∧ cfgE s eKeyResidency n = 0 ∧
      (cx s n).keysLoaded.contains die = false then
    bumpE (loadKeys s n die) eKeyReloads n
  else s

/-- Write the result object and complete (R163, R601). -/
def sFinish (s : State) (d : Desc) (ty member id tag bound count st : Nat) (parts : Nat) (c : CtPoly) : State :=
  let n := dCtx d
  let l := levelD s d
  let hdr := ctHeader ty (ksLogN s n) l member id tag bound (cDigest s n (latBasis d) l) count
  let m := objWrite (opMem s d (df d 32 1) (sLoftD d)) (df d 48 6) s.free hdr parts l (ksLogN s n) c
  completeDesc { setOpMem s d (df d 32 1) (sLoftD d) m with free := s.free + 4032 } d st 1

/-- A ciphertext result under the round key set with the count of operand A. -/
def sResult (s : State) (d : Desc) (count : Nat) (c : CtPoly) : State :=
  sFinish s d 0x43 0 (ksFld s (dCtx d) 0 4 4) (ksFld s (dCtx d) 0 8 8) (sNoise s d) count stOk 2 c

/-- COUNT of an operand. -/
def countAt (s : State) (d : Desc) (loft : Bool) (a : Nat) : Nat := objFld s d loft a 28 4

/-- CT_ADD's effect (R175): the limb-wise sum; COUNT adds (DEDUCED, log 30). -/
def ctAddEff (d : Desc) (s : State) : State :=
  let s := sReload s d
  let l := levelA s d
  let a := ctAt s d (sLoftA d) (df d 36 6) l
  let b := ctAt s d (sLoftB d) (df d 42 6) l
  if ctHigh s d l 2 a || ctHigh s d l 2 b then endDesc s d stIntegrity
  else sResult s d (countAt s d (sLoftA d) (df d 36 6) + countAt s d (sLoftB d) (df d 42 6))
    (fun part i t => (a part i t + b part i t) % wPrime (limbWord s (dCtx d) (latBasis d) i))

/-- CT_ADD. -/
def execCtAdd (i : Nat) (e : HwErr) (s : State) : Res := runDesc s i 0x40 e ctAddEff

/-- CT_PMUL's effect (R175): both parts times the plaintext. -/
def ctPmulEff (d : Desc) (s : State) : State :=
  let s := sReload s d
  let l := levelA s d
  let a := ctAt s d (sLoftA d) (df d 36 6) l
  let b := ctAt s d (sLoftB d) (df d 42 6) l
  if ctHigh s d l 2 a || ctHigh s d l 1 b then endDesc s d stIntegrity
  else sResult s d (countAt s d (sLoftA d) (df d 36 6))
    (fun part i t => wMul (limbWord s (dCtx d) (latBasis d) i) (a part i t) (b 0 i t))

/-- CT_PMUL. -/
def execCtPmul (i : Nat) (e : HwErr) (s : State) : Res := runDesc s i 0x41 e ctPmulEff

/-- A switch after the checks (R177, R178): the label of every chunk read is compared, for RESIDENT keys too
(R162), and streamed chunks count in KEY_BYTES; a later label that differs zero-fills the destination. -/
def switchEff (g : Option Nat) (d : Desc) (s0 : State) : State :=
  let n := dCtx d
  let die := df d 32 1
  let s := sReload s0 d
  let l := levelA s d
  let en := df d 54 2
  let chunks := switchChunks s n en l
  let good := chunks.takeWhile (labelOk s n (posOf s n die))
  let s1 := if roundSt s n = rsNone ∨ cfgE s eKeyResidency n = 0 then s else addE s eKeyBytes n (65536 * good.length)
  if good.length < chunks.length then
    let x := sDest s d
    completeDesc (setOpMem s1 d die x.1 (mclear (opMem s1 d die x.1) x.2.1 x.2.2)) d stKey 0
  else
    let a := ctAt s d (sLoftA d) (df d 36 6) l
    let c : CtPoly := match g with
      | none => a
      | some k => fun part i t => a part i (autoSlot (ksLogN s n) k t)
    let high := (switchLimbs s n l).any (fun i => (List.range (digitsUsed s n l)).any (fun j =>
      (List.range (2 ^ ksLogN s n)).any (fun t => (List.range 2).any (fun part =>
        decide (wPrime (limbWord s n (latBasis d) i) ≤ keyWord s n die en j part i t)))))
    let s2 := sScratchJunk s1 d
    if ctHigh s d l 2 a || high then endDesc s2 d stIntegrity
    else
      let hdr := ctHeader 0x43 (ksLogN s n) l 0 (ksFld s n 0 4 4) (ksFld s n 0 8 8) (sNoise s d)
        (cDigest s n (latBasis d) l) (countAt s d (sLoftA d) (df d 36 6))
      let m := objWrite (opMem s2 d die (sLoftD d)) (df d 48 6) s2.free hdr 2 l (ksLogN s n)
        (switchCt s n die en (latBasis d) l c)
      completeDesc { setOpMem s2 d die (sLoftD d) m with free := s2.free + 4032 } d stOk 1

/-- KEYSWITCH. -/
def execKeyswitch (i : Nat) (e : HwErr) (s : State) : Res := runDesc s i 0x42 e (switchEff none)

/-- ROTATE: the automorphism first (R178). -/
def execRotate (i : Nat) (e : HwErr) (s : State) : Res :=
  runDesc s i 0x43 e (fun d => switchEff (some (df d 56 8)) d)

/-- MODDROP's effect (R179). -/
def moddropEff (d : Desc) (s : State) : State :=
  let s := sReload s d
  let l := levelA s d
  let a := ctAt s d (sLoftA d) (df d 36 6) l
  if ctHigh s d l 2 a then endDesc s d stIntegrity
  else sResult s d (countAt s d (sLoftA d) (df d 36 6)) (dropTo s (dCtx d) (latBasis d) l (df d 34 1) a)

/-- MODDROP. -/
def execModdrop (i : Nat) (e : HwErr) (s : State) : Res := runDesc s i 0x44 e moddropEff

/-- ENCRYPT_CLEAR's effect (R180): no random words end it with RNG_UNAVAILABLE; a public-key chunk whose
label differs zero-fills the destination (R177). -/
def encryptEff (d : Desc) (s0 : State) : State :=
  let n := dCtx d
  let die := df d 32 1
  if sEmpty d then completeDesc s0 d stOk 0
  else
    let s := sReload s0 d
    let nn := 2 ^ ksLogN s n
    let l := df d 34 1
    let pair := df d 35 1 == 1
    let pos := posOf s n die
    let x := sDest s d
    if s.rng.queue = [] then endDesc (hwCount s .rng) d stRng
    else if (publicChunks s n l).all (labelOk s n pos) = false then
      completeDesc (setOpMem s d die x.1 (mclear (opMem s d die x.1) x.2.1 x.2.2)) d stKey 0
    else
      let v := clearSlots s n pair (srcMem s d die (sLoftA d) (df d 36 6) (encRows d * 8192)) (df d 36 6) (encRows d)
      let k := s.free + 1024 * encRows d
      let c := encrypt s n pos (latBasis d) (scaledSlots s n (latBasis d) l v) k
      let s1 := { rngDraw s (nn * (2 + 4 * ksFld s n 0 19 1)) with free := k + nn }
      sFinish s1 d 0x43 0 (ksFld s n 0 4 4) (ksFld s n 0 8 8) (sNoise s d) (df d 58 4) (slotStatus v) 2 c

/-- ENCRYPT_CLEAR OP 0, and ENCRYPT_CLEAR with an OP that is not assigned (R175, R176). -/
def execEncryptClearInt32 (i : Nat) (e : HwErr) (s : State) : Res :=
  runDescIf s i 0x45 (fun d => df d 35 1 != 1) e encryptEff

/-- ENCRYPT_CLEAR OP 1. -/
def execEncryptClearFp32Pair (i : Nat) (e : HwErr) (s : State) : Res :=
  runDescIf s i 0x45 (fun d => df d 35 1 == 1) e encryptEff

/-- DECRYPT_SHARE's effect (R181): λ · c1 · s_m + t · e with fresh smudging noise. A ciphertext word out of range
changes nothing of what is drawn (R134, R185). -/
def decryptEff (d : Desc) (s0 : State) : State :=
  let n := dCtx d
  let s := sReload s0 d
  let ln := ksLogN s n
  let l := levelA s d
  let sb := ksFld s n 0 37 1
  let self := cfgE s eSelfMember n
  let a := ctAt s d (sLoftA d) (df d 36 6) l
  if s.rng.queue = [] then endDesc (hwCount s .rng) d stRng
  else if ctHigh s d l 2 a then
    endDesc { rngDraw s (2 ^ ln * (sb + 1)) with free := s.free + 2 ^ ln } d stIntegrity
  else
    let base := cfgE s eKeyshareBase n + posOf s n (df d 32 1) * cfgE s eKeysetStride n
    let e (c : Nat) : Int := (Config.freeNat (s.free + c) % 2 ^ (sb + 1) : Nat) - 2 ^ sb
    let c : CtPoly := fun _ i t =>
      let w := limbWord s n (latBasis d) i
      let lam := wOf w (lagrange (wPrime w) (decryptSet d) 0 self : Nat)
      let sm := mrd (vmOf s n) (base + i * 4 * 2 ^ ln + 4 * t) 4
      (wMul w (wMul w (a 1 i t) sm) lam + wNtt w ln (fun u => wOf w (ksT s n * e u)) t) % wPrime w
    let s1 := { rngDraw s (2 ^ ln * (sb + 1)) with free := s.free + 2 ^ ln }
    sFinish s1 d 0x44 self (ksFld s n 0 4 4) (ksFld s n 0 8 8) (df d 56 8) (rdE s eRoundNumber n) stOk 1 c

/-- DECRYPT_SHARE. -/
def execDecryptShare (i : Nat) (e : HwErr) (s : State) : Res := runDesc s i 0x46 e decryptEff

/-! ### Key-share message -/

/-- Ranges of the key-share copies (R182). -/
def shareCopies (s : State) (n : Nat) : List (Nat × Nat) :=
  ((List.range (diesE s n).length).map (fun k =>
    (cfgE s eKeyshareBase n + k * cfgE s eKeysetStride n, kib64 (4 * ksOrd s n * 2 ^ ksLogN s n)))).eraseDups

/-- A copy lies in the context's regions, below 2^48, clear of the context area and workspaces (R182),
and of the tables (R79). -/
def shareCopyOk (s : State) (n : Nat) (x : Nat × Nat) : Bool :=
  localOk s (cx s n).owner n x.1 x.2 && in48 x.1 x.2 && !dstTables s n x.1 x.2 &&
    !overlaps x.1 x.2 (areaBase s n) (cfgE s eAreaSize n) &&
    !overlaps x.1 x.2 (cfgE s eWorkBase n) (cfgE s eWorkSize n) &&
    !overlaps x.1 x.2 (cfgE s eShWorkBase n) (cfgE s eShWorkSize n) &&
    !overlaps x.1 x.2 (cfgE s eRidgeBase n) (cfgE s eRidgeSize n)

/-- The checks of R182, in order. -/
def keyShareCheck (s : State) (key : Nat) (m : KeyShareMsg) : Option Nat :=
  let n := (keyOf s key).ctx
  if m.len ≠ 64 + 4 * ksOrd s n * 2 ^ ksLogN s n ∨ m.msgType ≠ 2 ∨ m.rsvZero = false ∨ m.logN ≠ ksLogN s n ∨
      m.limbs ≠ ksOrd s n then some stUnsupported
  else if m.member = 0 ∨ rosterHash s n m.member ≠ (keyOf s key).peerHash ∨ m.member ≠ cfgE s eSelfMember n ∨
      rdE s eCommitteeSize n < m.member then some stPolicy
  else if m.keySetId ≠ ksFld s n 0 4 4 ∨ m.tag ≠ ksFld s n 0 8 8 then some stKey
  else if rdE s eKeyshareState n ≠ 0 then some stPolicy
  else if m.words.any (fun w => decide (basisPrime s n (limbEnt s n (w.1 / 2 ^ ksLogN s n)) ≤ w.2)) then some stParam
  else if (shareCopies s n).all (shareCopyOk s n) = false then some stAccess
  else none

/-- Write the share into a copy. -/
def writeShare (s : State) (n : Nat) (m : KeyShareMsg) (x : Nat × Nat) : State :=
  setVm s n (m.words.foldl (fun v w => if w.1 < m.limbs * 2 ^ m.logN then mwr v (x.1 + 4 * w.1) 4 w.2 else v)
    (mclear (vmOf s n) x.1 (4 * m.limbs * 2 ^ m.logN)))

/-- A key-share message: checked, written into every copy of the area (R182). -/
def keyShareIn (key : Nat) (m : KeyShareMsg) (reply : State → Nat → State) (s : State) : State :=
  let n := (keyOf s key).ctx
  if (keyOf s key).st ≠ 1 then s
  else if (keyOf s key).kind ≠ 2 then reply s stPolicy
  else match keyShareCheck s key m with
    | some st => (reply (bumpE s eSharesDropped n) st)
    | none =>
      let s1 := (shareCopies s n).foldl (fun s x => writeShare s n m x) s
      let s2 := setCx s1 n { cx s1 n with kshare := ((cx s1 n).kshare ++ shareCopies s n).eraseDups }
      (reply (wrE s2 eKeyshareState n 1) stOk)

/-- KEY_SHARE_MESSAGE (R182): a complete, authenticated message on a COMMITTEE session. -/
def execKeyShareMessage (key : Nat) (m : KeyShareMsg) (s : State) : Res :=
  if s.pwr.frozen then .next s else .next (keyShareIn key m (replyMsg · key ·) s)

end Sys2Proof.Machine
end

