-- ==== Sys2Proof/Machine/Shared.lean ====
section
/-!
DEFINITION. Shared aggregation (chapter 7): share vectors and the descriptors SH_ADD, SH_SCALE,
SH_BEAVER and SH_OPEN, the exchange with the partners, triple batches and the partner's quote.
-/

namespace Sys2Proof.Machine

open Sys2Proof

/-! ### Parties -/

/-- Own PARTY_INDEX. -/
def party (s : State) (n : Nat) : Nat := cfgE s ePartyIndex n
/-- PARTY_COUNT. -/
def parties (s : State) (n : Nat) : Nat := cfgE s ePartyCount n
/-- The other parties, peer 1 first (R187). -/
def peerList (s : State) (n : Nat) : List Nat :=
  (List.range (parties s n - 1)).map (fun i => (party s n + 1 + i) % parties s n)
/-- The number of a peer: 1 or 2. -/
def peerNo (s : State) (n p : Nat) : Nat := if p = (party s n + 1) % parties s n then 1 else 2
/-- Identity key hash of a party. -/
def partyKey (s : State) (n p : Nat) : Nat := if peerNo s n p = 1 then cfgE s ePeer1Key n else cfgE s ePeer2Key n
/-- The live PARTNER session of a party: its KEY_ID. -/
def partySession (s : State) (n p : Nat) : Option Nat :=
  (s.keys.find? (fun k => k.2.st == 1 && k.2.kind == 3 && k.2.ctx == n && k.2.peerHash == partyKey s n p)).map (·.1)
/-- Every peer's PEER_STATE bit is set (R202). -/
def peersUp (s : State) (n : Nat) : Bool :=
  (peerList s n).all (fun p => bit (rdE s ePeerState n) (peerNo s n p - 1))

/-! ### Descriptor fields and checks -/

/-- ROW_FIRST. -/
def shFirst (d : Desc) : Nat := df d 34 4
/-- ROW_COUNT. -/
def shCount (d : Desc) : Nat := df d 38 4
/-- AUX: the scalar, or TRIPLE_FIRST. -/
def shAux (d : Desc) : Nat := df d 60 4
/-- RANGE. -/
def shRange (d : Desc) : Bool := bit (df d 33 1) 0
/-- The named rows. -/
def shRows (d : Desc) : List Nat := (List.range (shCount d)).map (· + shFirst d)

/-- Order 1 of R202 (R199, R201); only SH_OPEN's addresses are reserved (R200). -/
def shReservedOk (d : Desc) : Bool :=
  let op := dOp d
  decide (df d 32 1 ≤ (if op = 0x50 then 2 else 0)) && decide (df d 33 1 < (if op = 0x53 then 2 else 1)) &&
    (op == 0x51 || op == 0x52 || shAux d == 0) &&
    (op != 0x53 || (df d 42 6 == 0 && df d 48 6 == 0 && df d 54 6 == 0))

/-- The pool holds every batch from TRIPLE_FIRST (R203). -/
def triplesReady (s : State) (d : Desc) : Bool :=
  let n := dCtx d
  decide (rdE s eTripleMark n ≤ shAux d) &&
    (List.range (shCount d)).all (fun k => (cx s n).triples.any (fun t => t.batch == shAux d + k))

/-- The state and policy of an opening (R206). -/
def openAllowed (s : State) (n : Nat) : Bool :=
  (roundSt s n == rsReady || (roundSt s n == rsCombining && (cx s n).digestFixed)) &&
    decide (rdE s eMinContributors n ≤ rdE s eMerged n)

/-- Order 2 of R202. -/
def shPolicyOk (s : State) (d : Desc) : Bool :=
  let n := dCtx d
  bit (rdE s ePermittedModes n) 3 && rdE s ePolicyLock n == 1 && peersUp s n &&
    (dOp d != 0x52 || (bit (rdE s ePeerState n) 2 && triplesReady s d)) &&
    (dOp d != 0x53 || openAllowed s n)

/-- The share vectors a descriptor names: sources, then the destination. -/
def shVectors (d : Desc) : List Nat :=
  if dOp d = 0x53 then []
  else if dOp d = 0x51 then [df d 42 6, df d 54 6]
  else if dOp d = 0x50 ∧ df d 32 1 = 1 then [df d 42 6, df d 54 6]
  else [df d 42 6, df d 48 6, df d 54 6]

/-- The public vector, if any. -/
def shPublic (d : Desc) : Option Nat := if dOp d = 0x50 ∧ df d 32 1 = 1 then some (df d 48 6) else none

/-- Bytes of a whole vector. -/
def vecSize (s : State) (n : Nat) : Nat := 4096 * rowsE s n

/-- The destination equals a source exactly or overlaps none (R201). -/
def shApart (s : State) (d : Desc) : Bool :=
  dOp d == 0x53 ||
    (((shVectors d).dropLast ++ (shPublic d).toList).all (fun a =>
      a == df d 54 6 || !overlaps a (vecSize s (dCtx d)) (df d 54 6) (vecSize s (dCtx d))))

/-- The address is the shared total, or its vector lies wholly in the share scratch (R200, DEDUCED, log 32). -/
def shAddrOk (s : State) (n a : Nat) : Bool :=
  (roundSt s n != rsNone && a == shTotalBase s n) ||
    decide (cfgE s eShWorkBase n + shScratchOff s n ≤ a ∧
      a + vecSize s n ≤ cfgE s eShWorkBase n + cfgE s eShWorkSize n)

/-- R197 at a Shared descriptor. -/
def shPairsOk (s : State) (d : Desc) : Bool :=
  sharedOk s (dCtx d) &&
    (dOp d != 0x52 || (cfgE s eDealerKey (dCtx d) != 0 && cfgE s eTripleBatches (dCtx d) != 0))

/-- The checks of R202, in order. -/
def sharedCheck (s : State) (d : Desc) : Option Nat :=
  let n := dCtx d
  if !shReservedOk d then some stUnsupported
  else if !shPolicyOk s d then some stPolicy
  else if decide (rowsE s n < shFirst d + shCount d) || df d 42 6 % 4096 != 0 ||
      (dOp d != 0x51 && df d 48 6 % 4096 != 0) ||
      df d 54 6 % 4096 != 0 ||
      ((shVectors d).contains (shTotalBase s n) && (shRows d).any (cx s n).opened.contains) ||
      !shPairsOk s d || !shApart s d then some stParam
  else if !((shVectors d).all (shAddrOk s n)) ||
      !localOk s d.fn n (cfgE s eShWorkBase n) (cfgE s eShWorkSize n) ||
      (match shPublic d with
        | some a => !localOk s d.fn n (a + 4096 * shFirst d) (4096 * shCount d) ||
            srcForbidden s n (a + 4096 * shFirst d) (4096 * shCount d)
        | none => false) then some stAccess
  else none

/-! ### Local operations -/

/-- Row r of a vector. -/
def shRow (s : State) (n a r : Nat) : List Nat := rowRead (vmOf s n) (a + 4096 * r) 4

/-- Write row r of a vector. -/
def shPut (s : State) (n a r : Nat) (xs : List Nat) : State :=
  setVm s n (rowWrite (vmOf s n) (a + 4096 * r) 4 xs)

/-- An element-wise Shared descriptor over its rows (R201): the source memory is the one at its start. The check
value of an output row comes from those of its sources by g (R201, R421). -/
def shElementWise (d : Desc) (f g : Nat → Nat → Nat) (s : State) : State :=
  let n := dCtx d
  let s1 := (shRows d).foldl (fun t r =>
    let b := if dOp d = 0x51 then List.replicate 1024 0 else shRow s n (df d 48 6) r
    let cb := if (shPublic d).isSome then linCheckN (2 ^ 32) b else chkAt s n (df d 48 6 + 4096 * r)
    setChk (shPut t n (df d 54 6) r (List.zipWith f (shRow s n (df d 42 6) r) b)) n (df d 54 6 + 4096 * r)
      (g (chkAt s n (df d 42 6 + 4096 * r)) cb)) s
  completeDesc s1 d stOk (shCount d)

/-- x + y modulo 2^32. -/
def add32 (x y : Nat) : Nat := (x + y) % 2 ^ 32
/-- x - y modulo 2^32. -/
def sub32 (x y : Nat) : Nat := (x + 2 ^ 32 - y) % 2 ^ 32

/-- SH_ADD OP 0, and SH_ADD with an OP that is not assigned (R201, R202). -/
def execShAdd (i : Nat) (e : HwErr) (s : State) : Res :=
  runDescIf s i 0x50 (fun d => df d 32 1 != 1 && df d 32 1 != 2) e (fun d => shElementWise d add32 add32)

/-- SH_ADD OP 1: a public vector, added on party 0 only (R201). -/
def execShAddPublic (i : Nat) (e : HwErr) (s : State) : Res :=
  runDescIf s i 0x50 (fun d => df d 32 1 == 1) e (fun d s =>
    let f (x y : Nat) : Nat := if party s (dCtx d) = 0 then add32 x y else x
    shElementWise d f f s)

/-- SH_ADD OP 2 (R201). -/
def execShSubtract (i : Nat) (e : HwErr) (s : State) : Res :=
  runDescIf s i 0x50 (fun d => df d 32 1 == 2) e (fun d => shElementWise d sub32 sub32)

/-- SH_SCALE (R201). -/
def execShScale (i : Nat) (e : HwErr) (s : State) : Res :=
  runDesc s i 0x51 e (fun d =>
    shElementWise d (fun x _ => shAux d * x % 2 ^ 32) (fun x _ => shAux d * x % 2 ^ 32))

/-! ### Exchanges -/

/-- The message type of a descriptor's exchange. -/
def xType (d : Desc) : Nat := if dOp d = 0x53 then 0x10 else 0x11

/-- The module's own message for a block, or its handshake (R210). -/
def xMsg (s : State) (d : Desc) (block : Nat) (words : Tbl Nat) : ExchangeMsg :=
  let n := dCtx d
  { msgType := xType d
    party := party s n
    op := if dOp d = 0x53 then df d 33 1 else df d 32 1
    setId := cfgE s ePartnerSetId n
    round := rdE s eRoundNumber n
    rowFirst := shFirst d
    rowCount := shCount d
    block := block
    len := (exchangeLen (xType d) (shCount d) block).getD 64
    merged := if dOp d = 0x53 then rdE s eSharedMerged n else shAux d
    digest := if dOp d = 0x53 then rdE s eRoundShareDigest n else 0
    words := words }

/-- Send a message to every verified peer (R192). -/
def xSend (s : State) (n : Nat) (m : ExchangeMsg) : State :=
  ((peerList s n).filter (fun p => bit (rdE s ePeerState n) (peerNo s n p - 1))).foldl (fun s p => match partySession s n p with
    | some k => ownSend (emit s (.exchange k m)) k (exchangeBytes m) m.len
    | none => s) s

/-- Handshake: no block. -/
def xHand : Nat := 0xFFFFFFFF

/-- A peer's handshake agrees with the module's own (R208). -/
def handAgrees (own m : ExchangeMsg) : Bool :=
  m.msgType == own.msgType && m.setId == own.setId && m.round == own.round && m.op == own.op &&
    m.rowFirst == own.rowFirst && m.rowCount == own.rowCount && m.merged == own.merged && m.digest == own.digest

/-- Another exchange of the context that waits expects this handshake. -/
def handElse (s : State) (d : Desc) (m : ExchangeMsg) : Bool :=
  s.descs.any (fun x => x.id != d.id && dCtx x == dCtx d && (dOp x == 0x52 || dOp x == 0x53) &&
    x.phase == .waiting 1 && handAgrees (xMsg s x xHand []) m)

/-- The handshake of a party that a descriptor compares: one that agrees if it is stored, else the
oldest of that party that no other exchange expects (DEDUCED, log 31). -/
def handOf (s : State) (d : Desc) (p : Nat) : Option ExchangeMsg :=
  let hs := (cx s (dCtx d)).xmsgs.filter (fun m => m.block == xHand && m.party == p)
  match hs.find? (handAgrees (xMsg s d xHand [])) with
  | some m => some m
  | none => hs.find? (fun m => !handElse s d m)

/-- The stored data block of a party for a descriptor. -/
def blockOf (s : State) (d : Desc) (p b : Nat) : Option ExchangeMsg :=
  (cx s (dCtx d)).xmsgs.find? (fun m => m.msgType == xType d && m.party == p && m.block == b &&
    m.rowFirst == shFirst d && m.rowCount == shCount d)

/-- Blocks of up to 256 rows. -/
def xBlocks (d : Desc) : Nat := cdiv (shCount d) 256
/-- Rows of block b, by position in the descriptor. -/
def blockRows (d : Desc) (b : Nat) : List Nat := (List.range (min 256 (shCount d - 256 * b))).map (· + 256 * b)

/-- Put the words of rows into a message's table: entry (row in block) * 1024 + lane. -/
def packRows (base : Nat) (rows : List (Nat × List Nat)) : Tbl Nat :=
  rows.foldl (fun t r => tblRowSet t (1024 * (r.1 - base)) r.2) []

/-- The rows an opening sends in block b: every named row as it stands, opened or not, so that what is sent
depends on the descriptor alone (R214; DEDUCED, log 31). -/
def openBlock (s : State) (d : Desc) (b : Nat) : Tbl Nat :=
  packRows (256 * b) ((blockRows d b).map (fun k => (k, shRow s (dCtx d) (shTotalBase s (dCtx d)) (shFirst d + k))))

/-- The triple that row position k uses (R203). -/
def tripleOf (s : State) (d : Desc) (k : Nat) : Tbl Nat :=
  match (cx s (dCtx d)).triples.find? (fun t => t.batch == shAux d + k) with
  | some t => t.words
  | none => []

/-- A share row minus a triple row. -/
def lessTriple (xs ts : List Nat) : List Nat := List.zipWith (fun x t => (x + 2 ^ 32 - t) % 2 ^ 32) xs ts

/-- The d rows, then the e rows, of block b (R204, R210). -/
def beaverBlock (s : State) (d : Desc) (b : Nat) : Tbl Nat :=
  let n := dCtx d
  let rows := blockRows d b
  packRows 0 (rows.map (fun k => (k - 256 * b,
      lessTriple (shRow s n (df d 42 6) (shFirst d + k)) (tblRow (tripleOf s d k) 0))) ++
    rows.map (fun k => (rows.length + (k - 256 * b),
      lessTriple (shRow s n (df d 48 6) (shFirst d + k)) (tblRow (tripleOf s d k) 1024))))

/-- Keep a message (R211). -/
def xStore (s : State) (n : Nat) (m : ExchangeMsg) : State :=
  setCx s n { cx s n with xmsgs := (cx s n).xmsgs ++ [m] }

/-- The messages of an exchange leave with its descriptor (DEDUCED, log 31). -/
def xClear (s : State) (d : Desc) : State :=
  let n := dCtx d
  let used := (peerList s n).filterMap (handOf s d)
  setCx s n { cx s n with xmsgs := (cx s n).xmsgs.filter (fun m => !used.contains m &&
    !(m.msgType == xType d && m.rowFirst == shFirst d && m.rowCount == shCount d && m.block != xHand)) }

/-- Batches below the mark that no exchange still uses are scrubbed (R204). -/
def dropTriples (s : State) (n : Nat) (keep : Nat → Bool) : State :=
  let ts := (cx s n).triples.filter (fun t => decide (rdE s eTripleMark n ≤ t.batch) || keep t.batch)
  let s1 := setCx s n { cx s n with triples := ts }
  wrE s1 eTriplesHeld n (ts.filter (fun t => decide (rdE s eTripleMark n ≤ t.batch))).length

/-- The running SH_BEAVER descriptors of a context still use a batch. -/
def batchInUse (s : State) (n : Nat) (but : Nat) (b : Nat) : Bool :=
  s.descs.any (fun x => x.id != but && dOp x == 0x52 && dCtx x == n && x.phase == .waiting 2 &&
    decide (shAux x ≤ b ∧ b < shAux x + shCount x))

/-- What an exchange leaves behind when it ends: no messages, and no triples that it alone used. -/
def xTidy (s : State) (d : Desc) : State :=
  let s1 := xClear s d
  if dOp d = 0x52 then dropTriples s1 (dCtx d) (batchInUse s1 (dCtx d) d.id) else s1

/-- End of an exchange with a status and its count of rows. -/
def xEnd (s : State) (d : Desc) (st detail : Nat) : State := completeDesc (xTidy s d) d st detail

/-- The triples that an SH_BEAVER names are consumed: TRIPLE_MARK rises past them, and never falls (R204). -/
def takeTriples (s : State) (d : Desc) : State :=
  wrE s eTripleMark (dCtx d) (max (rdE s eTripleMark (dCtx d)) (shAux d + shCount d))

/-- The row whose output a hardware error of an exchange strikes (R201, R422). -/
def errRow (d : Desc) : Option Nat :=
  match d.err with
  | .check k => some k
  | .dual k => some k
  | .ecc k => some k
  | .eccAccum k => some k
  | .eccTotal k => some k
  | _ => none

/-- Row position k is not yet struck. -/
def rowSafe (d : Desc) (k : Nat) : Bool :=
  match errRow d with
  | some x => decide (k < x)
  | none => true

/-- The exchange ends at the row that is struck: what was written or opened before it counts. -/
def xFail (s : State) (d : Desc) : State :=
  hwFault (hwReach (endAt (hwCount (xTidy s d) d.err) d (hwStatus d.err) 0) d d.err) d d.err

/-- The opened word of an element (R207): w, and whether it differs from v. -/
def openWord (s : State) (n : Nat) (range : Bool) (v : Nat) : Int × Bool :=
  if range then
    let w := min (min v (rdE s eSharedMerged n * (2 ^ cfgE s eContribBits n - 1))) (2 ^ 31 - 1)
    ((w : Int), w != v)
  else (toS 32 v, false)

/-- Every row is open: a SHARED total becomes INT32 (R209); a subtotal's contributions have joined the
clear words (R66). -/
def allOpened (s : State) (n : Nat) : State :=
  if (cx s n).opened.length < rowsE s n then s
  else if ttE s n = ttShared then wrE s eTotalType n ttInt32
  else setCx s n { cx s n with subMerged := (cx s n).subMerged + rdE s eSharedMerged n }

/-- Open row r (R207, R209, R212) from the sum of all parties' shares: w is written to the row, and a row
of the shared subtotal is added into the round total or the clear subtotal. -/
def openRow (s : State) (n r : Nat) (range : Bool) (sum : List Nat) : State :=
  let ws := sum.map (openWord s n range)
  let out := ws.map (fun w => ofS 32 w.1)
  let s1 := setChk (shPut s n (shTotalBase s n) r out) n (shTotalBase s n + 4096 * r) (linCheckN (2 ^ 32) out)
  let s2 := if ws.any (·.2) then flagRow s1 n r 2 else s1
  let s3 := if ttE s n = ttShared then s2
    else addClearRow (setCx s2 n { cx s2 n with nonFloat := true }) n r (ws.map (·.1))
  let s4 := bumpE (setCx s3 n { cx s3 n with opened := (cx s3 n).opened ++ [r] }) eRowsOpened n
  allOpened s4 n

/-- Sum of a row over the module's own share and every peer's block, modulo 2^32. -/
def sumRow (own : List Nat) (others : List (List Nat)) : List Nat :=
  others.foldl (fun a b => List.zipWith (fun x y => (x + y) % 2 ^ 32) a b) own

/-- The peers' blocks b are all stored. -/
def peerBlocks (s : State) (d : Desc) (b : Nat) : Bool :=
  (peerList s (dCtx d)).all (fun p => (blockOf s d p b).isSome)

/-- Open the rows of block b when every peer's block is stored (R207). A row already opened counts as
done; whether one of its own rows was clamped is kept in aux. -/
def tryOpenBlock (s : State) (d : Desc) (b : Nat) : State :=
  let n := dCtx d
  let ms := (peerList s n).filterMap (fun p => blockOf s d p b)
  if !peerBlocks s d b then s
  else
    ((blockRows d b).filter (rowSafe d)).foldl (fun s k =>
      let r := shFirst d + k
      if (cx s n).opened.contains r then s
      else
        let sum := sumRow (shRow s n (shTotalBase s n) r) (ms.map (fun m => tblRow m.words (1024 * (k - 256 * b))))
        let s1 := openRow s n r (shRange d) sum
        let x := (descOf s1 d.id).getD d
        if sum.any (fun v => (openWord s n (shRange d) v).2) then setDesc s1 { x with aux := 1 } else s1) s

/-- Rows of the descriptor that are open. -/
def openedOf (s : State) (d : Desc) : Nat := ((shRows d).filter (cx s (dCtx d)).opened.contains).length

/-- Write the product rows of block b once every party's block is stored (R204). -/
def tryBeaverBlock (s : State) (d : Desc) (b : Nat) : State :=
  let n := dCtx d
  let ms := (List.range (parties s n)).map (fun p => blockOf s d p b)
  if bit d.aux b || ms.any Option.isNone then s
  else
    let tabs := ms.filterMap (Option.map (fun m => m.words))
    let rows := blockRows d b
    let s1 := (rows.filter (rowSafe d)).foldl (fun s k =>
      let tot (off : Nat) : List Nat :=
        sumRow (List.replicate 1024 0) (tabs.map (fun t => tblRow t (1024 * (off + (k - 256 * b)))))
      let dv := tot 0
      let ev := tot rows.length
      let t := tripleOf s d k
      let z (j : Nat) : Nat :=
        let x := dv.getD j 0
        let y := ev.getD j 0
        (tget t 0 (2048 + j) + x * tget t 0 (1024 + j) + y * tget t 0 j + (if party s n = 0 then x * y else 0)) % 2 ^ 32
      let out := (List.range 1024).map z
      setChk (shPut s n (df d 54 6) (shFirst d + k) out) n (df d 54 6 + 4096 * (shFirst d + k)) (linCheckN (2 ^ 32) out)) s
    setDesc s1 { d with aux := putBit d.aux b true, units := d.units + (rows.filter (rowSafe d)).length }

/-- The descriptor as it now stands. -/
def descNow (s : State) (d : Desc) : Desc := (descOf s d.id).getD d

/-- The block of the row that a hardware error strikes has arrived. -/
def xStruck (s : State) (d : Desc) : Bool :=
  match errRow d with
  | some k => decide (k < shCount d) && peerBlocks s d (k / 256)
  | none => false

/-- Advance a data exchange over every block, and end it when all is written (R207: SATURATED when it clamped). -/
def xAdvance (s : State) (d : Desc) : State :=
  if dOp d = 0x53 then
    let s1 := (List.range (xBlocks d)).foldl (fun s b => tryOpenBlock s d b) s
    if xStruck s1 d then xFail s1 (descNow s1 d)
    else if openedOf s1 d = shCount d then
      xEnd s1 d (if (descNow s1 d).aux = 1 then stSaturated else stOk) (shCount d)
    else s1
  else
    let s1 := (List.range (xBlocks d)).foldl (fun s b => tryBeaverBlock s (descNow s d) b) s
    if xStruck s1 d then xFail s1 (descNow s1 d)
    else if (descNow s1 d).units = shCount d then xEnd s1 d stOk (shCount d) else s1

/-- The handshakes agree: SH_BEAVER takes its triples; then every block is sent (R204, R208, R214). An SH_BEAVER
whose triples another has consumed meanwhile is refused as at its start (R203; DEDUCED, log 147). -/
def xStart (s : State) (d : Desc) : State :=
  let n := dCtx d
  if dOp d == 0x52 && !triplesReady s d then refuseDesc (xClear s d) d stPolicy
  else
    let d2 := { d with phase := .waiting 2 }
    let s1 := setDesc s d2
    let s2 := if dOp d = 0x52 then
        let s0 := takeTriples s1 d
        dropTriples s0 n (batchInUse s0 n 0)
      else s1
    let s3 := (List.range (xBlocks d)).foldl (fun s b =>
      if dOp d = 0x53 then xSend s n (xMsg s d b (openBlock s d b))
      else
        let m := xMsg s d b (beaverBlock s d b)
        xSend (xStore s n m) n m) s2
    xAdvance s3 d2

/-- Compare each handshake that has arrived: any difference ends the descriptor at once; when every peer's agrees
the exchange starts (R208). -/
def xHandshakes (s : State) (d : Desc) : State :=
  let n := dCtx d
  let hs := (peerList s n).map (fun p => (p, handOf s d p))
  let own := xMsg s d xHand []
  let bad := hs.filter (fun h => match h.2 with | some m => !handAgrees own m | none => false)
  if !bad.isEmpty then
    let v := bad.foldl (fun v h => putBit v (peerNo s n h.1 - 1) true) (rdE s eShLastDisagree n)
    xEnd (wrE s eShLastDisagree n v) d stParam 0
  else if hs.any (fun h => h.2.isNone) then s
  else xStart s d

/-- Advance one exchange. -/
def xStep (s : State) (d : Desc) : State :=
  match d.phase with
  | .waiting 1 => xHandshakes s d
  | .waiting 2 => xAdvance s d
  | _ => s

/-- Advance every exchange of a context, oldest first. -/
def xPoll (s : State) (n : Nat) : State :=
  (s.descs.filter (fun d => (dOp d == 0x52 || dOp d == 0x53) && dCtx d == n)).foldl (fun s d => xStep s (descNow s d)) s

/-- Start an exchange: the handshake goes to every peer (R208). Without rows there is none (R304). -/
def xBegin (d : Desc) (s : State) : State :=
  if shCount d = 0 then completeDesc s d stOk 0
  else
    let d1 := { d with phase := .waiting 1 }
    xHandshakes (xSend (setDesc s d1) (dCtx d) (xMsg s d xHand [])) d1

/-- An exchange whose output meets a hardware error: it goes on as far as that row; an error that names none ends
it at once. -/
def xErr (d : Desc) (e : HwErr) (s : State) : State :=
  let d1 := { d with err := e }
  if (errRow d1).isSome then xBegin d1 (setDesc s d1) else hwEnd s d e

/-- SH_BEAVER (R204). -/
def execShBeaver (i : Nat) (e : HwErr) (s : State) : Res := runDescE s i 0x52 e xBegin xErr

/-- SH_OPEN (R207). -/
def execShOpen (i : Nat) (e : HwErr) (s : State) : Res := runDescE s i 0x53 e xBegin xErr

/-- EXCHANGE_TIMEOUT_EXPIRY (R209): rows opened or written stay counted; the triples of an SH_BEAVER are consumed,
whether or not its handshakes came (R215). -/
def execExchangeTimeoutExpiry (i : Nat) (s : State) : Res :=
  if s.pwr.frozen then .next s else
  match descOf s i with
  | none => .next s
  | some d =>
    if d.phase = .waiting 1 ∨ d.phase = .waiting 2 then
      if dOp d = 0x53 then .next (xEnd s d stTimeout (openedOf s d))
      else if dOp d = 0x52 then .next (xEnd (junkDest (takeTriples s d) d) d stTimeout d.units)
      else .next s
    else .next s

/-! ### Messages -/

/-- The round is current and takes exchange messages (R211 order 3). -/
def xRoundOk (s : State) (n setId round : Nat) : Bool :=
  setId == cfgE s ePartnerSetId n && round == rdE s eRoundNumber n && abandonable s n

/-- The checks of R211 on an exchange message. -/
def exchangeCheck (s : State) (key : Nat) (m : ExchangeMsg) : Option Nat :=
  let n := (keyOf s key).ctx
  if (m.msgType ≠ 0x10 ∧ m.msgType ≠ 0x11) ∨ some m.len ≠ exchangeLen m.msgType m.rowCount m.block ∨ m.rsvZero = false then some stUnsupported
  else if (keyOf s key).kind ≠ 3 ∨ (peerList s n).contains m.party = false ∨
      (keyOf s key).peerHash ≠ partyKey s n m.party then some stPolicy
  else if xRoundOk s n m.setId m.round = false then some stGeneration
  else if rowsE s n < m.rowFirst + m.rowCount then some stParam
  else if (cx s n).xmsgs.any (fun x => x.msgType == m.msgType && x.party == m.party && x.rowFirst == m.rowFirst &&
      x.rowCount == m.rowCount && x.block == m.block) then some stDuplicate
  else none

/-- An exchange message: checked and stored (R211). -/
def exchangeIn (key : Nat) (m : ExchangeMsg) (reply : State → Nat → State) (s : State) : State :=
  let n := (keyOf s key).ctx
  if (keyOf s key).st ≠ 1 then s
  else match exchangeCheck s key m with
    | some st => (reply (bumpE s eExchangeDropped n) st)
    | none => (xPoll (reply (xStore s n m) stOk) n)

/-- EXCHANGE_MESSAGE (R211): stored, then the exchanges that wait for it go on. -/
def execExchangeMessage (key : Nat) (m : ExchangeMsg) (s : State) : Res :=
  if s.pwr.frozen then .next s else .next (exchangeIn key m (replyMsg · key ·) s)

/-- The checks of R211 on a triple batch. -/
def tripleCheck (s : State) (key : Nat) (m : TripleMsg) : Option Nat :=
  let n := (keyOf s key).ctx
  if m.len ≠ 12352 ∨ m.rsvZero = false then some stUnsupported
  else if (keyOf s key).kind ≠ 4 ∨ m.party ≠ party s n then some stPolicy
  else if xRoundOk s n m.setId m.round = false then some stGeneration
  else if m.batch < rdE s eTripleMark n then some stGeneration
  else if rdE s eTripleMark n + cfgE s eTripleBatches n ≤ m.batch then some stPolicy
  else if (cx s n).triples.any (fun t => t.batch == m.batch) then some stDuplicate
  else none

/-- A triple batch: checked and stored (R211). -/
def tripleIn (key : Nat) (m : TripleMsg) (reply : State → Nat → State) (s : State) : State :=
  let n := (keyOf s key).ctx
  if (keyOf s key).st ≠ 1 then s
  else match tripleCheck s key m with
    | some st => (reply (bumpE s eExchangeDropped n) st)
    | none =>
      let s1 := setCx s n { cx s n with triples := (cx s n).triples ++ [{ batch := m.batch, words := m.words }] }
      (reply (bumpE s1 eTriplesHeld n) stOk)

/-- TRIPLE_BATCH (R203, R211): stored at its pool slot. -/
def execTripleBatch (key : Nat) (m : TripleMsg) (s : State) : Res :=
  if s.pwr.frozen then .next s else .next (tripleIn key m (replyMsg · key ·) s)

/-- The body of a partner's quote is as R458 asks: the session's CONFIRM as its nonce, the module's own lifecycle, and a
context block that shows LOCK 1 and the context's POLICY_DIGEST (R456). -/
def quoteFits (s : State) (n confirm b : Nat) : Bool :=
  fld b 32 32 == confirm && fld b 1 1 == effLc s && bit (fld b 2 1) 0 && fld b 418 1 == 1 && fld b 448 32 == rdE s ePolicyDigest n

/-- PARTNER_QUOTE_CHECK (R189, R458): the quote read after ACCEPT sets the peer's bit when it verifies; a
quote that does not leaves the bit clear. -/
def execPartnerQuoteCheck (key : Nat) (q : PeerQuote) (s : State) : Res :=
  if s.pwr.frozen then .next s else
  let k := keyOf s key
  let n := k.ctx
  if k.st = 1 ∧ k.kind = 3 then
    match (peerList s n).find? (fun p => partyKey s n p == k.peerHash) with
    | none => .next s
    | some p =>
      if q.sigOk ∧ quoteFits s n k.confirm q.body then
        .next (wrE s ePeerState n (putBit (rdE s ePeerState n) (peerNo s n p - 1) true))
      else .next s
  else .next s

end Sys2Proof.Machine
end

