-- ==== Sys2Proof/Machine/Accum.lean ====
section
/-!
DEFINITION. Thatch tiles and the descriptors of chapter 8: ACC_INT, ACC_FLOAT, ACC_MASKED, ACC_SHARED,
PRELOAD, DRAIN, SAVE, RESTORE and the winner reductions.
-/

namespace Sys2Proof.Machine

open Sys2Proof

/-! ### Fields -/

/-- OP. -/
def aOp (d : Desc) : Nat := df d 34 1
/-- FMT. -/
def aFmt (d : Desc) : Nat := df d 35 1
/-- PARAM. -/
def aParam (d : Desc) : Nat := df d 39 1
/-- ROW_FIRST. -/
def aFirst (d : Desc) : Nat := df d 36 1
/-- ROW_COUNT. -/
def aCount (d : Desc) : Nat := df d 37 1
/-- ADDR in Loft. -/
def aLoft (d : Desc) : Bool := bit (df d 38 1) 0
/-- ADDR. -/
def aAddr (d : Desc) : Nat := df d 40 6
/-- ADDR_X. -/
def aX (d : Desc) : Nat := df d 46 6
/-- LOCAL_ROW. -/
def aLocal (d : Desc) : Nat := df d 52 4
/-- COUNT of a reduction. -/
def rCount (d : Desc) : Nat := df d 56 4
/-- INDEX_BASE. -/
def rBase (d : Desc) : Nat := df d 60 4
/-- A reduction. -/
def isReduce (d : Desc) : Bool := dOp d == 0x60 || dOp d == 0x61
/-- FROM_TILE. -/
def fromTile (d : Desc) : Bool := isReduce d && bit (df d 38 1) 1
/-- The descriptor names a tile (R239). -/
def namesTile (d : Desc) : Bool := !isReduce d || fromTile d
/-- Tile index. -/
def aTile (d : Desc) : Nat := bits (df d 33 1) 5 0
/-- The tile named. -/
def tileNow (s : State) (d : Desc) : Tile := (tfind s.tiles (tileKey d)).getD {}

/-- An accumulation that reads memory: ACC_* and PRELOAD LOAD (R239). -/
def readsMem (d : Desc) : Bool :=
  (0x10 ≤ dOp d && dOp d ≤ 0x13) || (dOp d == 0x14 && aOp d == 1) || dOp d == 0x17 || (isReduce d && !fromTile d)

/-- Bytes of one element of a reduction's format in memory. -/
def redSize (fmt : Nat) : Nat := if fmt = 3 then 8 else if fmt = 4 then 2 else 4

/-- Row bytes of the memory operand (R240). -/
def aRowBytes (d : Desc) : Nat :=
  let f := aFmt d
  if dOp d = 0x10 then (if f = 0 then 128 * aParam d else 1024 * (if f = 1 then 1 else if f = 2 then 2 else 4))
  else if dOp d = 0x11 then 1024 * (if f = 0 then 2 else if f = 1 then 4 else 8)
  else if dOp d = 0x12 then 128 * aParam d
  else if dOp d = 0x13 then 4096
  else if dOp d = 0x14 then (if f = 1 then 8192 else if f = 2 then 128 * aParam d else 4096)
  else if dOp d = 0x15 then 1024 * drainSize f
  else 8256

/-- Bytes of the memory operand at ADDR. -/
def aBytes (d : Desc) : Nat :=
  if isReduce d then (if fromTile d then 0 else rCount d * redSize (aFmt d))
  else if dOp d = 0x14 ∧ aOp d = 0 then 0
  else aCount d * aRowBytes d

/-! ### Checks -/

/-- OP, FMT and PARAM as R239 lists them. -/
def aCodesOk (d : Desc) : Bool :=
  let o := aOp d
  let f := aFmt d
  let p := aParam d
  let w := p == 16 || p == 24 || p == 32
  if dOp d = 0x10 then decide (o ≤ 1 ∧ f ≤ 3) &&
    (if f = 0 then p == 1 || p == 2 || p == 4 || p == 8 else p == 0)
  else if dOp d = 0x11 then o == 0 && decide (f ≤ 2) && p == 0
  else if dOp d = 0x12 then decide (o ≤ 1) && f == 0 && w
  else if dOp d = 0x13 then decide (o ≤ 1) && f == 0 && p == 0
  else if dOp d = 0x14 then decide (o ≤ 1 ∧ f ≤ 3) && (if f = 2 then w else p == 0)
  else if dOp d = 0x15 then decide (o ≤ 3 ∧ f ≤ 6) && (if o = 3 then decide (p ≤ 3) else p == 0)
  else if isReduce d then o == 0 && decide (f ≤ 5) && p == 0
  else o == 0 && f == 0 && p == 0

/-- Order 1 of R243. -/
def aReservedOk (d : Desc) : Bool :=
  !bit (df d 33 1) 6 && (namesTile d || df d 33 1 == 0) &&
    decide (df d 38 1 < (if isReduce d then 4 else 2)) &&
    (!isReduce d || (aFirst d == 0 && aCount d == 0)) &&
    (isReduce d || (rCount d == 0 && rBase d == 0)) &&
    (!(fromTile d || (dOp d == 0x14 && aOp d == 0)) || aAddr d == 0) &&
    (isReduce d || dOp d == 0x15 || aX d == 0) && (dOp d == 0x15 || aLocal d == 0) && aCodesOk d

/-- The tile type an accumulation's format wants (R221, R239). -/
def wantTy (d : Desc) : Nat :=
  if dOp d = 0x10 then 1 else if dOp d = 0x11 then 2 else if dOp d = 0x12 then 3 else if dOp d = 0x13 then 4
  else if aFmt d = 0 then 1 else if aFmt d = 1 then 2 else if aFmt d = 2 then 3 else 4

/-- The lane width it wants. -/
def wantW (d : Desc) : Nat := if wantTy d = 3 then aParam d else 0

/-- DRAIN formats by tile type (R244). -/
def drainFmtOk (ty op fmt : Nat) : Bool :=
  if op = 0 then
    (if ty = 1 then fmt == 0 || fmt == 2 || fmt == 3 || fmt == 4
    else if ty = 2 then decide (1 ≤ fmt ∧ fmt ≤ 4)
    else decide (ty = 3 ∨ ty = 4) && fmt == 0)
  else if op = 3 then decide (ty = 1 ∨ ty = 2) && decide (2 ≤ fmt)
  else decide (ty = 1 ∨ ty = 2) && decide (2 ≤ fmt ∧ fmt ≤ 4)

/-- The tile matches opcode and format (R222, R244, R255). -/
def tileTypeOk (t : Tile) (d : Desc) : Bool :=
  if dOp d ≤ 0x13 then t.ty == wantTy d && t.laneW == wantW d
  else if dOp d = 0x14 then aCount d == 64 || t.ty == 0 || (t.ty == wantTy d && t.laneW == wantW d)
  else if dOp d = 0x15 then drainFmtOk t.ty (aOp d) (aFmt d)
  else if isReduce d then (aFmt d == 5 && t.ty == 1) || (aFmt d == 3 && t.ty == 2)
  else true

/-- Order 2 of R243. (DEDUCED, log 35.) -/
def aParamOk (s : State) (d : Desc) : Bool :=
  (diesE s (dCtx d)).contains (df d 32 1) && decide (aFirst d + aCount d ≤ 64) && aAddr d % 64 == 0 &&
    aX d % (if isReduce d then 16 else 64) == 0 &&
    (!namesTile d || (tileTypeOk (tileNow s d) d &&
      decide (latE d eTileFirst 0 + latE d eTileCount 0 ≤ 48 ∧ rdE s eStageTiles (dCtx d) ≤ latE d eTileCount 0))) &&
    (!isReduce d || ((fromTile d || aFmt d != 5) && decide (rCount d ≤ (if fromTile d then 65536 else 4194304)) &&
      decide (rBase d + rCount d ≤ 0xFFFFFFFF))) &&
    !(dOp d == 0x15 && (aOp d == 1 || aOp d == 2) && cfgE s eScaleBase (dCtx d) == 0)

/-- Tile t of a die lies in the current range of context m (R218). -/
def tileInRange (s : State) (m die t : Nat) : Bool :=
  (rdE s eCtxState m == cxConfigured || rdE s eCtxState m == cxActive) && (diesE s m).contains die &&
    decide (rdE s eTileFirst m ≤ t ∧ t < rdE s eTileFirst m + rdE s eTileCount m)

/-- Tile indices of context m on a die: its range and the staging tiles of its round (R218). -/
def tilesOn (s : State) (m die t : Nat) : Bool :=
  tileInRange s m die t ||
    ((rdE s eCtxState m == cxConfigured || rdE s eCtxState m == cxActive) && stagingTile s m (die * 96 + t))

/-- The context shares a tile of the die with another context (R218). -/
def tileShared (s : State) (n die : Nat) : Bool :=
  (List.range 256).any (fun m => m != n && (List.range 48).any (fun t => tilesOn s n die t && tilesOn s m die t))

/-- The tile lies in the latched range and is not staging (R218, R220). -/
def tileAllowed (s : State) (d : Desc) : Bool :=
  decide (latE d eTileFirst 0 ≤ aTile d ∧ aTile d < latE d eTileFirst 0 + latE d eTileCount 0) &&
    !stagingTile s (dCtx d) (tileKey d) && !tileShared s (dCtx d) (df d 32 1)

/-- Order 3 of R243. -/
def aAccessOk (s : State) (d : Desc) : Bool :=
  let n := dCtx d
  let a := aAddr d
  let z := aBytes d
  (!namesTile d || tileAllowed s d) && operandOk s d (aLoft d) a z &&
    (!isReduce d || localOk s d.fn n (aX d) 16) &&
    (!(dOp d == 0x15 && aX d != 0) || localOk s d.fn n (aX d) 64) &&
    !(readsMem d && !aLoft d && srcForbidden s n a z) &&
    !(dOp d == 0x15 && aX d != 0 && srcForbidden s n (aX d) 64) &&
    !((dOp d == 0x15 || dOp d == 0x16) && !aLoft d && dstTables s n a z) &&
    !(isReduce d && dstTables s n (aX d) 16)

/-- A field of the output control block; without one every field is 0 (R246). (DEDUCED, log 105.) -/
def ocb (s : State) (d : Desc) (off len : Nat) : Nat :=
  if aX d = 0 then 0 else mrd (vmOf s (dCtx d)) (aX d + off) len

/-- SAFETY_NET as the descriptor latched it (R248). -/
def safetyOn (d : Desc) : Bool :=
  dOp d == 0x15 && aOp d == 3 && decide (4 ≤ aFmt d) && latE d eSafetyNet 0 == 1

/-- The tables of the output control block: address and bytes (R246). -/
def ocbTables (s : State) (d : Desc) : List (Nat × Nat) :=
  [(ocb s d 0 8, 4 * aCount d), (ocb s d 8 8, 4096 * aCount d), (ocb s d 16 8, 32 * aCount d), (ocb s d 24 8, aCount d)]

/-- The agreement pairs of a DRAIN (R244), and those of R92 for a dequantising one. -/
def drainPairsOk (s : State) (d : Desc) : Bool :=
  let n := dCtx d
  let lo := ocb s d 32 4
  let hi := ocb s d 36 4
  let leak := ocb s d 40 4
  (!(aOp d == 3 && aParam d == 2) || (aX d != 0 && fFinite lo && fFinite hi && !fLt hi lo)) &&
    (!(aOp d == 3 && aParam d == 3) || (fFinite leak && !fLt leak 0 && !fLt (fOfInt 1) leak)) &&
    (!safetyOn d || ocb s d 24 8 != 0) &&
    (ocb s d 16 8 == 0 || (tileNow s d).ty == 1 || (tileNow s d).ty == 2) &&
    (!(aOp d == 1 || aOp d == 2) || tablesOk s n &&
      decide (aLocal d + aFirst d + aCount d ≤ rowsOfPos s n (posOf s n (df d 32 1))))

/-- Order 4 of R243: the output control block, in the order written. -/
def ocbCheck (s : State) (d : Desc) : Option Nat :=
  if dOp d ≠ 0x15 then none
  else if ocb s d 44 20 ≠ 0 then some stUnsupported
  else if (ocbTables s d).any (fun t => t.1 % 64 != 0 || decide (2 ^ 48 ≤ t.1)) then some stParam
  else if (ocbTables s d).any (fun t => t.1 != 0 && !localOk s d.fn (dCtx d) t.1 t.2) then some stAccess
  else if ((ocbTables s d).take 2).any (fun t => t.1 != 0 && srcForbidden s (dCtx d) t.1 t.2) then some stAccess
  else if ((ocbTables s d).drop 2).any (fun t => t.1 != 0 && dstTables s (dCtx d) t.1 t.2) then some stAccess
  else if drainPairsOk s d then none
  else some stParam

/-- The source lies in round-total rows. -/
def fromTotal (s : State) (d : Desc) : Bool :=
  readsMem d && dOp d != 0x17 && !aLoft d && inTotal s (dCtx d) (aAddr d) (aBytes d)

/-- A DRAIN reads its control block or a table of it from round-total rows (R58). -/
def ocbTotal (s : State) (d : Desc) : Bool :=
  dOp d == 0x15 && aX d != 0 && ((aX d, 64) :: (ocbTables s d).take 2).any (fun t => t.1 != 0 && inTotal s (dCtx d) t.1 t.2)

/-- Order 5 of R243. -/
def aPolicyOk (s : State) (d : Desc) : Bool :=
  let n := dCtx d
  let prov := (dOp d == 0x15 || dOp d == 0x16 || fromTile d) && (tileNow s d).prov
  (!fromTotal s d || (roundSt s n == rsReady && (rdE s eTotalType n == ttInt32 || rdE s eTotalType n == ttPair))) &&
    (!(prov || ocbTotal s d || (isReduce d && fromTotal s d)) || (roundSt s n == rsReady && decide (rdE s eMinContributors n ≤ rdE s eMerged n)))

/-- The checks of R243, in order. -/
def accCheck (s : State) (d : Desc) : Option Nat :=
  if !aReservedOk d then some stUnsupported
  else if !aParamOk s d then some stParam
  else if !aAccessOk s d then some stAccess
  else match ocbCheck s d with
    | some st => some st
    | none => if aPolicyOk s d then none else some stPolicy

/-! ### Tile words -/

/-- The word at row x, lane j. -/
def tw (t : Tile) (x j : Nat) : Nat := tget t.words 0 (1024 * x + j)
/-- The error word of a pair. -/
def te (t : Tile) (x j : Nat) : Nat := tget t.errs 0 (1024 * x + j)
/-- An INT40 word as an integer (R221). -/
def ti (t : Tile) (x j : Nat) : Int := toS 40 (tw t x j)
/-- The 64 data bits of a word (R221). -/
def tRaw (t : Tile) (x j : Nat) : Nat :=
  if t.ty = 1 then ofS 64 (ti t x j) else if t.ty = 2 then tw t x j + 2 ^ 32 * te t x j else tw t x j

/-- Set a row's saturation flag. -/
def tSat (t : Tile) (x : Nat) : Tile := if t.sat.contains x then t else { t with sat := t.sat ++ [x] }
/-- Set a row's range-fault flag. -/
def tRange (t : Tile) (x : Nat) : Tile := if t.rangeF.contains x then t else { t with rangeF := t.rangeF ++ [x] }

/-- Replace the tile a descriptor names. -/
def putTile (s : State) (d : Desc) (t : Tile) : State := { s with tiles := tset s.tiles {} (tileKey d) t }

/-- The source words of row x (R240). -/
def srcWord (s : State) (d : Desc) (x j : Nat) : Nat :=
  let m := srcMem s d (df d 32 1) (aLoft d) (aAddr d) (aBytes d)
  let a := aAddr d + (x - aFirst d) * aRowBytes d
  if dOp d = 0x10 ∧ aFmt d = 0 then
    (mget m (a + j * aParam d / 8)).toNat / 2 ^ (j * aParam d % 8) % 2 ^ aParam d
  else mrd m (a + j * (aRowBytes d / 1024)) (aRowBytes d / 1024)

/-- The source integer of ACC_INT (R241). -/
def srcInt (s : State) (d : Desc) (x j : Nat) : Int :=
  let w := srcWord s d x j
  if aFmt d = 0 then w else toS (if aFmt d = 1 then 8 else if aFmt d = 2 then 16 else 32) w

/-- The rows of the round total whose bytes row x of the source covers (R254). -/
def totalRowsOf (s : State) (d : Desc) (x : Nat) : List Nat :=
  let n := dCtx d
  let b := 1024 * (if rdE s eTotalType n = ttPair then 8 else 4)
  let a := aAddr d + (x - aFirst d) * aRowBytes d
  (List.range (rowsE s n)).filter (fun r => overlaps a (aRowBytes d) (totalBase s n + b * r) b)

/-- PROV and the row flags of the source (R254). -/
def provRow (s : State) (d : Desc) (t : Tile) (x : Nat) : Tile :=
  if fromTotal s d then
    let v := (totalRowsOf s d x).foldl (fun v r => v ||| tget (cx s (dCtx d)).rowFlags 0 r) 0
    let t1 := { t with prov := true }
    let t2 := if bit v 0 then tSat t1 x else t1
    if bit v 1 then tRange t2 x else t2
  else t

/-- Named tile rows. -/
def aRows (d : Desc) : List Nat := (List.range (aCount d)).map (· + aFirst d)

/-- Put a row of words. -/
def tPut (t : Tile) (x : Nat) (ws : List Nat) : Tile := { t with words := tblRowSet t.words (1024 * x) ws }
/-- Put a row of error words. -/
def tPutE (t : Tile) (x : Nat) (ws : List Nat) : Tile := { t with errs := tblRowSet t.errs (1024 * x) ws }

/-- The 1,024 lanes. -/
def lanes1024 : List Nat := List.range 1024

/-- INT40 bounds (R223). -/
def lo40 : Int := -(2 ^ 39)
/-- Upper bound. -/
def hi40 : Int := 2 ^ 39 - 1

/-! ### Accumulations -/

/-- Hold the check value of a tile row (R242, R421). -/
def tChk (t : Tile) (x v : Nat) : Tile := { t with chk := tset t.chk 0 x v }

/-- An INT40 word left its bounds. -/
def over40 (v : Int) : Bool := decide (v < lo40 ∨ hi40 < v)

/-- One row of ACC_INT (R223, R241). The check values add or subtract; a clamp's is formed from the output (R242,
R422). -/
def accIntRow (s : State) (d : Desc) (neg : Bool) (t : Tile) (x : Nat) : Tile :=
  let src := lanes1024.map (srcInt s d x)
  let exact := lanes1024.map (fun j => if neg then ti t x j - srcInt s d x j else ti t x j + srcInt s d x j)
  let out := exact.map (clampI lo40 hi40)
  let t1 := tPut t x (out.map (ofS 40))
  let t2 := tChk t1 x (if exact.any over40 then linCheck (2 ^ 32) out
    else addMod (2 ^ 32) neg (tget t.chk 0 x) (linCheck (2 ^ 32) src))
  provRow s d (if exact.any over40 then tSat t2 x else t2) x

/-- Some addition of row x clamps. -/
def accIntClamps (s : State) (d : Desc) (neg : Bool) (t : Tile) (x : Nat) : Bool :=
  lanes1024.any (fun j =>
    over40 (if neg then ti t x j - srcInt s d x j else ti t x j + srcInt s d x j))

/-- ACC_INT's effect. -/
def accIntEff (neg : Bool) (d : Desc) (s : State) : State :=
  let t := tileNow s d
  let sat := (aRows d).any (accIntClamps s d neg t)
  completeDesc (putTile s d ((aRows d).foldl (accIntRow s d neg) t)) d (if sat then stSaturated else stOk) (aCount d)

/-- ACC_INT OP 0, and ACC_INT with an OP that is not assigned (R241, R243). -/
def execAccIntAdd (i : Nat) (e : HwErr) (s : State) : Res :=
  runDescIf s i 0x10 (fun d => aOp d != 1) e (accIntEff false)

/-- ACC_INT OP 1 (R241). -/
def execAccIntSubtract (i : Nat) (e : HwErr) (s : State) : Res :=
  runDescIf s i 0x10 (fun d => aOp d == 1) e (accIntEff true)

/-- The pair source of ACC_FLOAT at row x, lane j (R241). -/
def srcPair (s : State) (d : Desc) (x j : Nat) : Nat × Nat :=
  let w := srcWord s d x j
  if aFmt d = 0 then (w * 2 ^ 16, 0) else if aFmt d = 1 then (w, 0) else (w % 2 ^ 32, w / 2 ^ 32)

/-- The check value of a row of pairs: CRC-32C over its bytes (R420). -/
def pairCheck (ps : List (Nat × Nat)) : Nat := crc32c (ps.flatMap (fun p => bytesOf p.1 4 ++ bytesOf p.2 4))

/-- One row of ACC_FLOAT (R228, R241). -/
def accFloatRow (s : State) (d : Desc) (t : Tile) (x : Nat) : Tile :=
  let ps := lanes1024.map (fun j => fNode (tw t x j, te t x j) (srcPair s d x j))
  provRow s d (tChk (tPutE (tPut t x (ps.map (·.1))) x (ps.map (·.2))) x (pairCheck ps)) x

/-- ACC_FLOAT (R241). -/
def execAccFloat (i : Nat) (e : HwErr) (s : State) : Res :=
  runDesc s i 0x11 e (fun d s =>
    completeDesc (putTile s d ((aRows d).foldl (accFloatRow s d) (tileNow s d))) d stOk (aCount d))

/-- One row of a modular accumulation modulo 2^w (R241), and of its check value (R242). -/
def accModRow (s : State) (d : Desc) (w : Nat) (neg : Bool) (t : Tile) (x : Nat) : Tile :=
  let src := lanes1024.map (srcWord s d x)
  let t1 := tPut t x (lanes1024.map (fun j => addMod (2 ^ w) neg (tw t x j) (srcWord s d x j)))
  provRow s d (tChk t1 x (addMod (2 ^ w) neg (tget t.chk 0 x) (linCheckN (2 ^ w) src))) x

/-- A modular accumulation's effect. -/
def accModEff (neg : Bool) (d : Desc) (s : State) : State :=
  let w := if dOp d = 0x12 then aParam d else 32
  completeDesc (putTile s d ((aRows d).foldl (accModRow s d w neg) (tileNow s d))) d stOk (aCount d)

/-- ACC_MASKED OP 0, and ACC_MASKED with an OP that is not assigned (R241, R243). -/
def execAccMaskedAdd (i : Nat) (e : HwErr) (s : State) : Res :=
  runDescIf s i 0x12 (fun d => aOp d != 1) e (accModEff false)

/-- ACC_MASKED OP 1 (R241). -/
def execAccMaskedSubtract (i : Nat) (e : HwErr) (s : State) : Res :=
  runDescIf s i 0x12 (fun d => aOp d == 1) e (accModEff true)

/-- ACC_SHARED OP 0, and ACC_SHARED with an OP that is not assigned (R241, R243). -/
def execAccSharedAdd (i : Nat) (e : HwErr) (s : State) : Res :=
  runDescIf s i 0x13 (fun d => aOp d != 1) e (accModEff false)

/-- ACC_SHARED OP 1 (R241). -/
def execAccSharedSubtract (i : Nat) (e : HwErr) (s : State) : Res :=
  runDescIf s i 0x13 (fun d => aOp d == 1) e (accModEff true)

/-- The tile a PRELOAD or RESTORE writes into: a fresh one of the type when it names every row or the
tile is empty (R222, R224, DEDUCED, log 34). -/
def retype (t : Tile) (rows ty w : Nat) : Tile := if rows = 64 ∨ t.ty = 0 then { ty := ty, laneW := w } else t

/-- PRELOAD ZERO, and PRELOAD with an OP that is not assigned (R241, R243). -/
def execPreloadZero (i : Nat) (e : HwErr) (s : State) : Res :=
  runDescIf s i 0x14 (fun d => aOp d != 1) e (fun d s =>
    if aCount d = 0 then completeDesc s d stOk 0
    else
      let z := List.replicate 1024 0
      let t := (aRows d).foldl (fun t x => tChk (tPutE (tPut t x z) x z) x
        (if wantTy d = 2 then pairCheck (z.map (fun w => (w, w))) else 0)) (retype (tileNow s d) (aCount d) (wantTy d) (wantW d))
      completeDesc (putTile s d t) d stOk (aCount d))

/-- One row of PRELOAD LOAD (R241), with the check value of what it reads (R421). -/
def loadRow (s : State) (d : Desc) (t : Tile) (x : Nat) : Tile :=
  let ws := lanes1024.map (srcWord s d x)
  let t1 :=
    if wantTy d = 1 then tChk (tPut t x (ws.map (fun w => ofS 40 (toS 32 w)))) x (linCheck (2 ^ 32) (ws.map (toS 32)))
    else if wantTy d = 2 then
      tChk (tPutE (tPut t x (ws.map (· % 2 ^ 32))) x (ws.map (· / 2 ^ 32))) x
        (pairCheck (ws.map (fun w => (w % 2 ^ 32, w / 2 ^ 32))))
    else tChk (tPut t x ws) x (linCheckN (2 ^ (if wantTy d = 3 then aParam d else 32)) ws)
  provRow s d t1 x

/-- PRELOAD LOAD (R241, R254). -/
def execPreloadLoad (i : Nat) (e : HwErr) (s : State) : Res :=
  runDescIf s i 0x14 (fun d => aOp d == 1) e (fun d s =>
    if aCount d = 0 then completeDesc s d stOk 0
    else
      let t := (aRows d).foldl (loadRow s d) (retype (tileNow s d) (aCount d) (wantTy d) (wantW d))
      completeDesc (putTile s d t) d stOk (aCount d))

/-! ### The output path -/

/-- x of R245 and whether the conversion rounds. -/
def drainX (t : Tile) (x j : Nat) : Nat × Bool :=
  if t.ty = 2 then (tw t x j, false) else (fOfInt (ti t x j), fIntInexact (ti t x j))

/-- Activation of R247. -/
def activate (code lo hi leak t : Nat) : Nat :=
  if code = 1 then (if fIsNan t then t else if fLt 0 t then t else 0)
  else if code = 2 then (if fIsNan t then t else
    let a := if fLt t lo then lo else t
    if fLt hi a then hi else a)
  else if code = 3 then (if !fIsNan t && !fLt t 0 then t else fMul t leak)
  else t

/-- y of FUSED under safety exponent h (R245). -/
def fusedY (s : State) (d : Desc) (x j h xv : Nat) : Nat :=
  let m := vmOf s (dCtx d)
  let sc := if ocb s d 0 8 = 0 then fOfInt 1 else mrd m (ocb s d 0 8 + 4 * (x - aFirst d)) 4
  let beta := if ocb s d 8 8 = 0 then 0 else mrd m (ocb s d 8 8 + 4096 * (x - aFirst d) + 4 * j) 4
  activate (aParam d) (ocb s d 32 4) (ocb s d 36 4) (ocb s d 40 4)
    (fAdd (fMul xv (fMul sc (fRound false 1 (-(h : Int))))) beta)

/-- Global row of tile row x (R245). -/
def drainGlobal (s : State) (d : Desc) (x : Nat) : Nat := globalRow s (dCtx d) (df d 32 1) (aLocal d + x)

/-- D of R81 for a value, a scale and N. -/
def dequantD (b n sc xv : Nat) : Nat :=
  if n = 0 then 0 else fMul sc (fSub xv (fMul (fOfInt n) (fDiv (fOfInt (2 ^ b - 1)) (fOfInt 2))))
/-- M of R81; +0.0 when N is 0. -/
def meanM (b n sc xv : Nat) : Nat := if n = 0 then 0 else fDiv (dequantD b n sc xv) (fOfInt n)

/-- The value y of an element before narrowing; N as latched at the start (R245). -/
def drainY (s : State) (d : Desc) (x h j : Nat) : Nat :=
  let n := dCtx d
  let xv := (drainX (tileNow s d) x j).1
  let sc := mrd (vmOf s n) (cfgE s eScaleBase n + 4 * drainGlobal s d x) 4
  if aOp d = 1 then dequantD (cfgE s eContribBits n) (latE d eMerged 0) sc xv
  else if aOp d = 2 then meanM (cfgE s eContribBits n) (latE d eMerged 0) sc xv
  else if aOp d = 3 then fusedY s d x j h xv
  else xv

/-- Narrow y to the output format: the element's bits and whether it saturated (R247). -/
def narrow (fmt y : Nat) : Nat × Bool :=
  if fmt = 3 then (toBf16 y, false) else if fmt = 4 then toFp16 y
  else if fmt = 5 then toIntN 16 y else if fmt = 6 then toIntN 8 y else (y, false)

/-- No finite element of row x saturates under h (R248). -/
def safetyFits (s : State) (d : Desc) (x h : Nat) : Bool :=
  lanes1024.all (fun j =>
    let y := drainY s d x h j
    !(fFinite y && (narrow (aFmt d) y).2))

/-- The safety exponent of a row (R248). -/
def safetyExp (s : State) (d : Desc) (x : Nat) : Nat :=
  if safetyOn d then ((List.range 16).find? (safetyFits s d x)).getD 15 else 0

/-- The output bits of an element and whether it clamped (R223, R245, R247). -/
def drainOut (s : State) (d : Desc) (x h j : Nat) : Nat × Bool :=
  let t := tileNow s d
  if aOp d = 0 ∧ aFmt d = 0 then
    (if t.ty = 1 then
      let v := ti t x j
      (ofS 32 (clampI (-(2 ^ 31)) (2 ^ 31 - 1) v), decide (v < -(2 ^ 31) ∨ 2 ^ 31 - 1 < v))
    else (tw t x j % 2 ^ 32, false))
  else if aOp d = 0 ∧ aFmt d = 1 then (tw t x j + 2 ^ 32 * te t x j, false)
  else narrow (aFmt d) (drainY s d x h j)

/-- The larger of two non-NaN magnitudes in a list, with +0.0 for none: MAX_ABS and its lane (R250). -/
def maxAbs (ys : List (Nat × Nat)) : Nat × Nat :=
  ys.foldl (fun b y =>
    if fIsNan y.2 then b else if b.2 = 0xFFFF ∨ fLt b.1 (fAbs y.2) then (fAbs y.2, y.1) else b) (0, 0xFFFF)

/-- The least (or greatest) non-NaN value in the order of R256. -/
def extreme (less : Bool) (ys : List Nat) : Nat :=
  ys.foldl (fun b y =>
    if fIsNan y then b else if (if less then decide (fKey y < fKey b) else decide (fKey b < fKey y)) then y else b)
    (if less then fInf else fInf + 2 ^ 31)

/-- The statistics record of R250: `ys` the counted values by lane, `bad` an input not finite or N = 0,
`sat` narrowing saturated. -/
def statRecord (ys : List (Nat × Nat)) (flags0 h : Nat) (bad sat : Bool) : Nat :=
  let vs := ys.map (·.2)
  let mx := maxAbs ys
  let sa := vs.foldl (fun a y => fAdd a (fAbs y)) 0
  let sq := vs.foldl (fun a y => fAdd a (fMul y y)) 0
  let notFin := bad || !fFinite sa || !fFinite sq || !fFinite mx.1
  mx.1 + 2 ^ 32 * sa + 2 ^ 64 * sq + 2 ^ 96 * extreme true vs + 2 ^ 128 * extreme false vs + 2 ^ 160 * mx.2
    + 2 ^ 176 * (vs.filter (fun y => !fIsZero y)).length + 2 ^ 192 * vs.length
    + 2 ^ 208 * (flags0 + 4 * b2n notFin + 8 * b2n sat + 16 * h)

/-- The counted lanes of tile row x (R250). -/
def countedLanes (s : State) (d : Desc) (x : Nat) : List Nat :=
  lanes1024.filter (fun j => decide (1024 * drainGlobal s d x + j < cfgE s eVectorLength (dCtx d)))

/-- Lane j of tile row x is a padding element of round-total rows, which no export writes out (R76): it clamps and rounds
nothing (DESIGN CHOICE, log 148). -/
def padLane (s : State) (d : Desc) (x j : Nat) : Bool := (tileNow s d).prov && !(countedLanes s d x).contains j

/-- Element j of tile row x is written out and clamps (R223, R247). -/
def drainClamps (s : State) (d : Desc) (x h j : Nat) : Bool := !padLane s d x j && (drainOut s d x h j).2

/-- The statistics record of row x, over the counted lanes (R76, R250). -/
def drainStat (s : State) (d : Desc) (x h : Nat) : Nat :=
  let t := tileNow s d
  let ys := (countedLanes s d x).map (fun j => (j, drainY s d x h j))
  let bad := (countedLanes s d x).any (fun j => !fFinite (drainX t x j).1 || !fFinite (drainY s d x h j)) ||
    (aOp d == 2 && latE d eMerged 0 == 0)
  let sat := aFmt d != 0 && (countedLanes s d x).any (fun j => (drainOut s d x h j).2)
  statRecord ys (b2n (t.sat.contains x || (aFmt d == 0 && lanes1024.any (drainClamps s d x h))) +
    2 * b2n (t.rangeF.contains x)) h bad sat

/-- One row of a DRAIN: the output row, then its exponent and statistics (R245, R248, R250). The padding elements of
round-total rows are never exported (R76), and what stands in their place is not given: free values (DESIGN CHOICE, log 148). -/
def drainRow (s0 : State) (d : Desc) (s : State) (x : Nat) : State :=
  let n := dCtx d
  let die := df d 32 1
  let h := safetyExp s0 d x
  let out := lanes1024.map (fun j => if padLane s0 d x j then Config.freeNat (s.free + j) % 2 ^ (8 * drainSize (aFmt d))
    else (drainOut s0 d x h j).1)
  let k := x - aFirst d
  let s1 := setOpMem s d die (aLoft d) (rowWrite (opMem s d die (aLoft d)) (aAddr d + k * aRowBytes d) (drainSize (aFmt d)) out)
  let s2 := if ocb s0 d 24 8 = 0 ∨ aOp d ≠ 3 then s1 else setVm s1 n (mwr (vmOf s1 n) (ocb s0 d 24 8 + k) 1 h)
  let s3 := if ocb s0 d 16 8 = 0 then s2 else setVm s2 n (mwr (vmOf s2 n) (ocb s0 d 16 8 + 32 * k) 32 (drainStat s0 d x h))
  let s4 := { s3 with free := s3.free + 1024 }
  if aOp d = 0 ∧ aFmt d = 0 ∧ lanes1024.any (drainClamps s0 d x h) then putTile s4 d (tSat (tileNow s4 d) x) else s4

/-- The completion status of a DRAIN (R249). -/
def drainStatus (s : State) (d : Desc) : Nat :=
  let rows := aRows d
  if rows.any (fun x => lanes1024.any (drainClamps s d x (safetyExp s d x))) then stSaturated
  else if !(aOp d == 0 && decide (aFmt d ≤ 1)) && rows.any (fun x => lanes1024.any (fun j => !padLane s d x j && (drainX (tileNow s d) x j).2)) then
    stInexact
  else if aOp d == 2 && latE d eMerged 0 == 0 && aCount d != 0 then stEmpty
  else stOk

/-- A DRAIN's effect. (DEDUCED, log 33.) -/
def drainEff (d : Desc) (s : State) : State :=
  completeDesc ((aRows d).foldl (drainRow s d) s) d (drainStatus s d) (aCount d)

/-- DRAIN NATIVE, and DRAIN with an OP that is not assigned (R243, R245). -/
def execDrainNative (i : Nat) (e : HwErr) (s : State) : Res :=
  runDescIf s i 0x15 (fun d => aOp d == 0 || decide (3 < aOp d)) e drainEff

/-- DRAIN DEQUANT (R245). -/
def execDrainDequant (i : Nat) (e : HwErr) (s : State) : Res :=
  runDescIf s i 0x15 (fun d => aOp d == 1) e drainEff

/-- DRAIN MEAN (R245). -/
def execDrainMean (i : Nat) (e : HwErr) (s : State) : Res :=
  runDescIf s i 0x15 (fun d => aOp d == 2) e drainEff

/-- DRAIN FUSED (R245, R248). -/
def execDrainFused (i : Nat) (e : HwErr) (s : State) : Res :=
  runDescIf s i 0x15 (fun d => aOp d == 3) e drainEff

/-! ### SAVE and RESTORE -/

/-- The data bytes of a row at full width. -/
def rowBytes (t : Tile) (x : Nat) : List Nat := lanes1024.flatMap (fun j => bytesOf (tRaw t x j) 8)

/-- The record of a row (R252). -/
def saveRecord (t : Tile) (x : Nat) : List Nat :=
  [t.ty, t.laneW, b2n (t.sat.contains x) + 2 * b2n (t.rangeF.contains x), 0] ++
    bytesOf (crc32c (rowBytes t x)) 4 ++ List.replicate 56 0 ++ rowBytes t x

/-- SAVE (R252). -/
def execSave (i : Nat) (e : HwErr) (s : State) : Res :=
  runDesc s i 0x16 e (fun d s =>
    let die := df d 32 1
    let t := tileNow s d
    let m := (aRows d).foldl (fun m x => writeBytes m (aAddr d + 8256 * (x - aFirst d)) (saveRecord t x)) (opMem s d die (aLoft d))
    completeDesc (setOpMem s d die (aLoft d) m) d stOk (aCount d))

/-- Address of the record of row x. -/
def recAt (d : Desc) (x : Nat) : Nat := aAddr d + 8256 * (x - aFirst d)

/-- One saved record is well formed (R253). -/
def recOk (m : Mem) (a : Nat) : Bool :=
  let ty := mrd m a 1
  let w := mrd m (a + 1) 1
  decide (ty ≤ 4) && (if ty = 3 then w == 16 || w == 24 || w == 32 else w == 0) && decide (mrd m (a + 2) 1 < 4) &&
    mrd m (a + 3) 1 == 0 && mrd m (a + 8) 56 == 0 && mrd m (a + 4) 4 == crc32c (mbytes m (a + 64) 8192)

/-- Every record is well formed, alike, and fits the tile (R253). -/
def restoreOk (m : Mem) (d : Desc) (t : Tile) : Bool :=
  let a := aAddr d
  (aRows d).all (fun x => recOk m (recAt d x) && mrd m (recAt d x) 2 == mrd m a 2) &&
    (aCount d == 64 || t.ty == 0 || (t.ty == mrd m a 1 && t.laneW == mrd m (a + 1) 1))

/-- One restored row: words and flags as saved. -/
def restoreRow (m : Mem) (d : Desc) (t : Tile) (x : Nat) : Tile :=
  let a := recAt d x
  let word (j : Nat) : Nat := mrd m (a + 64 + 8 * j) 8
  let t1 :=
    if t.ty = 1 then tPut t x (lanes1024.map (fun j => word j % 2 ^ 40))
    else if t.ty = 2 then tPutE (tPut t x (lanes1024.map (fun j => word j % 2 ^ 32))) x (lanes1024.map (fun j => word j / 2 ^ 32))
    else tPut t x (lanes1024.map word)
  let fl := mrd m (a + 2) 1
  let v := if t.ty = 1 then linCheck (2 ^ 32) (lanes1024.map (fun j => toS 40 (word j % 2 ^ 40)))
    else if t.ty = 2 then pairCheck (lanes1024.map (fun j => (word j % 2 ^ 32, word j / 2 ^ 32)))
    else linCheckN (2 ^ (if t.ty = 3 then t.laneW else 32)) (lanes1024.map word)
  { tChk t1 x v with
    sat := t1.sat.filter (· != x) ++ (if bit fl 0 then [x] else [])
    rangeF := t1.rangeF.filter (· != x) ++ (if bit fl 1 then [x] else []) }

/-- RESTORE (R253): a record that fails leaves the tile zeroed and empty. -/
def execRestore (i : Nat) (e : HwErr) (s : State) : Res :=
  runDesc s i 0x17 e (fun d s =>
    let m := srcMem s d (df d 32 1) (aLoft d) (aAddr d) (aBytes d)
    let t := tileNow s d
    if aCount d = 0 then completeDesc s d stOk 0
    else if restoreOk m d t then
      let t0 := retype t (aCount d) (mrd m (aAddr d) 1) (mrd m (aAddr d + 1) 1)
      completeDesc (putTile s d ((aRows d).foldl (restoreRow m d) t0)) d stOk (aCount d)
    else completeDesc (putTile s d {}) d stIntegrity 0)

/-! ### Winner reductions -/

/-- The element at position p: its raw value and error word. -/
def redElem (s : State) (d : Desc) (p : Nat) : Nat × Nat :=
  if fromTile d then (tw (tileNow s d) (p / 1024) (p % 1024), te (tileNow s d) (p / 1024) (p % 1024))
  else
    let w := mrd (srcMem s d (df d 32 1) (aLoft d) (aAddr d) (aBytes d)) (aAddr d + p * redSize (aFmt d)) (redSize (aFmt d))
    if aFmt d = 3 then (w % 2 ^ 32, w / 2 ^ 32) else (w, 0)

/-- The element is a NaN. -/
def redNan (fmt : Nat) (e : Nat × Nat) : Bool :=
  if fmt = 4 then fIsNan (e.1 * 2 ^ 16) else decide (fmt = 2 ∨ fmt = 3) && (fIsNan e.1 || (fmt == 3 && fIsNan e.2))

/-- Its place in the order of R256. -/
def redKey (fmt : Nat) (e : Nat × Nat) : Int × Int :=
  if fmt = 0 then (toS 32 e.1, 0) else if fmt = 1 then (e.1, 0) else if fmt = 5 then (toS 40 e.1, 0)
  else if fmt = 4 then (fKey (e.1 * 2 ^ 16), 0)
  else (fKey e.1, if fmt = 3 then fKey e.2 else 0)

/-- Strictly before in the order. -/
def keyLt (a b : Int × Int) : Bool := decide (a.1 < b.1) || (a.1 == b.1 && decide (a.2 < b.2))

/-- The winner and its position among the positions below k, with the count of NaNs skipped. -/
def redScan (s : State) (d : Desc) (mx : Bool) : Nat → Option (Nat × (Nat × Nat)) × Nat
  | 0 => (none, 0)
  | k + 1 =>
    let r := redScan s d mx k
    let e := redElem s d k
    if redNan (aFmt d) e then (r.1, r.2 + 1)
    else match r.1 with
      | none => (some (k, e), r.2)
      | some b =>
        let better := if mx then keyLt (redKey (aFmt d) b.2) (redKey (aFmt d) e) else keyLt (redKey (aFmt d) e) (redKey (aFmt d) b.2)
        (some (if better then (k, e) else b), r.2)

/-- VALUE of an element as 64 bits (R255). -/
def redValue (fmt : Nat) (e : Nat × Nat) : Nat :=
  if fmt = 0 then ofS 64 (toS 32 e.1) else if fmt = 5 then ofS 64 (toS 40 e.1)
  else if fmt = 3 then e.1 + 2 ^ 32 * e.2 else e.1

/-- The neutral extreme (R257). -/
def redNeutral (fmt : Nat) (mx : Bool) : Nat :=
  if mx then
    (if fmt = 0 then ofS 64 (-(2 ^ 31)) else if fmt = 1 then 0 else if fmt = 5 then ofS 64 (-(2 ^ 39))
    else if fmt = 4 then 0xFF80 else 0xFF800000)
  else
    (if fmt = 0 then 2 ^ 31 - 1 else if fmt = 1 then 0xFFFFFFFF else if fmt = 5 then 2 ^ 39 - 1
    else if fmt = 4 then 0x7F80 else 0x7F800000)

/-- A reduction's effect (R255 to R257). -/
def reduceEff (mx : Bool) (d : Desc) (s : State) : State :=
  let n := dCtx d
  let r := redScan s d mx (rCount d)
  let rec16 := match r.1 with
    | none => redNeutral (aFmt d) mx + 2 ^ 64 * 0xFFFFFFFF + 2 ^ 96 * r.2
    | some b => redValue (aFmt d) b.2 + 2 ^ 64 * (rBase d + b.1) + 2 ^ 96 * r.2
  completeDesc (setVm s n (mwr (vmOf s n) (aX d) 16 rec16)) d (if r.1.isNone then stEmpty else stOk) (rCount d)

/-- REDUCE_MAX (R255). -/
def execReduceMax (i : Nat) (e : HwErr) (s : State) : Res := runDesc s i 0x60 e (reduceEff true)

/-- REDUCE_MIN (R255). -/
def execReduceMin (i : Nat) (e : HwErr) (s : State) : Res := runDesc s i 0x61 e (reduceEff false)

/-! ### Tiles that leave -/

/-- PROV_TILE_ZERO (R254): once the round is not READY. -/
def execProvTileZero (n : Nat) (s : State) : Res :=
  if s.pwr.frozen then .next s else
  if roundSt s n = rsReady then .next s else .next (dropProv s n)

/-- A running descriptor of context n latched a range with tile t (R219). -/
def tileLatched (s : State) (n t : Nat) : Bool :=
  s.descs.any (fun d => d.phase == .running && dCtx d == n && decide (0x10 ≤ dOp d ∧ dOp d ≤ 0x17 ∨ dOp d = 0x60 ∨ dOp d = 0x61) &&
    decide (latE d eTileFirst 0 ≤ t ∧ t < latE d eTileFirst 0 + latE d eTileCount 0))

/-- Zero the removed tiles that no running descriptor latched; a staging tile stays until its round is
NONE (R219). -/
def dropRemoved (s : State) (n : Nat) : State :=
  let go (t : Nat) : Bool := !tileLatched s n t && !(List.range 6).any (fun d => stagingTile s n (d * 96 + t))
  let c := cx s n
  let now := c.tileGone.filter go
  let s1 := setCx s n { c with tileGone := c.tileGone.filter (fun t => !go t) }
  clearTiles s1 (fun k _ => now.contains (k % 48) && (diesE s n).contains (k / 96))

/-- A removed tile still waits for a descriptor that latched it. -/
def rangeWaits (s : State) (n : Nat) : Bool := (cx s n).tileGone.any (tileLatched s n)

/-- A write of the range removes its tiles (R219). -/
def rangeWrite (s : State) (n first cnt : Nat) : State :=
  let old := (List.range (rdE s eTileCount n)).map (· + rdE s eTileFirst n)
  let gone := old.filter (fun t => !decide (first ≤ t ∧ t < first + cnt))
  let s1 := wrE (wrE s eTileFirst n first) eTileCount n cnt
  dropRemoved (setCx s1 n { cx s1 n with tileGone := ((cx s1 n).tileGone ++ gone).eraseDups }) n

end Sys2Proof.Machine
end

