-- ==== Sys2Proof/Machine/Queue.lean ====
section
/-!
DEFINITION. Work submission (chapter 9): command queues, the fetcher, the Carousel, sync counters,
control descriptors, triggers and event queues.
-/

namespace Sys2Proof.Machine

open Sys2Proof

/-- The function exists: the physical function, or an enabled virtual function (R527). -/
def fnExists (s : State) (f : Nat) : Bool :=
  f == 0 || (s.pcie.vfEnable && decide (f ≤ s.pcie.numVfs) && decide (f < 64))

/-- BAR0 of the function answers beyond PCI_FN_STATUS: firmware running, the function OPEN, its
memory space on, the module not frozen (R495, R501, R529, R531, R594). -/
def bar0Up (s : State) (f : Nat) : Bool :=
  running s && !s.pwr.frozen && fnExists s f && !fnBlocked s f && memUp s f

/-- The oldest descriptor of a queue that the fetcher still holds. -/
def oldestHeld (s : State) (f q : Nat) : Option Desc :=
  s.descs.find? (fun d => d.fn == f && d.queue == q && d.phase == .held)

/-- A FENCE starts once R273 holds, and its wait for the scope is its work (DEDUCED, log 85). -/
def fenceStarted (s : State) (d : Desc) : Bool :=
  dOp d == 0x72 && d.phase == .held && (oldestHeld s d.fn d.queue).any (fun x => x.id == d.id) && condMet s d

/-- A descriptor of queue q that has been fetched and has not started completes FLUSHED (R271). -/
def flushQueue (s : State) (f q : Nat) : State :=
  completeAll s (fun d => d.fn == f && d.queue == q && d.started.isEmpty && !fenceStarted s d) stFlushed

/-- A write of the whole CQ_CONFIG word (R266, R269, R271). -/
def writeCqConfig (s : State) (f q v : Nat) : State :=
  let c := cq s f q
  let flush := bit v 30
  let en := bit v 31 && !flush
  let rise := bit v 31 && !c.enable
  let c1 := { c with
    enable := en
    space := bits v 29 29
    cls := bits v 27 26
    evq := bits v 25 24
    ctx := bits v 23 16
    head := if rise then 0 else c.head
    prod := if rise then 0 else c.prod
    fetchErr := en && c.fetchErr
    laneFull := en && c.laneFull }
  let s1 := if flush || (c.enable && !en) then flushQueue s f q else s
  setCq s1 f q { c1 with starve := (cq s1 f q).starve, overruns := (cq s1 f q).overruns }

/-- A write of CQ_CONFIG, where BAR0 answers. -/
def cqConfigWrite (s : State) (f q v : Nat) : State :=
  if bar0Up s f && decide (q < 64) then writeCqConfig s f q v else s

/-- CQ_ENABLE (R266). -/
def execCqEnable (f q v : Nat) (s : State) : Res := .next (cqConfigWrite s f q v)

/-- CQ_DISABLE (R271). -/
def execCqDisable (f q v : Nat) (s : State) : Res := .next (cqConfigWrite s f q v)

/-- CQ_FLUSH (R271). -/
def execCqFlush (f q v : Nat) (s : State) : Res := .next (cqConfigWrite s f q v)

/-- A doorbell write that R267 discards. -/
def doorbellBad (c : Cq) (p : Nat) : Bool :=
  decide (c.depth < (p + 2 ^ 32 - c.head) % 2 ^ 32) || decide (2 ^ 31 ≤ (p + 2 ^ 32 - c.prod) % 2 ^ 32) ||
    c.depth == 0 || !c.enable

/-- CQ_DOORBELL (R267): the producer index, or a discarded and counted write. -/
def execCqDoorbell (f q value : Nat) (s : State) : Res :=
  if bar0Up s f && decide (q < 64) then
    let c := cq s f q
    let p := value % 2 ^ 32
    if doorbellBad c p then .next (setCq s f q { c with overruns := satAdd 0xFFFFFFFF c.overruns 1 })
    else .next (setCq s f q { c with prod := p })
  else .next s

/-- Every pair R269 checks before a fetch. -/
def fetchCheck (s : State) (f : Nat) (c : Cq) (a : Nat) : Option Nat :=
  if !(c.depth == 0 || (decide (2 ≤ c.depth ∧ c.depth ≤ 65536) && c.depth == 2 ^ Nat.log2 c.depth)) ||
      c.base % 64 != 0 || decide ((if c.space = 1 then 2 ^ 48 else 2 ^ 64) < c.base + 64 * c.depth) then
    some stParam
  else if c.space = 1 ∧ (!ctxLive s f c.ctx || !localOk s f c.ctx a 64) then some stAccess
  else none

/-- A failed fetch check or ring read: FETCH_ERROR, and one QUEUE_ERROR event (R269). (DEDUCED, log 124.) -/
def queueError (s : State) (f q st : Nat) : State :=
  let c := cq s f q
  postEvent (setCq s f q { c with fetchErr := true }) f c.evq
    (evEntry evQueueError (if c.space = 1 then c.ctx else 0) st q noUnit c.head 0)

/-- DESCRIPTOR_FETCH (R268, R269): one ring entry is read; its descriptor is fetched. A queue of depth 0 has no
entry (R304). -/
def execDescriptorFetch (f q : Nat) (e : HwErr) (s : State) : Res :=
  let c := cq s f q
  if !(decide (q < 64) && c.enable && c.depth != 0 && !c.fetchErr && c.head != c.prod && running s && !fnBlocked s f &&
      !s.pwr.frozen) then .next s
  else
    let a := c.base + 64 * (c.head % c.depth)
    match fetchCheck s f c a with
    | some st => .next (queueError s f q st)
    | none =>
      if e ≠ .none then .next (queueError s f q (hwStatus e))
      else
        let raw := mrd (if c.space = 1 then vmOf s c.ctx else s.host) a 64
        let d : Desc :=
          { id := s.nextDesc, fn := f, queue := q, seq := c.head, raw := raw, addr := a, space := c.space }
        let s0 := if c.space = 1 then s else linkWork s
        let s1 := setCq s0 f q { c with head := (c.head + 1) % 2 ^ 32 }
        .next { s1 with descs := s1.descs ++ [d], nextDesc := s1.nextDesc + 1 }

/-- Descriptors of a queue in the lane of a die. -/
def laneCount (s : State) (f q die : Nat) : Nat :=
  (s.descs.filter (fun d => d.fn == f && d.queue == q && d.lanes.contains die)).length

/-- The lane of a die has no room (R299). -/
def laneFullAt (s : State) (f q die : Nat) : Bool := decide (8 ≤ laneCount s f q die)

/-- LANE_FULL as it reads: the fetcher has held the queue for a lane, and a lane of the descriptor it holds is still
full (R266, R270, R542). -/
def laneFullNow (s : State) (f q : Nat) : Bool :=
  (cq s f q).laneFull && match oldestHeld s f q with
    | some d => !isControl (dOp d) && (execDies s d).any (laneFullAt s f q)
    | none => false

/-- A helter-skelter instance flushes itself on a pointer fault (R298): counted, and a fault record that names the
unit. -/
def pointerFault (s : State) (f unit detail : Nat) : State :=
  writeFault (bumpE s eHsPtrFaults 0) { plainFault ftQueuePtr 0 0 unit detail with fn := f }

/-- The pointers of the lane of a queue on a die differ: what waits in it completes FLUSHED (R298). No unit of R29 is
the lane's: the record names none, and the die as its detail (DESIGN CHOICE, log 149). -/
def lanePointerFault (s : State) (f q die : Nat) : State :=
  pointerFault (completeAll s (fun d => d.fn == f && d.queue == q && d.lanes.contains die) stFlushed) f noUnit die

/-- The pointers of the trigger stream differ: what it holds completes FLUSHED (R298; DESIGN CHOICE, log 149). -/
def streamPointerFault (s : State) (f : Nat) : State :=
  pointerFault (completeAll s (fun d => d.fn == f && d.queue == 64 && d.phase == .held) stFlushed) f 269 269

/-- DESCRIPTOR_FORWARD (R270, R285, R289): the oldest held descriptor enters the lanes of its dies when
each has room (8 entries, R299); otherwise LANE_FULL. A control descriptor holds the queue. -/
def execDescriptorForward (f : Nat) (acc : HsAccess) (s : State) : Res :=
  if s.pwr.frozen then .next s else
  let q := acc.id
  match acc.ptr with
  | some x => .next (if q = 64 ∧ x = 9 then streamPointerFault s f else lanePointerFault s f q x)
  | none =>
    match oldestHeld s f q with
    | none => .next s
    | some d =>
      if isControl (dOp d) then .next s
      else
        let ds := execDies s d
        let c := cq s f q
        if ds.any (laneFullAt s f q) then
          .next (if q < 64 then setCq s f q { c with laneFull := true } else s)
        else
          let s1 := setDesc s { d with phase := .lanes, lanes := ds }
          .next (if q < 64 then setCq s1 f q { c with laneFull := false } else s1)

/-- The local engines of a die that a descriptor occupies when `u` is the engine that frees (R126,
R184, R237, R261, R284, R385; DESIGN CHOICE, log 15 for the opcodes whose engine the spec does not name). -/
def engSet (d : Desc) (u : Nat) : List Nat :=
  let op := dOp d
  let arr := bits (df d 33 1) 7 7
  if op ≤ 0x02 then (if 16 ≤ u ∧ u ≤ 31 then [u] else [])
  else if op = 0x15 then (if u = 12 + arr then [u] else [])
  else if 0x10 ≤ op ∧ op ≤ 0x17 then (if u = 10 + arr then [u] else [])
  else if op = 0x60 ∨ op = 0x61 then
    (if bit (df d 38 1) 1 then (if u = 12 + arr then [u] else []) else if u = 12 ∨ u = 13 then [u] else [])
  else if op = 0x30 ∨ op = 0x31 then (if u < 4 then [u] else [])
  else if 0x32 ≤ op ∧ op ≤ 0x34 then (if u < 8 then [u] else [])
  else if op = 0x35 then (if u = 8 ∨ u = 9 then [u] else [])
  else if op = 0x43 then
    (if u < 9 then [0, 1, 2, 3, 4, 5, 6, 7, 8] else if u = 9 then [0, 1, 2, 3, 4, 5, 6, 7, 9] else [])
  else if 0x40 ≤ op ∧ op ≤ 0x46 then (if u < 8 then [0, 1, 2, 3, 4, 5, 6, 7] else [])
  else if op = 0x20 ∧ df d 32 1 = 1 then (if u < 8 then [0, 1, 2, 3, 4, 5, 6, 7] else [])
  else if op = 0x20 then (if u = 14 then [14] else [])
  else if op = 0x22 then (if 10 ≤ u ∧ u ≤ 13 then [10, 11, 12, 13] else [])
  else if isTransport op then (if u = 4 then [4] else [])
  else if u ≤ 14 then [u] else []

/-- The sets of engines any of which serves when `u` frees: a ROTATE takes either automorphism engine (R184). -/
def engAlts (d : Desc) (u : Nat) : List (List Nat) :=
  if (engSet d u).isEmpty then []
  else if dOp d = 0x43 ∧ u < 8 then [engSet d u, engSet d 9] else [engSet d u]

/-- Engines of a die occupied by running descriptors. -/
def busyEngines (s : State) (die : Nat) : List Nat :=
  s.descs.flatMap (fun d => if isTransport (dOp d) then [] else d.engs.filter (fun g => g / 32 == die))

/-- The class by which a head competes (R266, R289). -/
def classOf (s : State) (d : Desc) : Nat := if d.queue < 64 then (cq s d.fn d.queue).cls else d.cls

/-- The key of a queue in the promoted list and the round-robin order. -/
def queueKey (die f q : Nat) : Nat := die * 8192 + f * 128 + q

/-- The rank of an eligible head on a die; the least ranks first (R290). -/
def headRank (s : State) (die : Nat) (d : Desc) : Nat :=
  let k := queueKey die d.fn d.queue
  match s.promoted.findIdx? (· == k) with
  | some i => i
  | none =>
    let c := classOf s d
    let last := tget s.served 0 (die * 4 + c)
    2 ^ 20 + c * 2 ^ 14 + ((d.fn * 128 + d.queue) + 8192 - last) % 8192

/-- The least of a list by a rank. -/
def minBy {α : Type} (r : α → Nat) : List α → Option α
  | [] => none
  | x :: l => match minBy r l with
    | none => some x
    | some y => if r x ≤ r y then some x else some y

/-- A PRELOAD or a RESTORE starts only on a tile no running descriptor names, and nothing starts on a tile
under one (R222). -/
def tileClear (s : State) (d : Desc) : Bool :=
  match tileOfD d with
  | none => true
  | some k =>
    if dOp d = 0x14 ∨ dOp d = 0x17 then (onTile s k).isEmpty
    else (onTile s k).all (fun x => dOp x != 0x14 && dOp x != 0x17)

/-- The free set of engines that the head takes on the die. -/
def engTake (s : State) (die u : Nat) (d : Desc) : Option (List Nat) :=
  (engAlts d u).find? (fun l => l.all (fun x => !(busyEngines s die).contains x))

/-- All engines the head needs are free on the die, and so is its tile. -/
def enginesFree (s : State) (die u : Nat) (d : Desc) : Bool := tileClear s d && (engTake s die u d).isSome

/-- The head that the engine takes (R290): the highest-ranked eligible head that may run on it; none
while a head that ranks first waits for several engines of which the unit is one. -/
def pickHead (s : State) (die u : Nat) : Option Desc :=
  let may := s.descs.filter (fun d => eligible s d die && !(engSet d u).isEmpty)
  match minBy (headRank s die) may with
  | none => none
  | some first =>
    if 1 < (engSet first u).length ∧ !enginesFree s die u first then none
    else minBy (headRank s die) (may.filter (enginesFree s die u))

/-- A breakpoint of the unit's sequencer matches the start of the descriptor (R590). -/
def bpHit (s : State) (unit : Nat) (d : Desc) : Bool :=
  (List.range 4).any (fun k =>
    let v := tget s.dbg.bps 0 (unit * 16 + k)
    (bit v 16 || bit v 17) && (!bit v 16 || v % 256 == dOp d) && (!bit v 17 || bits v 15 8 == dCtx d))

/-- URGENT_PROMOTION (R291): the age of the head of a non-urgent queue has passed CQ_URGENT_AGE. (DEDUCED, log 19.) -/
def execUrgentPromotion (f q die : Nat) (s : State) : Res :=
  if s.pwr.frozen then .next s else
  let k := queueKey die f q
  match s.descs.find? (fun d => d.fn == f && d.queue == q && eligible s d die) with
  | none => .next s
  | some d =>
    if classOf s d = 0 ∨ s.promoted.contains k then .next s
    else
      let s1 := bumpE { s with promoted := s.promoted ++ [k] } eStarvePromotions 0
      .next (if q < 64 then
          setCq s1 f q { cq s1 f q with starve := satAdd 0xFFFFFFFF (cq s1 f q).starve 1 }
        else s1)

/-- SYN_VALUE_WRITE (R278): set a counter of the function; a foreign access is counted. -/
def execSynValueWrite (f c value : Nat) (s : State) : Res :=
  if !(bar0Up s f && decide (c < 16384)) then .next s
  else if ownsCounter s f c then .next (synSet s c (value % 2 ^ 32))
  else .next (bumpE s eSynForeign 0)

/-- SYN_ADD (R277, R278). -/
def execSynAdd (f c value : Nat) (s : State) : Res :=
  if !(bar0Up s f && decide (c < 16384)) then .next s
  else if ownsCounter s f c then .next (synAdd s c (value % 2 ^ 32))
  else .next (bumpE s eSynForeign 0)

/-- A descriptor or armed trigger of function o names a counter of block k (R280). -/
def blockInUse (s : State) (o k : Nat) : Bool :=
  s.descs.any (fun d => d.fn == o && ((dWaitEn d && dWaitCtr d / 64 == k) ||
    (dSignalEn d && dSigCtr d / 64 == k) || (dOp d == 0x74 && df d 32 1 == 0 && df d 36 4 / 64 == k))) ||
  s.trigs.any (fun t => t.1 / 256 == o && t.2.counter / 64 == k)

/-- The rule of a SYN_BLOCK_k write (R280): refused while the current owner uses the block; otherwise
the block's counters become 0 and the new owner is stored. -/
def synBlockRule (k value : Nat) (s : State) : Nat × State :=
  if blockInUse s (synOwnerOf s k) k then (stPolicy, s)
  else
    let s1 := { s with syn := s.syn.filter (fun c => c.1 / 64 != k) }
    (stOk, if k < 128 then wrEj s1 eSynBlockLo 0 k value else wrEj s1 eSynBlockHi 0 (k - 128) value)

/-! ### Control descriptors -/

/-- The held control descriptor with identifier i that the fetcher may execute: the oldest held of its
queue, with the given opcode. -/
def controlOf (s : State) (i op : Nat) : Option Desc :=
  match descOf s i with
  | none => none
  | some d => if d.phase == .held && dOp d == op &&
      (oldestHeld s d.fn d.queue).any (fun x => x.id == i) then some d else none

/-- Bytes from `off` to 63 are 0. -/
def tailZero (d : Desc) (off : Nat) : Bool := df d off (64 - off) == 0

/-- The reserved fields of a control descriptor's bytes 32 to 63, and an assigned OP or SCOPE (R286,
R287). -/
def controlReservedZero (d : Desc) : Bool :=
  if dOp d = 0x70 then tailZero d 36
  else if dOp d = 0x71 then tailZero d 33 && decide (df d 32 1 ≤ 1)
  else if dOp d = 0x72 then tailZero d 33 && decide (df d 32 1 ≤ 2)
  else if dOp d = 0x73 then tailZero d 32
  else tailZero d 50 && decide (df d 32 1 ≤ 1) && decide (df d 33 1 < 4) && decide (df d 34 2 < 256) &&
    decide (df d 36 4 < 16384)

/-- The checks of a control descriptor: the common ones, then its reserved fields (R274, R287). -/
def controlCheck (s : State) (d : Desc) : Option Nat :=
  match commonCheck s d with
  | some st => some st
  | none => if controlReservedZero d then none else some stUnsupported

/-- Run a control descriptor: refused by its checks, or `eff` once `ready`. The check is made when the
descriptor starts, that is once R273 holds; WAIT judges the counter itself. -/
def runControl (s : State) (i op : Nat) (ready : Desc → Bool) (eff : Desc → State) : Res :=
  match controlOf s i op with
  | none => .next s
  | some d =>
    if !ready d then .next s
    else match controlCheck s d with
      | some st => .next (refuseDesc s d st)
      | none => .next (eff d)

/-- WAIT (R287): completes OK once R273 holds, which with WAIT_EN clear is at once (DEDUCED, log 80); its
checks do not wait for the counter, which is its work and not its start (DEDUCED, log 85). A counter that reached
the threshold and was lowered since holds it too: aux is 1. -/
def execWait (i : Nat) (s : State) : Res :=
  if s.pwr.frozen then .next s else
  runControl s i 0x70 (fun d => condMet s d || d.aux == 1 || decide (10000000 < df d 32 4) || (controlCheck s d).isSome) (fun d =>
    if 10000000 < df d 32 4 then refuseDesc s d stParam else completeDesc s d stOk 0)

/-- WAIT_TIMEOUT (R287): TIMEOUT µs have passed. A threshold reached before that instant completes the WAIT OK. -/
def execWaitTimeout (i : Nat) (s : State) : Res :=
  if s.pwr.frozen then .next s else
  runControl s i 0x70 (fun d => df d 32 4 != 0 && !condMet s d) (fun d =>
    if 10000000 < df d 32 4 then refuseDesc s d stParam
    else completeDesc s d (if d.aux = 1 then stOk else stTimeout) 0)

/-- SIGNAL with OP 0 (R276, R287): the addition of its completion. -/
def execSignalAdd (i : Nat) (s : State) : Res :=
  if s.pwr.frozen then .next s else
  runControl s i 0x71 (fun d => condMet s d && df d 32 1 != 1) (fun d =>
    if dSignalEn d then completeDesc s d stOk 0 else refuseDesc s d stParam)

/-- SIGNAL with OP 1 (R287): its completion sets the counter in place of the addition (`signalOf`). -/
def execSignalSet (i : Nat) (s : State) : Res :=
  if s.pwr.frozen then .next s else
  runControl s i 0x71 (fun d => condMet s d && df d 32 1 == 1) (fun d =>
    if dSignalEn d then completeDesc s d stOk 0 else refuseDesc s d stParam)

/-- Every descriptor of a scope fetched before d has completed (R287). -/
def scopeClear (s : State) (d : Desc) : Bool :=
  !s.descs.any (fun x => x.fn == d.fn && decide (x.id < d.id) &&
    (if df d 32 1 = 0 then x.queue == d.queue
     else if df d 32 1 = 1 then !ctxReserved x && dCtx x == dCtx d else true))

/-- A FENCE has started, and it is refused or its scope is clear: the wait for the scope is its work,
so its checks come before it (R274, R287, DEDUCED, log 85). -/
def fenceReady (s : State) (d : Desc) : Bool :=
  condMet s d && (scopeClear s d || (controlCheck s d).isSome)

/-- FENCE with SCOPE 0; an unassigned SCOPE is refused here (R287). -/
def execFenceQueue (i : Nat) (s : State) : Res :=
  if s.pwr.frozen then .next s else
  runControl s i 0x72 (fun d => (df d 32 1 == 0 || decide (2 < df d 32 1)) && fenceReady s d)
    (fun d => completeDesc s d stOk 0)

/-- FENCE with SCOPE 1 (R287). -/
def execFenceContext (i : Nat) (s : State) : Res :=
  if s.pwr.frozen then .next s else
  runControl s i 0x72 (fun d => df d 32 1 == 1 && fenceReady s d)
    (fun d => completeDesc s d stOk 0)

/-- FENCE with SCOPE 2 (R287). -/
def execFenceFunction (i : Nat) (s : State) : Res :=
  if s.pwr.frozen then .next s else
  runControl s i 0x72 (fun d => df d 32 1 == 2 && fenceReady s d)
    (fun d => completeDesc s d stOk 0)

/-- NOP (R287). -/
def execNop (i : Nat) (s : State) : Res :=
  if s.pwr.frozen then .next s else
  runControl s i 0x73 (condMet s) (fun d => completeDesc s d stOk 0)

/-- The checks of TRIGGER_POST with OP 0 (R286, R288): POST_ADDR a multiple of 64, the descriptor and
the counter within the function's regions and blocks, the slot free. -/
def triggerCheck (s : State) (d : Desc) : Option Nat :=
  if df d 44 6 % 64 != 0 then some stParam
  else if !localOk s d.fn (dCtx d) (df d 44 6) 64 || !ownsCounter s d.fn (df d 36 4) then some stAccess
  else if (tfind s.trigs (d.fn * 256 + df d 34 2)).isSome then some stPolicy
  else none

/-- TRIGGER_POST with OP 0 (R288): the descriptor at POST_ADDR is stored and the slot armed; a trigger
whose counter is at its threshold fires at arming. -/
def execTriggerArm (i : Nat) (s : State) : Res :=
  if s.pwr.frozen then .next s else
  runControl s i 0x74 (fun d => condMet s d && df d 32 1 != 1) (fun d =>
    match triggerCheck s d with
    | some st => refuseDesc s d st
    | none =>
      let t : Trig :=
        { raw := mrd (vmOf s (dCtx d)) (df d 44 6) 64
          addr := df d 44 6
          cls := df d 33 1
          ctx := dCtx d
          counter := df d 36 4
          threshold := df d 40 4 }
      let s1 := { s with trigs := tput s.trigs (d.fn * 256 + df d 34 2) t }
      completeDesc (markTriggers s1 (df d 36 4)) d stOk 0)

/-- Free a trigger slot. -/
def dropTrigger (s : State) (f slot : Nat) : State :=
  { s with
    trigs := terase s.trigs (f * 256 + slot)
    firedWait := tset s.firedWait [] f ((tget s.firedWait [] f).filter (· != slot)) }

/-- TRIGGER_POST with OP 1 (R288, R303): disarms the slot; OK whether or not it was armed. A slot that
has fired stays on its way to the stream. -/
def execTriggerCancel (i : Nat) (s : State) : Res :=
  if s.pwr.frozen then .next s else
  runControl s i 0x74 (fun d => condMet s d && df d 32 1 == 1) (fun d =>
    let k := d.fn * 256 + df d 34 2
    let s1 := match tfind s.trigs k with
      | some t => if t.fired then s else dropTrigger s d.fn (df d 34 2)
      | none => s
    completeDesc s1 d stOk 0)

/-- The trigger stream of a function: the fired descriptors that have not been forwarded (R289, R299). -/
def streamHeld (s : State) (f : Nat) : List Nat :=
  (tget s.stream [] f).filter (fun i => s.descs.any (fun d => d.id == i && d.phase == .held))

/-- A fired slot, first in firing order, enters the stream when it has room (R289): its descriptor is
fetched and takes the next firing number. -/
def enterStream (s : State) (f slot : Nat) : State :=
  match tfind s.trigs (f * 256 + slot) with
  | none => s
  | some t =>
    if !(t.fired && (tget s.firedWait [] f).head? == some slot &&
        decide ((streamHeld s f).length < 256)) then s
    else
      let d : Desc :=
        { id := s.nextDesc
          fn := f
          queue := 64
          seq := tget s.firings 0 f
          raw := t.raw
          addr := t.addr
          space := 2
          cls := t.cls }
      let s1 := dropTrigger s f slot
      { s1 with
        descs := s1.descs ++ [d]
        nextDesc := s1.nextDesc + 1
        firings := tset s1.firings 0 f ((tget s1.firings 0 f + 1) % 2 ^ 32)
        stream := tset s1.stream [] f (streamHeld s f ++ [d.id]) }

/-- TRIGGER_FIRE (R288, R289). (DEDUCED, log 16.) -/
def execTriggerFire (f slot : Nat) (s : State) : Res :=
  if s.pwr.frozen then .next s else .next (enterStream s f slot)

/-- TRIGGER_STREAM_ENTRY (R289): a fired slot that waited for room enters the stream. -/
def execTriggerStreamEntry (f slot : Nat) (s : State) : Res :=
  if s.pwr.frozen then .next s else .next (enterStream s f slot)

/-! ### Event queues -/

/-- EVQ_ENABLE and other writes of EVQ_CONFIG (R300): a rise of ENABLE clears EVQ_LOST; FLUSH discards
every entry and leaves ENABLE as it stands. -/
def writeEvqConfig (s : State) (f q v : Nat) : State :=
  let x := evq s f q
  if bit v 30 then
    setEvq s f q { x with
      entries := []
      lost := satAdd 0xFFFFFFFF x.lost x.entries.length
      lostBefore := true
      vector := bits v 15 8 }
  else
    setEvq s f q { x with
      enable := bit v 31
      vector := bits v 15 8
      lost := if bit v 31 && !x.enable then 0 else x.lost }

/-- EVQ_ENABLE (R300). -/
def execEvqEnable (f q value : Nat) (s : State) : Res :=
  .next (if bar0Up s f && decide (q < 4) then writeEvqConfig s f q value else s)

/-- EVQ_FLUSH (R297, R300). -/
def execEvqFlush (f q value : Nat) (s : State) : Res :=
  .next (if bar0Up s f && decide (q < 4) then writeEvqConfig s f q value else s)

/-- The depth that EVQ_DEPTH stores for a written value (R300). -/
def evqDepthOf (v : Nat) : Nat :=
  if 64 ≤ v ∧ v ≤ 4096 ∧ v = 2 ^ Nat.log2 v then v else 0

/-- A write of EVQ_DEPTH (R300): the newest entries up to the new depth stay, and the oldest kept
carries LOST_BEFORE. -/
def writeEvqDepth (s : State) (f q v : Nat) : State :=
  let x := evq s f q
  let d := evqDepthOf v
  let gone := x.entries.length - d
  if gone = 0 then setEvq s f q { x with depth := d }
  else setEvq s f q { x with
    depth := d
    entries := markLost (x.entries.drop gone)
    lost := satAdd 0xFFFFFFFF x.lost gone
    lostBefore := x.lostBefore || d == 0 }

/-- EVQ_DEPTH_WRITE (R300). -/
def execEvqDepthWrite (f q value : Nat) (s : State) : Res :=
  .next (if bar0Up s f && decide (q < 4) then writeEvqDepth s f q (value % 2 ^ 32) else s)

/-- Flush of a helter-skelter event queue on a pointer fault (R298). -/
def evqPointerFault (s : State) (f q : Nat) : State :=
  let x := evq s f q
  pointerFault (setEvq s f q { x with
    entries := []
    lost := satAdd 0xFFFFFFFF x.lost x.entries.length
    lostBefore := true }) f 269 269

/-- EVENT_QUEUE_READ (R294, R298, R301): a 16-byte read removes and returns the head entry, or the
not-valid entry; another size returns zeros. -/
def execEventQueueRead (f q size : Nat) (ptrFault : Bool) (s : State) : Res :=
  if !(bar0Up s f && decide (q < 4)) || size != 16 then .next (emit s (.regData 0))
  else if ptrFault then .next (emit (evqPointerFault s f q) (.regData 0))
  else
    let x := evq s f q
    match x.entries with
    | [] => .next (emit s (.regData 0))
    | h :: r => .next (emit (setEvq s f q { x with entries := r }) (.regData h))

end Sys2Proof.Machine
end

