-- ==== Sys2Proof/Machine/Reply.lean ====
section
/-!
DEFINITION. The Oronos server's side of every command that is a write of a dictionary entry (chapter 18):
who may send one, the checks of R600 in their order, the answer of R545 and R549, and the one
operation that runs a write: check, rule, answer.
-/

namespace Sys2Proof.Machine

open Sys2Proof

/-- Oronos mailbox contents of function f (R549): request at 0, response at 0x1000. -/
def mboxBytes (s : State) (f : Nat) : Mem := tget s.mboxMem [] f

/-- Replace them. -/
def setMboxBytes (s : State) (f : Nat) (m : Mem) : State := { s with mboxMem := tset s.mboxMem [] f m }

/-- The mailbox of a function answers (R495, R529, R531): BAR0 does, and the physical function's mailbox also
while it is fenced. -/
def mboxUp (s : State) (f : Nat) : Bool :=
  if f = 0 then running s && !s.pwr.frozen && memUp s 0 else bar0Up s f

/-- The session behind a request is LIVE and of one of the kinds. -/
def srcKey (s : State) (k : Nat) (kinds : List Nat) : Bool :=
  (keyOf s k).st == 1 && kinds.contains (keyOf s k).kind

/-- A request of the source can be before the server (R437, R531, R549): a mailbox holds one while it is BUSY,
a session while its key is LIVE; before the firmware runs only the management port without a session
reaches the boot ROM. -/
def srcLive (s : State) (src : Src) : Bool :=
  !s.pwr.frozen && !s.pwr.inReset &&
    match src with
    | .mailbox f => running s && fnExists s f && (mboxOf s f).busy
    | .mgmt k => running s && srcKey s k [7]
    | .peer k => running s && srcKey s k [3, 5, 6]
    | .port => s.boot.st != 0

/-- The physical function's mailbox or an attested management session (R547). -/
def isMgr (src : Src) : Bool :=
  match src with
  | .mailbox f => f == 0
  | .mgmt _ => true
  | _ => false

/-- The function that a source acts for (R34, R549): 0xFF for none. -/
def srcFn (src : Src) : Nat :=
  match src with
  | .mailbox f => f
  | .mgmt _ => 0
  | _ => 0xFF

/-- The 16 bytes of a response (R545): the request's header with OP bit 7 set, the status, and for a read
its FLAGS and LENGTH. -/
def respHeader (req st len : Nat) (read more : Bool) : Nat :=
  let h := putBits (putBits req 7 7 1) 15 8 st
  if read then putBits (putBits h 47 40 (2 * b2n more)) 127 96 len else h

/-- Answer a request (R549, R551): a mailbox shows the response and raises its vector, or discards it while
it is unmapped (R553); another source receives a packet. -/
def answerWith (s : State) (src : Src) (st value len : Nat) (read more : Bool) : State :=
  let s1 := if s.pwr.inReset then s else emit s (.odResp src st value len more)
  match src with
  | .mailbox f =>
    let m := mboxOf s f
    if mboxUp s f then
      let h := respHeader (mrd (mboxBytes s f) 0 16) st len read more
      let b := mwr (mwr (mboxBytes s f) 0x1000 16 h) 0x1010 len value
      let s2 := setMboxBytes (setMbox s1 f { m with busy := false, respValid := true }) f b
      if bit m.vector 31 then raiseMsix s2 f (m.vector % 256) else s2
    else setMbox s f { m with busy := false }
  | _ => s1

/-- Answer a write. -/
def answer (s : State) (src : Src) (st : Nat) : State := answerWith s src st 0 0 false false

/-! ### The order of checks (R600) -/

/-- The index is in the identity range. -/
def inIdentity (e : Ent) : Bool := decide (0x1000 ≤ e.base ∧ e.base ≤ 0x1FFF)

/-- Entries that only the physical function's mailbox or an attested management session writes, by their own
rules (R280, R398, R485, R490, R524, R544, R573, R581) or the reach of R466. -/
def mgrOnly (e : Ent) : Bool :=
  e.base == 0x8200 || e.base == 0x8201 || e.base == 0x8100 || e.base == 0x2000 || e.base == 0x7000 ||
    e == eWatchdogUs || e == eResetRequest || e == eLocate || e == eEpBacking || e == eEpTablePd0 ||
    e == eEpTablePd1 || e == eSnapTake ||
    (decide (0x6000 ≤ e.base ∧ e.base ≤ 0x6006) && e != ePolicyBundle && e != eQuoteRequest)

/-- A context entry's source (R34): a FREE context takes only CTX_COMMAND; otherwise the owner's mailbox or a
management session. -/
def ctxSrcOk (s : State) (src : Src) (e : Ent) (n : Nat) : Bool :=
  if rdE s eCtxState n = cxFree then e == eCtxCommand
  else
    match src with
    | .mailbox f => (cx s n).owner == f
    | .mgmt _ => true
    | _ => false

/-- Order 2 of R600 for a write of record n. (DEDUCED, log 21.) -/
def srcMayWrite (s : State) (src : Src) (e : Ent) (n : Nat) : Bool :=
  e.acc != .ro &&
    match src with
    | .port =>
      if s.boot.st = 1 then e.base == 0x1F00
      else running s && effLc s == 0 && e == eLcCommand
    | .peer _ => e == eQuoteRequest
    | .mailbox f =>
      (e.acc != .rws || f == 0) && (e != eMrExtend || f == 0) && (!mgrOnly e || f == 0) &&
        (e.base != 0x6100 || f == 0 || n == f) && e.base != 0x1F00 &&
        ((ctxOfIndex (e.base + n)).isNone || ctxSrcOk s src e n)
    | .mgmt _ =>
      e != eMrExtend && e.base != 0x1F00 && ((ctxOfIndex (e.base + n)).isNone || ctxSrcOk s src e n)

/-- Entries of order 3 of R600, for a writer that acts for function f. -/
def fencedEntry (s : State) (f : Nat) (e : Ent) (n : Nat) : Bool :=
  e == eCtxCommand || ((ctxOfIndex (e.base + n)).isSome && (cx s n).owner == f) || e.base == 0x4100 ||
    e == ePolicyBundle || e.base == 0x6100 || e == eQuoteRequest

/-- The lock that governs an RWL entry is set (R541). -/
def lockedEntry (s : State) (e : Ent) (n : Nat) : Bool :=
  e.acc == .rwl &&
    (if (ctxOfIndex (e.base + n)).isSome then rdE s ePolicyLock n == 1
     else if e.base = 0x3000 then rdE s eFabricLock 0 == 1
     else if e.base = 0x4000 then rdE s eEpLock 0 == 1
     else rdE s eMgmtLock 0 == 1)

/-- Orders 1 to 3 of R600 for a write of record n of an entry. -/
def odEarly (s : State) (src : Src) (e : Ent) (n : Nat) : Option Nat :=
  if !decide (n < e.count) && !e.perFn then some stUnsupported
  else if !srcMayWrite s src e n then some stAccess
  else if decide (srcFn src < 64) && fnBlocked s (srcFn src) && fencedEntry s (srcFn src) e n then some stFenced
  else none

/-- Orders 4 and 5 of R600. -/
def odLate (s : State) (e : Ent) (n len value : Nat) : Option Nat :=
  if lockedEntry s e n then some stPolicy
  else if !(lenOk e len && valueOk e value) then some stParam
  else if codeUnassigned e value then some stUnsupported
  else none

/-- Where a refused write shows beside its answer: LAST_REFUSAL of the context from order 4 on (R36), but for a
FREE one, whose entries all hold their defaults (R34, DEDUCED, log 82); the status entries of the object record and of lifecycle commands (R382, R599). -/
def noteWrite (s : State) (src : Src) (e : Ent) (n st : Nat) (late : Bool) : State :=
  let s1 := if late && (ctxOfIndex (e.base + n)).isSome && rdE s eCtxState n != cxFree then noteRefusal s n st else s
  if e = eObjCommand then wrE s1 eObjResult (srcFn src) st
  else if e = eLcCommand && late then wrE s1 eLcStatus 0 st
  else s1

/-- Run a write of `value` (len bytes) to record n of an entry: the checks of R600, then the entry's rule, which
gives a status and its effect, then the answer. A refused write changes nothing else. -/
def odRun (s : State) (src : Src) (e : Ent) (n len value : Nat) (rule : State → Nat × State) : Res :=
  if !srcLive s src then .next s
  else
    match odEarly s src e n with
    | some st => .next (answer (noteWrite s src e n st false) src st)
    | none =>
      match odLate s e n len value with
      | some st => .next (answer (noteWrite s src e n st true) src st)
      | none =>
        let r := rule s
        .next (answer (if r.1 = stOk then r.2 else noteWrite r.2 src e n r.1 true) src r.1)

/-- Run a write whose answer, where its rule accepts it, is sent later by what it waits for (R463, R465). -/
def odDefer (s : State) (src : Src) (e : Ent) (n len value : Nat) (rule : State → Nat × State) : Res :=
  if !srcLive s src then .next s
  else
    match odEarly s src e n with
    | some st => .next (answer (noteWrite s src e n st false) src st)
    | none =>
      match odLate s e n len value with
      | some st => .next (answer (noteWrite s src e n st true) src st)
      | none =>
        let r := rule s
        .next (if r.1 = stOk then r.2 else answer (noteWrite r.2 src e n r.1 true) src r.1)

/-- A write whose length is the type's own. -/
def odCmd (s : State) (src : Src) (e : Ent) (n value : Nat) (rule : State → Nat × State) : Res :=
  odRun s src e n (tyLen e.ty) value rule

end Sys2Proof.Machine
end

