-- ==== Sys2Proof/Machine/Rng.lean ====
section
/-!
DEFINITION. The random number generator (chapter 15): health tests, conditioning, start-up, the DRBG's
reseeding, its output queue and its consumers. No random word is state that a register shows.
-/

namespace Sys2Proof.Machine

open Sys2Proof

/-- Startup, READY, BLOCKED, HALTED and STOPPED of RNG_STATUS.STATE (R484). -/
def rngStartup : Nat := 0
/-- READY. -/
def rngReady : Nat := 1
/-- BLOCKED. -/
def rngBlocked : Nat := 2
/-- HALTED. -/
def rngHalted : Nat := 3
/-- STOPPED. -/
def rngStopped : Nat := 4

/-- Unit identifier of the RNG (R29). -/
def unitRng : Nat := 265

/-- RNG_BIAS (R483). -/
def rBias : Nat := 0x240008
/-- RNG_AUTOCORR. -/
def rAutocorr : Nat := 0x24000C
/-- RNG_BYTES_OUT. -/
def rBytesOut : Nat := 0x240018
/-- RNG_RESEEDS. -/
def rReseeds : Nat := 0x240020
/-- RNG_STRETCHES. -/
def rStretches : Nat := 0x240024
/-- RNG_FAILURES. -/
def rFailures : Nat := 0x240028
/-- RNG_FLUSHED. -/
def rFlushed : Nat := 0x24002C
/-- RNG_UNAVAIL. -/
def rUnavail : Nat := 0x240030
/-- RNG_RESTARTS. -/
def rRestarts : Nat := 0x240034

/-- RNG_STATUS (R484). -/
def rngStatus (s : State) : Nat :=
  2 ^ 28 * s.rng.st + 2 ^ 24 * s.rng.failCause + 2 ^ 16 * s.rng.queue.length + 2 ^ 8 * s.rng.seeds.length

/-- RNG_RAW (R483): the last four raw samples of the capture, oldest in bits 7:0. -/
def rngRaw (s : State) : Nat := if s.rng.capture then ofBytes s.rng.raw else 0

/-- Zero the DRBG, the seed buffer and the conditioner, and flush the queue with its count (R297, R477). -/
def rngZero (s : State) : State :=
  let s1 := bumpB s rFlushed 4 s.rng.queue.length
  { s1 with rng := { s1.rng with
      queue := []
      tail := 0
      seeds := []
      drbg := 0
      instantiated := false
      cond := []
      win := [] } }

/-- Start the start-up tests (R472, R474). -/
def rngStart (s : State) : State :=
  { s with rng := { s.rng with
      st := rngStartup
      failCause := 0
      last := 0
      run := 0
      aptFirst := 0
      aptCount := 0
      aptIdx := 0
      win := []
      cond := [] } }

/-- A test has failed (R477): output halts, the failure is counted and an RNG fault posted. -/
def rngFail (s : State) (cause : Nat) : State :=
  let s1 := rngZero s
  let s2 := bumpB { s1 with rng := { s1.rng with st := rngHalted, failCause := cause } } rFailures 4 1
  writeFault s2 (plainFault ftRng 0 0 unitRng cause)

/-- The DRBG's state at instantiation (R470, R472, R473): the digest of the first 640 samples, the first half of the digest
of the last 384, and the serial number, the boot count and the restarts as its personalisation string. -/
def rngSeeded (s : State) : Nat :=
  Config.drbgInit (Config.sha256 (s.rng.win.take 640)) (Config.sha256 (s.rng.win.drop 640) % 2 ^ 128)
    (bytesOf s.fuses.serial 8 ++ bytesOf s.mram.bootCount 4 ++ bytesOf (rdB s rRestarts 0) 4)

/-- The DRBG is instantiated and the first entry fills (R473, R474). -/
def rngInstantiate (s : State) : State :=
  let o := Config.drbgOut (rngSeeded s)
  bumpB { s with rng := { s.rng with
      st := rngReady
      instantiated := true
      ri := 16384
      served := 1
      queue := [o.1]
      drbg := o.2
      win := [] } } rBytesOut 8 64

/-- Reseed with the oldest seed block (R479). -/
def rngReseed (s : State) : State :=
  bumpB { s with rng := { s.rng with
      seeds := s.rng.seeds.drop 1
      drbg := Config.drbgReseed s.rng.drbg (s.rng.seeds.headD 0)
      served := 0 } } rReseeds 4 1

/-! ### Health tests -/

/-- Repetition count after a sample (R475). -/
def rctRun (r : Rng) (x : Nat) : Nat := if r.run ≠ 0 ∧ r.last = x then r.run + 1 else 1

/-- The adaptive proportion window after a sample: its first sample, its count, its index (R475). -/
def aptStep (r : Rng) (x : Nat) : Nat × Nat × Nat :=
  if r.aptIdx = 0 then (x, 1, 1)
  else (r.aptFirst, (if x = r.aptFirst then r.aptCount + 1 else r.aptCount), (r.aptIdx + 1) % 512)

/-- BIAS of a window (R476). -/
def rngBias (l : List Nat) : Nat :=
  2 ^ 16 * (l.map (popCount 8)).sum / (8 * l.length)

/-- Sum over neighbours of (n x - S)(n y - S): the numerator of r times n squared. -/
def autoNum (n sum : Int) : List Nat → Int
  | x :: y :: r => (n * x - sum) * (n * y - sum) + autoNum n sum (y :: r)
  | _ => 0

/-- AUTOCORR of a window (R476), saturated to 16 bits; r counts as 1 where every sample is equal. -/
def rngAutocorr (l : List Nat) : Int :=
  let n : Int := l.length
  let sum : Int := l.sum
  let den := (l.map (fun (x : Nat) => (n * x - sum) * (n * x - sum))).sum
  clampI (-32768) 32767 (if den = 0 then 32768 else Int.fdiv (32768 * autoNum n sum l) den)

/-- The estimate that leaves its bound, if one does (R476): 3 bias, 4 autocorrelation. -/
def estimateFail (l : List Nat) : Option Nat :=
  if rngBias l < 0x7000 ∨ 0x9000 < rngBias l then some 3
  else if 0x1000 < (rngAutocorr l).natAbs then some 4
  else none

/-- What a tested sample does (R471, R476, R486): it joins the window of the estimates, and outside a
capture the conditioner, which forms a seed block of 640 (R470) while the buffer has room. -/
def takeSample (s : State) (x : Nat) : State :=
  let r := s.rng
  let cap := if r.st = rngStartup then 1024 else 4096
  let r1 := { r with win := if r.win.length < cap then r.win ++ [x] else r.win }
  if r.capture then { s with rng := { r1 with raw := lastN 4 (r1.raw ++ [x]) } }
  else if r.st = rngStartup ∨ 4 ≤ r.seeds.length then { s with rng := r1 }
  else if r.cond.length < 639 then { s with rng := { r1 with cond := r.cond ++ [x] } }
  else { s with rng := { r1 with cond := [], seeds := r.seeds ++ [Config.sha256 (r.cond ++ [x])] } }

/-- RNG_SAMPLE (R469, R475): a stopped or halted source delivers nothing. -/
def execRngSample (b : Byte) (s : State) : Res :=
  if s.pwr.frozen ∨ s.pwr.inReset then .next s else
  let x := b.toNat
  if rngHalted ≤ s.rng.st then .next s
  else
    let run := rctRun s.rng x
    let a := aptStep s.rng x
    let s1 := { s with rng := { s.rng with
        last := x
        run := run
        aptFirst := a.1
        aptCount := a.2.1
        aptIdx := a.2.2 } }
    if 81 ≤ run then .next (rngFail s1 1)
    else if 441 ≤ a.2.1 then .next (rngFail s1 2)
    else .next (takeSample s1 x)

/-- RNG_ESTIMATE_WINDOW (R476, R477): both estimates are published, then held to their bounds. -/
def execRngEstimateWindow (s : State) : Res :=
  if s.pwr.frozen ∨ s.pwr.inReset then .next s else
  if (s.rng.st ≠ rngReady ∧ s.rng.st ≠ rngBlocked) ∨ s.rng.win.length ≠ 4096 then .next s
  else
    let l := s.rng.win
    let s1 := wrB (wrB s rBias 0x8000 (rngBias l)) rAutocorr 0 (ofS 16 (rngAutocorr l))
    let s2 := { s1 with rng := { s1.rng with win := [] } }
    match estimateFail l with
    | some c => .next (rngFail s2 c)
    | none => .next s2

/-- RNG_STARTUP_COMPLETE (R472 to R474): after 1,024 samples; the known-answer tests decide first. -/
def execRngStartupComplete (katOk : Bool) (s : State) : Res :=
  if s.pwr.frozen ∨ s.pwr.inReset then .next s else
  if s.rng.st ≠ rngStartup ∨ s.rng.win.length ≠ 1024 then .next s
  else if katOk = false then .next (rngFail s 5)
  else match estimateFail s.rng.win with
    | some c => .next (rngFail s c)
    | none => .next (rngInstantiate s)

/-! ### The DRBG (R478 to R480) -/

/-- The valid-byte tag of a whole 64-byte entry (R293, R480). -/
def fullTag : Nat := 2 ^ 64 - 1

/-- The DRBG writes a block of 16 bytes of an entry into the tail stage, which falls forward when it is full (R293, R480). -/
def rngBlock (w : Nat) (s : State) : State :=
  let t := s.rng.tail * 2 ^ 16 + 0xFFFF
  if t = fullTag then { s with rng := { s.rng with queue := s.rng.queue ++ [w], tail := 0 } }
  else { s with rng := { s.rng with tail := t } }

/-- The DRBG's request: 64 bytes, as four blocks (R478, R480). -/
def rngRequest (s : State) : State :=
  let o := Config.drbgOut s.rng.drbg
  rngBlock o.1 (rngBlock o.1 (rngBlock o.1 (rngBlock o.1 { s with rng := { s.rng with drbg := o.2 } })))

/-- DRBG_GENERATE (R478, R480): one request while the queue has room and the interval has not ended. -/
def execDrbgGenerate (s : State) : Res :=
  if s.pwr.frozen ∨ s.pwr.inReset then .next s else
  if s.rng.st = rngReady ∧ s.rng.instantiated ∧ s.rng.queue.length < 64 ∧ s.rng.served < s.rng.ri then
    let s1 := rngRequest s
    .next (bumpB { s1 with rng := { s1.rng with served := s1.rng.served + 1 } } rBytesOut 8 64)
  else .next s

/-- RESEED_INTERVAL_EXPIRY (R479). -/
def execReseedIntervalExpiry (s : State) : Res :=
  if s.pwr.frozen ∨ s.pwr.inReset then .next s else
  if s.rng.st ≠ rngReady ∨ s.rng.served < s.rng.ri then .next s
  else if s.rng.seeds ≠ [] then
    let s1 := rngReseed s
    .next { s1 with rng := { s1.rng with ri := if 2 ≤ s1.rng.seeds.length then max 16384 (s.rng.ri / 2) else s.rng.ri } }
  else if s.rng.ri < 1048576 then
    .next (bumpB { s with rng := { s.rng with ri := 2 * s.rng.ri } } rStretches 4 1)
  else .next { s with rng := { s.rng with st := rngBlocked } }

/-- SEED_BLOCK_ARRIVAL_RESEED (R479): RI stays. -/
def execSeedBlockArrivalReseed (s : State) : Res :=
  if s.pwr.frozen ∨ s.pwr.inReset then .next s else
  if s.rng.st = rngBlocked ∧ s.rng.seeds ≠ [] then
    let s1 := rngReseed s
    .next { s1 with rng := { s1.rng with st := rngReady } }
  else .next s

/-! ### Consumers (R481, R482) -/

/-- RNG_QUEUE_READ (R293, R294, R473, R481): a whole entry with its tag for the consumer whose first read came first,
else the not-valid tag, after which it keeps reading. A pointer fault flushes the queue, counted (R297, R298). -/
def execRngQueueRead (acc : HsAccess) (s : State) : Res :=
  if s.pwr.frozen ∨ s.pwr.inReset then .next s else
  let c := acc.id
  let w := if s.rng.waiting.contains c then s.rng.waiting else s.rng.waiting ++ [c]
  if acc.ptr.isSome then
    let s1 := bumpB { s with rng := { s.rng with queue := [], tail := 0, waiting := w } } rFlushed 4 s.rng.queue.length
    .next (emit (writeFault (bumpE s1 eHsPtrFaults 0) (plainFault ftQueuePtr 0 0 unitRng unitRng)) (.rngEntry c 0 0))
  else if s.rng.queue ≠ [] ∧ w.headD c = c then
    .next (emit { s with rng := { s.rng with queue := s.rng.queue.drop 1, waiting := w.filter (· != c) } } (.rngEntry c fullTag (s.rng.queue.headD 0)))
  else .next (emit { s with rng := { s.rng with waiting := w } } (.rngEntry c 0 0))

/-- RNG_WAIT_LIMIT_EXPIRY (R482): the wait ends; what the failure means for the consumer is its own
command's (DEDUCED, log 57). -/
def execRngWaitLimitExpiry (c : Nat) (s : State) : Res :=
  if s.pwr.frozen ∨ s.pwr.inReset then .next s else
  if s.rng.waiting.contains c then
    .next (bumpB { s with rng := { s.rng with waiting := s.rng.waiting.filter (· != c) } } rUnavail 4 1)
  else .next s

/-! ### Control (R484 to R487) -/

/-- Writing 1 to RESTART (R484): in HALTED the start-up tests begin, but for a tamper response, which
leaves the RNG HALTED until module reset (R487). -/
def rngRestartRule (s : State) : Nat × State :=
  if s.rng.st = rngHalted ∧ s.boot.tampered = false then (stOk, bumpB (rngStart s) rRestarts 4 1)
  else (stOk, s)

/-- The register RNG_CTRL answers: firmware runs and the module is not frozen. -/
def rtUp (s : State) : Bool := running s && !s.pwr.frozen

/-- BAR2 answers: the physical function's memory space is on besides (R529, R531). -/
def bar2Up (s : State) : Bool := rtUp s && memUp s 0

/-- RAW_CAPTURE_SET (R484, R486): discarded unless the effective lifecycle is DEV. -/
def execRawCaptureSet (s : State) : Res :=
  if bar2Up s ∧ effLc s = 1 then
    .next { s with rng := { s.rng with capture := true } }
  else .next s

/-- A capture ends (R486): the generator is zeroed and starts its tests. -/
def captureEnd (s : State) : State :=
  let s1 := rngZero s
  rngStart { s1 with rng := { s1.rng with capture := false, raw := [] } }

/-- RAW_CAPTURE_CLEAR (R486). -/
def execRawCaptureClear (s : State) : Res :=
  if bar2Up s ∧ s.rng.capture then .next (captureEnd s) else .next s

/-- The noise source stops (R487, R564). -/
def rngStop (s : State) : State :=
  let s1 := rngZero s
  { s1 with rng := { s1.rng with st := rngStopped, capture := false, raw := [] } }

end Sys2Proof.Machine
end

