-- ==== Sys2Proof/Machine/Vault.lean ====
section
/-!
DEFINITION. The key vault, the signing keys, measurement registers and quotes (chapter 14). Keys and masks
are numbers that nothing returns; derivations and signatures are constants without a body (DESIGN CHOICE, log 9).
-/

namespace Sys2Proof.Machine

open Sys2Proof

/-- The bytes of an ASCII label. -/
def asc (x : String) : List Nat := x.toList.map (·.toNat)

/-! ### Derivation of the signing keys (R440, R449) -/

/-- seed_i0 and i_i0: the identity's level 0. -/
def idSeed0 (dus lc : Nat) : Nat × Nat :=
  (Config.kdf dus (asc "ELASH-ID0-SEED") [lc], Config.kdf dus (asc "ELASH-ID0-I") [lc] % 2 ^ 128)

/-- seed_i1j and i_i1j: identity tree j of level 1. -/
def idSeed1 (dus lc j : Nat) : Nat × Nat :=
  (Config.kdf dus (asc "ELASH-ID1-SEED") (lc :: bytesOf j 4), Config.kdf dus (asc "ELASH-ID1-I") (lc :: bytesOf j 4) % 2 ^ 128)

/-- The 60-byte identity public key of a lifecycle: HSS with two levels, level 0 of height 20 with W4. -/
def idPubOf (dus lc : Nat) : Nat :=
  let k := idSeed0 dus lc
  ofBytes (beBytes 2 4 ++ lmsPubT 8 3 k.2 (Config.lmsRoot k.1 k.2 20))

/-- The nodes of level 0 at height 10, and of level-1 tree j (R450). -/
def idNodesOf (dus lc j : Nat) : Nat × Nat :=
  (Config.lmsNodes (idSeed0 dus lc).1 (idSeed0 dus lc).2 20, Config.lmsNodes (idSeed1 dus lc j).1 (idSeed1 dus lc j).2 15)

/-- seed_ak and i_ak of alias k, under the measurements MR0 and MR1. -/
def aliasSeed (s : State) (k : Nat) : Nat × Nat :=
  let x := effLc s :: (bytesOf (rdEj s eMrK 0 0) 32 ++ bytesOf (rdEj s eMrK 0 1) 32 ++ bytesOf k 4)
  (Config.kdf s.fuses.dus (asc "ELASH-ALIAS-SEED") x, Config.kdf s.fuses.dus (asc "ELASH-ALIAS-I") x % 2 ^ 128)

/-- The 56-byte public key of alias k. -/
def aliasPubOf (s : State) (k : Nat) : Nat :=
  ofBytes (lmsPub (aliasSeed s k).2 (Config.lmsRoot (aliasSeed s k).1 (aliasSeed s k).2 10))

/-! ### Slots (R443 to R447) -/

/-- Vault slot i. -/
def vslot (s : State) (i : Nat) : VSlot := tget s.vault {} i

/-- Replace a vault slot. -/
def setV (s : State) (i : Nat) (v : VSlot) : State := { s with vault := tset s.vault {} i v }

/-- PURPOSE codes (R443). -/
def pXtsData : Nat := 1
/-- XTS_TWEAK. -/
def pXtsTweak : Nat := 2
/-- LINK_TX. -/
def pLinkTx : Nat := 3
/-- LINK_RX. -/
def pLinkRx : Nat := 4
/-- WRAP. -/
def pWrap : Nat := 5
/-- IDE. -/
def pIde : Nat := 6
/-- MGMT_SESSION. -/
def pMgmt : Nat := 7

/-- The vault performs key operations: not after a tamper response (R455). -/
def vaultUp (s : State) : Bool := !s.boot.tampered && running s

/-- d of R440: the DUS, or its per-boot variant in DEBUG_OPEN. -/
def rootKeyOf (s : State) : Nat :=
  if s.boot.debugOpen then Config.kdf s.fuses.dus (asc "ELASH-DEBUG") (bytesOf s.mram.bootCount 4) else s.fuses.dus

/-- tr_f of R440, with the function's TGEN. -/
def tenantRoot (s : State) (f : Nat) : Nat :=
  Config.kdf (rootKeyOf s) (asc "ELASH-TENANT") (f :: (bytesOf (rdE s eTgen f) 2 ++ bytesOf s.boot.salt 32))

/-- xts1_f and xts2_f of R440. -/
def xtsKey (s : State) (f purpose : Nat) : Nat :=
  Config.kdf (tenantRoot s f) (asc (if purpose = pXtsData then "ELASH-XTS-DATA" else "ELASH-XTS-TWEAK")) [0]

/-- cmk_fn of R440. -/
def ctxMemKey (s : State) (n : Nat) : Nat :=
  Config.kdf (tenantRoot s (cx s n).owner) (asc "ELASH-CMK") (n :: bytesOf (tget s.ctxKeyGen 0 n) 2)

/-- The lowest EMPTY slot. -/
def emptySlot (s : State) : Option Nat := firstFrom (fun i => (vslot s i).st == 0) 0 256

/-- Fill slot i (R444): PENDING, GEN incremented. -/
def fillSlot (s : State) (i purpose owner port rights : Nat) (mod : Bool) (key : Nat) : State :=
  setV s i {
    st := 1
    moduleOwned := mod
    owner := if mod then 0 else owner
    purpose := purpose
    port := port
    rights := rights % 2048
    gen := ((vslot s i).gen + 1) % 65536
    key := key }

/-- ACTIVE or PENDING slots that pass p go to RETIRING (R444). -/
def retireSlots (s : State) (p : VSlot → Bool) : State :=
  { s with vault := s.vault.map (fun v => (v.1, if (v.2.st == 1 || v.2.st == 2) && p v.2 then { v.2 with st := 3 } else v.2)) }

/-- Activation of a PENDING slot: an ACTIVE slot of the same owner, purpose, port and rights is replaced and
goes to RETIRING (R445). -/
def activateSlot (s : State) (i : Nat) : State :=
  let v := vslot s i
  let s1 := { s with vault := s.vault.map (fun w => (w.1,
    if w.2.st == 2 && w.2.moduleOwned == v.moduleOwned && w.2.owner == v.owner && w.2.purpose == v.purpose &&
      w.2.port == v.port && w.2.rights == v.rights && v.purpose != pMgmt then { w.2 with st := 3 } else w.2)) }
  setV s1 i { v with st := 2 }

/-- Install a key at once in the lowest EMPTY slot and activate it; none while no slot is EMPTY (R446). -/
def installKey (s : State) (purpose owner port rights : Nat) (mod : Bool) (key : Nat) : Option State :=
  match emptySlot s with
  | none => none
  | some i => some (activateSlot (fillSlot s i purpose owner port rights mod key) i)

/-- The module draws the key itself rather than deriving it (R441, R444). -/
def drawnPurpose (p : Nat) : Bool := p == pWrap

/-- The key that an install yields: XTS keys are derived, others are free values (DESIGN CHOICE, log 11). -/
def installedKey (s : State) (purpose owner : Nat) : Nat :=
  if purpose = pXtsData ∨ purpose = pXtsTweak then xtsKey s owner purpose else freshVal s

/-- Keys of the purpose exist in the present lifecycle (R462): tenant keys need a DUS. -/
def purposeAllowed (s : State) (purpose : Nat) : Bool :=
  decide (1 ≤ purpose ∧ purpose ≤ 7) &&
    (decide (purpose ≠ pXtsData ∧ purpose ≠ pXtsTweak) || (effLc s != 0 && effLc s != 4))

/-- VAULT_INSTALL (R444): only an EMPTY slot is filled; a drawn key waits for random words (R482). -/
def execVaultInstall (slot purpose owner port rights : Nat) (mod : Bool) (s : State) : Res :=
  if s.pwr.frozen then .next s else
  if !(vaultUp s && decide (slot < 256) && purposeAllowed s purpose && (vslot s slot).st == 0) then .next s
  else if drawnPurpose purpose && s.rng.queue.isEmpty then .next (bumpB s rUnavail 4 1)
  else
    let k := installedKey s purpose owner
    let s1 := if drawnPurpose purpose then { s with rng := { s.rng with queue := s.rng.queue.drop 1 } } else s
    .next (fillSlot (freshNext s1) slot purpose owner port rights mod k)

/-- VAULT_ACTIVATE (R444, R445): every named unit has confirmed delivery. The key of an IDE stream is activated by its
K_SET_GO (R536). -/
def execVaultActivate (slot : Nat) (s : State) : Res :=
  if s.pwr.frozen then .next s else
  if vaultUp s ∧ (vslot s slot).st = 1 ∧ (vslot s slot).purpose ≠ pIde then .next (activateSlot s slot) else .next s

/-- VAULT_SLOT_QUARANTINE_EXPIRY (R444): the slot is zeroed and EMPTY; its GEN goes on. -/
def execVaultSlotQuarantineExpiry (slot : Nat) (s : State) : Res :=
  if s.pwr.frozen then .next s else
  if (vslot s slot).st = 3 then .next (setV s slot { gen := (vslot s slot).gen }) else .next s

/-- New masks for every slot in use (R447). -/
def remask : Nat → Tbl VSlot → Tbl VSlot
  | _, [] => []
  | k, (i, v) :: r => (i, if v.st = 0 then v else { v with mask := Config.freeNat k }) :: remask (k + 1) r

/-- REMASK_PASS (R447, R560): no pass while the RNG is STOPPED; one without random words is skipped and
counted. -/
def execRemaskPass (s : State) : Res :=
  if s.pwr.frozen then .next s else
  if !vaultUp s || s.rng.st == rngStopped then .next s
  else if s.rng.queue = [] then .next (bumpB (bumpE s eRemaskSkipped 0) rUnavail 4 1)
  else .next { s with
    rng := { s.rng with queue := s.rng.queue.drop 128 }
    vault := remask s.free s.vault
    boot := { s.boot with dusMask := Config.freeNat (s.free + s.vault.length), seedMask := Config.freeNat (s.free + s.vault.length + 1) }
    free := s.free + s.vault.length + 2 }

/-- KV_SLOT of a slot (R443). QUARANTINE_LEFT is a time: a free value up to 2,000 in RETIRING. -/
def kvSlot (s : State) (i : Nat) : Nat :=
  let v := vslot s i
  2 ^ 62 * v.st + 2 ^ 61 * b2n v.moduleOwned + 2 ^ 55 * v.owner + 2 ^ 51 * v.purpose + 2 ^ 46 * v.port +
    2 ^ 32 * v.rights + 2 ^ 16 * v.gen + (if v.st = 3 then freshVal s % 2001 else 0)

/-- KV_STATUS (R467). -/
def kvStatus (s : State) : Nat :=
  2 ^ 31 * b2n s.boot.keysReady + 2 ^ 30 * b2n s.boot.tampered + 2 ^ 29 * b2n s.boot.zeroized + 2 ^ 20 * effLc s +
    2 ^ 16 * s.boot.st + 2 ^ 8 * s.boot.error + s.boot.refusals

/-- SLOT_COUNTS (R466). -/
def slotCounts (s : State) : Nat :=
  let c (k : Nat) : Nat := (s.vault.filter (fun v => v.2.st == k)).length
  (256 - c 1 - c 2 - c 3) + 2 ^ 16 * c 1 + 2 ^ 32 * c 2 + 2 ^ 48 * c 3

/-! ### Measurement registers (R439) -/

/-- Extend MR_k with data. -/
def extendMr (s : State) (k : Nat) (data : List Nat) : State :=
  wrEj s eMrK 0 k (Config.sha256 (bytesOf (rdEj s eMrK 0 k) 32 ++ data))

/-- The rule of MR_EXTEND (R439): byte 0 names the register, 5 to 7. -/
def mrExtendRule (r data : Nat) (s : State) : Nat × State :=
  if 5 ≤ r ∧ r ≤ 7 then (stOk, extendMr s r (bytesOf data 32)) else (stAccess, s)

/-- MR_EXTEND: a write of the register number and 32 bytes. -/
def execMrExtend (src : Src) (r data : Nat) (s : State) : Res :=
  odRun s src eMrExtend 0 33 (r % 256 + 256 * (data % 2 ^ 256)) (mrExtendRule r (data % 2 ^ 256))

/-- The rule of FABRIC_LOCK (R439, R541): MR4 takes MODULE_ID, FABRIC_ID and FABRIC_AUTHORITY. -/
def fabricLockRule (v : Nat) (s : State) : Nat × State :=
  if v = 0 then (stOk, s)
  else
    let s1 := extendMr s 4 (bytesOf (rdE s eModuleId 0) 2 ++ bytesOf (rdE s eFabricId 0) 4 ++
      bytesOf (rdE s eFabricAuthority 0) 60)
    (stOk, wrE s1 eFabricLock 0 1)

/-- FABRIC_LOCK: a write of 1. -/
def execFabricLock (src : Src) (s : State) : Res := odCmd s src eFabricLock 0 1 (fabricLockRule 1)

/-- The rule of SVN_COMMIT (R438). -/
def svnCommitRule (v : Nat) (s : State) : Nat × State :=
  if v ≤ s.fuses.svnFloor ∨ s.boot.svn < v then (stPolicy, s)
  else (stOk, { s with fuses := { s.fuses with svnFloor := v } })

/-- SVN_COMMIT. -/
def execSvnCommit (src : Src) (v : Nat) (s : State) : Res := odCmd s src eSvnCommit 0 v (svnCommitRule v)

/-! ### Signing keys (R449 to R454) -/

/-- The identity key may sign: a lifecycle with an identity, nothing zeroed, a leaf left in the tree. -/
def idReady (s : State) : Bool :=
  (effLc s == 1 || effLc s == 2) && !s.boot.tampered && !s.boot.zeroized && decide (s.boot.idLeaf < 32768)

/-- Take up the next level-1 tree once the present one is used up (R450). -/
def nextTree (s : State) : State :=
  match s.mram.nextNodes with
  | some nodes =>
    if 32768 ≤ s.boot.idLeaf then
      { s with
        mram := { s.mram with
          idTree := s.mram.idTree + 1
          idMark := 0
          idNodes := nodes
          nextNodes := none }
        boot := { s.boot with idLeaf := 0 } }
    else s
  | none => s

/-- The identity key signs with its next leaf; the reservation mark moves first where it is reached (R453). -/
def useIdentity (s : State) : State :=
  let q := s.boot.idLeaf
  nextTree { s with
    mram := { s.mram with idMark := if q = s.mram.idMark then q + 256 else s.mram.idMark }
    boot := { s.boot with idLeaf := q + 1 } }

/-- The identity signature over a message, 5,556 bytes (R449): the level count, the signature of tree j by level 0's leaf j,
tree j's public key, and the signature by its next leaf. -/
def idSign (s : State) (msg : List Nat) : List Nat :=
  let j := s.mram.idTree
  let k0 := idSeed0 s.fuses.dus (effLc s)
  let k1 := idSeed1 s.fuses.dus (effLc s) j
  let pub := lmsPubT 7 3 k1.2 (Config.lmsRoot k1.1 k1.2 15)
  beBytes 1 4 ++ lmsSigT 8 3 2144 640 j (Config.signature (k0.1 + 2 ^ 256 * j) pub) ++ pub ++
    lmsSigT 7 3 2144 480 s.boot.idLeaf (Config.signature (k1.1 + 2 ^ 256 * s.boot.idLeaf) msg)

/-- IDENTITY_LEFT (R466): none without an identity. -/
def identityLeft (s : State) : Nat :=
  if s.boot.idPub = 0 then 0 else 2 ^ 35 - s.mram.idTree * 32768 - s.boot.idLeaf

/-- IDENTITY_TREE_GENERATION (R450): from leaf 24,576 on the next tree is generated and certified. -/
def execIdentityTreeGeneration (tree : Nat) (s : State) : Res :=
  if s.pwr.frozen then .next s else
  if vaultUp s ∧ (effLc s = 1 ∨ effLc s = 2) ∧ 24576 ≤ s.boot.idLeaf ∧ s.mram.nextNodes = none ∧ s.mram.idTree + 1 < 2 ^ 20 ∧
      tree = s.mram.idTree + 1 then
    .next (nextTree { s with mram := { s.mram with
      nextNodes := some (idNodesOf s.fuses.dus (effLc s) tree).2 } })
  else .next s

/-- The 192-byte body of an alias certificate (R454). -/
def aliasBody (s : State) (idx pub : Nat) : List Nat :=
  [1, effLc s, 0, 0] ++ bytesOf idx 4 ++ bytesOf s.fuses.serial 8 ++ bytesOf s.boot.svn 4 ++ bytesOf 0 4 ++
    bytesOf (rdEj s eMrK 0 0) 32 ++ bytesOf (rdEj s eMrK 0 1) 32 ++ bytesOf pub 56 ++ bytesOf (ownKeyHash s) 32 ++
    bytesOf 0 16

/-- The certificate: the body and the identity signature over it. -/
def aliasCert (s : State) (idx pub : Nat) : Nat :=
  ofBytes (aliasBody s idx pub ++ idSign s (aliasBody s idx pub))

/-- Reserve the next alias index in MRAM (R453). -/
def reserveAlias (s : State) : State := { s with mram := { s.mram with aliasNext := s.mram.aliasNext + 1 } }

/-- ALIAS_TREE_GENERATED (R437): the certificate of the reserved alias is signed and KEYS_READY is set. -/
def execAliasTreeGenerated (idx : Nat) (s : State) : Res :=
  if s.pwr.frozen then .next s else
  if vaultUp s ∧ idReady s ∧ s.boot.keysReady = false ∧ idx = s.boot.aliasIdx then
    let pub := aliasPubOf s idx
    let s1 := wrE s eAliasCert 0 (aliasCert s idx pub)
    let s2 := useIdentity s1
    .next { s2 with boot := { s2.boot with keysReady := true, aliasPub := pub, aliasLeaf := 0 } }
  else .next s

/-- The alias key may sign a transcript. -/
def aliasReady (s : State) : Bool :=
  s.boot.keysReady && (effLc s == 1 || effLc s == 2) && !s.boot.tampered && decide (s.boot.aliasLeaf < 1024)

/-- The successor replaces an alias that has made its 1,024 signatures (R452). -/
def nextAlias (s : State) : State :=
  if 1024 ≤ s.boot.aliasLeaf ∧ s.boot.nextReady then
    let s1 := wrE (wrE s eAliasCert 0 (rdE s eAliasNextCert 0)) eAliasNextCert 0 0
    { s1 with
      boot := { s1.boot with
        aliasIdx := s1.boot.nextIdx
        aliasPub := s1.boot.nextPub
        aliasLeaf := 0
        nextReady := false }
      mram := { s1.mram with aliasMark := 0 } }
  else s

/-- The alias key makes one signature (R452, R453). -/
def useAlias (s : State) : State :=
  let q := s.boot.aliasLeaf
  nextAlias { s with
    mram := { s.mram with aliasMark := if q = s.mram.aliasMark then q + 256 else s.mram.aliasMark }
    boot := { s.boot with aliasLeaf := q + 1 } }

/-- ALIAS_ROTATION (R452): once leaf 768 of the alias has been used, its successor and certificate. -/
def execAliasRotation (idx : Nat) (s : State) : Res :=
  if s.pwr.frozen then .next s else
  if vaultUp s ∧ idReady s ∧ s.boot.keysReady ∧ 768 < s.boot.aliasLeaf ∧ s.boot.nextReady = false ∧ idx = s.mram.aliasNext then
    let pub := aliasPubOf s idx
    let s1 := wrE (reserveAlias s) eAliasNextCert 0 (aliasCert s idx pub)
    let s2 := useIdentity s1
    .next (nextAlias { s2 with boot := { s2.boot with nextReady := true, nextIdx := idx, nextPub := pub } })
  else .next s

/-! ### Quotes (R456, R457) -/

/-- The context block of a quote: bytes 416 to 575. -/
def quoteBlock (s : State) (n : Nat) : List Nat :=
  [rdE s eCtxState n, roundSt s n, rdE s ePolicyLock n, (if roundSt s n = rsNone then guardLevel s else (cx s n).guard)] ++
    bytesOf (rdE s eRoundNumber n) 4 ++ bytesOf (rdE s eMerged n) 4 ++ bytesOf (cfgE s eKeySetId n) 4 ++
    bytesOf (cx s n).keyTag 8 ++ bytesOf (cfgE s ePartnerSetId n) 4 ++ bytesOf (cfgE s eJobId n) 4 ++
    bytesOf (rdE s ePolicyDigest n) 32 ++ bytesOf (rdE s eScaleDigest n) 32 ++ bytesOf (rdE s eRoundMaskSeed n) 32 ++
    bytesOf (rdE s eRoundShareDigest n) 32

/-- The 576-byte body (R456) for function f; n is 0xFFFF for no context, whose CONTEXT byte is then a free
value (DESIGN CHOICE, log 11). (DEDUCED, log 97.) -/
def quoteBody (s : State) (f nonce n : Nat) : List Nat :=
  let has := decide (n < 256)
  [1, effLc s, b2n has + 2 * b2n (fnBlocked s f), (if has then n else freshVal s % 256)] ++
    bytesOf (s.boot.quoteSeq + 1) 4 ++ bytesOf s.fuses.serial 8 ++
    bytesOf (rdE s eModuleId 0 + 32768 * rdE s eFabricLock 0) 2 ++ [f, 0] ++ bytesOf s.boot.svn 4 ++
    bytesOf s.fuses.svnFloor 4 ++ bytesOf s.mram.bootCount 4 ++ bytesOf nonce 32 ++ bytesOf (ownKeyHash s) 32 ++
    bytesOf (Config.sha256 (bytesOf s.boot.aliasPub 56)) 32 ++
    (List.range 8).flatMap (fun k => bytesOf (rdEj s eMrK 0 k) 32) ++ bytesOf (rdE s ePolicyAuthority f) 32 ++
    (if has then quoteBlock s n else bytesOf 0 160)

/-- Body and signature. -/
def quoteOf (s : State) (f nonce n : Nat) : Nat :=
  ofBytes (quoteBody s f nonce n ++ idSign s (quoteBody s f nonce n))

/-- The function a quote request is answered for, and where its quote waits: a peer's is answered from the
context's owner and waits under its key (R458). -/
def quoteFn (s : State) (src : Src) (n : Nat) : Nat :=
  match src with
  | .peer _ => (cx s n).owner
  | _ => srcFn src

/-- The rule of QUOTE_REQUEST (R457): a context of another function, or for a peer another than its
session's, is ACCESS; a lifecycle that signs no quotes is POLICY_REFUSED. -/
def quoteRule (src : Src) (nonce n : Nat) (s : State) : Nat × State :=
  let f := quoteFn s src n
  let own := match src with
    | .peer k => n == (keyOf s k).ctx
    | _ => n == 0xFFFF || (decide (n < 256) && rdE s eCtxState n != cxFree && (cx s n).owner == f)
  let slot := match src with
    | .peer k => 65536 + k
    | _ => f
  if own = false then (stAccess, if slot < 64 then wrE s eQuoteStatus f 3 else s)
  else if effLc s ≠ 1 ∧ effLc s ≠ 2 then (stPolicy, if slot < 64 then wrE s eQuoteStatus f 3 else s)
  else
    let s1 := { s with boot := { s.boot with quotes := tput s.boot.quotes slot (nonce, n) } }
    (stOk, if slot < 64 then wrE s1 eQuoteStatus f 1 else s1)

/-- QUOTE_REQUEST: a write of a nonce and a context number. -/
def execQuoteRequest (src : Src) (nonce n : Nat) (s : State) : Res :=
  odRun s src eQuoteRequest (srcFn src) 34 (nonce % 2 ^ 256 + 2 ^ 256 * (n % 65536)) (quoteRule src (nonce % 2 ^ 256) n)

/-- The waiting quote that a token serves for function f: its own, else the first of a peer. -/
def quoteWaiting (s : State) (f : Nat) : Option (Nat × (Nat × Nat)) :=
  match s.boot.quotes.find? (fun q => q.1 == f) with
  | some q => some q
  | none => s.boot.quotes.find? (fun q => 65536 ≤ q.1 && (cx s q.2.2).owner == f)

/-- QUOTE_SIGN (R451, R457): a token is there for function f; the body is taken and signed. A peer's quote
goes to the peer (R458). -/
def execQuoteSign (f : Nat) (s : State) : Res :=
  if s.pwr.frozen then .next s else
  match quoteWaiting s f with
  | none => .next s
  | some (k, nonce, n) =>
    if !(vaultUp s && idReady s) then .next s
    else
      let v := quoteOf s f nonce n
      let s1 := freshNext (useIdentity s)
      let s2 := { s1 with boot := { s1.boot with quoteSeq := s1.boot.quoteSeq + 1, quotes := terase s1.boot.quotes k } }
      if k < 64 then .next (wrE (wrE s2 eQuote f v) eQuoteStatus f 2)
      else .next (emit s2 (.odResp (.peer (k - 65536)) stOk v 6132 false))

/-! ### Zeroing (R455, R463, R465) -/

/-- Zero every slot, the seeds and the alias trees. -/
def zeroVault (s : State) : State :=
  let s1 := wrE (wrE s eAliasCert 0 0) eAliasNextCert 0 0
  { s1 with
    vault := []
    boot := { s1.boot with
      zeroized := true
      keysReady := false
      aliasPub := 0
      aliasLeaf := 0
      nextPub := 0
      nextReady := false } }

end Sys2Proof.Machine
end

