-- ==== Sys2Proof/Machine/Ridge.lean ====
section
/-!
DEFINITION. The ridge: cohort merges (R52), imports and their comparison (R425 to R429), the forming of
the round total at READY (R227, R233), statistics (R83, R251), the module total (R334), and the
encryption of the clear subtotal (R66).
-/

namespace Sys2Proof.Machine

open Sys2Proof

/-! ### Sealed totals -/

/-- Address of slot i of the Sealed round total (R164). -/
def slotAt (s : State) (n i : Nat) : Nat := totalBase s n + i * ctSlot s n

/-- Add a ciphertext to slot i under the CT_ADD rule (R62, R167): levels aligned by MODDROP; none when the
noise limit would be passed. An empty slot takes the operand (DEDUCED, log 36). -/
def ctCombine (s : State) (n i level bound count : Nat) (c : CtPoly) : Option State :=
  let ent := basisOf s n
  let ln := ksLogN s n
  let a := slotAt s n i
  let m := vmOf s n
  let empty := mrd m a 1 == 0
  let l0 := mrd m (a + 2) 1
  let l := if empty then level else min level l0
  let old := dropTo s n ent l0 l (objPoly m a l0 ln)
  let new := dropTo s n ent level l c
  let bn := dropNoise s n ent level l bound
  let b := if empty then bn else noiseWord (noiseVal bn + noiseVal (dropNoise s n ent l0 l (mrd m (a + 16) 8))) 1
  let cnt := if empty then count else count + mrd m (a + 28) 4
  if cLimit s n ent l (noiseVal b) then
    let hdr := ctHeader 0x43 ln l 0 (ksFld s n 0 4 4) (ksFld s n 0 8 8) b (cDigest s n ent l) cnt
    let sum : CtPoly := fun part j t =>
      if empty then new part j t else (new part j t + old part j t) % wPrime (limbWord s n ent j)
    some { setVm s n (objWrite (mclear m a (ctSlot s n)) a s.free hdr 2 l ln sum) with free := s.free + 4032 }
  else none

/-- An addition passed the noise limit: the round is abandoned (R66). -/
def noiseAbandon (s : State) (n : Nat) : State := noteRefusal (tryAbandon s n stAborted) n stNoise

/-- Add to several slots in turn, stopping at the first that fails. -/
def ctCombineAll (s : State) (n : Nat) (f : State → Nat → Option State) : List Nat → Option State
  | [] => some s
  | i :: r => match f s i with
    | some s1 => ctCombineAll s1 n f r
    | none => none

/-! ### Cohort merge (R52) -/

/-- Digest of a Shared cohort (R193). -/
def cohortDigest (s : State) (n k : Nat) : Nat :=
  Config.sha256 (bytesOf (cfgE s ePartnerSetId n) 4 ++ bytesOf (rdE s eRoundNumber n) 4 ++ bytesOf k 4 ++
    bytesOf (cohortSize s n) 4 ++ cohortBits s n k)

/-- Merge a Clear-Int cohort: its code sums join the total row by row (R62). -/
def mergeClearInt (s : State) (n k : Nat) : State :=
  (List.range (rowsE s n)).foldl (fun s r =>
    addClearRow s n r ((tblRow (cohortOf s n k).acc (1024 * r)).map (toS 32))) s

/-- Merge a Shared cohort into the shared total with its digest (R191, R193). -/
def mergeShared (s : State) (n k cnt : Nat) : State :=
  let dg := cohortDigest s n k
  let s1 := (List.range (rowsE s n)).foldl (fun s r => addSharedRow s n r (tblRow (cohortOf s n k).acc (1024 * r))) s
  let s2 := setVm s1 n (mwr (vmOf s1 n) (cfgE s eShWorkBase n + 32 * k) 32 dg)
  addE (setCohort s2 n k { cohortOf s2 n k with digest := dg }) eSharedMerged n cnt

/-- The accumulated ciphertext i of a Sealed cohort at top level (R164). -/
def accCt (s : State) (n k i : Nat) : CtPoly := fun part j t =>
  tget (cohortOf s n k).acc 0 (i * 2 ^ 26 + (part * ksOrd s n + j) * 2 ^ ksLogN s n + t)

/-- Merge a Sealed cohort (R172). -/
def mergeSealed (s : State) (n k cnt : Nat) : Option State :=
  ctCombineAll s n (fun s i => ctCombine s n i (ksOrd s n - 1) (noiseWord (cnt * freshBound s n) 1) cnt (accCt s n k i))
    (List.range (ctsE s n))

/-- The cohort's words join the total, by mode; none when a noise limit is passed. -/
def mergeWords (s : State) (n k cnt : Nat) : Option State :=
  let m := (cohortOf s n k).mode
  if m = mdClearInt then some (mergeClearInt s n k)
  else if m = mdShared then some (mergeShared s n k cnt)
  else if m = mdSealed then mergeSealed s n k cnt
  else some s

/-! ### Segments -/

/-- A row of the cohort's accumulator does not agree with its held check value (R421). -/
def accBad (s : State) (n k : Nat) : Bool :=
  ((cohortOf s n k).mode == mdClearInt || (cohortOf s n k).mode == mdShared) &&
    !(List.range (rowsE s n)).all (accRowOk s n k)

/-- Segments of a module total (R425). -/
def segsOf (s : State) (n : Nat) : Nat := if ttE s n = ttSealed then ctsE s n else cdiv (rowsE s n) 256

/-- First global row of a segment; for a ciphertext, its first row (DEDUCED, log 39). -/
def segFirst (s : State) (n g : Nat) : Nat :=
  let k := (diesE s n).length
  if ttE s n = ttSealed then g % k + k * (rhoE s n * (g / k)) else 256 * g

/-- The segment that starts at a row. -/
def segOf (s : State) (n row : Nat) : Nat :=
  let k := (diesE s n).length
  if ttE s n = ttSealed then k * (row / k / rhoE s n) + row % k else row / 256

/-- Rows of a segment. -/
def segRows (s : State) (n g : Nat) : Nat :=
  if ttE s n = ttSealed then
    min (rhoE s n) (rowsOfPos s n (g % (diesE s n).length) - rhoE s n * (g / (diesE s n).length))
  else min 256 (rowsE s n - 256 * g)

/-- 32-bit words of a row of a total of a type. -/
def rowWords (ty : Nat) : Nat := if ty = ttPair then 2048 else 1024

/-- The check value of a row of 32-bit words (R420): a weighted sum, or CRC-32C for a pair. -/
def rowCheck (ty : Nat) (ws : List Nat) : Nat :=
  if ty = ttPair then crc32c (ws.flatMap (bytesOf · 4))
  else (ws.zipIdx.map (fun x => (2 * x.2 + 1) * x.1)).sum % 2 ^ 32

/-- The words of row i of an import. -/
def importRow (m : ImportMsg) (i : Nat) : List Nat :=
  (List.range (rowWords m.ty)).map (fun j => tget m.words 0 (i * rowWords m.ty + j))

/-- Every row check value of an import agrees with its words (R427). Sealed limbs carry theirs in the
object. -/
def importValid (m : ImportMsg) : Bool :=
  m.ty == ttSealed ||
    (List.range m.rowCount).all (fun i => tget m.checks 0 i == rowCheck m.ty (importRow m i))

/-- Two copies are identical in data, MERGED, flags and tag (R427). -/
def copiesAgree (a b : ImportMsg) : Bool :=
  a.words == b.words && a.merged == b.merged && a.flags == b.flags && a.tagP == b.tagP && a.tagX == b.tagX &&
    a.ty == b.ty && a.rowCount == b.rowCount

/-! ### Child nodes -/

/-- The node a listed child is a copy of (DESIGN CHOICE, log 37). -/
def nodeOf (s : State) (n m : Nat) : Nat := if (cx s n).guard = 0 then m else Config.childNode m
/-- The child nodes of the round. -/
def childNodes (s : State) (n : Nat) : List Nat := ((childList s n).map (nodeOf s n)).eraseDups
/-- The copies of a node. -/
def copiesOf (s : State) (n c : Nat) : List Nat := (childList s n).filter (fun m => nodeOf s n m == c)
/-- Segments of a node already added. -/
def addedOf (s : State) (n c : Nat) : List Nat := tget (cx s n).added [] c
/-- Every segment of a node has been added (R334). -/
def delivered (s : State) (n c : Nat) : Bool := (List.range (segsOf s n)).all (addedOf s n c).contains
/-- Every child node has delivered. -/
def importsIn (s : State) (n : Nat) : Bool := (childNodes s n).all (delivered s n)

/-- The value of 32-bit words as the ciphertext of a Sealed import. -/
def importCt (m : ImportMsg) (l n : Nat) : CtPoly := fun part i t =>
  tget m.words 0 (1024 + (part * (l + 1) + i) * 2 ^ n + t)
/-- Header field of a Sealed import, from its words. -/
def importHdr (m : ImportMsg) (off len : Nat) : Nat :=
  fld (ofBytes ((List.range 16).flatMap (fun i => bytesOf (tget m.words 0 i) 4))) off len

/-- Add an accepted segment: Shared words and ciphertexts at once, clear words at READY (R227). -/
def addSegment (s : State) (n g : Nat) (m : ImportMsg) : Option State :=
  let first := segFirst s n g
  let s1 := (List.range m.rowCount).foldl (fun s i =>
    let v := tget m.flags 0 i
    if v = 0 then s else flagRow s n (first + i) v) s
  let s2 := setCx s1 n { cx s1 n with accepted := (cx s1 n).accepted ++ [m] }
  if m.ty = ttShared then
    some ((List.range m.rowCount).foldl (fun s i => addSharedRow s n (first + i) (importRow m i)) s2)
  else if m.ty = ttSealed then
    let l := importHdr m 2 1
    ctCombine s2 n g l (importHdr m 16 8) (importHdr m 28 4) (importCt m l (ksLogN s n))
  else some s2

/-- The import list in the Shared workspace (R194, R196): entry i is the i-th child module identifier, then its
ROUND_SHARE_DIGEST, in 64 bytes (DESIGN CHOICE, log 134). -/
def listImports (s : State) (n : Nat) : State :=
  let base := cfgE s eShWorkBase n + kib64 (32 * cohortsOf s n)
  setVm s n ((cx s n).shImports.zipIdx.foldl (fun m x =>
    mwr (mwr m (base + 64 * x.2) 2 x.1.1) (base + 64 * x.2 + 32) 32 x.1.2) (vmOf s n))

/-- A node has delivered: its MERGED count joins the round's, IMPORTS counts it (R64, R191, R217). -/
def nodeDelivered (s : State) (n c : Nat) (m : ImportMsg) : State :=
  let s1 := bumpE (addE s eMerged n m.merged) eImports n
  if m.ty = ttShared then
    let s2 := addE s1 eSharedMerged n m.merged
    listImports (setCx s2 n { cx s2 n with shImports := tput (cx s2 n).shImports m.child m.shareDigest }) n
  else if ttE s n = ttSealed ∧ m.ty ≠ ttSealed then
    setCx s1 n { cx s1 n with subMerged := (cx s1 n).subMerged + m.merged }
  else s1

/-- Accept a copy of a segment of node c; `m.child` is the module that sent it. -/
def acceptSeg (s : State) (n c g : Nat) (m : ImportMsg) : State :=
  match addSegment s n g m with
  | none => noiseAbandon s n
  | some s1 =>
    let k := cx s1 n
    let s2 := setCx s1 n { k with added := tset k.added [] c (addedOf s1 n c ++ [g]) }
    if delivered s2 n c then nodeDelivered s2 n c m else s2

/-- DIVERGED (R427, R428): a fault record that names the modules, a job abort with cause 3, and the round
abandoned with its descriptors DIVERGED. -/
def diverged (s : State) (n g : Nat) (mods : List Nat) : State :=
  let s1 := writeFault s { ty := ftDiverged, status := stDiverged, flags := 2, ctx := n, fn := (cx s n).owner,
                           mods := mods.take 3, detail := segFirst s n g }
  abandonRound (jobAbort s1 n 3) n stDiverged

/-- DISSENT (R427): counted, and the module named in a fault event. -/
def dissent (s : State) (n g m : Nat) : State :=
  writeFault (bumpE s eDissents 0)
    { ty := ftDissent, flags := 2, ctx := n, fn := (cx s n).owner, mods := [m], detail := segFirst s n g }

/-- The LIVE RIDGE session of a context with a module (R403). -/
def ridgeSession (s : State) (n p : Nat) : Option Nat :=
  (s.keys.find? (fun k => k.2.st == 1 && k.2.kind == 5 && k.2.ctx == n && k.2.form == 1 && k.2.peer == p)).map (·.1)

/-- Send a ridge message to a module of the job, under its session (R425, R429). -/
def ridgeSend (s : State) (n p : Nat) (o : Out) (msg : Mem) (len : Nat) : State :=
  match ridgeSession s n p with
  | some k => ownSend (emit s o) k msg len
  | none => emit s o

/-- Ask copies to recombine a segment (R427); the discarded copies leave. -/
def askRecombine (s : State) (n c g : Nat) (ms : List Nat) : State :=
  let s1 := ms.foldl (fun s m =>
    let x : RidgeMsg := { job := cfgE s eJobId n, round := rdE s eRoundNumber n, rowFirst := segFirst s n g, moduleId := rdE s eModuleId 0 }
    ridgeSend (bumpE s eRecombines 0) n m (.recombine m x.job x.round x.rowFirst) (ridgeBytes 0x31 x) 64) s
  let k := cx s1 n
  setCx s1 n { k with
    imports := k.imports.filter (fun m => !(ms.contains m.child && segOf s n m.rowFirst == g))
    retried := tset k.retried [] c (tget k.retried [] c ++ [g]) }

/-- The copies held of a segment of a node. -/
def segCopies (s : State) (n c g : Nat) : List ImportMsg :=
  (cx s n).imports.filter (fun m => nodeOf s n m.child == c && segOf s n m.rowFirst == g)

/-- A total type that may join the round (R62, R65, DEDUCED, log 43). -/
def importTypeOk (s : State) (n ty : Nat) : Bool :=
  let t := ttE s n
  (ty == ttInt32 && t != ttShared) || (ty == ttPair && (t == ttPair || (t == ttSealed && clearTt s n == ttPair))) ||
    (ty == ttShared && bit (modesE s n) 3) || (ty == ttSealed && t == ttSealed)

/-- A float tag's node range meets a local Clear-Float cohort in a state that p picks. -/
def tagMeets (s : State) (n : Nat) (m : ImportMsg) (p : Cohort → Bool) : Bool :=
  m.tagP != 255 && (cx s n).cohorts.any (fun c => c.2.mode == mdClearFloat && p c.2 &&
    overlaps (m.tagX * 2 ^ (21 - m.tagP)) (2 ^ (21 - m.tagP)) (c.1 * cohortSize s n) (cohortSize s n))

/-- It meets a merged local Clear-Float cohort, or another tagged import (R234). -/
def tagClash (s : State) (n : Nat) (m : ImportMsg) : Bool :=
  tagMeets s n m (fun c => c.st == .merged) ||
    (m.tagP != 255 && ((cx s n).accepted ++ (cx s n).imports).any (fun o => o.tagP != 255 &&
      nodeOf s n o.child != nodeOf s n m.child &&
      overlaps (m.tagX * 2 ^ (21 - m.tagP)) (2 ^ (21 - m.tagP)) (o.tagX * 2 ^ (21 - o.tagP)) (2 ^ (21 - o.tagP))))

/-- The live RIDGE session with a module, if there is one. -/
def ridgeKey (s : State) (n m : Nat) : Option Nat :=
  (s.keys.find? (fun k => k.2.st == 1 && k.2.kind == 5 && k.2.ctx == n && k.2.peer == m)).map (·.1)

/-- A held copy whose tag has come to clash is refused with PARAM_MISMATCH and discarded (R234). -/
def dropClash (s : State) (n c g : Nat) : State :=
  (segCopies s n c g).foldl (fun s m =>
    if tagMeets s n m (fun c => c.st == .merged) then
      let s1 := match ridgeKey s n m.child with | some k => replyMsg s k stParam | none => s
      setCx s1 n { cx s1 n with imports := (cx s1 n).imports.filter (· != m) }
    else s) s

/-- Apply the table of R427 to a segment of a round in COMBINING; earlier the copies are held (R341), as they are
while a local Clear-Float cohort that a tag meets can still merge (R234; DEDUCED, log 135). `late` says that
IMPORT_WAIT has passed. -/
def compareSeg (s0 : State) (n c g : Nat) (late : Bool) : State :=
  let s := dropClash s0 n c g
  let got := segCopies s n c g
  let want := copiesOf s n c
  let valid := got.filter importValid
  let again := (tget (cx s n).retried [] c).contains g
  let fail (s : State) : State := if again then diverged s n g want else askRecombine s n c g want
  if roundSt s n != rsCombining || (addedOf s n c).contains g || (!late && decide (got.length < want.length)) ||
      got.any (fun m => tagMeets s n m coLive) then s
  else match want.length, valid with
    | 1, m :: _ => acceptSeg s n c g m
    | 1, [] => s
    | 2, a :: b :: _ => if copiesAgree a b then acceptSeg s n c g a else fail s
    | 2, _ => fail s
    | _, a :: b :: r =>
      let third := r.head?
      let pick (x : ImportMsg) (other : Option ImportMsg) : State :=
        let s1 := match other with | some o => dissent s n g o.child | none => s
        acceptSeg s1 n c g x
      if copiesAgree a b then
        pick a (match third with | some o => if copiesAgree a o then none else some o | none => none)
      else match third with
        | some o => if copiesAgree a o then pick a (some b) else if copiesAgree b o then pick b (some a)
            else diverged s n g want
        | none => fail s
    | _, _ => fail s

/-- Look again at every segment of which a copy is held. -/
def importPoll (s : State) (n : Nat) : State :=
  (cx s n).imports.foldl (fun s m => compareSeg s n (nodeOf s n m.child) (segOf s n m.rowFirst) false) s

/-- Fix ROUND_SHARE_DIGEST once every Shared cohort is MERGED or FAILED in COMBINING and, since it covers each
import, every child has delivered (R195; DEDUCED, log 136). -/
def fixShareDigest (s : State) (n : Nat) : State :=
  let c := cx s n
  if roundSt s n == rsCombining && sharedIn s n && !c.digestFixed && importsIn s n &&
      !c.cohorts.any (fun k => k.2.mode == mdShared && coLive k.2) then
    wrE (setCx s n { c with digestFixed := true }) eRoundShareDigest n (shareDigest s n)
  else s

/-- What follows when the round enters COMBINING, a cohort ends or an import comes in. -/
def ridgeStep (s : State) (n : Nat) : State := fixShareDigest (importPoll s n) n

/-- CLOSING ends: the round enters COMBINING (R39), and the held imports are looked at. -/
def enterCombining (s : State) (n : Nat) : State := ridgeStep (setRound s n rsCombining stOk) n

/-- CLOSE_GRACE_EXPIRY (R42): contributions still uncommitted are reversed. -/
def execCloseGraceExpiry (n : Nat) (s : State) : Res :=
  if s.pwr.frozen then .next s else
  if roundSt s n = rsClosing then .next (settleAll (enterCombining (reverseAll s n (fun _ => true)) n) n) else .next s

/-- ROUND_ENTER_COMBINING (R39): earlier, when no contribution is uncommitted. -/
def execRoundEnterCombining (n : Nat) (s : State) : Res :=
  if s.pwr.frozen then .next s else
  if roundSt s n = rsClosing ∧ anyUncommitted s n = false then .next (enterCombining s n) else .next s

/-- A cohort fails, and what waits for it goes on. -/
def mergeFails (s : State) (n k st : Nat) : State := ridgeStep (failCohort s n k st) n

/-- COHORT_MERGE (R52): a cohort of another mode than Masked, SHUT with a fixed survivor set. One whose sum does not
give the round's total type fails with PARAM_MISMATCH (R65; DESIGN CHOICE, log 137). A memory error or a check
value that differs fails the cohort, or abandons the round (R421, R424). -/
def execCohortMerge (n k : Nat) (e : HwErr) (s : State) : Res :=
  if s.pwr.frozen then .next s else
  let c := cohortOf s n k
  let cnt := survivors s n k
  if c.st ≠ .shut ∨ c.fixedSet = false ∨ c.mode = mdMasked then .next s
  else if cnt = 0 ∨ cnt < rdE s eMinSurvivors n then .next (mergeFails s n k stPolicy)
  else if mergeTypeOk s n c.mode = false then .next (mergeFails s n k stParam)
  else match e with
    | .eccTotal _ => .next (tryAbandon (hwCount s e) n stAborted)
    | .none =>
      if accBad s n k then .next (mergeFails (hwCount s (.check 0)) n k stIntegrity)
      else match mergeWords s n k cnt with
        | none => .next (noiseAbandon s n)
        | some s1 => .next (ridgeStep (mergedCohort s1 n k cnt) n)
    | _ => .next (mergeFails (hwCount s e) n k stIntegrity)

/-- What R334 admits once: the sending module, the segment and ATTEMPT. -/
def seenKey (s : State) (n from_ : Nat) (m : ImportMsg) : Nat :=
  from_ * 2 ^ 33 + segOf s n m.rowFirst * 2 + m.attempt

/-- The checks of an import (R334, R425, R62, R65, R234). `from_` is the sending module. -/
def importCheck (s : State) (n from_ : Nat) (m : ImportMsg) : Option Nat :=
  if m.rsvZero = false ∨ 2 < m.copy ∨ 1 < m.attempt ∨ 3 < m.ty then some stUnsupported
  else if (childList s n).contains from_ = false then some stPolicy
  else if m.job ≠ cfgE s eJobId n ∨ m.round ≠ rdE s eRoundNumber n ∨ roundSt s n < rsOpen ∨ rsCombining < roundSt s n then
    some stGeneration
  else if (cx s n).importSeen.contains (seenKey s n from_ m) then some stDuplicate
  else if !importTypeOk s n m.ty || decide (segsOf s n ≤ segOf s n m.rowFirst) ||
      m.rowFirst != segFirst s n (segOf s n m.rowFirst) || m.rowCount != segRows s n (segOf s n m.rowFirst) ||
      tagClash s n { m with child := from_ } ||
      (m.ty == ttShared && (m.setId != cfgE s ePartnerSetId n || m.party != cfgE s ePartyIndex n)) ||
      (m.ty == ttSealed && (importHdr m 0 1 != 0x43 || importHdr m 1 1 != ksLogN s n ||
        decide (ksOrd s n ≤ importHdr m 2 1) || importHdr m 24 4 != cDigest s n (basisOf s n) (importHdr m 2 1))) then
    some stParam
  else if m.ty == ttSealed && (importHdr m 4 4 != ksFld s n 0 4 4 || importHdr m 8 8 != ksFld s n 0 8 8) then some stKey
  else none

/-- A segment of a child's total: checked, kept and compared (R334, R427). -/
def importIn (key : Nat) (m : ImportMsg) (reply : State → Nat → State) (s : State) : State :=
  let k := keyOf s key
  let n := k.ctx
  if k.st ≠ 1 then s
  else if k.kind ≠ 5 then reply s stPolicy
  else match importCheck s n k.peer m with
    | some st => reply s st
    | none =>
      let s1 := reply s stOk
      let s2 := setCx s1 n { cx s1 n with
        imports := (cx s1 n).imports ++ [{ m with child := k.peer }]
        importSeen := (cx s1 n).importSeen ++ [seenKey s n k.peer m] }
      fixShareDigest (compareSeg s2 n (nodeOf s n k.peer) (segOf s n m.rowFirst) false) n

/-- IMPORT_RECEIVE (R334, R427): a verified message on a RIDGE session. -/
def execImportReceive (key : Nat) (m : ImportMsg) (s : State) : Res :=
  if s.pwr.frozen then .next s else .next (importIn key m (replyMsg · key ·) s)

/-! ### The round total at READY -/

/-- The clear imports of the round. -/
def clearImports (s : State) (n ty : Nat) : List ImportMsg := (cx s n).accepted.filter (fun m => m.ty == ty)

/-- Sum over the INT32 imports of element (row r, lane j). -/
def importSum (s : State) (n r j : Nat) : Int :=
  ((clearImports s n ttInt32).map (fun m =>
    let f := segFirst s n (segOf s n m.rowFirst)
    if f ≤ r ∧ r < f + m.rowCount then toS 32 (tget m.words 0 ((r - f) * 1024 + j)) else 0)).sum

/-- Add the INT32 imports into one row of clear words in one 40-bit pass (R227). -/
def importRowSum (s : State) (n r : Nat) : State :=
  if (clearImports s n ttInt32).isEmpty then s
  else addClearRow s n r (lanes1024.map (importSum s n r))

/-- Leaves of element j: the merged Clear-Float cohorts' (R229, R53). -/
def floatLeaves (s : State) (n j : Nat) : List (Nat × Nat) :=
  ((cx s n).cohorts.filter (fun c => c.2.mode == mdClearFloat && c.2.st == .merged)).flatMap (fun c =>
    (c.2.acc.filter (fun x => x.1 % 2 ^ 33 == j)).map (fun x => (x.1 / 2 ^ 33, x.2)))

/-- The pair of element (r, j) in an import, if it covers the row. -/
def importPair (s : State) (n r j : Nat) (m : ImportMsg) : Option (Nat × Nat) :=
  let f := segFirst s n (segOf s n m.rowFirst)
  if f ≤ r ∧ r < f + m.rowCount then
    some (tget m.words 0 (((r - f) * 1024 + j) * 2), tget m.words 0 (((r - f) * 1024 + j) * 2 + 1))
  else none

/-- Imports placed whole in the tree at element (r, j) (R234). -/
def placedAt (s : State) (n r j : Nat) : List Placed :=
  (clearImports s n ttPair).filterMap (fun m =>
    if m.tagP = 255 then none else (importPair s n r j m).map (fun v => (21 - m.tagP, m.tagX, v)))

/-- Untagged float imports at element (r, j), by increasing child module identifier (R233). -/
def untaggedAt (s : State) (n r j : Nat) : List (Nat × Nat) :=
  ((clearImports s n ttPair).foldl (fun t m =>
    if m.tagP = 255 then match importPair s n r j m with | some v => tput t m.child v | none => t else t)
    ([] : Tbl (Nat × Nat))).map (·.2)

/-- The FP32 pair total of an element from its integer subtotal (R233). -/
def pairTotal (s : State) (n r j : Nat) (sub : Int) : Nat × Nat :=
  let t := floatTree (placedAt s n r j) (21 - partP s n) (partX s n) (floatLeaves s n (1024 * r + j))
  let t1 := if (cx s n).nonFloat || !(clearImports s n ttInt32).isEmpty then fNode (fOfInt sub, 0) t else t
  (untaggedAt s n r j).foldl fNode t1

/-- The integer subtotal of a row of pair words. -/
def subRow (s : State) (n r : Nat) : List Int :=
  (rowRead (vmOf s n) (clearBase s n + 8192 * r) 8).map (fun w => toS 32 (w % 2 ^ 32))

/-- Form one row of pair words. -/
def pairRow (s : State) (n r : Nat) : State :=
  let sub := subRow s n r
  let ws := lanes1024.map (fun j => let v := pairTotal s n r j (sub.getD j 0); v.1 + 2 ^ 32 * v.2)
  setChk (setVm s n (rowWrite (vmOf s n) (clearBase s n + 8192 * r) 8 ws)) n (clearBase s n + 8192 * r)
    (crc32c (ws.flatMap (bytesOf · 8)))

/-- A conversion of the integer subtotal rounds (R63). -/
def subInexact (s : State) (n : Nat) : Bool :=
  clearTt s n == ttPair && ((cx s n).nonFloat || !(clearImports s n ttInt32).isEmpty) &&
    (List.range (rowsE s n)).any (fun r => (subRow s n r).any fIntInexact)

/-- Form the clear words: the imports' sums, then the pairs (R227, R233); whether the conversion between them
rounds is kept for the READY event (R63). -/
def formClear (s : State) (n : Nat) : State :=
  let s1 := (List.range (rowsE s n)).foldl (fun s r => importRowSum s n r) s
  let s2 := if clearTt s n = ttPair then (List.range (rowsE s n)).foldl (fun s r => pairRow s n r) s1 else s1
  setCx s2 n { cx s2 n with
    totalFormed := true
    inexact := subInexact s1 n }

/-- The entry of row r of the statistics table (R83, R251). -/
def statsEntry (s : State) (n r : Nat) : Nat :=
  let b := if ttE s n = ttPair then 8 else 4
  let raw := rowRead (vmOf s n) (totalBase s n + 1024 * b * r) b
  let xv (j : Nat) : Nat :=
    let w := raw.getD j 0
    if b = 8 then w % 2 ^ 32 else fOfInt (toS 32 w)
  let sc := mrd (vmOf s n) (cfgE s eScaleBase n + 4 * r) 4
  let cnt := min 1024 (cfgE s eVectorLength n - 1024 * r)
  let m (j : Nat) : Nat := meanM (cfgE s eContribBits n) (rdE s eMerged n) sc (xv j)
  let ys := (List.range cnt).map (fun j => (j, m j))
  let bad := (List.range cnt).any (fun j => !fFinite (xv j) || !fFinite (m j)) || rdE s eMerged n == 0
  let rec32 := statRecord ys (tget (cx s n).rowFlags 0 r % 4) 0 bad false
  fld rec32 0 4 + 2 ^ 32 * fld rec32 4 4 + 2 ^ 64 * cnt + 2 ^ 96 * (bits (fld rec32 26 2) 2 0)

/-- The statistics table, then STATS_VALID (R83, R85, DEDUCED, log 38). -/
def writeStats (s : State) (n : Nat) : State :=
  if cfgE s eStatsBase n = 0 ∨ cfgE s eScaleBase n = 0 ∨ (ttE s n ≠ ttInt32 ∧ ttE s n ≠ ttPair) then s
  else
    let m := (List.range (rowsE s n)).foldl (fun m r => mwr m (cfgE s eStatsBase n + 16 * r) 16 (statsEntry s n r)) (vmOf s n)
    wrE (setVm s n m) eStatsValid n 1

/-- Own COPY index: the rank of MODULE_ID among the node's copies (DEDUCED, log 39). -/
def ownCopy (s : State) (n : Nat) : Nat := ((peersOf s n).filter (fun p => decide (p < rdE s eModuleId 0))).length

/-- The tag of a module total (R234). -/
def ownTag (s : State) (n : Nat) : Nat × Nat :=
  if ttE s n == ttPair && partP s n != 0 && !(cx s n).nonFloat && (cx s n).accepted.isEmpty then (partP s n, partX s n)
  else (255, 255)

/-- Segment g of the module total as an import, its rows with the check values held of them (R422, R425). -/
def segMsg (s : State) (n g attempt : Nat) : ImportMsg :=
  let ty := ttE s n
  let first := segFirst s n g
  let rows := segRows s n g
  let k := if ty = ttSealed then ctSlot s n / 4 else rows * rowWords ty
  let a := if ty = ttSealed then slotAt s n g else (if ty = ttShared then shTotalBase s n else totalBase s n) + 4 * rowWords ty * first
  let words := (List.range k).foldl (fun t i => tset t 0 i (mrd (vmOf s n) (a + 4 * i) 4)) []
  let m0 : ImportMsg :=
    { copy := ownCopy s n
      ty := ty
      attempt := attempt
      job := cfgE s eJobId n
      round := rdE s eRoundNumber n
      rowFirst := first
      rowCount := rows
      merged := rdE s eMerged n
      child := rdE s eModuleId 0
      tagP := (ownTag s n).1
      tagX := (ownTag s n).2
      flags := (List.range rows).foldl (fun t i => tset t 0 i (tget (cx s n).rowFlags 0 (first + i))) []
      words := words
      setId := if ty = ttShared then cfgE s ePartnerSetId n else 0
      party := if ty = ttShared then cfgE s ePartyIndex n else 0
      shareDigest := if ty = ttShared then rdE s eRoundShareDigest n else 0 }
  { m0 with checks := if ty = ttSealed then [] else
      (List.range rows).foldl (fun t i => tset t 0 i (chkAt s n (a + 4 * rowWords ty * i))) [] }

/-- A SHARED total leaves only to a parent whose context has the same partner set and party index (R192). -/
def maySend (s : State) (n p : Nat) : Bool :=
  ttE s n != ttShared ||
    Config.parentParty p (cfgE s eJobId n) == (cfgE s ePartnerSetId n, cfgE s ePartyIndex n)

/-- Send a segment of the module total to a parent copy (R425, R426): its header page, then its rows or its ciphertext. -/
def segSend (s : State) (n p g attempt : Nat) : State :=
  let m := segMsg s n g attempt
  ridgeSend s n p (.importSeg p m) (importBytes m)
    (4096 + if m.ty = ttSealed then ctSlot s n else 4 * m.rowCount * rowWords m.ty)

/-- Send the module total to every parent copy (R334). -/
def sendTotal (s : State) (n : Nat) : State :=
  ((parentsOf s n).filter (maySend s n)).foldl (fun s p =>
    (List.range (segsOf s n)).foldl (fun s g => segSend s n p g 0) s) s

/-- The status of the READY event (R213, R304, DEDUCED, log 41). -/
def readyStatus (s : State) (n : Nat) (inexact : Bool) : Nat :=
  if rdE s eMerged n = 0 then stEmpty
  else if rdE s eMerged n < rdE s eMinContributors n then stPolicy
  else if rdE s eSaturation n = 1 then stSaturated
  else if inexact then stInexact
  else stOk

/-- Enter READY: statistics, event, module total (R83, R334); INEXACT as the total's forming found it (R63). A SEALED round's clear subtotal is scrubbed
once it is encrypted (R66); below MIN_CONTRIBUTORS it stays until the round leaves READY (R213). -/
def becomeReady (s : State) (n : Nat) : State :=
  let s1 := writeStats s n
  let s2 := if ttE s n = ttSealed ∧ rdE s eMinContributors n ≤ rdE s eMerged n then scrubRange s1 n (subBase s n) (subSize s n) else s1
  sendTotal (setRound s2 n rsReady (readyStatus s2 n (cx s2 n).inexact)) n

/-! ### Root copies (R428) -/

/-- Key of the root comparison in the tables of segments. -/
def rootKey : Nat := 0x10000

/-- Own digest of a segment (R429). -/
def segDigest (s : State) (n g : Nat) : Nat :=
  let m := segMsg s n g 0
  Config.sha256 ((List.range (m.rowCount * rowWords m.ty)).flatMap (fun i => bytesOf (tget m.words 0 i) 4) ++
    (List.range 256).flatMap (fun i => bytesOf (tget m.checks 0 i) 4) ++
    bytesOf ((List.range 256).foldl (fun a i => a + tget m.flags 0 i % 4 * 4 ^ i) 0) 64)

/-- Own ROOT_DIGEST message. -/
def digestMsg (s : State) (n g attempt : Nat) : RidgeMsg :=
  { copy := ownCopy s n
    attempt := attempt
    job := cfgE s eJobId n
    round := rdE s eRoundNumber n
    rowFirst := segFirst s n g
    rowCount := segRows s n g
    merged := rdE s eMerged n
    moduleId := rdE s eModuleId 0
    digest := segDigest s n g }

/-- Send it to every copy peer. -/
def sendDigest (s : State) (n g attempt : Nat) : State :=
  (peersOf s n).foldl (fun s p => ridgeSend s n p (.rootDigest p (digestMsg s n g attempt)) (ridgeBytes 0x32 (digestMsg s n g attempt)) 64) s

/-- A root with copies. -/
def isRootCopy (s : State) (n : Nat) : Bool := (parentsOf s n).isEmpty && !(peersOf s n).isEmpty

/-- A segment of the root agrees; after the last the round is READY (R428). -/
def rootAgreed (s : State) (n g : Nat) : State :=
  let k := cx s n
  let s1 := setCx s n { k with added := tset k.added [] rootKey (addedOf s n rootKey ++ [g]) }
  if delivered s1 n rootKey then becomeReady s1 n else s1

/-- No agreement yet: resend at ATTEMPT 1, or diverge (R427, R428, DEDUCED, log 42). -/
def rootRetry (s : State) (n g : Nat) : State :=
  let k := cx s n
  if (tget k.retried [] rootKey).contains g then diverged s n g (peersOf s n)
  else
    sendDigest (setCx s n { k with
      retried := tset k.retried [] rootKey (tget k.retried [] rootKey ++ [g])
      rootDigests := k.rootDigests.filter (fun m => segOf s n m.rowFirst != g) }) n g 1

/-- Apply R427 to the digests of a segment (R428). -/
def compareRoot (s : State) (n g : Nat) (late : Bool) : State :=
  let got := (cx s n).rootDigests.filter (fun m => segOf s n m.rowFirst == g)
  let own := segDigest s n g
  let yes := got.filter (fun m => m.digest == own && m.merged == rdE s eMerged n)
  let no := got.filter (fun m => !(m.digest == own && m.merged == rdE s eMerged n))
  if !isRootCopy s n || !(cx s n).totalFormed || roundSt s n != rsCombining || (addedOf s n rootKey).contains g ||
      (!late && decide (got.length < (peersOf s n).length)) then s
  else if !yes.isEmpty then
    (if no.isEmpty then rootAgreed s n g else rootAgreed (dissent s n g ((no.map (·.moduleId)).headD 0)) n g)
  else match no with
    | a :: b :: _ =>
      if a.digest = b.digest ∧ a.merged = b.merged then abandonRound s n stDiverged
      else diverged s n g (peersOf s n)
    | _ => rootRetry s n g

/-- The checks of R429 on a ridge control message from a module of `set`. -/
def ridgeCheck (s : State) (n from_ : Nat) (set : List Nat) (m : RidgeMsg) : Option Nat :=
  if m.len ≠ 64 ∨ m.rsvZero = false then some stUnsupported
  else if set.contains from_ = false then some stPolicy
  else if m.job ≠ cfgE s eJobId n ∨ m.round ≠ rdE s eRoundNumber n then some stGeneration
  else none

/-- A RECOMBINE message: the segment leaves again (R426, R429). -/
def recombineIn (key : Nat) (m : RidgeMsg) (reply : State → Nat → State) (s : State) : State :=
  let k := keyOf s key
  let n := k.ctx
  if k.st ≠ 1 then s
  else if k.kind ≠ 5 then reply s stPolicy
  else match ridgeCheck s n k.peer (parentsOf s n) m with
    | some st => reply s st
    | none =>
      let s1 := reply s stOk
      let g := segOf s n m.rowFirst
      if roundSt s n = rsReady ∧ g < segsOf s n ∧ maySend s n k.peer = true then segSend s1 n k.peer g 1 else s1

/-- RECOMBINE (R426, R429): the segment goes to the requester again with ATTEMPT 1, if its total is kept. -/
def execRecombine (key : Nat) (m : RidgeMsg) (s : State) : Res :=
  if s.pwr.frozen then .next s else .next (recombineIn key m (replyMsg · key ·) s)

/-- A ROOT_DIGEST message: kept and compared (R428, R429). -/
def rootDigestIn (key : Nat) (m : RidgeMsg) (reply : State → Nat → State) (s : State) : State :=
  let k := keyOf s key
  let n := k.ctx
  if k.st ≠ 1 then s
  else if k.kind ≠ 5 then reply s stPolicy
  else match ridgeCheck s n k.peer (peersOf s n) m with
    | some st => reply s st
    | none =>
      let s1 := reply s stOk
      let s2 := setCx s1 n { cx s1 n with
        rootDigests := (cx s1 n).rootDigests.filter (fun x => !(x.moduleId == k.peer && x.rowFirst == m.rowFirst)) ++
          [{ m with moduleId := k.peer }] }
      compareRoot s2 n (segOf s n m.rowFirst) false

/-- ROOT_DIGEST (R428, R429). -/
def execRootDigest (key : Nat) (m : RidgeMsg) (s : State) : Res :=
  if s.pwr.frozen then .next s else .next (rootDigestIn key m (replyMsg · key ·) s)

/-- IMPORT_WAIT_EXPIRY (R427, R428): for a child node and segment, or for the root's own digests when the
child is this module. -/
def execImportWaitExpiry (n child seg : Nat) (s : State) : Res :=
  if s.pwr.frozen then .next s else
  if roundSt s n < rsOpen ∨ rsCombining < roundSt s n then .next s
  else if child = rdE s eModuleId 0 then
    (if (cx s n).totalFormed then .next (compareRoot s n seg true) else .next s)
  else if (segCopies s n (nodeOf s n child) seg).isEmpty then .next s
  else .next (fixShareDigest (compareSeg s n (nodeOf s n child) seg true) n)

/-- A segment of the module's node has not been added and no copy of it from the module is held (R335). -/
def silentOf (s : State) (n m : Nat) : Bool :=
  (List.range (segsOf s n)).any (fun g => !(addedOf s n (nodeOf s n m)).contains g &&
    !(cx s n).imports.any (fun o => o.child == m && segOf s n o.rowFirst == g))

/-- CHILD_WAIT_EXPIRY (R335): the first silent child is named; a job abort with cause 2. (DESIGN CHOICE, log 40.) -/
def execChildWaitExpiry (n : Nat) (s : State) : Res :=
  if s.pwr.frozen then .next s else
  let waits := (childList s n).filter (fun m => !delivered s n (nodeOf s n m))
  let silent := waits.filter (silentOf s n) ++ waits
  if roundSt s n = rsCombining ∧ waits.isEmpty = false then
    let s1 := writeFault (bumpE s eUnreachable 0)
      { ty := ftLink, status := stAborted, flags := 2, ctx := n, fn := (cx s n).owner, mods := silent.take 1,
        detail := freshVal s % 2 ^ 32 }
    .next (tryAbandon (jobAbort (freshNext s1) n 2) n stAborted)
  else .next s

/-! ### Entering READY -/

/-- Every row of the shared subtotal is opened and added (R212). -/
def subtotalOpen (s : State) (n : Nat) : Bool :=
  !bit (modesE s n) 3 || ttE s n == ttShared || decide (rowsE s n ≤ (cx s n).opened.length)

/-- The clear subtotal is encrypted on every die, or received no merge (R66). -/
def subEncrypted (s : State) (n : Nat) : Bool :=
  ttE s n != ttSealed || (cx s n).subMerged == 0 || (diesE s n).all (cx s n).subDone.contains

/-- READY may be entered (R39, R212, R213). -/
def readyAllowed (s : State) (n : Nat) : Bool :=
  roundSt s n == rsCombining && cohortsDone s n && importsIn s n &&
    (decide (rdE s eMerged n < rdE s eMinContributors n) || (subtotalOpen s n && subEncrypted s n))

/-- ROUND_ENTER_READY (R233): the total is formed; a root copy waits for its peers' digests (R428). -/
def execRoundEnterReady (n : Nat) (s : State) : Res :=
  if s.pwr.frozen then .next s else
  if readyAllowed s n then
    let s1 := if ttE s n = ttInt32 ∨ ttE s n = ttPair then (if (cx s n).totalFormed then s else formClear s n) else
      setCx s n { cx s n with totalFormed := true }
    if isRootCopy s n then
      if (cx s n).totalFormed ∧ ttE s n ≠ ttSealed then .next s
      else
        let s2 := (List.range (segsOf s1 n)).foldl (fun s g => sendDigest s n g 0) s1
        .next ((List.range (segsOf s1 n)).foldl (fun s g => compareRoot s n g false) s2)
    else .next (becomeReady s1 n)
  else .next s

/-! ### The clear subtotal of a SEALED round (R66) -/

/-- The clear subtotal may be encrypted on a die. -/
def subReady (s : State) (n die : Nat) : Bool :=
  roundSt s n == rsCombining && ttE s n == ttSealed && cohortsDone s n && importsIn s n && subtotalOpen s n &&
    decide (0 < (cx s n).subMerged) && (diesE s n).contains die && !(cx s n).subDone.contains die &&
    decide (rdE s eMinContributors n ≤ rdE s eMerged n)

/-- Local rows of a ciphertext of die position k: its index on the die, h0 to h0 + rows − 1. -/
def ctLocalRows (s : State) (n k x : Nat) : List Nat :=
  (List.range (min (rhoE s n) (rowsOfPos s n k - rhoE s n * x))).map (· + rhoE s n * x)

/-- Clear values of one ciphertext's rows (R180). -/
def subValues (s : State) (n k x : Nat) : List (Nat × Bool × Bool) :=
  let b := clearB s n
  (ctLocalRows s n k x).flatMap (fun h =>
    let r := k + (diesE s n).length * h
    lanes1024.map (fun j => clearSlot s n (b == 8) (cfgE s eFloatShift n)
      (mrd (vmOf s n) (subBase s n + b * (1024 * r + j)) b) (s.free + 1024 * h + j)))

/-- Encrypt the rows of one ciphertext and add it (R66). A row with an element that saturates takes its flag
(R64, DEDUCED, log 138), and an element that rounds makes the READY event INEXACT (R62). -/
def encryptSub (s : State) (n die x : Nat) : Option State :=
  let k := posOf s n die
  let i := (diesE s n).length * x + k
  let ent := basisOf s n
  let l := if mrd (vmOf s n) (slotAt s n i) 1 = 0 then ksOrd s n - 1 else mrd (vmOf s n) (slotAt s n i + 2) 1
  let v := subValues s n k x
  let k0 := s.free + 1024 * rowsOfPos s n k
  let c := encrypt s n k ent (scaledSlots s n ent l v) k0
  let s1 := { rngDraw s (2 ^ ksLogN s n * (2 + 4 * ksFld s n 0 19 1)) with free := k0 + 2 ^ ksLogN s n }
  let s2 := (ctLocalRows s n k x).zipIdx.foldl (fun s h =>
    if slotStatus ((v.drop (1024 * h.2)).take 1024) = stSaturated then flagRow s n (k + (diesE s n).length * h.1) 1
    else s) s1
  let s3 := setCx s2 n { cx s2 n with inexact := (cx s2 n).inexact || v.any (fun e => e.2.1) }
  ctCombine s3 n i l (noiseWord (freshBound s n) 1) (cx s n).subMerged c

/-- CLEAR_SUBTOTAL_ENCRYPT (R66): without random words the ridge posts RNG_UNAVAILABLE and will repeat; past
the noise limit the round is abandoned. -/
def execClearSubtotalEncrypt (n die : Nat) (s : State) : Res :=
  if s.pwr.frozen then .next s else
  if !subReady s n die then .next s
  else if s.rng.queue = [] then .next (ctxEvent (hwCount s .rng) n evRoundState stRng rsCombining)
  else
    let s0 := if (cx s n).totalFormed then s else formClear s n
    match ctCombineAll s0 n (fun s x => encryptSub s n die x) (List.range (ctsOfPos s n (posOf s n die))) with
    | none => .next (noiseAbandon s n)
    | some s1 => .next (setCx s1 n { cx s1 n with subDone := (cx s1 n).subDone ++ [die] })

end Sys2Proof.Machine
end

