-- ==== Sys2Proof/Machine/Move.lean ====
section
/-!
DEFINITION. The data movers (R282, R283): COPY, FILL and SCRUB, and the scrub sequence of R498.
-/

namespace Sys2Proof.Machine

open Sys2Proof

/-- LENGTH. -/
def mvLen (d : Desc) : Nat := df d 48 8
/-- SRC. -/
def mvSrc (d : Desc) : Nat := df d 36 6
/-- DST. -/
def mvDst (d : Desc) : Nat := df d 42 6
/-- SRC in Loft. -/
def mvSrcLoft (d : Desc) : Bool := bit (df d 33 1) 0
/-- DST in Loft. -/
def mvDstLoft (d : Desc) : Bool := bit (df d 33 1) 1

/-- The range lies within its space: 96 MiB of Loft, or 48-bit addresses. -/
def inSpace (loft : Bool) (a n : Nat) : Bool := decide (a + n ≤ (if loft then 100663296 else 2 ^ 48))

/-- Reserved fields are 0 (R282). -/
def mvReservedOk (d : Desc) : Bool :=
  decide (df d 33 1 < 4) && df d 34 2 == 0 && (dOp d == 0 || mvSrc d == 0) && (dOp d == 1 || df d 56 8 == 0)

/-- The agreements of R283. -/
def mvParamOk (s : State) (d : Desc) : Bool :=
  (diesE s (dCtx d)).contains (df d 32 1) && decide (mvLen d ≤ 2 ^ 36) &&
    inSpace (mvDstLoft d) (mvDst d) (mvLen d) && (dOp d != 0 || inSpace (mvSrcLoft d) (mvSrc d) (mvLen d)) &&
    (dOp d != 0 || mvSrcLoft d != mvDstLoft d || !overlaps (mvSrc d) (mvLen d) (mvDst d) (mvLen d)) &&
    (dOp d != 2 || (mvDst d % 64 == 0 && mvLen d % 64 == 0))

/-- The access checks of R283: a source that R54, R112, R183, R192 or R66 forbids is refused whatever the
destination is (DEDUCED, log 83). -/
def mvAccessOk (s : State) (d : Desc) : Bool :=
  let n := dCtx d
  operandOk s d (mvDstLoft d) (mvDst d) (mvLen d) && (mvDstLoft d || !dstTables s n (mvDst d) (mvLen d)) &&
    (dOp d != 0 || (operandOk s d (mvSrcLoft d) (mvSrc d) (mvLen d) &&
      (mvSrcLoft d || !srcForbidden s n (mvSrc d) (mvLen d))))

/-- The checks of a data-movement descriptor (R283, DEDUCED, log 22). LENGTH 0 touches no memory (R304). -/
def moveCheck (s : State) (d : Desc) : Option Nat :=
  if !mvReservedOk d then some stUnsupported
  else if !mvParamOk s d then some stParam
  else if mvLen d = 0 then none
  else if !mvAccessOk s d then some stAccess
  else if dOp d == 0 && !mvSrcLoft d && inTotal s (dCtx d) (mvSrc d) (mvLen d) && !exportOk s (dCtx d) then some stPolicy
  else none

/-- Word i of the scrub block at address a (R498). -/
def scrubWord (a i : Nat) : Nat := 0xA5C35A3C96E1693E ^^^ (a + 8 * i)

/-- Write k words of the scrub sequence from address a, a multiple of 64 (R498). -/
def scrubWords (m : Mem) (a : Nat) : Nat → Mem
  | 0 => m
  | k + 1 => mwr (scrubWords m a k) (a + 8 * k) 8 (scrubWord (a + 64 * (k / 8)) (k % 8))

/-- Replace the destination memory and complete (R601). -/
def mvFinish (s : State) (d : Desc) (m : Mem) : State :=
  completeDesc (setOpMem s d (df d 32 1) (mvDstLoft d) m) d stOk (mvLen d)

/-- What COPY reads: the source, without the padding of round-total rows (R76). -/
def copySrc (s : State) (d : Desc) : Mem :=
  let m := srcMem s d (df d 32 1) (mvSrcLoft d) (mvSrc d) (mvLen d)
  if !mvSrcLoft d && inTotal s (dCtx d) (mvSrc d) (mvLen d) then exportView s (dCtx d) m else m

/-- COPY's effect. -/
def copyEff (d : Desc) (s : State) : State :=
  mvFinish (if mvSrcLoft d then s else exportTake s (dCtx d) (mvSrc d) (mvLen d)) d (mcopy (copySrc s d) (mvSrc d) (opMem s d (df d 32 1) (mvDstLoft d)) (mvDst d) (mvLen d))

/-- COPY (R283). -/
def execCopy (i : Nat) (e : HwErr) (s : State) : Res := runDesc s i 0x00 e copyEff

/-- FILL's effect. -/
def fillEff (d : Desc) (s : State) : State :=
  mvFinish s d (mfill (opMem s d (df d 32 1) (mvDstLoft d)) (mvDst d) (df d 56 8) (mvLen d) 0)

/-- FILL (R283). -/
def execFill (i : Nat) (e : HwErr) (s : State) : Res := runDesc s i 0x01 e fillEff

/-- SCRUB's effect (R498); a read-back that differs is its hardware error (R283). -/
def scrubEff (d : Desc) (s : State) : State :=
  mvFinish s d (scrubWords (opMem s d (df d 32 1) (mvDstLoft d)) (mvDst d) (mvLen d / 8))

/-- SCRUB (R283). -/
def execScrub (i : Nat) (e : HwErr) (s : State) : Res := runDesc s i 0x02 e scrubEff

end Sys2Proof.Machine
end

