-- ==== Sys2Proof/Machine/Endpoint.lean ====
section
/-!
DEFINITION. Endpoints, protection domains, keys and regions (chapter 12): streams and slots on receipt,
the flush of an endpoint, key retirement, the object record's commands and the endpoint doorbells.
Nothing here reads a packet; that is Machine/Wire.lean.
-/

namespace Sys2Proof.Machine

open Sys2Proof

/-- ADMISSION, PINNED and RECORD_WRITES of EP_FLAGS (R371, R382). -/
def isAdmission (x : Ep) : Bool := bit x.flags 0
/-- PINNED. -/
def isPinned (x : Ep) : Bool := bit x.flags 1
/-- RECORD_WRITES. -/
def recordsWrites (x : Ep) : Bool := bit x.flags 2

/-- The endpoint is allocated: READY or ERROR (R372). -/
def epLive (x : Ep) : Bool := x.st == 1 || x.st == 2

/-! ### Residence (R398 to R401) -/

/-- Resident endpoints of a die, least recently used first. -/
def residents (s : State) (die : Nat) : List Nat := tget s.lru [] die

/-- An endpoint becomes the most recently used of its die. -/
def touchEp (s : State) (e : Nat) : State :=
  { s with lru := tset s.lru [] (homeDie e) ((residents s (homeDie e)).filter (· != e) ++ [e]) }

/-- An endpoint's context enters the cache. -/
def makeResident (s : State) (e : Nat) : State :=
  touchEp (setEp s e { epOf s e with resident := true, fetching := false }) e

/-- An endpoint's context leaves the cache. -/
def dropResident (s : State) (e : Nat) : State :=
  let s1 := setEp s e { epOf s e with resident := false, fetching := false }
  { s1 with lru := tset s1.lru [] (homeDie e) ((residents s1 (homeDie e)).filter (· != e)) }

/-- The cache of a die has room (R398). -/
def cacheRoom (s : State) (die : Nat) : Bool := decide ((residents s die).length < 8192)

/-- A fetch of an endpoint's context starts (R399). -/
def startFetch (s : State) (e : Nat) : State := setEp s e { epOf s e with fetching := true }

/-- Packets parked on a die. -/
def parkedOn (s : State) (die : Nat) : List Pkt := tget s.parked [] die

/-- Drop the parked packets that pass p, counted with the drops of the parking timeout (R401, R402, R513). -/
def dropParked (s : State) (die : Nat) (p : Pkt → Bool) : State :=
  let gone := (parkedOn s die).filter p
  addE { s with parked := tset s.parked [] die ((parkedOn s die).filter (fun k => !p k)) } ePrkDropTimeout 0 gone.length

/-- LOCAL_EP of a transport descriptor (R385). -/
def localEp (d : Desc) : Nat := df d 32 5 % 2 ^ 18

/-- The endpoint may be evicted (R400). -/
def evictable (s : State) (e : Nat) : Bool :=
  (epOf s e).resident && !isPinned (epOf s e) && !(parkedOn s (homeDie e)).any (fun k => k.dstEp == e) &&
    !s.descs.any (fun d => isTransport (dOp d) && localEp d == e && !d.started.isEmpty)

/-- Seal the image and write it to the backing table (R400). The image is not readable; its contents stay
in the endpoint's record. -/
def evictEp (s : State) (e : Nat) : State :=
  let s1 := dropResident s e
  bumpE (setEp s1 e { epOf s1 e with evictions := (epOf s1 e).evictions + 1 }) eEpcEvictions 0

/-- ENDPOINT_EVICTION (R400): the least recently used evictable endpoint of the die. -/
def execEndpointEviction (die : Nat) (s : State) : Res :=
  if s.pwr.frozen then .next s else
  match (residents s die).find? (evictable s) with
  | none => .next s
  | some e => .next (evictEp s e)

/-! ### Receive streams and slots (R388 to R394) -/

/-- Mark a message of a receive stream settled and move NEXT_SEQ past every settled one (R390). -/
def settleRx (s : State) (e key peer seq : Nat) : State :=
  match strmOf s e key peer with
  | none => s
  | some x =>
    let l := seq :: x.settled
    let next := advancePast l.length x.nextSeq l
    setStrm s e { x with
      nextSeq := next
      settled := l.filter (fun q => decide (next < q)) }

/-- A message leaves the receiver undelivered: its slot and its reserved record return (R393, R394). -/
def dropRx (s : State) (x : RxMsg) : State :=
  let s1 := { s with rxs := s.rxs.filter (fun y => y.id != x.id) }
  let p := epOf s1 x.hdr.dstEp
  setEp s1 x.hdr.dstEp { p with
    slots := if x.slot < 4096 then tset p.slots 0 x.slot 0 else p.slots
    recFree := p.recFree + b2n x.hasRec }

/-- End a message at an ordinary endpoint: it is settled, and dropped without delivery (R390, R396). A
READ_RESP is numbered by its request and settles nothing (DEDUCED, log 44). -/
def endRx (s : State) (x : RxMsg) : State :=
  let s1 := if x.hdr.ty = 4 then s else settleRx s x.hdr.dstEp x.hdr.keyId x.hdr.srcEp x.hdr.msgSeq
  dropRx s1 x

/-- Send a STATUS for a message (R358). -/
def sendStatus (s : State) (k : Pkt) (code idx : Nat) : State := 
  sendCtl s k.keyId (fun c => .status k.keyId k.srcEp k.dstEp c k.msgSeq code idx)

/-- The READ_REQ in progress that a READ_RESP answers. -/
def readOf (s : State) (k : Pkt) : Option TxMsg :=
  s.txs.find? (fun t => t.hdr.ty == 3 && t.ep == k.dstEp && t.hdr.keyId == k.keyId && t.hdr.dstEp == k.srcEp &&
    t.hdr.msgSeq == k.msgSeq)

/-- End the ST_READ whose response was ended, with the same status (DEDUCED, log 54). -/
def failRead (s : State) (k : Pkt) (st : Nat) : State :=
  if k.ty = 4 then
    match readOf s k with
    | some t => completeAll s (fun d => d.id == t.desc) st
    | none => s
  else s

/-! ### Errors and flushing (R396) -/

/-- A transport descriptor of endpoint e. -/
def descOfEp (s : State) (e : Nat) (d : Desc) : Bool :=
  isTransport (dOp d) && localEp d == e && d.fn == (epOf s e).owner

/-- Undelivered messages of an endpoint are settled without delivery; a contribution that the Turnstile has
admitted is its own, and ends as R418 lists (DEDUCED, log 45). -/
def flushRx (s : State) (e : Nat) : State :=
  (s.rxs.filter (fun x => x.hdr.dstEp == e && x.con.isNone)).foldl (fun s x =>
    if isAdmission (epOf s e) then reverseOne s x else endRx s x) s

/-- The flush (R396): descriptors not started, descriptors sending, messages held undelivered. -/
def flushEp (s : State) (e : Nat) : State :=
  let s1 := completeAll s (descOfEp s e) stFlushed
  let s2 := (s1.txs.filter (fun t => t.ep == e)).foldl dropTx s1
  flushRx s2 e

/-- An endpoint enters ERROR and flushes (R372, R396). -/
def epError (s : State) (e : Nat) : State :=
  if (epOf s e).st = 1 then flushEp (setEp s e { epOf s e with st := 2 }) e else s

/-- Endpoints that pass p, rising. -/
def epsWhere (s : State) (p : Ep → Bool) : List Nat := tkeys (s.eps.filter (fun x => p x.2))

/-! ### Keys (R375 to R377) -/

/-- The generation of a context memory key. -/
def ctxKeyGenOf (s : State) (n : Nat) : Nat := tget s.ctxKeyGen 0 n

/-- A PARTNER or DEALER session ends: its PEER_STATE bit clears (R189). -/
def clearPeerBit (s : State) (x : Key) : State :=
  if x.kind = 3 then
    let b := if x.peerHash = cfgE s ePeer1Key x.ctx then 0 else 1
    wrE s ePeerState x.ctx (putBit (rdE s ePeerState x.ctx) b false)
  else if x.kind = 4 then wrE s ePeerState x.ctx (putBit (rdE s ePeerState x.ctx) 2 false)
  else s

/-- Every stream of a key ends; messages being sent and undelivered ones of ordinary endpoints under it end with it
(R377, R388). Contributions half received are reversed later (R431). -/
def endStreams (s : State) (k : Nat) : State :=
  let s1 := (s.rxs.filter (fun x => x.hdr.keyId == k && !isAdmission (epOf s x.hdr.dstEp))).foldl dropRx s
  { s1 with
    txs := s1.txs.filter (fun t => t.hdr.keyId != k)
    eps := s1.eps.map (fun e =>
      (e.1, { e.2 with streams := e.2.streams.filter (fun x => x.key != k) })) }

/-- Retire one key (R377): its streams end and every descriptor sending under it completes with
GENERATION. -/
def retireKey (s : State) (k : Nat) : State :=
  let x := keyOf s k
  if x.st ≠ 1 then s
  else
    let s1 := completeAll s (fun d => isTransport (dOp d) && df d 38 2 == k && !d.started.isEmpty) stGeneration
    let s2 := endStreams s1 k
    clearPeerBit (setKey s2 k { x with st := 2, quar := true }) x

/-- ADVANCE_CTX_KEY (R377): every key of the context is RETIRED at once. -/
def advanceCtxKey (s : State) (n : Nat) : State :=
  let ks := tkeys (s.keys.filter (fun k => k.2.st == 1 && k.2.ctx == n && k.2.kind != 7))
  let s1 := ks.foldl retireKey s
  { s1 with ctxKeyGen := tset s1.ctxKeyGen 0 n ((ctxKeyGenOf s1 n + 1) % 65536) }

/-- A key passes order 3 of R352 for an endpoint (R376). -/
def keyPasses (s : State) (k gen e : Nat) : Bool :=
  let x := keyOf s k
  let p := epOf s e
  x.st == 1 && x.gen == gen && x.ctxGen == ctxKeyGenOf s x.ctx && epLive p && x.pd == p.pd && x.owner == p.owner

/-- KEY_QUARANTINE_EXPIRY (R377, R503): 2 ms after its retirement the KEY_ID may be installed again. -/
def execKeyQuarantineExpiry (k : Nat) (s : State) : Res :=
  if s.pwr.frozen then .next s else
  if (keyOf s k).st = 2 then .next (setKey s k { gen := (keyOf s k).gen }) else .next s

/-! ### Regions (R378 to R381) -/

/-- Every byte of a range lies in a region that is allocated and not empty (R379). -/
def inRegion (r : Region) (a len : Nat) : Bool :=
  r.st == 1 && decide (r.base ≤ r.limit) && (len == 0 || decide (r.base ≤ a ∧ a + len ≤ r.limit + 1))

/-- The range overlaps the context area, the mask workspace, the Shared workspace or the key-share area
as configured (R380). -/
def overlapsSecret (s : State) (n a len : Nat) : Bool :=
  overlaps a len (areaBase s n) (cfgE s eAreaSize n) || overlaps a len (cfgE s eWorkBase n) (cfgE s eWorkSize n) ||
    overlaps a len (cfgE s eShWorkBase n) (cfgE s eShWorkSize n) ||
    (cfgE s eKeySetId n != 0 && (List.range (diesE s n).length).any (fun k =>
      overlaps a len (cfgE s eKeyshareBase n + k * cfgE s eKeysetStride n) (kib64 (4 * ksOrd s n * 2 ^ ksLogN s n))))

/-- End every undelivered message of a region with STATUS GENERATION (R381). -/
def endRegionMsgs (s : State) (r : Nat) : State :=
  (s.rxs.filter (fun x => x.hdr.region == r && (x.hdr.ty == 1 || x.hdr.ty == 4) &&
      !isAdmission (epOf s x.hdr.dstEp))).foldl (fun s x =>
    failRead (endRx (sendStatus s x.hdr stGeneration 0xFFFFFFFF) x) x.hdr stGeneration) s

/-- ADVANCE of a region (R381). -/
def advanceRegion (s : State) (r : Nat) : State :=
  let s1 := endRegionMsgs s r
  setRegion s1 r { regionOf s1 r with gen := ((regionOf s1 r).gen + 1) % 65536 }

/-! ### The object record (R382, R383) -/

/-- Number of objects of a kind. -/
def objCount (kind : Nat) : Nat := if kind = 1 then 1024 else if kind = 3 then 262144 else 65536

/-- The command is defined for the kind: CREATE of a key, MODIFY of a domain or a key, ADVANCE for other
than a region and RETIRE for other than a key are not (R382; DEDUCED, log 46 for MODIFY). -/
def objDefined (code kind : Nat) : Bool :=
  if code = 1 then kind != 4
  else if code = 2 then kind == 2 || kind == 3
  else if code = 4 then kind == 2
  else if code = 6 then kind == 4
  else true

/-- State of an object: 0 FREE, 1 in use (an endpoint READY, a key LIVE), else as its own record. -/
def objSt (s : State) (kind i : Nat) : Nat :=
  if kind = 1 then (tget s.pds {} i).st
  else if kind = 2 then (regionOf s i).st
  else if kind = 3 then (epOf s i).st
  else (keyOf s i).st

/-- Owner of an object. -/
def objOwner (s : State) (kind i : Nat) : Nat :=
  if kind = 1 then (tget s.pds {} i).owner
  else if kind = 2 then (regionOf s i).owner
  else if kind = 3 then (epOf s i).owner
  else (keyOf s i).owner

/-- The function owns the object: allocated to it, and not in quarantine but for a retired key. -/
def ownsObj (s : State) (f kind i : Nat) : Bool :=
  objOwner s kind i == f &&
    (if kind = 3 then epLive (epOf s i) else if kind = 4 then objSt s kind i != 0 else objSt s kind i == 1)

/-- Objects of a kind that a function holds; the key of a management session is the module's. -/
def objHeld (s : State) (f kind : Nat) : Nat :=
  if kind = 1 then (s.pds.filter (fun x => x.2.st == 1 && x.2.owner == f)).length
  else if kind = 2 then (s.regions.filter (fun x => x.2.st == 1 && x.2.owner == f)).length
  else if kind = 3 then (s.eps.filter (fun x => epLive x.2 && x.2.owner == f)).length
  else (s.keys.filter (fun x => x.2.st == 1 && x.2.owner == f && x.2.kind != 7)).length

/-- Quota of a function for a kind (R490). -/
def objQuota (s : State) (f kind : Nat) : Nat :=
  if kind = 1 then rdE s eQuotaPd f
  else if kind = 2 then rdE s eQuotaRegions f
  else if kind = 3 then rdE s eQuotaEndpoints f
  else rdE s eQuotaKeys f

/-- PINNED endpoints of a die. -/
def pinnedOn (s : State) (die : Nat) : Nat :=
  (s.eps.filter (fun x => epLive x.2 && isPinned x.2 && homeDie x.1 == die)).length

/-- CREATE's own checks (R373, R380, R382, R400, R491, R518): not FREE, quota, a die out of service or too
many PINNED are POLICY_REFUSED; a foreign domain or context and a forbidden overlap are ACCESS. -/
def objCreateCheck (s : State) (f kind i : Nat) : Option Nat :=
  if objSt s kind i != 0 || decide (objQuota s f kind ≤ objHeld s f kind) then some stPolicy
  else if kind = 1 then none
  else if !ownsObj s f 1 (rdE s eObjPd f) || !ctxLive s f (rdE s eObjContext f) then some stAccess
  else if kind = 2 then
    let a := rdE s eRegionBase f
    let z := rdE s eRegionLimit f + 1 - a
    if bit (rdE s eRegionAccess f) 2 && overlapsSecret s (rdE s eObjContext f) a z then some stAccess else none
  else if !inService s (homeDie i) || (bit (rdE s eEpFlags f) 1 && decide (4096 ≤ pinnedOn s (homeDie i))) then
    some stPolicy
  else none

/-- The staged fields of a region. -/
def stagedRegion (s : State) (f : Nat) (r : Region) : Region :=
  { r with
    base := rdE s eRegionBase f
    limit := rdE s eRegionLimit f
    access := rdE s eRegionAccess f
    sigCtr := rdE s eSignalCounter f
    sigInc := rdE s eSignalIncrement f }

/-- The staged fields of an endpoint's rings. -/
def stagedEp (s : State) (f : Nat) (x : Ep) : Ep :=
  { x with
    rxqRegion := rdE s eRxqRegion f
    rxqDepth := rdE s eRxqDepth f
    slotRegion := rdE s eSlotRegion f
    slotSize := rdE s eSlotSize f
    slotCount := rdE s eSlotCount f }

/-- CREATE's effect (R382); an endpoint is born resident while the cache has room (DEDUCED, log 47). A region keeps
the generation its index last had (DEDUCED, log 48). -/
def objCreate (s : State) (f kind i : Nat) : State :=
  if kind = 1 then { s with pds := tset s.pds {} i { st := 1, owner := f } }
  else if kind = 2 then
    let r := stagedRegion s f { st := 1, owner := f, ctx := rdE s eObjContext f, pd := rdE s eObjPd f, gen := (regionOf s i).gen }
    wrE (setRegion s i r) eObjGen f r.gen
  else
    let x := stagedEp s f { st := 1, owner := f, ctx := rdE s eObjContext f, pd := rdE s eObjPd f, flags := rdE s eEpFlags f, evictions := (epOf s i).evictions }
    let s1 := wrE (setEp s i { x with recFree := x.rxqDepth }) eEpLock 0 1
    if cacheRoom s (homeDie i) then makeResident s1 i else s1

/-- MODIFY's checks and effect (R380, R382, R400): an endpoint keeps its kind, context and domain; a
region its context, domain and GEN. -/
def objModify (s : State) (f kind i : Nat) : Nat × State :=
  if kind = 2 then
    let r := stagedRegion s f (regionOf s i)
    if bit r.access 2 && overlapsSecret s r.ctx r.base (r.limit + 1 - r.base) then (stAccess, s)
    else (stOk, setRegion s i r)
  else
    let x := epOf s i
    let fl := rdE s eEpFlags f
    if bit fl 1 && !isPinned x && decide (4096 ≤ pinnedOn s (homeDie i)) then (stPolicy, s)
    else
      let y := stagedEp s f { x with flags := putBit fl 0 (isAdmission x) }
      (stOk, setEp s i { y with recFree := y.rxqDepth - (x.rxqDepth - x.recFree) })

/-- Take an endpoint through ERROR and its flush, retire its streams, free its slots, and put it in
QUARANTINE (R397); its parked packets, those that wait for a packet 0 among them, are dropped and counted
(R402, R413). -/
def destroyEp (s0 : State) (e : Nat) : State :=
  let early := s0.rxs.filter (fun x => x.hdr.dstEp == e && isAdmission (epOf s0 e) && !x.held.contains 0)
  let s := addE s0 ePrkDropTimeout 0 (early.map (fun x => x.held.length)).sum
  let s1 := dropResident (flushEp (setEp s e { epOf s e with st := 2 }) e) e
  let s2 := dropParked s1 (homeDie e) (fun k => k.dstEp == e)
  setEp s2 e { st := 3, owner := (epOf s2 e).owner, evictions := (epOf s2 e).evictions }

/-- A region, a live endpoint or a LIVE key names the protection domain (R382). -/
def pdNamed (s : State) (i : Nat) : Bool :=
  s.regions.any (fun x => x.2.st == 1 && x.2.pd == i) || s.eps.any (fun x => epLive x.2 && x.2.pd == i) ||
    s.keys.any (fun x => x.2.st == 1 && x.2.pd == i)

/-- DESTROY (R373, R378, R382, R397). -/
def objDestroy (s : State) (kind i : Nat) : Nat × State :=
  if kind = 1 then
    if pdNamed s i then (stPolicy, s)
    else (stOk, { s with pds := tset s.pds {} i { tget s.pds {} i with st := 2 } })
  else if kind = 2 then
    let s1 := endRegionMsgs s i
    (stOk, setRegion s1 i { regionOf s1 i with st := 2 })
  else if kind = 3 then (stOk, destroyEp s i)
  else (stOk, retireKey s i)

/-- KEY_PEER (R382). -/
def keyPeer (x : Key) : Nat :=
  let form := if x.st = 0 then 0 else x.form
  form + 2 ^ 16 * (if form = 1 then x.peer else if form = 2 then x.peerPort else 0) +
    2 ^ 32 * (if form = 2 then x.peer % 2 ^ 128 else 0) + 2 ^ 160 * x.peerTclass + 2 ^ 176 * x.pd

/-- QUERY (R382): GEN and KEY_PEER; OBJ_STATE follows every accepted command. -/
def objQuery (s : State) (f kind i : Nat) : State :=
  if kind = 2 then wrE s eObjGen f (regionOf s i).gen
  else if kind = 4 then wrE (wrE s eObjGen f (keyOf s i).gen) eKeyPeer f (keyPeer (keyOf s i)) else s

/-- Checks 1 to 4 of R382; a QUERY also reads an endpoint in QUARANTINE (DEDUCED, log 88). -/
def objCheck (s : State) (f code kind i : Nat) : Option Nat :=
  if !(decide (1 ≤ kind ∧ kind ≤ 4)) || !decide (i < objCount kind) then some stParam
  else if !objDefined code kind then some stUnsupported
  else if code != 1 && !(ownsObj s f kind i || (code == 5 && kind == 3 && objSt s 3 i == 3 && objOwner s 3 i == f)) then some stAccess
  else none

/-- A command of the object record by function f: status and effect (R382). -/
def objAct (f code : Nat) (s : State) : Nat × State :=
  let kind := rdE s eObjKind f
  let i := rdE s eObjIndex f
  if code = 7 then
    let n := rdE s eObjContext f
    if ctxLive s f n then (stOk, advanceCtxKey s n) else (stAccess, s)
  else match objCheck s f code kind i with
    | some st => (st, s)
    | none =>
      if code = 1 then (match objCreateCheck s f kind i with | some st => (st, s) | none => (stOk, objCreate s f kind i))
      else if code = 2 then objModify s f kind i
      else if code = 3 then objDestroy s kind i
      else if code = 4 then (stOk, wrE (advanceRegion s i) eObjGen f (((regionOf s i).gen + 1) % 65536))
      else if code = 5 then (stOk, objQuery s f kind i)
      else (stOk, retireKey s i)

/-- OBJ_STATE after an accepted command on an endpoint or a key (R382, DEDUCED, log 88). -/
def showObj (f code : Nat) (r : Nat × State) : State :=
  let kind := rdE r.2 eObjKind f
  if r.1 = stOk ∧ code ≠ 7 ∧ 3 ≤ kind then wrE r.2 eObjState f (objSt r.2 kind (rdE r.2 eObjIndex f)) else r.2

/-- The rule of OBJ_COMMAND (R382): the status also stands in OBJ_RESULT. -/
def objRule (f code : Nat) (s : State) : Nat × State :=
  let r := objAct f code s
  (r.1, wrE (showObj f code r) eObjResult f r.1)

/-- OBJECT_QUARANTINE_EXPIRY (R373, R378, R503): 2 ms after its DESTROY a protection domain (kind 1) or a
region (kind 2) is FREE. A region's generation goes on. -/
def execObjectQuarantineExpiry (kind i : Nat) (s : State) : Res :=
  if s.pwr.frozen then .next s else
  if kind = 1 ∧ (tget s.pds {} i).st = 2 then .next { s with pds := tset s.pds {} i {} }
  else if kind = 2 ∧ (regionOf s i).st = 2 then .next (setRegion s i { gen := ((regionOf s i).gen + 1) % 65536 })
  else .next s

/-- ENDPOINT_QUARANTINE_EXPIRY (R372). -/
def execEndpointQuarantineExpiry (e : Nat) (s : State) : Res :=
  if s.pwr.frozen then .next s else
  if (epOf s e).st = 3 then .next (setEp s e { evictions := (epOf s e).evictions }) else .next s

/-! ### Endpoint doorbells (R384) -/

/-- A doorbell access by function f to endpoint e: discarded where BAR0 does not answer, counted in
EP_FOREIGN where the function does not own it. -/
def doorbell (f e : Nat) (s : State) (eff : State → State) : Res :=
  if !(bar0Up s f && decide (e < 262144)) then .next s
  else if !(epLive (epOf s e) && (epOf s e).owner == f) then .next (bumpE s eEpForeign f)
  else .next (eff s)

/-- RESUME (R384): ERROR to READY, the flush being complete. -/
def execResume (f e : Nat) (s : State) : Res :=
  doorbell f e s (fun s => if (epOf s e).st = 2 then setEp s e { epOf s e with st := 1 } else s)

/-- ERROR (R384, R396). -/
def execError (f e : Nat) (s : State) : Res := doorbell f e s (fun s => epError s e)

/-- EVICT (R384, R400). -/
def execEvict (f e : Nat) (s : State) : Res :=
  doorbell f e s (fun s => if evictable s e then evictEp s e else s)

/-- RECYCLE (R384, R393, R402): a taken slot returns once its record is written. -/
def execRecycle (f e slot : Nat) (s : State) : Res :=
  doorbell f e s (fun s =>
    if tget (epOf s e).slots 0 slot = 2 then
      setEp s e { epOf s e with slots := tset (epOf s e).slots 0 slot 0 }
    else s)

/-- RECORD_FREE (R384, R394): at most as many records as software has not yet returned. -/
def execRecordFree (f e count : Nat) (s : State) : Res :=
  doorbell f e s (fun s =>
    let p := epOf s e
    let k := min count p.recOut
    setEp s e { p with recFree := p.recFree + k, recOut := p.recOut - k })

end Sys2Proof.Machine
end

