-- ==== Sys2Proof/Machine/Turnstile.lean ====
section
/-!
DEFINITION. The Turnstile's part in contributions (chapter 13): the admission of packet 0 (R413 to R415),
speculative rows (R416, R258), commit (R417), reversal (R418) and patrol reads (R423, R424).
-/

namespace Sys2Proof.Machine

open Sys2Proof

/-- Store a message being received, replacing the one with its identifier. -/
def putRx (s : State) (x : RxMsg) : State :=
  if s.rxs.any (fun y => y.id == x.id) then { s with rxs := mapIf (fun y => y.id == x.id) (fun _ => x) s.rxs }
  else { s with rxs := s.rxs ++ [x] }

/-- The message being received with identifier i. -/
def rxOf (s : State) (i : Nat) : Option RxMsg := s.rxs.find? (fun x => x.id == i)

/-- A field of the contribution's header page (R412). -/
def hf (x : RxMsg) (off len : Nat) : Nat := mrd x.data off len

/-- The context of the session under which a message arrives. -/
def rxCtx (s : State) (x : RxMsg) : Nat := (keyOf s x.hdr.keyId).ctx

/-! ### Sizes -/

/-- Bytes of one row of a contribution's data: BF16 or FP32 elements for Clear-Float (R412). -/
def conRowSize (s : State) (n mode width : Nat) : Nat :=
  if mode = mdClearFloat then 128 * width else conRowBytes s n mode

/-- DATA_BYTES of the mode for the round (R412, R413). -/
def conBytes (s : State) (n mode width : Nat) : Nat :=
  if mode = mdSealed then ctsE s n * ctSlot s n else rowsE s n * conRowSize s n mode width

/-- WIDTH equals the round copy (R412, R413). -/
def conWidthOk (s : State) (n mode width : Nat) : Bool :=
  if mode = mdClearInt then width == cfgE s eContribBits n
  else if mode = mdClearFloat then width == 16 || width == 32
  else if mode = mdMasked then width == cfgE s eLaneWidth n
  else if mode = mdShared then width == 32
  else width == 0

/-- Bytes of a contribution that die position k rings (R415). -/
def conDieBytes (s : State) (n mode width k : Nat) : Nat :=
  if mode = mdSealed then ctsOfPos s n k * ctSlot s n else rowsOfPos s n k * conRowSize s n mode width

/-- Ring bytes that admitted contributions hold on a die, of every function or of one. -/
def ringHeld (s : State) (die : Nat) (p : Nat → Bool) : Nat :=
  (s.rxs.map (fun x => match x.con with
    | some c => if (diesE s c.ctx).contains die && p (cx s c.ctx).owner then
        conDieBytes s c.ctx c.mode (hf x 2 1) (posOf s c.ctx die) else 0
    | none => 0)).sum

/-- Every ring that owns rows has room: 2 GiB in all and 1 GiB for one function (R415). -/
def ringRoom (s : State) (n mode width : Nat) : Bool :=
  (diesE s n).all (fun die =>
    let need := conDieBytes s n mode width (posOf s n die)
    decide (ringHeld s die (fun _ => true) + need ≤ 2147483648 ∧
      ringHeld s die (fun f => f == (cx s n).owner) + need ≤ 1073741824))

/-! ### Admission (R413, R414, R231) -/

/-- A slot of cohort k is pending. -/
def leastPending (s : State) (n k : Nat) : Option Nat :=
  let c := cohortSize s n
  let l := (cx s n).pendingSlots.filter (fun x => x / c == k)
  if l.isEmpty then none else some (leastOr 0 l)

/-- The slot that an OPEN Clear-Float cohort offers: its lowest unassigned one, if its leaf window admits it
(R231). -/
def cohortOffer (s : State) (n k : Nat) : Option Nat :=
  let c := cohortOf s n k
  let size := cohortSize s n
  let next := k * size + c.assigned.length
  let unfolded := (leastPending s n k).getD next
  if c.assigned.length < size ∧ next < unfolded + cfgE s eFloatWindow n then some next else none

/-- An OPEN Clear-Float cohort with a slot left to assign. -/
def floatOpen (s : State) (n k : Nat) : Bool :=
  let c := cohortOf s n k
  c.mode == mdClearFloat && c.st == .opened && decide (c.assigned.length < cohortSize s n)

/-- The slot assigned to an admitted Clear-Float message (R47, R231), in a cohort that was OPEN when its first
packet arrived (R49). -/
def floatSlot (s : State) (n : Nat) (was : List Nat) : Option Nat :=
  ((tkeys (cx s n).cohorts).filter (fun k => floatOpen s n k && was.contains k)).findSome? (cohortOffer s n)

/-- The cohorts of a context that are OPEN. -/
def openCohorts (s : State) (n : Nat) : List Nat := tkeys ((cx s n).cohorts.filter (fun c => c.2.st == .opened))

/-- Order 4 of R413: the mode is permitted and the slot lies in a cohort of the mode that was OPEN when the
first packet arrived; for Clear-Float some such cohort has a slot left to assign (DEDUCED, log 49). -/
def conCohortOk (s : State) (n : Nat) (x : RxMsg) : Bool :=
  let mode := hf x 1 1
  bit (rdE s ePermittedModes n) mode &&
    (if mode = mdClearFloat then x.firstOpen.any (floatOpen s n)
     else decide (hf x 8 4 < 2097152) && x.firstOpen.contains (hf x 8 4 / cohortSize s n) &&
       (cohortOf s n (hf x 8 4 / cohortSize s n)).mode == mode)

/-- The checks of packet 0 in their order (R413). -/
def takeCheck (s : State) (x : RxMsg) : Option Nat :=
  let n := rxCtx s x
  let k := keyOf s x.hdr.keyId
  let mode := hf x 1 1
  if hf x 3 1 != 0 || hf x 20 44 != 0 || mrd x.data 64 4032 != 0 || decide (4 < mode) ||
      ((hf x 8 4 == 0xFFFFFFFF) != (mode == mdClearFloat)) then some stUnsupported
  else if k.kind != 1 || (!k.keyed && (decide (mode ≤ 1) || rdE s eAnonContrib n == 0)) then some stPolicy
  else if hf x 4 4 != rdE s eRoundNumber n || x.firstRound != rdE s eRoundNumber n || !x.roundOpen ||
      !(roundSt s n == rsOpen || roundSt s n == rsClosing) then some stGeneration
  else if !conCohortOk s n x then some stPolicy
  else if !conWidthOk s n mode (hf x 2 1) || hf x 12 8 != conBytes s n mode (hf x 2 1) ||
      x.hdr.msgPkts != 1 + cdiv (hf x 12 8) 4096 then some stParam
  else if mode != mdClearFloat && ledgerBit s n (hf x 8 4) then some stDuplicate
  else none

/-- A contribution takes its slot: a pending mark (R414), an uncommitted count, and for Clear-Float the
assignment (R231). -/
def takeSlot (s : State) (x : RxMsg) (slot : Nat) : State :=
  let n := rxCtx s x
  let k := slot / cohortSize s n
  let c := cohortOf s n k
  let s1 := setCohort s n k { c with
    uncommitted := c.uncommitted + 1
    assigned := if c.mode = mdClearFloat then c.assigned ++ [slot] else c.assigned }
  let s2 := setCx s1 n { cx s1 n with pendingSlots := (cx s1 n).pendingSlots ++ [slot] }
  settleAll (putRx s2 { x with
    checked := true
    con := some { ctx := n, cohort := k, slot := slot, mode := hf x 1 1, dataBytes := hf x 12 8 } }) n

/-- Admission of packet 0 (R413 to R415): a refusal is kept until the tag verifies; a packet that meets a
pending slot, a full window or a full ring is dropped, which leaves the message as it was (x0). -/
def takePacket0 (s : State) (x0 x : RxMsg) : State :=
  let n := rxCtx s x
  let mode := hf x 1 1
  match takeCheck s x with
  | some st => settleAll (putRx s { x with checked := true, refusal := st }) n
  | none =>
    let kept := if x0.held.isEmpty then s else putRx s x0
    match (if mode = mdClearFloat then floatSlot s n x.firstOpen else some (hf x 8 4)) with
    | none => bumpE kept eFloatWindowFull n
    | some slot =>
      if (cx s n).pendingSlots.contains slot then bumpE kept eSlotPending 0
      else if !ringRoom s n mode (hf x 2 1) then bumpE kept eRingFull 0
      else takeSlot s x slot

/-! ### Speculative rows (R258, R416) -/

/-- Uncommitted contributions with words in a row of a cohort. -/
def specCount (s : State) (n k r : Nat) : Nat :=
  (s.rxs.filter (fun x => match x.con with
    | some c => c.ctx == n && c.cohort == k && c.added.any (fun p => p / 4 == r)
    | none => false)).length

/-- The array of Thatch that stages global row r: the parity of its local row (DEDUCED, log 50). -/
def stageArray (s : State) (n r : Nat) : Nat := r / (roundDies s n).length % 2

/-- The staging rows of an array, lowest first (R218). -/
def stagingRows (s : State) (n die a : Nat) : List Nat :=
  (List.range (rcE s eStageTiles n)).flatMap (fun t =>
    (List.range 64).map (fun x => die * 6144 + a * 3072 + (rcE s eTileFirst n + t) * 64 + x))

/-- The cohort and global row that a staging row holds, while its cohort is live. -/
def stagedAt (s : State) (n key : Nat) : Option (Nat × Nat) :=
  match tfind (cx s n).staged key with
  | none => none
  | some v => if coLive (cohortOf s n (v / 2 ^ 24)) then some (v / 2 ^ 24, v % 2 ^ 24) else none

/-- Nothing holds the staging row: it is free, or what it holds has count 0 and is written back first (R258). -/
def stageFree (s : State) (n key : Nat) : Bool :=
  match stagedAt s n key with
  | none => true
  | some v => specCount s n v.1 v.2 == 0

/-- A row of a mode can take the staging row: the row is free, and its tile has the mode's type or no row of it
is held (R221, R258). -/
def stageFits (s : State) (n mode key : Nat) : Bool :=
  let t := tget s.tiles {} (key / 64)
  stageFree s n key && ((t.ty == stageTy mode && t.laneW == stageW s n mode) ||
    (List.range 64).all (fun x => stageFree s n (key / 64 * 64 + x)))

/-- The staging row for row r of cohort k: the one that holds it, the lowest free one of its array, or the
lowest whose count is 0 (R258). -/
def stagePick (s : State) (n k r : Nat) : Option Nat :=
  let rows := stagingRows s n (rowDie (roundDies s n) r) (stageArray s n r)
  let fit := rows.filter (stageFits s n (cohortOf s n k).mode)
  match rows.find? (fun x => stagedAt s n x == some (k, r)) with
  | some x => some x
  | none => match fit.find? (fun x => (stagedAt s n x).isNone) with
    | some x => some x
    | none => fit.head?

/-- Row r of cohort k takes a staging row: what it held is written back, and a tile of another type is emptied
first (R221, R258). -/
def takeStage (s : State) (n k r key : Nat) : State :=
  let v := k * 2 ^ 24 + r
  let c := cx s n
  if tfind c.staged key = some v then s
  else
    let t := tget s.tiles {} (key / 64)
    let mode := (cohortOf s n k).mode
    let keep := t.ty == stageTy mode && t.laneW == stageW s n mode
    let old := c.staged.filter (fun x => x.2 != v && (keep || x.1 / 64 != key / 64))
    { setCx s n { c with staged := tput old key v } with
      tiles := tset s.tiles {} (key / 64) (if keep then t else {}) }

/-- Replace the contribution of a message. -/
def setCon (s : State) (i : Nat) (c : Contrib) : State :=
  { s with rxs := mapIf (fun x => x.id == i) (fun x => { x with con := some c }) s.rxs }

/-- A piece of a row whose bytes are held (row * 4 + piece): added into a staging row, or deferred (R416). -/
def specRow (i : Nat) (s : State) (rp : Nat) : State :=
  match rxOf s i with
  | none => s
  | some x => match x.con with
    | none => s
    | some c =>
      if c.added.contains rp || c.deferred.contains rp then s
      else match stagePick s c.ctx c.cohort (rp / 4) with
        | none => setCon s i { c with deferred := c.deferred ++ [rp] }
        | some key =>
          setCon (accAddPiece (takeStage s c.ctx c.cohort (rp / 4) key) c.ctx c.cohort c.mode x.data false rp) i
            { c with added := c.added ++ [rp] }

/-- The pieces of row r, of rb bytes: one, or three where a lane of 24 bits may straddle two packets. -/
def rowPieces (rb r : Nat) : List Nat :=
  if (rb * (r + 1) - 1) / 4096 = rb * r / 4096 then [4 * r] else [4 * r, 4 * r + 1, 4 * r + 2]

/-- The packets that carry the bytes of a piece are held. -/
def pieceHeld (x : RxMsg) (rb rp : Nat) : Bool :=
  let a := 1 + rb * (rp / 4) / 4096
  (rp % 4 == 2 || x.held.contains a) && (rp % 4 == 0 || x.held.contains (a + 1))

/-- The rows that packet k can complete; packet 0 completes none of its own but opens all. -/
def rowsTouched (s : State) (n rb k : Nat) : List Nat :=
  if k = 0 then List.range (rowsE s n)
  else
    let a := 4096 * (k - 1) / rb
    ((List.range ((4096 * k - 1) / rb + 1 - a)).map (· + a)).filter (fun r => decide (r < rowsE s n))

/-- Add what packet k of an admitted contribution brings (R416): Clear-Float waits in the leaf window and
Sealed in the ring. -/
def specAdd (s : State) (i k : Nat) : State :=
  match rxOf s i with
  | none => s
  | some x => match x.con with
    | none => s
    | some c =>
      if c.mode = mdClearFloat ∨ c.mode = mdSealed then s
      else
        let rb := conRowBytes s c.ctx c.mode
        let s1 := (((rowsTouched s c.ctx rb k).flatMap (rowPieces rb)).filter (pieceHeld x rb)).foldl (specRow i) s
        wrE s1 eSpecInflight c.ctx (specInflight s1 c.ctx)

/-! ### The end of reception -/

/-- The header of each ciphertext of a Sealed contribution (R172). -/
def sealedConCheck (s : State) (n : Nat) (x : RxMsg) : Option Nat :=
  let at_ (i off len : Nat) : Nat := mrd x.data (4096 + i * ctSlot s n + off) len
  let all (p : Nat → Bool) : Bool := (List.range (ctsE s n)).all p
  if !all (fun i => at_ i 4 4 == ksFld s n 0 4 4 && at_ i 8 8 == ksFld s n 0 8 8) then some stKey
  else if all (fun i => at_ i 0 1 == 0x43 && at_ i 1 1 == ksLogN s n && at_ i 2 1 == rdE s eTopLevel n &&
      at_ i 24 4 == levelDigest s n (rdE s eTopLevel n) && at_ i 28 4 == 1) then none
  else some stParam

/-- The session kind that may send a message type (R403, R411); none for an undefined type. -/
def typeKind (ty : Nat) : Option Nat :=
  if ty = 1 ∨ ty = 2 then some 2
  else if ty = 0x10 ∨ ty = 0x11 then some 3
  else if ty = 0x12 then some 4
  else if ty = 0x20 then some 1
  else if 0x30 ≤ ty ∧ ty ≤ 0x32 then some 5
  else none

/-- Remove a message from the receiver without more ado. -/
def forgetRx (s : State) (x : RxMsg) : State := { s with rxs := s.rxs.filter (fun y => y.id != x.id) }

/-- The DELIVERED ACK of a message that is whole (R357, R417). -/
def ackWhole (s : State) (x : RxMsg) : State :=
  sendCtl s x.hdr.keyId (fun c =>
    .ack x.hdr.keyId x.hdr.srcEp x.hdr.dstEp c x.hdr.msgSeq x.hdr.msgPkts x.hdr.msgPkts 0 x.echo x.ceSinceAck true)

/-- The answer to a message that is whole: the DELIVERED ACK, or a STATUS (R357, R358, R410). -/
def answerMsg (x : RxMsg) (s : State) (code : Nat) : State :=
  if code = stOk then ackWhole s x else sendStatus s x.hdr code 0xFFFFFFFF

/-- A segment as its bytes give it (R425); no field carries the sender's partner set, party and share digest: they are
this module's own, and a free value (DESIGN CHOICE, log 151). -/
def importIs (s : State) (n : Nat) (x : RxMsg) : ImportMsg :=
  { importOf x.data x.len with
    setId := cfgE s ePartnerSetId n
    party := cfgE s ePartyIndex n
    shareDigest := freshVal s }

/-- What a complete and verified message of a permitted type does: its own row's effect on its bytes (R106, R182,
R211, R334, R426, R428; DEDUCED, log 51). -/
def takeMsg (s : State) (x : RxMsg) : State :=
  let key := x.hdr.keyId
  let s1 := forgetRx s x
  let ty := hf x 0 1
  if ty = 1 then shareIn key (shareOf x.data x.len) (answerMsg x) s1
  else if ty = 2 then keyShareIn key (keyShareOf x.data x.len) (answerMsg x) s1
  else if ty = 0x10 ∨ ty = 0x11 then exchangeIn key (exchangeOf x.data x.len) (answerMsg x) s1
  else if ty = 0x12 then tripleIn key (tripleOfBytes x.data x.len) (answerMsg x) s1
  else if ty = 0x30 then importIn key (importIs s (rxCtx s x) x) (answerMsg x) (freshNext s1)
  else if ty = 0x31 then recombineIn key (ridgeOf x.data x.len) (answerMsg x) s1
  else rootDigestIn key (ridgeOf x.data x.len) (answerMsg x) s1

/-- A complete message at an ADMISSION endpoint (R410, R411): its tag is checked; a contribution that passed
waits for its commit; a message of another known type has the effect of its own row, on its bytes. -/
def finishAdmission (s : State) (x : RxMsg) : State :=
  if !x.tagOk then reverseOne (sendStatus (bumpE s eTagFails 0) x.hdr stIntegrity 0xFFFFFFFF) x
  else if x.refusal != 0 then forgetRx (sendStatus s x.hdr x.refusal 0xFFFFFFFF) x
  else match x.con with
    | some c =>
      (match (if c.mode = mdSealed then sealedConCheck s c.ctx x else none) with
      | some st => reverseOne (sendStatus s x.hdr st 0xFFFFFFFF) x
      | none => putRx s { x with verified := true })
    | none =>
      match typeKind (hf x 0 1) with
      | none => forgetRx (sendStatus s x.hdr stUnsupported 0xFFFFFFFF) x
      | some kind =>
        if kind = (keyOf s x.hdr.keyId).kind then takeMsg s x
        else forgetRx (sendStatus s x.hdr stPolicy 0xFFFFFFFF) x

/-! ### Commit (R417) -/

/-- The leaves of a Clear-Float contribution: BF16 widened to FP32 exactly (R229). -/
def leafWord (x : RxMsg) (j : Nat) : Nat :=
  if hf x 2 1 = 16 then mrd x.data (4096 + 2 * j) 2 * 65536 else mrd x.data (4096 + 4 * j) 4

/-- The check value of row r of a Clear-Float contribution: CRC-32C over its bytes (R420). -/
def leafCheck (x : RxMsg) (r : Nat) : Nat :=
  let b := if hf x 2 1 = 16 then 2048 else 4096
  crc32c (mbytes x.data (4096 + b * r) b)

/-- Put the leaves of a committed Clear-Float contribution into its cohort (R231). -/
def foldLeaves (s : State) (c : Contrib) (x : RxMsg) : State :=
  let co := cohortOf s c.ctx c.cohort
  setCohort s c.ctx c.cohort { co with
    acc := (List.range (elemsE s c.ctx)).foldl (fun a j => tset a 0 (c.slot * 2 ^ 33 + j) (leafWord x j)) co.acc
    chk := (List.range (rowsE s c.ctx)).foldl (fun t r => tset t 0 (c.slot * 2 ^ 23 + r) (leafCheck x r)) co.chk }

/-- The check value of chunk g of the limbs of ciphertext i of a Sealed contribution (R420). -/
def limbCheck (s : State) (n : Nat) (x : RxMsg) (i g : Nat) : Nat :=
  linCheckN (ordPrime s n (1024 * g / 2 ^ ksLogN s n % ksOrd s n)) (rowRead x.data (8192 + i * ctSlot s n + 4096 * g) 4)

/-- Add the limbs of a Sealed contribution and their check values into the cohort accumulator, modulo each limb's prime (R172). -/
def addSealed (s : State) (c : Contrib) (x : RxMsg) : State :=
  let n := c.ctx
  let co := cohortOf s n c.cohort
  let nn := 2 ^ ksLogN s n
  let l := ksOrd s n
  let one (acc : Tbl Nat) (i w : Nat) : Tbl Nat :=
    let key := i * 2 ^ 26 + w
    let q := ordPrime s n (w / nn % l)
    tset acc 0 key ((tget acc 0 key + mrd x.data (8192 + i * ctSlot s n + 4 * w) 4) % q)
  setCohort s n c.cohort { co with
    acc := (List.range (ctsE s n)).foldl (fun a i => (List.range (2 * l * nn)).foldl (fun a w => one a i w) a) co.acc
    chk := (List.range (ctsE s n)).foldl (fun t i => (List.range (2 * l * nn / 1024)).foldl (fun t g =>
      tset t 0 (i * 2 ^ 16 + g) (addMod (ordPrime s n (1024 * g / nn % l)) false (tget t 0 (i * 2 ^ 16 + g))
        (limbCheck s n x i g))) t) co.chk }

/-- The words that wait for the commit: deferred rows, leaves or limbs (R416). -/
def commitWords (s : State) (c : Contrib) (x : RxMsg) : State :=
  if c.mode = mdClearFloat then foldLeaves s c x
  else if c.mode = mdSealed then addSealed s c x
  else c.deferred.foldl (accAddPiece · c.ctx c.cohort c.mode x.data false ·) s

/-- The commit point and what follows it (R417). -/
def commitCon (s : State) (c : Contrib) (x : RxMsg) : State :=
  let n := c.ctx
  let s1 := setLedger (commitWords s c x) n c.slot
  let s2 := setCx s1 n { cx s1 n with pendingSlots := (cx s1 n).pendingSlots.filter (· != c.slot) }
  let co := cohortOf s2 n c.cohort
  let s3 := setCohort s2 n c.cohort { co with uncommitted := co.uncommitted - 1 }
  let s4 := bumpE (forgetRx s3 x) eCommitted n
  let s5 := wrE s4 eSpecInflight n (specInflight s4 n)
  ackWhole (actLed (settle s5 n c.cohort)) x

/-- CONTRIBUTION_COMMIT (R417): a verified contribution whose tag has passed. A memory error in an
accumulator fails the cohort and one in the ledger abandons the round (R424); another error ends the
contribution with INTEGRITY and reverses it. -/
def execContributionCommit (m : Nat) (e : HwErr) (s : State) : Res :=
  if s.pwr.frozen then .next s else
  match rxOf s m with
  | none => .next s
  | some x => match x.con with
    | none => .next s
    | some c =>
      if x.verified = false then .next s
      else if e = .none then .next (commitCon s c x)
      else
        let s1 := reverseOne (sendStatus (hwCount s e) x.hdr stIntegrity 0xFFFFFFFF) x
        let rec_ := ctxFault s c.ctx ftIntegrity stIntegrity 0 noUnit (rowDie (roundDies s c.ctx) 0 + 256 * c.cohort)
        match e with
        | .eccAccum _ => .next (failCohort (writeFault s1 rec_) c.ctx c.cohort stIntegrity)
        | .eccTotal _ => .next (tryAbandon (writeFault s1 rec_) c.ctx stAborted)
        | _ => .next s1

/-- MSG_IDLE_LIMIT_EXPIRY (R418): no packet has arrived for MSG_IDLE_LIMIT; the message is reversed and
forgotten, without an answer. -/
def execMsgIdleLimitExpiry (m : Nat) (s : State) : Res :=
  if s.pwr.frozen then .next s else
  match rxOf s m with
  | none => .next s
  | some x =>
    if (isAdmission (epOf s x.hdr.dstEp) || x.con.isSome) && !x.verified then .next (reverseOne s x) else .next s

/-! ### Patrol reads (R423, R424) -/

/-- PATROL_READ: corrected words are written back and counted; an uncorrectable word counts, writes an
INTEGRITY record, and fails the cohort or abandons the round it lies in. -/
def execPatrolRead (die corrected uncorrected : Nat) (site : EccSite) (s : State) : Res :=
  if s.pwr.frozen then .next s else
  let s1 := addE (addE s eEccCorrected 0 corrected) eEccUncorrected 0 uncorrected
  if uncorrected = 0 then .next s1
  else match site with
    | .cohort n k =>
      let s2 := writeFault s1 (ctxFault s1 n ftIntegrity stIntegrity 0 noUnit (die + 256 * k))
      .next (if coLive (cohortOf s2 n k) then failCohort s2 n k stIntegrity else s2)
    | .round n => .next (tryAbandon (writeFault s1 (ctxFault s1 n ftIntegrity stIntegrity 0 noUnit die)) n stAborted)
    | .other => .next (writeFault s1 (plainFault ftIntegrity stIntegrity 0 noUnit die))

end Sys2Proof.Machine
end

