-- ==== Sys2Proof/Machine/Wire.lean ====
section
/-!
DEFINITION. The Shuhal transport on the wire (chapters 11 and 12): checks and placement of arriving
packets, acknowledgements, delivery, sending with spraying, retransmission and rates, parking and
fetches, and the transport descriptors.
-/

namespace Sys2Proof.Machine

open Sys2Proof

/-! ### Headers (R344, R346, R349, R350) -/

/-- The SERVICE that a type permits (R346). -/
def serviceOk (ty sv : Nat) : Bool :=
  if isData ty then sv ≤ 1 else if 8 ≤ ty ∧ ty ≤ 10 then sv == 2 else (ty == 11 || ty == 12) && sv == 3

/-- The header checks of R349. -/
def headerOk (k : Pkt) : Bool :=
  k.ver == 1 && !k.rsv && serviceOk k.ty k.service && decide (k.pktIndex < k.msgPkts) &&
    decide (k.msgPkts ≤ 16777215) && (k.last == (k.pktIndex + 1 == k.msgPkts)) && decide (k.payloadLen ≤ 4096) &&
    (k.last || k.payloadLen == 4096)

/-- A packet belongs to a message: same key, endpoints and number; a READ_RESP is numbered by its request and
is a message of its own (DEDUCED, log 44). -/
def sameMsg (x : Pkt) (k : Pkt) : Bool :=
  x.keyId == k.keyId && x.srcEp == k.srcEp && x.dstEp == k.dstEp && x.msgSeq == k.msgSeq &&
    ((x.ty == 4) == (k.ty == 4))

/-- The fields every packet of a message agrees in (R350). -/
def agrees (x k : Pkt) : Bool :=
  x.msgPkts == k.msgPkts && x.keyGen == k.keyGen && x.region == k.region && x.regionGen == k.regionGen &&
    x.addr == k.addr && x.imm == k.imm

/-- The message being received that a packet belongs to. -/
def rxFind (s : State) (k : Pkt) : Option RxMsg := s.rxs.find? (fun x => sameMsg x.hdr k)

/-- The port die takes part: in service, awake, and the module runs. -/
def portDieUp (s : State) (die : Nat) : Bool :=
  running s && !s.pwr.frozen && (die == diePd0 || die == diePd1) && inService s die && decide (dieState s die < 2)

/-- SW_DROP_FENCED of a port die (R326). -/
def dropFenced (s : State) (die : Nat) : State := bumpB s ((die + 2) * 0x1000000 + 0x52028) 8 1

/-! ### Acknowledgements (R356, R357) -/

/-- CUM_INDEX of the packets held. -/
def cumIndex (x : RxMsg) : Nat := advancePast x.held.length 0 x.held

/-- SACK from an index. -/
def sackOf (x : RxMsg) (cum : Nat) : Nat :=
  (x.held.map (fun i => if cum ≤ i ∧ i < cum + 256 then 2 ^ (i - cum) else 0)).sum

/-- Send an ACK of a message being received. -/
def sendAck (s : State) (x : RxMsg) (delivered : Bool) : State :=
  let cum := cumIndex x
  let s1 := sendCtl s x.hdr.keyId (fun c =>
    .ack x.hdr.keyId x.hdr.srcEp x.hdr.dstEp c x.hdr.msgSeq cum x.held.length (sackOf x cum) x.echo x.ceSinceAck delivered)
  { s1 with rxs := mapIf (fun y => y.id == x.id) (fun y => { y with
      newSinceAck := 0
      ceSinceAck := 0
      ackArmed := false }) s1.rxs }

/-- The ACK of a message that is no longer held, in answer to a duplicate: DELIVERED when the stream has moved
past it; a message above NEXT_SEQ that a STATUS ended is acknowledged without it (DEDUCED, log 52). -/
def ackAgain (s : State) (k : Pkt) (delivered : Bool) : State :=
  sendCtl s k.keyId (fun c => .ack k.keyId k.srcEp k.dstEp c k.msgSeq k.msgPkts k.msgPkts 0 k.echo 0 delivered)

/-- Acknowledge after a new packet: at 8 new packets or SOLICIT, else the 2 µs timer is armed (R357).
(DEDUCED, log 127.) -/
def ackNew (s : State) (i : Nat) (solicit : Bool) : State :=
  match rxOf s i with
  | none => s
  | some x =>
    if decide (8 ≤ x.newSinceAck) || solicit then sendAck s x false
    else putRx s { x with ackArmed := true }

/-- ACK_TIMER_EXPIRY (R357). -/
def execAckTimerExpiry (m : Nat) (s : State) : Res :=
  if s.pwr.frozen then .next s else
  match rxOf s m with
  | none => .next s
  | some x => if x.ackArmed then .next (sendAck s x false) else .next s

/-! ### Reception (R351, R352, R390 to R395) -/

/-- The message with one more packet held. -/
def withPacket (x : RxMsg) (k : Pkt) (keep : Bool) : RxMsg :=
  { x with
    held := x.held ++ [k.pktIndex]
    data := if keep then mpaste x.data (4096 * k.pktIndex) k.payloadLen k.payload else x.data
    len := if k.last then 4096 * k.pktIndex + k.payloadLen else x.len
    tagSeen := x.tagSeen || k.last
    tagOk := if k.last then k.tagOk else x.tagOk
    newSinceAck := x.newSinceAck + 1
    ceSinceAck := x.ceSinceAck + b2n k.cm
    echo := k.echo }

/-- Every packet is held. -/
def complete (x : RxMsg) : Bool := x.held.length == x.hdr.msgPkts

/-- A stream slot for a packet: the one it has, or a new one while fewer than 16 are taken (R388). -/
def ensureStrm (s : State) (e key peer : Nat) : Option State :=
  match strmOf s e key peer with
  | some _ => some s
  | none =>
    if 16 ≤ (epOf s e).streams.length then none
    else some (setEp s e { epOf s e with streams := (epOf s e).streams ++ [{ key := key, peer := peer }] })

/-- NEXT_SEQ of the stream of a packet. -/
def nextSeqOf (s : State) (k : Pkt) : Nat := ((strmOf s k.dstEp k.keyId k.srcEp).map (·.nextSeq)).getD 0

/-- Below NEXT_SEQ (R390). -/
def seqPast (s : State) (k : Pkt) : Bool :=
  decide (k.msgSeq < nextSeqOf s k ∧ nextSeqOf s k - k.msgSeq < 2 ^ 31)

/-- Settled above NEXT_SEQ by a STATUS. -/
def seqSettled (s : State) (k : Pkt) : Bool :=
  ((strmOf s k.dstEp k.keyId k.srcEp).map (·.settled.contains k.msgSeq)).getD false

/-- Outside the window of 64 (R390). -/
def seqFar (s : State) (k : Pkt) : Bool :=
  decide (nextSeqOf s k + 64 ≤ k.msgSeq) || (decide (k.msgSeq < nextSeqOf s k) && !seqPast s k)

/-- End a message with a STATUS (R358): settled within its window, and dropped. -/
def endWith (s : State) (k : Pkt) (st : Nat) : State :=
  let s1 := failRead (sendStatus s k st k.pktIndex) k st
  match rxFind s1 k with
  | some x => endRx s1 x
  | none =>
    if k.ty = 4 ∨ seqFar s1 k then s1
    else match ensureStrm s1 k.dstEp k.keyId k.srcEp with
      | some s2 => settleRx s2 k.dstEp k.keyId k.srcEp k.msgSeq
      | none => s1

/-- Order 5 of R352: the packet is held, or its message settled. -/
def isDuplicate (s : State) (k : Pkt) : Bool :=
  match rxFind s k with
  | some x => x.held.contains k.pktIndex
  | none => if k.ty = 4 then (readOf s k).isNone else seqPast s k || seqSettled s k

/-- The answer to a duplicate (R352, R357, R390). -/
def onDuplicate (s : State) (k : Pkt) : State :=
  let s1 := bumpE s eRxDuplicate 0
  match rxFind s1 k with
  | some x => sendAck s1 { x with echo := k.echo, ceSinceAck := x.ceSinceAck + b2n k.cm } false
  | none => ackAgain s1 k (k.ty == 4 || seqPast s1 k)

/-- The packet names a region (R344). -/
def namesRegion (ty : Nat) : Bool := ty == 1 || ty == 3 || ty == 4

/-- The source range of a READ_REQ (R346). -/
def readReqLen (k : Pkt) : Nat := mrd k.payload 16 8

/-- The region of a packet passes R379, R380 and R383 (order 8 of R395), and a placement meets no table that is
read-only (R79). A READ_REQ for more than a message holds (R342) is refused (DESIGN CHOICE, log 152). -/
def regionCheck (s : State) (k : Pkt) : Option Nat :=
  let p := epOf s k.dstEp
  let r := regionOf s k.region
  let same := r.pd == p.pd && r.owner == p.owner && r.ctx == p.ctx
  if k.ty = 3 then
    (if same && bit r.access 2 && inRegion r k.addr (readReqLen k) && !overlapsSecret s r.ctx k.addr (readReqLen k) &&
        !inKeyShare s r.ctx k.addr (readReqLen k)
     then (if msgPkts (readReqLen k) ≤ 16777215 then none else some stParam) else some stAccess)
  else if same && bit r.access 1 && inRegion r (k.addr + 4096 * k.pktIndex) k.payloadLen &&
      !dstTables s r.ctx (k.addr + 4096 * k.pktIndex) k.payloadLen then none
  else some stAccess

/-- A region that holds an endpoint's slots or records has its domain and context (R383). -/
def ringRegionOk (s : State) (p : Ep) (r : Nat) : Bool :=
  let x := regionOf s r
  x.st == 1 && x.pd == p.pd && x.owner == p.owner && x.ctx == p.ctx && decide (x.base ≤ x.limit)

/-- The pairs of a SEND placement and of a record (R383, R393, R394); the access mask has no bit for slots
and records and is not asked (DEDUCED, log 53). -/
def sendCheck (s : State) (k : Pkt) (needRec : Bool) : Option Nat :=
  let p := epOf s k.dstEp
  if !needRec then none
  else if p.rxqDepth = 0 ∨ (k.ty = 2 ∧ p.slotCount = 0) then some stParam
  else if dstTables s p.ctx (regionOf s p.rxqRegion).base (32 * p.rxqDepth) || !ringRegionOk s p p.rxqRegion || (k.ty == 2 && !ringRegionOk s p p.slotRegion) then some stAccess
  else if k.ty ≠ 2 then none
  else
    let r := regionOf s p.slotRegion
    if dstTables s p.ctx r.base (p.slotSize * p.slotCount) then some stAccess
    else if p.rxqDepth < p.slotCount ∨ r.limit + 1 - r.base < p.slotSize * p.slotCount ∨
        p.slotSize ≤ 4096 * (k.msgPkts - 1) ∨ p.slotSize < 4096 * k.pktIndex + k.payloadLen then some stParam
    else none

/-- A SEND, or a WRITE where the endpoint records them, needs a receive record (R394). -/
def needsRec (s : State) (k : Pkt) : Bool := k.ty == 2 || (k.ty == 1 && recordsWrites (epOf s k.dstEp))

/-- The lowest free slot (R393). -/
def freeSlot (p : Ep) : Option Nat := firstFrom (fun i => tget p.slots 0 i == 0) 0 p.slotCount

/-- Open a message at its first packet: its slot and its record are taken (R393, R394); none when either is
wanting. -/
def openRx (s : State) (die : Nat) (k : Pkt) : Option (State × RxMsg) :=
  let p := epOf s k.dstEp
  let need := needsRec s k
  let slot := if k.ty = 2 then freeSlot p else some 0xFFFF
  match slot with
  | none => none
  | some sl =>
    if need && p.recFree == 0 then none
    else
      let p1 := { p with
        slots := if k.ty = 2 then tset p.slots 0 sl 1 else p.slots
        recFree := p.recFree - b2n need }
      some ({ setEp s k.dstEp p1 with nextMsg := s.nextMsg + 1 },
        { id := s.nextMsg, die := die, hdr := k, slot := sl, hasRec := need })

/-- Where a packet of a message is placed in device memory (R351, R393). -/
def placeAt (s : State) (x : RxMsg) (i : Nat) : Nat :=
  let p := epOf s x.hdr.dstEp
  if x.hdr.ty = 2 then (regionOf s p.slotRegion).base + x.slot * p.slotSize + 4096 * i else x.hdr.addr + 4096 * i

/-- Place a packet (R351). A READ_REQ places nothing. -/
def placePkt (s : State) (x : RxMsg) (k : Pkt) : State :=
  let n := (epOf s x.hdr.dstEp).ctx
  if x.hdr.ty = 3 then s else setVm s n (mpaste (vmOf s n) (placeAt s x k.pktIndex) k.payloadLen k.payload)

/-- Bytes of a READ_RESP count for its ST_READ (R387). -/
def countPlaced (s : State) (k : Pkt) : State :=
  if k.ty = 4 then
    match readOf s k with
    | some t => setTx s { t with placed := t.placed + k.payloadLen }
    | none => s
  else s

/-- Zero every byte that a message placed (R392). -/
def zeroPlaced (s : State) (x : RxMsg) : State :=
  let n := (epOf s x.hdr.dstEp).ctx
  if x.hdr.ty = 3 then s
  else setVm s n (x.held.foldl (fun m i =>
    mclear m (placeAt s x i) (if i + 1 = x.hdr.msgPkts then x.len - 4096 * i else 4096)) (vmOf s n))

/-- The tag of a complete ordinary message (R391, R392). -/
def finishOrdinary (s : State) (x : RxMsg) : State :=
  if x.tagOk then putRx s { x with verified := true }
  else
    let s1 := zeroPlaced (bumpE s eTagFails 0) x
    failRead (endRx (sendStatus s1 x.hdr stIntegrity 0xFFFFFFFF) x) x.hdr stIntegrity

/-- Place a packet of an ordinary message that has passed every check, and acknowledge it. -/
def acceptOrdinary (s : State) (x : RxMsg) (k : Pkt) : State :=
  let x1 := withPacket x k (x.hdr.ty == 3)
  let s1 := countPlaced (placePkt (putRx s x1) x1 k) k
  let s2 := ackNew s1 x1.id k.solicit
  if complete x1 then (match rxOf s2 x1.id with | some y => finishOrdinary s2 y | none => s2) else s2

/-- Orders 7 to 9 of R395 for an ordinary endpoint. (DEDUCED, log 126.) -/
def recvOrdinary (s : State) (die : Nat) (k : Pkt) : State :=
  if k.ty ≠ 4 ∧ seqFar s k then bumpE s eRxWindowDrop 0
  else match (if k.ty = 4 then some s else ensureStrm s k.dstEp k.keyId k.srcEp) with
    | none => bumpE s eRxStreamFull 0
    | some s1 =>
      match (if namesRegion k.ty then regionCheck s1 k else none) with
      | some st => endWith s1 k st
      | none => match sendCheck s1 k (needsRec s1 k) with
        | some st => endWith s1 k st
        | none => match rxFind s1 k with
          | some x => acceptOrdinary s1 x k
          | none => match openRx s1 die k with
            | none => bumpE s eRxNoSlot 0
            | some r => acceptOrdinary r.1 r.2 k

/-- A packet at an ADMISSION endpoint (R371, R395, R410 to R416): WRITE and READ types are refused; packet 0
is admitted, and every packet authenticated. One that precedes packet 0 is held in the parking buffer and
counted there, and draws no ACK of its own, since it may still be dropped (R398, R399, R413, DEDUCED, log 89).
(DEDUCED, log 121.) -/
def recvAdmission (s0 : State) (die : Nat) (k : Pkt) : State :=
  let early := k.pktIndex != 0 && (match rxFind s0 k with | some x => !x.held.contains 0 | none => true)
  let s := if k.ty = 2 ∧ early = true then bumpE s0 ePrkParked 0 else s0
  if k.ty ≠ 2 then sendStatus s k stAccess k.pktIndex
  else
    let n := (keyOf s k.keyId).ctx
    let fresh : RxMsg :=
      { id := s.nextMsg, die := die, hdr := k, firstOpen := openCohorts s n, roundOpen := roundSt s n == rsOpen, firstRound := rdE s eRoundNumber n }
    let x := (rxFind s k).getD fresh
    let s1 := if x.id = s.nextMsg then { s with nextMsg := s.nextMsg + 1 } else s
    let x1 := withPacket x k true
    let s2 := if k.pktIndex = 0 ∧ hf x1 0 1 = 0x20 then takePacket0 s1 x x1 else putRx s1 x1
    match rxOf s2 x.id with
    | none => s2
    | some y =>
      if y.held.contains k.pktIndex && y.held.contains 0 then
        let s3 := ackNew (specAdd s2 y.id k.pktIndex) y.id k.solicit
        (match rxOf s3 y.id with
        | some z => if complete z then finishAdmission s3 z else s3
        | none => s3)
      else s2

/-- The checks of R352 from order 3, for a resident endpoint. -/
def recvChecked (s : State) (die : Nat) (k : Pkt) : State :=
  let p := epOf s k.dstEp
  if !keyPasses s k.keyId k.keyGen k.dstEp then bumpE s eRxDropKey 0
  else if namesRegion k.ty && !isAdmission p && (regionOf s k.region).gen != k.regionGen then
    endWith (bumpE s eRxDropGeneration 0) k stGeneration
  else if isDuplicate s k && !(isAdmission p && (rxFind s k).isNone) then onDuplicate s k
  else if p.st = 2 then
    (if isAdmission p then sendStatus s k stAccess k.pktIndex else endWith s k stAccess)
  else if isAdmission p then recvAdmission (touchEp s k.dstEp) die k
  else recvOrdinary (touchEp s k.dstEp) die k

/-- Packets of contributions that wait for their packet 0 in the parking buffer (R413). -/
def earlyHeld (s : State) (die : Nat) : List (Nat × Nat) :=
  (s.rxs.filter (fun x => x.die == die && isAdmission (epOf s x.hdr.dstEp) && !x.held.contains 0)).flatMap (fun x =>
    x.held.map (fun i => (x.id, i)))

/-- The payload bytes of an early packet. -/
def earlyBytes (s : State) (v : Nat × Nat) : Nat :=
  match rxOf s v.1 with
  | some x => if x.tagSeen && v.2 + 1 == x.hdr.msgPkts then x.len - 4096 * v.2 else 4096
  | none => 0

/-- The parking buffer of a die is full: 8,192 packets or 4 MiB of payload (R399, DEDUCED, log 89). -/
def parkFull (s : State) (die : Nat) : Bool :=
  let l := parkedOn s die
  let e := earlyHeld s die
  decide (8192 ≤ l.length + e.length) || decide (4194304 ≤ (l.map (·.payloadLen)).sum + (e.map (earlyBytes s)).sum)

/-- Park a packet whose endpoint is not resident, and fetch its context (R399). -/
def park (s : State) (die : Nat) (k : Pkt) : State :=
  if parkFull s die then bumpE s ePrkDropFull 0
  else startFetch (bumpE { s with parked := tset s.parked [] die (parkedOn s die ++ [k]) } ePrkParked 0) k.dstEp

/-- A data packet on its endpoint's home die, after the checks of the header (R350, R352). -/
def recvData (s : State) (die : Nat) (k : Pkt) : State :=
  let off := match rxFind s k with | some x => !agrees x.hdr k | none => false
  if off then bumpE s eRxDropHeader 0
  else if fnBlocked s k.tclass then dropFenced s die
  else if epLive (epOf s k.dstEp) && !(epOf s k.dstEp).resident then park s die k
  else if k.pktIndex != 0 && isAdmission (epOf s k.dstEp) && (match rxFind s k with | some x => !x.held.contains 0 | none => true) &&
      parkFull s die then bumpE s ePrkDropFull 0
  else recvChecked s die k

/-- DATA_PACKET_RECEIVE (R349 to R352): the packet is processed on the home die of its endpoint (R370). -/
def execDataPacketReceive (die : Nat) (k : Pkt) (s : State) : Res :=
  if !portDieUp s die then .next s
  else
    let s0 := if isData k.ty then actLed s else s
    let s1 := if k.cm then bumpE s0 eCeReceived 0 else s0
    if !(headerOk k && isData k.ty) then .next (bumpE s1 eRxDropHeader 0)
    else .next (recvData s1 (homeDie k.dstEp) k)

/-! ### Delivery (R391, R393) -/

/-- The 32 bytes of a receive record (R393). -/
def rxRecord (x : RxMsg) : Nat :=
  let send := x.hdr.ty == 2
  (if send then 1 else 2) + 2 ^ 16 * (if send then x.slot else 0xFFFF) + 2 ^ 32 * (x.len % 2 ^ 32) + 2 ^ 64 * (x.hdr.imm % 2 ^ 32)
    + 2 ^ 96 * x.hdr.keyId + 2 ^ 128 * x.hdr.srcEp + 2 ^ 160 * x.hdr.msgSeq
    + 2 ^ 192 * (if send then 0 else x.hdr.addr % 2 ^ 48)

/-- Write the receive record and account for it (R393, R394). -/
def writeRecord (s : State) (x : RxMsg) : State :=
  let e := x.hdr.dstEp
  let p := epOf s e
  let a := (regionOf s p.rxqRegion).base + 32 * (p.recWritten % p.rxqDepth)
  let s1 := setVm s p.ctx (mwr (vmOf s p.ctx) a 32 (rxRecord x))
  setEp s1 e { p with
    recWritten := p.recWritten + 1
    recOut := p.recOut + 1
    slots := if x.hdr.ty = 2 then tset p.slots 0 x.slot 2 else p.slots }

/-- The region whose signal a delivery raises (R391). -/
def signalRegion (s : State) (x : RxMsg) : Option Region :=
  if x.hdr.ty = 2 then some (regionOf s (epOf s x.hdr.dstEp).slotRegion)
  else if x.hdr.ty = 3 then none
  else some (regionOf s x.hdr.region)

/-- Raise the signal of a delivery (R391). (DEDUCED, log 112.) -/
def raiseSignal (s : State) (x : RxMsg) : State :=
  match signalRegion s x with
  | some r => if r.sigCtr < 16384 then synAdd s r.sigCtr r.sigInc else s
  | none => s

/-- The READ_RESP message that answers a delivered READ_REQ (R346, R385). -/
def answerRead (s : State) (x : RxMsg) : State :=
  let p := epOf s x.hdr.dstEp
  let key := keyOf s x.hdr.keyId
  let len := mrd x.data 16 8
  let hdr : Pkt :=
    { ty := 4, dstModule := if key.form = 1 then key.peer else 0, srcModule := rdE s eModuleId 0, dstEp := x.hdr.srcEp, srcEp := x.hdr.dstEp, tclass := key.peerTclass, service := x.hdr.service, msgSeq := x.hdr.msgSeq, msgPkts := msgPkts len, keyId := x.hdr.keyId, keyGen := x.hdr.keyGen, region := mrd x.data 6 2, regionGen := mrd x.data 8 2, addr := mrd x.data 0 6 }
  let t : TxMsg :=
    { id := s.nextMsg, die := x.die, ep := x.hdr.dstEp, dst := dstOf key, hdr := hdr, len := len, data := mcut (vmOf s p.ctx) x.hdr.addr len, solicit := true }
  { s with
    txs := s.txs ++ [t]
    nextMsg := s.nextMsg + 1 }

/-- What a delivered message does besides its record and its signal: a READ_REQ is answered, a READ_RESP
completes its ST_READ (R387). -/
def afterDelivery (s : State) (x : RxMsg) : State :=
  if x.hdr.ty = 3 then answerRead s x
  else if x.hdr.ty = 4 then
    match readOf s x.hdr with
    | some t => completeAll s (fun d => d.id == t.desc) stOk
    | none => s
  else s

/-- Deliver a message (R391): record, signal, DELIVERED ACK; it is settled. -/
def deliver (s : State) (x : RxMsg) : State :=
  let s1 := if x.hasRec then writeRecord s x else s
  let s2 := sendAck (raiseSignal s1 x) x true
  let s3 := if x.hdr.ty = 4 then s2 else settleRx s2 x.hdr.dstEp x.hdr.keyId x.hdr.srcEp x.hdr.msgSeq
  afterDelivery (forgetRx s3 x) x

/-- MESSAGE_DELIVERY (R391): a verified message whose stream has settled every lower number. -/
def execMessageDelivery (m : Nat) (s : State) : Res :=
  if s.pwr.frozen then .next s else
  match rxOf s m with
  | none => .next s
  | some x =>
    if x.verified && x.con.isNone && (x.hdr.ty == 4 || nextSeqOf s x.hdr == x.hdr.msgSeq) then .next (deliver s x)
    else .next s

/-! ### Rate cache (R363 to R367) -/

/-- The rate cache of a die, least recently used first. -/
def ratesOn (s : State) (die : Nat) : List Rate := tget s.rates [] die

/-- The entry of a destination. -/
def rateOf (s : State) (die dst : Nat) : Option Rate := (ratesOn s die).find? (fun r => r.dst == dst)

/-- Replace an entry. -/
def setRate (s : State) (die : Nat) (r : Rate) : State :=
  { s with rates := tset s.rates [] die (mapIf (fun x => x.dst == r.dst) (fun _ => r) (ratesOn s die)) }

/-- R_max of a destination (R363). The logical port that carries an external destination is that of the die's
first MAC (DEDUCED, log 55). -/
def rateMax (s : State) (die dst : Nat) : Nat :=
  if dst < 65536 then rdE s eRateMaxShl 0 else 200000 / 2 ^ rdE s eEthMode (2 * (die - 6))

/-- A new entry (R362, R363). -/
def newRate (s : State) (die dst : Nat) : Rate :=
  let rto := 1000 * (if dst < 65536 then rdE s eRtoInitShl 0 else rdE s eRtoInitEth 0)
  { dst := dst, eth := decide (65536 ≤ dst), rate := rateMax s die dst, rmax := rateMax s die dst, rto := rto, rtoBase := rto }

/-- The destination has a packet sent and not shown held. -/
def outstanding (s : State) (die dst : Nat) : Bool :=
  s.txs.any (fun t => t.die == die && t.dst == dst && t.pkts.any (fun p => !p.2.held))

/-- The state with an entry for a destination, most recently used (R367): the least recently used entry
without a packet outstanding makes room; none when there is no such entry. -/
def rateEnsure (s : State) (die dst : Nat) : Option State :=
  let l := ratesOn s die
  match rateOf s die dst with
  | some r => some { s with rates := tset s.rates [] die (l.filter (fun x => x.dst != dst) ++ [r]) }
  | none =>
    if l.length < 4096 then some { s with rates := tset s.rates [] die (l ++ [newRate s die dst]) }
    else match l.find? (fun r => !outstanding s die r.dst) with
      | none => none
      | some v =>
        some (bumpE { s with rates := tset s.rates [] die (l.filter (fun x => x.dst != v.dst) ++ [newRate s die dst]) } eRateEvictions 0)

/-- Every path value usable. -/
def allPaths : Nat := 2 ^ 256 - 1

/-- The next path value (R355): the entry with its cursor moved. -/
def nextPath (r : Rate) : Rate :=
  let mask := if r.mask = 0 then allPaths else r.mask
  let step := (((List.range 256).map (· + 1)).find? (fun j => bit mask ((r.cursor + j) % 256))).getD 0
  { r with
    mask := mask
    cursor := (r.cursor + step) % 256 }

/-- The packet i of a message as it leaves (R342, R345). -/
def txPacket (t : TxMsg) (i path echo : Nat) (retx : Bool) : Pkt :=
  { t.hdr with
    last := i + 1 == t.hdr.msgPkts
    retx := retx
    solicit := t.solicit && i + 1 == t.hdr.msgPkts
    hops := 0
    cm := false
    dateline := false
    path := path
    pktIndex := i
    payloadLen := pktLen t.len i
    echo := echo % 2 ^ 32
    payload := mcut t.data (4096 * i) (pktLen t.len i) }

/-- RTO of an estimate: within RTO_MIN and RTO_MAX as they stand (R362, R368). -/
def rtoEst (s : State) (r : Rate) : Nat :=
  let lo := 1000 * (if r.eth then rdE s eRtoMinEth 0 else rdE s eRtoMinShl 0)
  min (1000 * rdE s eRtoMax 0) (max lo (r.srtt + 4 * r.rttvar))

/-- The RTO in force: the estimate once there is a sample, unless an expiry has raised it (R360, R368). -/
def rtoNow (s : State) (r : Rate) : Nat :=
  if r.expAt ≠ 0 then min (1000 * rdE s eRtoMax 0) r.rto else if r.sampled then rtoEst s r else r.rto

/-- Round-trip estimates after a sample (R362). -/
def rttUpdate (s : State) (r : Rate) (sample : Nat) : Rate :=
  let r1 := { r with
    sampled := true
    rttvar := if r.sampled then r.rttvar - r.rttvar / 4 + (max r.srtt sample - min r.srtt sample) / 4 else sample / 2
    srtt := if r.sampled then r.srtt - r.srtt / 8 + sample / 8 else sample }
  { r1 with
    rtoBase := rtoEst s r1
    rto := if r.expAt = 0 then rtoEst s r1 else r.rto }

/-- A packet to an external peer leaves in an Ethernet frame by the die's first MAC (R353; DEDUCED, log 55). -/
def ethSend (s : State) (die : Nat) (x : Key) (k : Pkt) : State :=
  if x.form ≠ 2 then s
  else
    let h := Config.ethHop x.peer
    let p := 2 * (die - 6)
    let lp := h.1 % 2 ^ rdE s eEthMode p
    emit s (.eth p lp (frameOut s p lp h.2 x.peer x.peerPort k))

/-- Send packet i of a message on the next path, with its timer (R355, R360). -/
def sendPkt (s : State) (t : TxMsg) (i now timer : Nat) (retx fast : Bool) : State :=
  match rateEnsure s t.die t.dst with
  | none => s
  | some s1 =>
    match rateOf s1 t.die t.dst with
    | none => s1
    | some r =>
      let r1 := nextPath r
      let old := tget t.pkts {} i
      let p : TxPkt :=
        { path := r1.cursor, order := if old.sends = 0 then s1.txCount + 1 else old.order, sends := old.sends + 1, fast := old.fast || fast, timer := if timer = 0 then rtoNow s1 r1 else timer }
      let s2 := setTx (setRate s1 t.die r1) { t with pkts := tput t.pkts i p }
      let x := keyOf s t.hdr.keyId
      let k := sealPkt x (txPacket t i r1.cursor now retx) t.data t.len
      ethSend (emit { actLed (bumpE s2 eTxPackets 0) with txCount := s2.txCount + 1 } (.packet t.die k)) t.die x k

/-- The next packet a message may send for the first time: within 256 of CUM_INDEX, in increasing index
(R359). -/
def nextNew (t : TxMsg) : Option Nat :=
  (firstFrom (fun i => (tfind t.pkts i).isNone) t.cum 256).bind (fun i => if i < t.hdr.msgPkts then some i else none)

/-- The message is below the stream's lowest unsettled one plus 64 (R389); a READ_RESP and a message of the module
itself belong to no stream. -/
def txInWindow (s : State) (t : TxMsg) : Bool :=
  t.hdr.ty == 4 || t.desc == 0 || decide (t.hdr.msgSeq < ((strmOf s t.ep t.hdr.keyId t.hdr.dstEp).map (·.txLow)).getD 0 + 64)

/-- PACKET_TRANSMIT (R355, R359, R389): pacing lets one more packet of the message leave. -/
def execPacketTransmit (m now : Nat) (s : State) : Res :=
  match s.txs.find? (fun t => t.id == m) with
  | none => .next s
  | some t =>
    if !portDieUp s t.die || !txInWindow s t then .next s
    else match nextNew t with
      | none => .next s
      | some i => .next (sendPkt s t i now 0 false false)

/-! ### Acknowledgements and timers at the sender (R360 to R365) -/

/-- A control packet is accepted: header, key, tag, and a counter not seen before (R347, R409). -/
def ctlFresh (x : Key) (c : Nat) : Bool :=
  decide (x.ctlHigh ≤ c) || (decide (x.ctlHigh ≤ c + 65) && !x.ctlSeen.contains c)

/-- The counter is accepted (R409): ctlHigh is one above the highest so far. -/
def ctlTake (s : State) (k c : Nat) : State :=
  let x := keyOf s k
  let high := max x.ctlHigh (c + 1)
  setKey s k { x with
    ctlHigh := high
    ctlSeen := (c :: x.ctlSeen).filter (fun v => decide (high ≤ v + 65)) }

/-- A control packet of the given type for an endpoint: the state once accepted, or the drop (R349, R352,
R409, R410). -/
def ctlAccept (s : State) (die ty : Nat) (k : Pkt) : State × Bool :=
  if !portDieUp s die then (s, false)
  else
    let s1 := if k.cm then bumpE s eCeReceived 0 else s
    if !(headerOk k && k.ty == ty) then (bumpE s1 eRxDropHeader 0, false)
    else if fnBlocked s k.tclass then (dropFenced s1 die, false)
    else if !keyPasses s1 k.keyId k.keyGen k.dstEp then (bumpE s1 eRxDropKey 0, false)
    else if !k.tagOk then (bumpE s1 eTagFails 0, false)
    else if !ctlFresh (keyOf s1 k.keyId) k.imm then (s1, false)
    else (ctlTake s1 k.keyId k.imm, true)

/-- The message being sent that a control packet answers: endpoints exchanged (R356). -/
def txFind (s : State) (k : Pkt) : Option TxMsg :=
  s.txs.find? (fun t => t.ep == k.dstEp && t.hdr.dstEp == k.srcEp && t.hdr.keyId == k.keyId && t.hdr.msgSeq == k.msgSeq)


/-- The packets of a message that an ACK newly shows held. -/
def newlyHeld (t : TxMsg) (k : Pkt) : List Nat :=
  let cum := mrd k.payload 0 4
  let sack := mrd k.payload 8 32
  tkeys (t.pkts.filter (fun p => !p.2.held && (decide (p.1 < cum) || (decide (cum ≤ p.1 ∧ p.1 < cum + 256) && bit sack (p.1 - cum)))))

/-- The rate entry after an ACK: the sample, the interval's counts, the RTO restored by a packet first sent
after the expiry (R360, R362, R364), and the paths that carried held packets (R355). -/
def rateAck (s : State) (t : TxMsg) (new : List Nat) (k : Pkt) (now : Nat) (r : Rate) : Rate :=
  let r1 := rttUpdate s r ((now % 2 ^ 32 + 2 ^ 32 - mrd k.payload 40 4) % 2 ^ 32)
  let fresh := new.any (fun i => decide (r.expAt < (tget t.pkts {} i).order))
  { r1 with
    acked := r1.acked + new.length
    marked := r1.marked + mrd k.payload 44 2
    expAt := if fresh then 0 else r1.expAt
    rto := if fresh then r1.rtoBase else r1.rto
    touts := r1.touts.filter (fun p => !(new.map (fun i => (tget t.pkts {} i).path)).contains p.1) }

/-- The packets to retransmit fast (R361): missing, once only, with 4 held packets first sent after them. -/
def fastList (t : TxMsg) : List Nat :=
  tkeys (t.pkts.filter (fun p => !p.2.held && !p.2.fast &&
    decide (4 ≤ (t.pkts.filter (fun q => q.2.held && decide (p.2.order < q.2.order))).length)))

/-- Fast retransmissions of a message. -/
def fastAll (s : State) (m now : Nat) : State :=
  match s.txs.find? (fun t => t.id == m) with
  | none => s
  | some t => (fastList t).foldl (fun s i =>
      match s.txs.find? (fun t => t.id == m) with
      | none => s
      | some t => sendPkt (bumpE s eRetxFast 0) t i now 0 true true) s

/-- A message that is shown DELIVERED: its descriptor completes OK; a READ_REQ waits for its response (R387). -/
def txDelivered (s : State) (t : TxMsg) : State :=
  if t.hdr.ty = 3 then s
  else if t.desc = 0 then dropTx s t
  else completeAll s (fun d => d.id == t.desc) stOk

/-- ACK_RECEIVE (R356, R360 to R362, R364, R387). -/
def execAckReceive (die now : Nat) (k : Pkt) (s : State) : Res :=
  let a := ctlAccept s die 8 k
  if a.2 = false then .next a.1
  else match txFind a.1 k with
    | none => .next a.1
    | some t =>
      let delivered := bit (mrd k.payload 46 1) 0
      let new := if delivered then tkeys (t.pkts.filter (fun p => !p.2.held)) else newlyHeld t k
      let s1 := match rateOf a.1 t.die t.dst with
        | some r => setRate a.1 t.die (rateAck a.1 t new k now r)
        | none => a.1
      let t1 := { t with
        cum := max t.cum (mrd k.payload 0 4)
        pkts := t.pkts.map (fun p => if new.contains p.1 then (p.1, { p.2 with held := true }) else p) }
      let s2 := setTx s1 t1
      .next (if delivered then txDelivered s2 t1 else fastAll s2 t.id now)

/-- The codes that a STATUS carries (R358), with the two of R182 and R172 that a key share or a Sealed
contribution is refused with. (DEDUCED, log 93.) -/
def statusCodes : List Nat :=
  [stGeneration, stIntegrity, stDuplicate, stPolicy, stParam, stUnsupported, stAccess, stFenced, stKey]

/-- STATUS_RECEIVE (R358, R387): the message ends and its descriptor completes with the code. -/
def execStatusReceive (die : Nat) (k : Pkt) (s : State) : Res :=
  let a := ctlAccept s die 9 k
  if a.2 = false then .next a.1
  else match txFind a.1 k with
    | none => .next a.1
    | some t =>
      let st := mrd k.payload 0 1
      if !statusCodes.contains st then .next a.1
      else if t.desc = 0 then .next (dropTx a.1 t)
      else .next (completeAll a.1 (fun d => d.id == t.desc) st)

/-- The rate entry after a timer expiry (R355, R360, R365): the rate is halved once per interval, and the
second timeout in a row on a path masks it. -/
def rateExpiry (r : Rate) (path timer txCount : Nat) : Rate :=
  let n := tget r.touts 0 path + 1
  let rmin := r.rmax / 1024
  { r with
    rate := if r.halved then r.rate else max rmin (r.rate / 2)
    clean := if r.halved then r.clean else 0
    halved := true
    rto := max r.rto timer
    expAt := txCount
    touts := tset r.touts 0 path (if 2 ≤ n then 0 else n)
    mask := if 2 ≤ n then putBit r.mask path false else r.mask }

/-- RETRANSMIT_TIMER_EXPIRY (R360, R365): the packet goes out again with RETX and twice its timer.
(DESIGN CHOICE, log 91.) -/
def execRetransmitTimerExpiry (m i : Nat) (s : State) : Res :=
  match s.txs.find? (fun t => t.id == m) with
  | none => .next s
  | some t => match tfind t.pkts i with
    | none => .next s
    | some p =>
      if p.held || !portDieUp s t.die then .next s
      else
        let timer := min (1000 * rdE s eRtoMax 0) (2 * p.timer)
        let s1 := match rateOf s t.die t.dst with
          | some r => setRate s t.die (rateExpiry r p.path timer s.txCount)
          | none => s
        .next (sendPkt (freshNext (bumpE s1 eRetxTimeout 0)) t i (freshVal s1) timer true false)

/-- The rate entry at the end of an interval (R364). -/
def rateStep (r : Rate) : Rate :=
  let f : Int := if r.acked = 0 then 0 else (65536 * r.marked / r.acked : Nat)
  let alpha : Int := (r.alpha : Int) + (f - r.alpha) / 16
  let rmin := r.rmax / 1024
  let clean := if r.marked = 0 then r.clean + 1 else 0
  let step := if clean ≤ 4 then r.rmax / 256 else r.rmax / 64
  { r with
    alpha := alpha.toNat
    rate := if r.marked = 0 then min r.rmax (r.rate + step)
      else (max (rmin : Int) ((r.rate : Int) - (r.rate * alpha) / 131072)).toNat
    clean := clean
    acked := 0
    marked := 0
    halved := false }

/-- RATE_INTERVAL_UPDATE (R364). -/
def execRateIntervalUpdate (die dst : Nat) (s : State) : Res :=
  match rateOf s die dst with
  | none => .next s
  | some r => .next (setRate s die (rateStep r))

/-- PATH_MASK_RESTORE (R355): 1 ms later the path value is usable again. -/
def execPathMaskRestore (die dst path : Nat) (s : State) : Res :=
  if s.pwr.frozen then .next s else
  match rateOf s die dst with
  | none => .next s
  | some r => .next (setRate s die { r with mask := putBit r.mask (path % 256) true })

/-! ### Fetches and parking (R399, R401) -/

/-- Replay the parked packets of an endpoint in arrival order (R399). -/
def replay (s : State) (e : Nat) : State :=
  let die := homeDie e
  let mine := (parkedOn s die).filter (fun k => k.dstEp == e)
  let s1 := { s with parked := tset s.parked [] die ((parkedOn s die).filter (fun k => k.dstEp != e)) }
  mine.foldl (fun s k => recvData s die k) s1

/-- ENDPOINT_FETCH (R399 to R401): the image verifies and its eviction count agrees, or the endpoint enters
ERROR with an INTEGRITY record and its parked packets are dropped; without room the fetch waits. (DEDUCED, log 92.) -/
def execEndpointFetch (e : Nat) (ok : Bool) (s : State) : Res :=
  if s.pwr.frozen then .next s else
  let p := epOf s e
  if !(epLive p && p.fetching && cacheRoom s (homeDie e)) then .next s
  else
    let s1 := makeResident (bumpE s eEpcFetches 0) e
    if ok then .next (replay s1 e)
    else
      let s2 := dropParked (epError (bumpE s1 eEpcFetchIntegrity 0) e) (homeDie e) (fun k => k.dstEp == e)
      .next (writeFault s2 { plainFault ftIntegrity stIntegrity 0 (homeDie e * 32 + 3) e with ctx := p.ctx, flags := 2, fn := p.owner })

/-- PARKING_TIMEOUT (R399, R413): the packet at a position of the parking buffer, those of contributions that
wait for packet 0 last, has waited 100 µs. -/
def execParkingTimeout (die pos : Nat) (s : State) : Res :=
  if s.pwr.frozen then .next s else
  let l := parkedOn s die
  if pos < l.length then
    .next (bumpE { s with parked := tset s.parked [] die (l.eraseIdx pos) } ePrkDropTimeout 0)
  else match (earlyHeld s die)[pos - l.length]? with
    | none => .next s
    | some v =>
      let s1 := bumpE { s with rxs := (mapIf (fun x => x.id == v.1) (fun x => { x with
        held := x.held.filter (· != v.2)
        data := mclear x.data (4096 * v.2) 4096 }) s.rxs).filter (fun x => x.id != v.1 || !x.held.isEmpty) } ePrkDropTimeout 0
      .next (match rxOf s v.1 with | none => s1 | some x => settleAll s1 (rxCtx s x))

/-! ### Transport descriptors (R385 to R387) -/

/-- DST_EP of a transport descriptor. -/
def stDstEp (d : Desc) : Nat := bits (df d 32 5) 35 18
/-- SERVICE. -/
def stService (d : Desc) : Nat := bits (df d 32 5) 37 36
/-- KEY_ID. -/
def stKeyId (d : Desc) : Nat := df d 38 2
/-- LOCAL_ADDR. -/
def stLocal (d : Desc) : Nat := df d 44 6
/-- LENGTH. -/
def stLen (d : Desc) : Nat := df d 56 4

/-- Order 1 of R386. -/
def stReservedOk (d : Desc) : Bool :=
  !bit (df d 32 5) 39 && decide (stService d ≤ 1) && df d 37 1 == 0 &&
    (dOp d != 0x81 || (df d 40 4 == 0 && df d 50 6 == 0))

/-- Order 4 of R386. -/
def stKeyCheck (s : State) (d : Desc) : Option Nat :=
  let x := keyOf s (stKeyId d)
  let p := epOf s (localEp d)
  if x.st = 0 ∨ x.owner ≠ p.owner ∨ x.ctx ≠ dCtx d ∨ x.pd ≠ p.pd then some stAccess
  else if x.st ≠ 1 ∨ x.ctxGen ≠ ctxKeyGenOf s x.ctx then some stGeneration
  else none

/-- Order 5 of R386: the local range in one region of LOCAL_EP, no forbidden source, and no table that is read-only
(R79). -/
def stRangeOk (s : State) (d : Desc) : Bool :=
  let p := epOf s (localEp d)
  let read := dOp d == 0x82
  (stLen d == 0 || s.regions.any (fun r => r.2.owner == p.owner && r.2.pd == p.pd && r.2.ctx == p.ctx &&
      bit r.2.access 0 && (!read || bit r.2.access 1) && inRegion r.2 (stLocal d) (stLen d))) &&
    (if read then !dstTables s (dCtx d) (stLocal d) (stLen d) else !srcForbidden s (dCtx d) (stLocal d) (stLen d))

/-- The region that a READ_RESP of the descriptor is written in: the lowest that admits it. -/
def stReadRegion (s : State) (d : Desc) : Nat :=
  let p := epOf s (localEp d)
  ((s.regions.find? (fun r => r.2.owner == p.owner && r.2.pd == p.pd && r.2.ctx == p.ctx &&
    bit r.2.access 0 && bit r.2.access 1 && inRegion r.2 (stLocal d) (stLen d))).map (·.1)).getD 0

/-- The checks of R386, in order. -/
def stCheck (s : State) (d : Desc) : Option Nat :=
  let p := epOf s (localEp d)
  if !stReservedOk d then some stUnsupported
  else if !(epLive p && p.owner == d.fn && p.ctx == dCtx d && !isAdmission p) then some stAccess
  else if p.st = 2 then some stFlushed
  else match stKeyCheck s d with
    | some st => some st
    | none =>
      if !stRangeOk s d then some stAccess
      else if dOp d != 0x82 && inTotal s (dCtx d) (stLocal d) (stLen d) && !exportOk s (dCtx d) then some stPolicy
      else match strmOf s (localEp d) (stKeyId d) (stDstEp d) with
        | none => if 16 ≤ p.streams.length then some stPolicy else none
        | some x => if 2 ^ 32 - 1 ≤ x.txNext then some stGeneration else none

/-- The payload of a descriptor's message: the source bytes, without the padding of round-total rows (R76), or the request of an ST_READ (R346). (DEDUCED, log 90.) -/
def stPayload (s : State) (d : Desc) : Mem :=
  if dOp d = 0x82 then
    let r := stReadRegion s d
    mwr [] 0 32 (stLocal d + 2 ^ 48 * r + 2 ^ 64 * (regionOf s r).gen + 2 ^ 128 * stLen d)
  else if inTotal s (dCtx d) (stLocal d) (stLen d) then mcut (exportView s (dCtx d) (vmOf s (dCtx d))) (stLocal d) (stLen d)
  else mcut (vmOf s (dCtx d)) (stLocal d) (stLen d)

/-- Begin the message of a transport descriptor (R385, R389): it takes the stream's next number. -/
def stBegin (s : State) (d : Desc) : State :=
  let e := localEp d
  match ensureStrm s e (stKeyId d) (stDstEp d) with
  | none => s
  | some s1 =>
    match strmOf s1 e (stKeyId d) (stDstEp d) with
    | none => s1
    | some x =>
      let key := keyOf s1 (stKeyId d)
      let ty := dOp d - 0x7F
      let len := if ty = 3 then 32 else stLen d
      let hdr : Pkt :=
        { ty := ty, dstModule := if key.form = 1 then key.peer else 0, srcModule := rdE s1 eModuleId 0, dstEp := stDstEp d, tclass := key.peerTclass, service := stService d, srcEp := e, msgSeq := x.txNext, msgPkts := msgPkts len, keyGen := key.gen, keyId := stKeyId d, region := df d 40 2, regionGen := df d 42 2, addr := df d 50 6, imm := df d 60 4 }
      let t : TxMsg :=
        { id := s1.nextMsg, die := homeDie e, desc := d.id, ep := e, dst := dstOf key, hdr := hdr, len := len, data := stPayload s1 d, solicit := bit (df d 32 5) 38 }
      let s2 := setStrm (if dOp d = 0x82 then s1 else exportTake s1 (dCtx d) (stLocal d) (stLen d)) e { x with txNext := x.txNext + 1 }
      setDesc { s2 with
        txs := s2.txs ++ [t]
        nextMsg := s2.nextMsg + 1 } { d with phase := .waiting 1 }

/-- Run a transport descriptor: it waits for its endpoint's context (R399), is refused (R386), or begins its
message. -/
def runTransport (s : State) (i op : Nat) : Res :=
  match descOf s i with
  | none => .next s
  | some d =>
    if dOp d != op || d.phase != .running || stalled s d then .next s
    else if epLive (epOf s (localEp d)) && !(epOf s (localEp d)).resident then .next (startFetch s (localEp d))
    else match stCheck s d with
      | some st => .next (refuseDesc s d st)
      | none => .next (stBegin (touchEp s (localEp d)) d)

/-- ST_WRITE. -/
def execStWrite (i : Nat) (s : State) : Res := runTransport s i 0x80
/-- ST_SEND. -/
def execStSend (i : Nat) (s : State) : Res := runTransport s i 0x81
/-- ST_READ. -/
def execStRead (i : Nat) (s : State) : Res := runTransport s i 0x82

/-! ### OD packets (R347) -/

/-- The session kinds whose peers may send Oronos requests (R347). -/
def odKinds : List Nat := [3, 5, 6, 7]

/-- OD_PACKET_RECEIVE (R347): an OD packet under a LIVE key of the current generation and of a permitted kind
is handed to the Oronos server, whose answer is the request's own command (DEDUCED, log 56). -/
def execOdPacketReceive (die : Nat) (k : Pkt) (s : State) : Res :=
  if !portDieUp s die then .next s
  else
    let x := keyOf s k.keyId
    if !(headerOk k && k.ty == 12) then .next (bumpE s eRxDropHeader 0)
    else if !(x.st == 1 && x.gen == k.keyGen && odKinds.contains x.kind &&
        (x.kind == 7 || x.ctxGen == ctxKeyGenOf s x.ctx)) then .next (bumpE s eRxDropKey 0)
    else if !k.tagOk then .next (bumpE s eTagFails 0)
    else if !ctlFresh x k.imm then .next s
    else .next (ctlTake s k.keyId k.imm)

end Sys2Proof.Machine
end

