-- ==== Sys2Proof/Machine/Sessions.lean ====
section
/-!
DEFINITION. Session establishment (R403 to R407, R550). What cryptography finds in a message comes with the
command (DESIGN CHOICE, log 10); which side initiates, which endpoint and KEY_ID a session takes, whose identity a kind
requires and what is installed are the module's.
-/

namespace Sys2Proof.Machine

open Sys2Proof

/-- Count a failed handshake (R407). -/
def sessionFail (s : State) : State := bumpE s eSessionFails 0

/-- The handshake with identifier i. -/
def hsOf (s : State) (i : Nat) : Option Hs := s.hss.find? (fun h => h.id == i)

/-- Replace a handshake. -/
def setHs (s : State) (h : Hs) : State := { s with hss := mapIf (fun x => x.id == h.id) (fun _ => h) s.hss }

/-- Remove a handshake. -/
def dropHs (s : State) (i : Nat) : State := { s with hss := s.hss.filter (fun h => h.id != i) }

/-- A digest as a number with byte 0 most significant (R404). -/
def beNum (h : Nat) : Nat := ofBytes (bytesOf h 32).reverse

/-- This module initiates towards the peer (R404): a lower MODULE_ID, or where they are equal a lower hash of
the identity key. -/
def initiates (s : State) (h : HelloMsg) : Bool :=
  h.modulePeer && (decide (rdE s eModuleId 0 < h.peerModule) ||
    (rdE s eModuleId 0 == h.peerModule && decide (beNum (ownKeyHash s) < beNum h.peerHash)))

/-- The kinds whose peer is a module (R403). -/
def moduleKind (k : Nat) : Bool := k == 3 || k == 5 || k == 6

/-- The endpoint a session names (R407): the lowest READY one of the context, homed on the die, ADMISSION for
kinds 1 to 5 and ordinary for kind 6. -/
def sessionEp (s : State) (die kind n : Nat) : Option Nat :=
  (tkeys (s.eps.filter (fun x => x.2.st == 1 && x.2.ctx == n && homeDie x.1 == die &&
    (if kind = 6 then !isAdmission x.2 else isAdmission x.2)))).head?

/-- The context is CONFIGURED or ACTIVE (R407). -/
def ctxUp (s : State) (n : Nat) : Bool :=
  decide (n < 256) && (rdE s eCtxState n == cxConfigured || rdE s eCtxState n == cxActive)

/-- The lowest KEY_ID that may be installed: FREE, out of quarantine, not reserved by a handshake, not 0xFFFF
(R375, R377). -/
def freeKeyId (s : State) : Option Nat :=
  firstFrom (fun k => (keyOf s k).st == 0 && !(keyOf s k).quar && !s.hss.any (fun h => !h.initiator && h.keyId == k)) 0 65535

/-- Live management sessions (R550). -/
def mgmtSessions (s : State) : Nat := (s.keys.filter (fun k => k.2.st == 1 && k.2.kind == 7)).length

/-- An endpoint's context may be admitted to a session of the kind: a management session names none. -/
def helloEp (s : State) (die : Nat) (h : HelloMsg) : Option Nat :=
  if h.kind = 7 then some 0 else if ctxUp s h.context then sessionEp s die h.kind h.context else none

/-- The oldest presented credential bundle of the peer that is complete (R404, R406). -/
def presented (s : State) (h : HelloMsg) : Option Hs :=
  s.hss.find? (fun x => x.step == 0 && x.credParts.length == 3 && x.cred.identity == h.peerHash)

/-- A side accepts a bundle (R406); a kind that needs it asks for the fabric certificate (R403). -/
def credOk (s : State) (kind : Nat) (c : Credential) : Bool :=
  c.aliasOk && c.lifecycle == effLc s && (kind == 3 || c.fabricOk)

/-- The HELLO can be answered (R404, R406, R407, R437, R550). -/
def helloOk (s : State) (die : Nat) (h : HelloMsg) : Bool :=
  aliasReady s && decide (1 ≤ h.kind ∧ h.kind ≤ 7) && (helloEp s die h).isSome && (freeKeyId s).isSome &&
    (if moduleKind h.kind then h.modulePeer && (presented s h).any (fun x => credOk s h.kind x.cred) else !h.modulePeer || h.kind == 7) &&
    (h.kind != 7 || decide (mgmtSessions s < 4))

/-- The module's own credential bundle (R406): identity public key, alias certificate, fabric certificate. -/
def ownBundle (s : State) : List Nat :=
  bytesOf s.boot.idPub 60 ++ bytesOf (rdE s eAliasCert 0) 5748 ++ bytesOf (rdE s eFabricCert 0) 4096

/-- The module's three CREDENTIAL payloads (R404). -/
def ownCreds (s : State) (kind : Nat) : List Nat := (List.range 3).flatMap (fun p => credBytes kind p (ownBundle s))

/-- The peer's three CREDENTIAL payloads as they came. -/
def peerCreds (x : Hs) (kind : Nat) : List Nat :=
  (List.range 3).flatMap (fun p => [6, kind, p, 0] ++ bytesOf (tget x.parts 0 p) (if p = 2 then 1720 else 4092))

/-- Send the module's CREDENTIAL messages. -/
def sendCreds (s : State) (hs kind : Nat) : State :=
  (List.range 3).foldl (fun s p => emit s (.credential hs p (credBytes kind p (ownBundle s)))) s

/-- T of a session (R405): the initiator's bundle where it is sent, HELLO, the responder's bundle where it is sent, and
REPLY without its signature. -/
def transcript (h : HelloMsg) (own peer reply : List Nat) : Nat :=
  Config.sha256 (if moduleKind h.kind then own ++ helloBytes h ++ peer ++ reply else helloBytes h ++ reply)

/-- The alias key's LMS signature, 1,452 bytes, by the leaf that signs it (R449, R454). -/
def aliasSig (s : State) (msg : List Nat) : List Nat :=
  let g := Config.signature ((aliasSeed s s.boot.aliasIdx).1 + 2 ^ 256 * s.boot.aliasLeaf) msg
  lmsSig s.boot.aliasLeaf g

/-- Answer a HELLO with CREDENTIAL where the peer is a module, and REPLY (R404, R405): the KEY_ID is reserved and the
transcript signed by the alias key. NONCE_R, the ephemeral values and the secrets are random (DESIGN CHOICE, log 11). -/
def helloReply (s : State) (die : Nat) (h : HelloMsg) : State :=
  let e := (helloEp s die h).getD 0
  let k := (freeKeyId s).getD 0xFFFF
  let cred := ((presented s h).map (·.cred)).getD {}
  let s1 := match presented s h with
    | some x => if moduleKind h.kind then dropHs s x.id else s
    | none => s
  let gen := ((keyOf s1 k).gen + 1) % 65536
  let head := replyHead h.kind k gen e (Config.freeNat s1.free) (Config.freeNat (s1.free + 1)) (Config.freeNat (s1.free + 2))
  let pc := match presented s h with | some x => peerCreds x h.kind | none => []
  let t := transcript h pc (ownCreds s h.kind) head
  let x : Hs := { id := s1.nextHs, die := die, hello := h, step := 2, keyId := k, localEp := e, cred := cred, t := t, ss := Config.freeNat (s1.free + 3) }
  let s2 := useAlias { s1 with hss := s1.hss ++ [x], nextHs := s1.nextHs + 1, free := s1.free + 4 }
  let s3 := if moduleKind h.kind then sendCreds s2 x.id h.kind else s2
  emit s3 (.reply x.id k gen e (head ++ aliasSig s (bytesOf t 32)))

/-- The module's own start of a session towards a module (R404): its CREDENTIAL parts and HELLO leave. The spec
does not say when a module starts one; the command says so (DESIGN CHOICE, log 59). -/
def helloStart (s : State) (die : Nat) (h : HelloMsg) : State :=
  match helloEp s die h with
  | none => sessionFail s
  | some e =>
    let h1 := { h with
      initEp := e
      nonce := Config.freeNat s.free % 2 ^ 256
      x25519 := Config.freeNat (s.free + 1) % 2 ^ 256
      kem := Config.freeNat (s.free + 2) % 2 ^ 12544 }
    let x : Hs := { id := s.nextHs, die := die, hello := h1, step := 1, localEp := e, initiator := true }
    let s1 := sendCreds { s with hss := s.hss ++ [x], nextHs := s.nextHs + 1, free := s.free + 3 } x.id h.kind
    emit s1 (.hello h.peerModule h.kind h.context e (helloBytes h1))

/-- The Turnstile of a port die answers sessions; the root die serves the management port (R550). -/
def sessionDieUp (s : State) (die : Nat) : Bool :=
  if die = dieRt then rtUp s else portDieUp s die

/-- HELLO (R404, R407, R437): answered, or dropped and counted; one that finds too many handshakes in progress
is dropped silently. -/
def execHello (die : Nat) (h : HelloMsg) (s : State) : Res :=
  if !sessionDieUp s die || (die == dieRt && h.kind != 7) then .next s
  else if moduleKind h.kind && initiates s h then
    .next (if aliasReady s ∧ h.rngOk then helloStart s die h else sessionFail s)
  else if h.rngOk = false then .next (bumpB (sessionFail s) rUnavail 4 1)
  else if h.secretOk = false then .next (sessionFail s)
  else if !helloOk s die h then .next (sessionFail s)
  else if 1024 ≤ (s.hss.filter (fun x => x.step == 2)).length then .next s
  else .next (helloReply s die h)

/-- CREDENTIAL (R404, R406): a part of the peer's bundle joins its handshake, or begins one before HELLO. A
complete bundle that fails ends the handshake. -/
def execCredential (i part : Nat) (c : Credential) (s : State) : Res :=
  if !running s || s.pwr.frozen || 3 ≤ part then .next s
  else
    let x := (hsOf s i).getD { id := s.nextHs, hello := {}, step := 0 }
    let s1 := if (hsOf s i).isSome then s else { s with hss := s.hss ++ [x], nextHs := s.nextHs + 1 }
    let y := { x with
      credParts := if x.credParts.contains part then x.credParts else x.credParts ++ [part]
      parts := if x.credParts.contains part then x.parts else tset x.parts 0 part c.body
      cred := if part = 2 then c else x.cred }
    if y.credParts.length = 3 ∧ (y.cred.aliasOk = false ∨ y.cred.lifecycle ≠ effLc s) then
      .next (sessionFail (dropHs s1 x.id))
    else .next (setHs s1 y)

/-- The identity that a kind requires of the peer's key hash (R403, R550). The module's own number for the
peer, where it has one, comes from the fabric certificate. -/
def identityOk (s : State) (h : HelloMsg) (hash : Nat) (c : Credential) : Bool :=
  let n := h.context
  match h.kind with
  | 1 => (List.range 16).any (fun k => rdEj s eGatewayKeyK n k == hash && hash != 0) || rdE s eAnonContrib n == 1
  | 2 => decide (1 ≤ h.member ∧ h.member ≤ 64) && rosterHash s n h.member == hash
  | 3 => credOk s 3 c && (cfgE s ePeer1Key n == hash || cfgE s ePeer2Key n == hash)
  | 4 => cfgE s eDealerKey n == hash
  | 5 => credOk s 5 c && (jobPeers s n).contains c.moduleId
  | 6 => credOk s 6 c
  | _ => (List.range 4).any (fun k => rdEj s eMgmtKeyK 0 k == hash && hash != 0)

/-- A GATEWAY session is keyed (R403). -/
def keyedGateway (s : State) (n hash : Nat) : Bool :=
  (List.range 16).any (fun k => rdEj s eGatewayKeyK n k == hash && hash != 0)

/-- The quota of the function that would own the key has room (R491). -/
def keyQuotaOk (s : State) (e kind : Nat) : Bool :=
  kind == 7 || decide (objHeld s (epOf s e).owner 4 < rdE s eQuotaKeys (epOf s e).owner)

/-- Install the session's key (R375, R407): its owner and domain are the endpoint's. Form 1 is a module peer, 2
an external peer, 3 a manager on the management port, which no register shows. -/
def installSession (s : State) (x : Hs) (k gen hash : Nat) (dst : Nat) : State :=
  let h := x.hello
  let p := epOf s x.localEp
  let key : Key :=
    { st := 1
      gen := gen
      owner := if h.kind = 7 then 0 else p.owner
      ctx := h.context
      pd := if h.kind = 7 then 0 else p.pd
      ctxGen := ctxKeyGenOf s h.context
      form := if x.die = dieRt then 3 else if h.modulePeer then 1 else 2
      peer := if h.modulePeer then h.peerModule else h.addr6
      kind := h.kind
      keyed := h.kind != 1 || keyedGateway s h.context hash
      member := h.member
      peerHash := hash
      dstEp := dst
      localEp := x.localEp
      msgKey := sessionKey x.t x.ss k gen
      resp := !x.initiator
      confirm := confirmOf x.t x.ss
      slot := if h.kind = 7 then (emptySlot s).getD 256 else 256 }
  let s1 := setKey s k key
  let s2 := if h.kind = 4 then wrE s1 ePeerState h.context (putBit (rdE s1 ePeerState h.context) 2 true) else s1
  if h.kind = 7 then (installKey s2 pMgmt 0 0 0 true (freshVal s2)).getD s2 else s2

/-- The responder's last check (R403, R407). -/
def finishOk (s : State) (x : Hs) (hash : Nat) (confirmOk sigOk : Bool) : Bool :=
  confirmOk && sigOk && identityOk s x.hello hash x.cred && keyQuotaOk s x.localEp x.hello.kind &&
    (x.hello.kind == 7 || (ctxUp s x.hello.context && (epOf s x.localEp).st == 1)) &&
    (x.hello.kind != 7 || (decide (mgmtSessions s < 4) && (emptySlot s).isSome))

/-- The key hash that identifies the peer (R406): a module by its identity key, another by PEER_PUB. -/
def peerHashOf (x : Hs) (peerPub : Nat) : Nat :=
  if moduleKind x.hello.kind then x.cred.identity else Config.sha256 (bytesOf peerPub 60)

/-- FINISH (R407): the key is installed and ACCEPT sent, or nothing is installed and the failure counted. -/
def execFinish (i : Nat) (confirmOk sigOk : Bool) (peerPub : Nat) (s : State) : Res :=
  match hsOf s i with
  | none => .next s
  | some x =>
    if x.step ≠ 2 ∨ x.initiator ∨ sessionDieUp s x.die = false then .next s
    else
      let hash := peerHashOf x peerPub
      let s1 := dropHs s i
      if finishOk s x hash confirmOk sigOk then
        let gen := ((keyOf s x.keyId).gen + 1) % 65536
        let s2 := installSession s1 x x.keyId gen hash x.hello.initEp
        .next (freshNext (emit s2 (.accept x.keyId gen stOk (acceptBytes stOk x.keyId gen))))
      else .next (sessionFail s1)

/-- T as a module initiator forms it. The REPLY's own values come with the message, which the command does not carry
(DESIGN CHOICE, log 11). -/
def replyTranscript (s : State) (x : Hs) (keyId keyGen ep : Nat) : Nat :=
  transcript x.hello (ownCreds s x.hello.kind) (peerCreds x x.hello.kind)
    (replyHead x.hello.kind keyId keyGen ep (Config.freeNat s.free) (Config.freeNat (s.free + 1)) (Config.freeNat (s.free + 2)))

/-- The FINISH of a module initiator (R404, R406): CONFIRM, its alias key in HSS form, and its signature over
T ‖ CONFIRM. -/
def ownFinish (s : State) (x : Hs) : List Nat :=
  let c := confirmOf x.t x.ss
  finishBytes x.hello.kind x.keyId c (hssPub (bytesOf s.boot.aliasPub 56)) (hssSig (aliasSig s (bytesOf x.t 32 ++ bytesOf c 32)))

/-- REPLY (R405, R406): a module initiator that accepts the responder's credentials, signature and shared
secret sends FINISH, signed by its alias key. -/
def execReply (i keyId keyGen dstEp : Nat) (sigOk secretOk : Bool) (s : State) : Res :=
  match hsOf s i with
  | none => .next s
  | some x =>
    if x.step ≠ 1 ∨ x.initiator = false ∨ sessionDieUp s x.die = false then .next s
    else if sigOk ∧ secretOk ∧ aliasReady s ∧ x.credParts.length = 3 ∧ credOk s x.hello.kind x.cred ∧
        identityOk s x.hello x.cred.identity x.cred ∧ keyQuotaOk s x.localEp x.hello.kind ∧ keyId < 65535 ∧
        (keyOf s keyId).st = 0 ∧ (keyOf s keyId).quar = false then
      let y := { x with
        step := 3
        keyId := keyId
        keyGen := keyGen
        peerEp := dstEp
        t := replyTranscript s x keyId keyGen dstEp
        ss := Config.freeNat (s.free + 3) }
      .next (emit (useAlias { setHs s y with free := s.free + 4 }) (.finish i keyId (ownFinish s y)))
    else .next (sessionFail (dropHs s i))

/-- ACCEPT (R404, R407): the initiator installs the key under the responder's KEY_ID and generation. -/
def execAccept (i status : Nat) (tagOk : Bool) (s : State) : Res :=
  match hsOf s i with
  | none => .next s
  | some x =>
    if x.step ≠ 3 ∨ x.initiator = false ∨ sessionDieUp s x.die = false then .next s
    else if tagOk ∧ status = stOk ∧ (epOf s x.localEp).st = 1 ∧ (keyOf s x.keyId).st = 0 then
      .next (freshNext (installSession (dropHs s i) x x.keyId x.keyGen x.cred.identity x.peerEp))
    else .next (sessionFail (dropHs s i))

/-- End a session: its key retires, and a management session's vault slot with it (R377, R550). -/
def endSession (s : State) (k : Nat) : State :=
  let s1 := retireKey s k
  let i := (keyOf s k).slot
  if (vslot s i).purpose = pMgmt ∧ (vslot s i).st = 2 then setV s1 i { vslot s i with st := 3 } else s1

/-- CLOSE (R404): protected under the session's key; it retires the key. -/
def execClose (k : Nat) (tagOk : Bool) (s : State) : Res :=
  if !running s || s.pwr.frozen || (keyOf s k).st != 1 then .next s
  else if tagOk = false then .next (bumpE s eTagFails 0)
  else .next (endSession s k)

/-- HANDSHAKE_TIMEOUT (R407): 100 ms after REPLY without FINISH the KEY_ID is released. -/
def execHandshakeTimeout (i : Nat) (s : State) : Res :=
  match hsOf s i with
  | none => .next s
  | some x => if x.step = 2 then .next (dropHs s i) else .next s

end Sys2Proof.Machine
end

