-- ==== Sys2Proof/Machine/Links.lean ====
section
/-!
DEFINITION. Module ports, their training and link keys, Ethernet ports, the switch, unreachable destinations
and job aborts (chapter 10). What a peer's signatures and a frame's tag prove comes with the command (DESIGN CHOICE, log 10).
-/

namespace Sys2Proof.Machine

open Sys2Proof

/-! ### Ports and their registers (R311, R312) -/

/-- The port die of module port p (R305). -/
def portDie (p : Nat) : Nat := if p < 13 then diePd0 else diePd1

/-- BAR2 offset of the registers of module port p (R30, R311). -/
def portBase (p : Nat) : Nat := (portDie p + 2) * 0x1000000 + 0x800000 + 0x10000 * (p % 13)

/-- The port core works: its die is in service and awake, and the module neither reset nor frozen. -/
def coreUp (s : State) (p : Nat) : Bool :=
  !s.pwr.inReset && !s.pwr.frozen && inService s (portDie p) && decide (dieState s (portDie p) < 2)

/-- SHL_PORT_STATUS (R312). -/
def portStatus (s : State) (p : Nat) : Nat :=
  let x := portOf s p
  2 ^ 24 * x.st + 2 ^ 22 * x.width + 2 ^ 21 * b2n x.spareInUse + 2 ^ 20 * b2n x.spareHot + 2 ^ 19 * b2n x.cable +
    2 ^ 18 * b2n x.verified + 2 ^ 8 * x.lanesGood

/-- SHL_PORT_CTRL (R311). -/
def portCtrl (s : State) (p : Nat) : Nat := 2 ^ 31 * b2n (portOf s p).enable + 2 ^ 29 * b2n (portOf s p).forceHalf

/-- SHL_PEER (R311). -/
def portPeer (s : State) (p : Nat) : Nat := 2 ^ 15 * b2n (portOf s p).peerValid + (portOf s p).peer

/-- A LINK fault record of module port p (R510). -/
def linkFault (s : State) (p : Nat) : State := writeFault s (plainFault ftLink 0 0 noUnit p)

/-- The port out of the live set: DOWN in a state, its peer no longer verified. -/
def portDown (x : Port) (st : Nat) : Port :=
  { x with
    st := st
    width := 0
    verified := false
    peerValid := false
    tagRun := 0
    spareHot := false
    trainStep := if st = 1 then 1 else 0 }

/-- A retrain from step 2 (R313): the port listens for signal; a lane stays faulty no longer (R309). -/
def portRetrain (x : Port) : Port := { portDown x 1 with lanesGood := 0, spareInUse := false, outLane := 9 }

/-- A port whose link key is discarded returns to the AUTH step (R455; DEDUCED, log 98). -/
def dropLink (x : Port) : Port := if x.st = 4 ∨ x.st = 5 then { portDown x 3 with trainStep := 4 } else x

/-- Every port, once the vault is zeroed. -/
def dropLinks (s : State) : State := { s with ports := s.ports.map (fun p => (p.1, dropLink p.2)) }

/-- The width of n good lanes (R308). -/
def widthOf (x : Port) : Nat :=
  let n := popCount 9 x.lanesGood
  if n < 4 then 0 else if n < 8 ∨ x.forceHalf then 1 else 2

/-- The lanes that carry traffic after training (R308): at FULL eight good lanes, at HALF the four lowest-numbered. -/
def carryLanes (x : Port) : List Nat :=
  ((List.range 9).filter (bit x.lanesGood)).take (if widthOf x = 2 then 8 else if widthOf x = 1 then 4 else 0)

/-- Width, and the spare's part, of the lanes as they stand (R308, R310, R312): it carries traffic where a data lane is
missing, and is else in hot standby at G1 and G2 while good. -/
def setLanes (s : State) (x : Port) : Port :=
  let used := (carryLanes x).contains 8
  { x with
    width := widthOf x
    spareInUse := used
    spareHot := decide (1 ≤ guardLevel s) && !used && bit x.lanesGood 8 }

/-- The spare lane is powered: at G1 and G2, or in use (R310). -/
def sparePowered (s : State) (x : Port) : Bool := decide (1 ≤ guardLevel s) || x.spareInUse

/-! ### Training (R313) -/

/-- CABLE_INSERTION: CABLE_PRES_N is asserted; the debounce runs. -/
def execCableInsertion (p : Nat) (s : State) : Res :=
  if (portOf s p).cable ∨ pinsUp s = false then .next s
  else .next (setPort s p { portOf s p with cable := true, debounced := false })

/-- CABLE_DEBOUNCE_DONE (R313 step 1): an enabled port of a running core enters DETECT. -/
def execCableDebounceDone (p : Nat) (s : State) : Res :=
  let x := portOf s p
  if x.cable ∧ x.debounced = false ∧ pinsUp s then
    if x.enable ∧ coreUp s p then
      .next (setPort s p { portRetrain x with debounced := true, failsInRow := 0 })
    else .next (setPort s p { x with debounced := true })
  else .next s

/-- CABLE_REMOVAL (R331): the cable is gone, or every lane lost its signal. A port that waits for a sleeping
partner posts no LINK fault for lost lanes (R557). -/
def execCableRemoval (p : Nat) (lanesLost : Bool) (s : State) : Res :=
  let x := portOf s p
  if x.cable = false ∨ (pinsUp s = false ∧ lanesLost = false) then .next s
  else if lanesLost then
    if !coreUp s p || x.hold || x.st < 2 || 4 < x.st then .next s
    else .next (linkFault (setPort s p (portRetrain x)) p)
  else
    let y := { portDown x 0 with
      cable := false
      debounced := false
      lanesGood := 0
      spareInUse := false
      hold := false
      failsInRow := 0 }
    .next (if s.pwr.inReset then setPort s p y else linkFault (setPort s p y) p)

/-- LANE_SIGNAL_DETECTED (R313 step 2): the lanes with signal, but the one that a spare replaces (R310); fewer than 4
leave the port DOWN (R308). -/
def execLaneSignalDetected (p lanes : Nat) (s : State) : Res :=
  let x := portOf s p
  let good := putBit (lanes % (if sparePowered s x then 512 else 256)) x.outLane false
  if x.st ≠ 1 ∨ coreUp s p = false then .next s
  else if popCount 9 good < 4 then .next (setPort s p { x with lanesGood := good })
  else .next (setPort s p { x with lanesGood := good, st := 2, trainStep := 2, hold := false })

/-- LANE_EQUALISATION_DONE (R313 step 3). -/
def execLaneEqualisationDone (p : Nat) (s : State) : Res :=
  let x := portOf s p
  if x.st = 2 ∧ x.trainStep = 2 ∧ coreUp s p then .next (setPort s p { x with trainStep := 3 }) else .next s

/-- The port joins the switch's live ports (R313 step 6). -/
def portUp (s : State) (p : Nat) (x : Port) : State :=
  setPort s p { setLanes s x with
    st := 4
    trainStep := 6
    verified := true
    failsInRow := 0
    tagRun := 0 }

/-- LANE_DESKEW_DONE (R313 step 4): a port that woke with its link keys retained is UP again (R564). -/
def execLaneDeskewDone (p : Nat) (s : State) : Res :=
  let x := portOf s p
  if x.st = 2 ∧ x.trainStep = 3 ∧ coreUp s p then
    if x.verified then .next (portUp s p x)
    else .next (setPort s p { x with st := 3, trainStep := 4 })
  else .next s

/-- A training attempt that did not reach UP (R313): the third in a row is FAULT. -/
def trainFail (s : State) (p : Nat) : State :=
  let x := portOf s p
  let y := { (if 3 ≤ x.failsInRow + 1 then portDown x 6 else portRetrain x) with
    failsInRow := x.failsInRow + 1
    spareInUse := x.spareInUse
    outLane := x.outLane }
  bumpB (setPort s p y) (portBase p + 0x24) 4 1

/-- TRAINING_TIMEOUT (R313): 200 ms without UP. A port that waits for a sleeping partner (R557) or for
KEYS_READY (R437) counts no failure. -/
def execTrainingTimeout (p : Nat) (s : State) : Res :=
  let x := portOf s p
  if 1 ≤ x.st ∧ x.st ≤ 3 ∧ x.hold = false ∧ coreUp s p ∧ (x.st ≠ 3 ∨ s.boot.keysReady) then .next (trainFail s p)
  else .next s

/-- The admission list of R315; the certificate has the layout of R316. -/
def linkAdmitted (s : State) (h : LinkCert) : Bool :=
  let c := fabricCertOf h.cert
  h.fabricSigOk && c.2.2.2.2 && c.2.2.1 == h.identity && h.aliasOk && h.transcriptOk && c.2.1 == rdE s eFabricId 0 &&
    decide (rdE s eFabricEpochMin 0 ≤ c.2.2.2.1) && c.1 != rdE s eModuleId 0 && h.lifecycle == effLc s &&
    (effLc s == 1 || effLc s == 2) && h.secretOk

/-- The module that a fabric certificate names. -/
def certModule (h : LinkCert) : Nat := (fabricCertOf h.cert).1

/-- The RIGHTS bit of the port cores of a die (R443). -/
def portRights (p : Nat) : Nat := if p < 13 then 2 ^ 6 else 2 ^ 7

/-- The slot of a link key of port p in a state of R443. -/
def linkSlot (s : State) (purpose p st : Nat) : Option Nat :=
  firstFrom (fun i => (vslot s i).st == st && (vslot s i).purpose == purpose && (vslot s i).port == p) 0 256

/-- A successor that waits for its frame count is given up (R444). -/
def cancelLink (s : State) (p : Nat) : State :=
  { s with vault := s.vault.map (fun v =>
      (v.1, if v.2.st == 1 && (v.2.purpose == pLinkTx || v.2.purpose == pLinkRx) && v.2.port == p then { v.2 with st := 3 } else v.2)) }

/-- The module's handshake messages on a link (R315): its bundle and a key share, whose value is random. -/
def linkOwn (s : State) : List Nat := ownBundle s ++ bytesOf (freshVal s) 32

/-- T_L (R442): both sides' messages in the order sent. -/
def linkT (s : State) (h : LinkCert) : Nat :=
  Config.sha256 (if h.first then h.raw ++ linkOwn s else linkOwn s ++ h.raw)

/-- Install both link keys of a port for rekey count 0 (R440, R442); none while the vault has no EMPTY slots (R446). The
shared secrets are free (DESIGN CHOICE, log 11). -/
def linkKeys (s : State) (p : Nat) (h : LinkCert) : Option State :=
  let ss := Config.freeNat (s.free + 1)
  let own := rdE s eModuleId 0
  (installKey (cancelLink s p) pLinkTx 0 p (portRights p) true (linkKeyOf (linkT s h) ss own (certModule h) 0)).bind fun s1 =>
    (installKey s1 pLinkRx 0 p (portRights p) true (linkKeyOf (linkT s h) ss (certModule h) own 0)).map fun s2 =>
      { s2 with free := s2.free + 2 }

/-- LINK_PEER_HANDSHAKE (R313 step 5, R315): the module's bundle and its signature of the transcript leave. Waits for
the alias key (R437) and for slots (R446). -/
def execLinkPeerHandshake (p : Nat) (h : LinkCert) (s : State) : Res :=
  let x := portOf s p
  if x.st ≠ 3 ∨ coreUp s p = false ∨ vaultUp s = false ∨ aliasReady s = false then .next s
  else if s.rng.queue = [] then .next (trainFail (bumpB s rUnavail 4 1) p)
  else
    let s0 := emit (useAlias (rngTake s 1)) (.linkHand p (linkOwn s ++ aliasSig s (bytesOf (linkT s h) 32)))
    if !linkAdmitted s h then
      .next (linkFault (bumpB (setPort s0 p (portDown x 6)) (portBase p + 0x2C) 4 1) p)
    else
      match linkKeys s0 p h with
      | none => .next s
      | some s1 => .next (portUp s1 p { x with
          peer := certModule h
          peerValid := true
          txN := 0
          rxN := 0
          txE := 0
          rxE := 0
          txAt := none
          rxAt := none })

/-! ### Lanes (R309, R310) -/

/-- The lanes that carry traffic now: a hot spare may have taken one lane's place (R310). -/
def carries (x : Port) (lane : Nat) : Bool :=
  if lane = 8 then x.spareInUse
  else bit x.lanesGood lane && decide (popCount lane x.lanesGood < (if x.width = 1 then 4 - b2n x.spareInUse else 8))

/-- The hot spare takes the lane's traffic: G1 or G2, a data lane that carries some, the spare hot. (DEDUCED, log 117.) -/
def spareTakes (s : State) (x : Port) (lane : Nat) : Bool :=
  decide (1 ≤ guardLevel s) && x.st == 4 && decide (lane < 8) && x.spareHot && carries x lane

/-- Count codewords of a port (R311). -/
def countCw (s : State) (p corrected uncorr : Nat) : State :=
  bumpB (bumpB s (portBase p + 0x10) 8 corrected) (portBase p + 0x18) 8 uncorr

/-- A lane becomes faulty (R309, R310): a hot spare takes its traffic; at G0 the port retrains with the spare in its
place; a lane without traffic is only lost; else the port retrains. -/
def laneLost (s : State) (p lane : Nat) : State :=
  let x := portOf s p
  let y := { x with lanesGood := putBit x.lanesGood lane false }
  if spareTakes s x lane then
    bumpB (setPort s p { y with spareInUse := true, spareHot := false }) (portBase p + 0x28) 4 1
  else if x.st = 4 ∧ carries x lane = false then setPort s p { y with spareHot := x.spareHot && lane != 8 }
  else if guardLevel s = 0 ∧ lane < 8 ∧ x.spareInUse = false then
    bumpB (setPort s p { portRetrain y with spareInUse := true, outLane := lane }) (portBase p + 0x28) 4 1
  else setPort s p (portRetrain y)

/-- LANE_FAULT (R309, R310): a good lane of a port in training or UP becomes faulty. -/
def execLaneFault (p : Nat) (lane : PortEvent) (s : State) : Res :=
  let x := portOf s p
  if !coreUp s p || x.st < 2 || 4 < x.st || !bit x.lanesGood lane.what then .next s
  else .next (laneLost (countCw s p lane.corrected lane.uncorr) p lane.what)

/-! ### SHL_PORT_CTRL (R311) -/

/-- ENABLE: 0 holds the port in OFF; 1 lets a port with a cable train from step 2. FAULT is left by neither (R313). -/
def setEnable (s : State) (p : Nat) (on : Bool) : State :=
  let x := portOf s p
  if on = x.enable then s
  else if x.st = 6 then setPort s p { x with enable := on }
  else if on then
    setPort s p (if x.cable ∧ x.debounced ∧ coreUp s p then { portRetrain x with enable := true } else { x with enable := true })
  else setPort s p { portDown x 0 with enable := false, hold := false }

/-- RETRAIN: training restarts from step 2; a port without a cable or held in OFF has none to restart. -/
def setRetrain (s : State) (p : Nat) : State :=
  let x := portOf s p
  if x.enable ∧ x.cable ∧ x.debounced ∧ coreUp s p then setPort s p { portRetrain x with failsInRow := 0, hold := false } else s

/-- FORCE_HALF: a port that is UP changes its width at once (DEDUCED, log 60). -/
def setForceHalf (s : State) (p : Nat) (on : Bool) : State :=
  let x := { portOf s p with forceHalf := on }
  setPort s p (if x.st = 4 then setLanes s x else x)

/-- PORT_ENABLE: a write of ENABLE to SHL_PORT_CTRL. -/
def execPortEnable (p : Nat) (on : Bool) (s : State) : Res :=
  if bar2Up s then .next (setEnable s p on) else .next s

/-- PORT_RETRAIN: a write of RETRAIN. -/
def execPortRetrain (p : Nat) (s : State) : Res :=
  if bar2Up s then .next (setRetrain s p) else .next s

/-- PORT_FORCE_HALF: a write of FORCE_HALF. -/
def execPortForceHalf (p : Nat) (on : Bool) (s : State) : Res :=
  if bar2Up s then .next (setForceHalf s p on) else .next s

/-! ### Link keys and frames (R314, R317, R318) -/

/-- The frames of a direction under its key (0 sent, 1 received). -/
def dirN (x : Port) (dir : Nat) : Nat := if dir = 0 then x.txN else x.rxN

/-- The frame count agreed for the next key of a direction. -/
def dirAt (x : Port) (dir : Nat) : Option Nat := if dir = 0 then x.txAt else x.rxAt

/-- The purpose of a direction's key. -/
def dirPurpose (dir : Nat) : Nat := if dir = 0 then pLinkTx else pLinkRx

/-- One more frame of a direction: at the agreed count the successor takes over, and its frames are counted from 0
(R317, R445). -/
def countFrame (s : State) (p dir n : Nat) : State :=
  let x := portOf s p
  let c := dirN x dir + n
  match dirAt x dir with
  | some f =>
    if f ≤ c then
      let s1 := match linkSlot s (dirPurpose dir) p 1 with
        | some i => activateSlot s i
        | none => s
      setPort s1 p (if dir = 0 then { x with txN := 0, txE := x.txE + 1, txAt := none }
        else { x with rxN := 0, rxE := x.rxE + 1, rxAt := none })
    else setPort s p (if dir = 0 then { x with txN := c } else { x with rxN := c })
  | none => setPort s p (if dir = 0 then { x with txN := c } else { x with rxN := c })

/-- The next key of a direction, from a fresh handshake (R317, R440). -/
def nextLinkKey (s : State) (p dir : Nat) : Nat :=
  let x := portOf s p
  let own := rdE s eModuleId 0
  linkKeyOf (freshVal s) (Config.freeNat (s.free + 1)) (if dir = 0 then own else x.peer) (if dir = 0 then x.peer else own)
    ((if dir = 0 then x.txE else x.rxE) + 1)

/-- LINK_REKEY (R317): the key of one direction (0 sent, 1 received) from a fresh handshake is PENDING until the agreed
frame; a rekey without random words or slots, or while another is agreed, waits. -/
def execLinkRekey (p dir frame : Nat) (s : State) : Res :=
  let x := portOf s p
  if x.st ≠ 4 ∨ coreUp s p = false ∨ vaultUp s = false ∨ aliasReady s = false ∨ (dirAt x dir).isSome then .next s
  else if s.rng.queue = [] then .next (bumpB s rUnavail 4 1)
  else
    match emptySlot s with
    | none => .next s
    | some i =>
      let s0 := useAlias (rngTake s 1)
      let s1 := fillSlot { s0 with free := s0.free + 2 } i (dirPurpose dir) 0 p (portRights p) true (nextLinkKey s0 p dir)
      let s2 := setPort s1 p (if dir = 0 then { x with txAt := some frame } else { x with rxAt := some frame })
      .next (emit (countFrame s2 p dir 0) (.linkKey p dir frame))

/-- The first packet in a list that came in on a port and whose tag is not checked yet gets its verdict (R318). -/
def tagFirst (c : Nat) (ok : Bool) (l : List Held) : List Held :=
  l.modify (l.findIdx (fun h => h.inPort == c && h.tagSt == 0)) (fun h => { h with tagSt := if ok then 1 else 2 })

/-- The frame's tag verdict for the oldest packet of the port that the switch holds (R318; DESIGN CHOICE, log 155). -/
def tagHeld (s : State) (p : Nat) (ok : Bool) : State :=
  { s with switchq := tset s.switchq [] (portDie p) (tagFirst (p % 13) ok (tget s.switchq [] (portDie p))) }

/-- A frame whose tag fails is dropped and counted; the sixteenth within 1 ms sends the port back to AUTH (R317). -/
def tagFail (s : State) (p : Nat) (within1ms : Bool) : State :=
  let x := portOf s p
  let n := if within1ms then x.tagRun + 1 else 1
  bumpB (setPort s p (if 16 ≤ n then { portDown x 3 with trainStep := 4 } else { x with tagRun := n })) (portBase p + 0x20) 4 1

/-- LINK_FRAME_RECEIVE (R317, R318, R557): the tag of a frame is known. A sleep notice (1 Sleep, 2 Deep sleep) takes the
port out of the live set. -/
def execLinkFrameReceive (p : Nat) (tagOk : Bool) (notice : PortEvent) (within1ms : Bool) (s : State) : Res :=
  if (portOf s p).st ≠ 4 ∨ coreUp s p = false then .next s
  else
    let s1 := countFrame (countCw s p notice.corrected notice.uncorr) p 1 1
    let x := portOf s1 p
    if tagOk = false then .next (tagFail (tagHeld s1 p false) p within1ms)
    else if notice.what = 1 then .next (setPort s1 p { x with st := 5, width := 0 })
    else if notice.what = 2 then .next (setPort s1 p { portRetrain x with hold := true })
    else .next (tagHeld s1 p true)

/-! ### The switch (R322 to R329) -/

/-- BAR2 offset of the switch block of a port die. -/
def swBase (die : Nat) : Nat := (die + 2) * 0x1000000 + 0x40000

/-- SW_DEST[m]. -/
def swDest (s : State) (die m : Nat) : Nat := rdB s (swBase die + 2 * m) 0
/-- SW_PATHSET[i]. -/
def swPathset (s : State) (die i : Nat) : Nat := rdB s (swBase die + 0x10000 + 8 * i) 0
/-- SW_MARK_THRESHOLD. -/
def swThreshold (s : State) (die : Nat) : Nat := rdB s (swBase die + 0x12008) 65536

/-- The module port behind egress code c of a die. -/
def egressPort (die c : Nat) : Nat := if die = diePd0 then c else 13 + c

/-- An egress code is live (R328): LOCAL and OTHER always, a port while UP. -/
def egressLive (s : State) (die c : Nat) : Bool :=
  if c < 13 then (portOf s (egressPort die c)).st == 4 else c == 13 || c == 14

/-- The candidates of a path set. -/
def pathCands (w : Nat) : List Nat :=
  let n := bits w 63 60
  if n = 0 ∨ 12 < n then [] else (List.range n).map (fun k => bits w (5 * k + 4) (5 * k))

/-- The choice of R328 among live candidates. -/
def swPick (path salt : Nat) (live : List Nat) : Nat :=
  live.getD ((((path * 0x9D) % 256) ^^^ salt) % live.length) 13

/-- The candidates of the route to a module; none without a valid entry. -/
def swRoute (s : State) (die m : Nat) : List Nat :=
  let e := swDest s die m
  if bit e 15 then pathCands (swPathset s die (bits e 9 0)) else []

/-- The egress of a packet (R322, R328): this module's own packets go to LOCAL whatever the tables hold. -/
def swEgress (s : State) (die : Nat) (k : Pkt) : Option Nat :=
  if k.dstModule = rdE s eModuleId 0 then some 13
  else
    let live := (swRoute s die k.dstModule).filter (egressLive s die)
    if live.isEmpty then none else some (swPick k.path (rdB s (swBase die + 0x12004) 0 % 256) live)

/-- Packets a switch holds. -/
def heldOn (s : State) (die : Nat) : List Held := tget s.switchq [] die

/-- Bytes in an egress queue of a virtual lane. -/
def vlBytes (s : State) (die egress vl : Nat) : Nat :=
  (((heldOn s die).filter (fun h => h.egress == egress && h.vl == vl && !h.waits)).map (fun h => pktBytes h.pkt)).sum

/-- Bytes in all queues of an egress. -/
def egressBytes (s : State) (die egress : Nat) : Nat :=
  (((heldOn s die).filter (fun h => h.egress == egress && !h.waits)).map (fun h => pktBytes h.pkt)).sum

/-- Ports of the route that sleep send the calliope pattern (R564). -/
def wakeRoute (s : State) (die m : Nat) : State :=
  (((swRoute s die m).filter (fun c => decide (c < 13))).map (egressPort die)).foldl
    (fun s p => if (portOf s p).st = 5 then emit s (.calliope p) else s) s

/-- The oldest packet that waits for room enters its egress queue (R325): 256 KiB at a Shuhal port; a queue above the
threshold marks it. -/
def enterQueue (s : State) (die c : Nat) : State :=
  match (heldOn s die).find? (fun h => h.egress == c && h.waits) with
  | none => s
  | some h =>
    if c < 13 ∧ 262144 < egressBytes s die c + pktBytes h.pkt then s
    else
      let cm := h.pkt.cm || (decide (c < 13) && decide (swThreshold s die < vlBytes s die c h.vl))
      { s with switchq := tset s.switchq [] die ((heldOn s die).modify ((heldOn s die).findIdx (fun x => x.egress == c && x.waits))
          (fun x => { x with waits := false, pkt := { x.pkt with cm := cm } })) }

/-- The packet goes to an egress (R323, R325, R345): out of a Shuhal port its hop count rises and its dateline bit is
set by a dateline port. -/
def swEnqueue (s : State) (die inPort c : Nat) (k : Pkt) : State :=
  let out := decide (c < 13)
  let dl := k.dateline || (out && bit (rdB s (swBase die + 0x12000) 0) c)
  let h : Held :=
    { pkt := { k with dateline := dl, hops := if out then k.hops + 1 else k.hops }, inPort := inPort, egress := c
      vl := 2 * k.service + b2n dl, waits := true, tagSt := if inPort < 13 then 0 else 1 }
  enterQueue { s with switchq := tset s.switchq [] die (heldOn s die ++ [h]) } die c

/-- SWITCH_FORWARD (R322 to R325, R328): the packet's first byte has arrived. Priority, credits and the link
decide when it leaves: a step on an empty queue (DESIGN CHOICE, log 61). (DEDUCED, log 114.) -/
def execSwitchForward (die inPort : Nat) (k : Pkt) (s : State) : Res :=
  if !portDieUp s die || unitStopped s die 1 then .next s
  else
    let s0 := if isData k.ty then actLed s else s
    if fnBlocked s k.tclass then .next (dropFenced s0 die)
    else
      match swEgress s die k with
      | none => .next (bumpB (wakeRoute s0 die k.dstModule) (swBase die + 0x12020) 8 1)
      | some c =>
        if c < 13 ∧ 64 < k.hops + 1 then .next (bumpB s0 (swBase die + 0x12018) 8 1)
        else .next (swEnqueue s0 die inPort c k)

/-- PACKET_RESIDENCE_EXPIRY (R324): held longer than 20 µs. -/
def execPacketResidenceExpiry (die pos : Nat) (s : State) : Res :=
  if portDieUp s die ∧ pos < (heldOn s die).length then
    .next (bumpB { s with switchq := tset s.switchq [] die ((heldOn s die).eraseIdx pos) } (swBase die + 0x12010) 8 1)
  else .next s

/-- The service of a held packet. -/
def heldService (h : Held) : Nat := h.vl / 2

/-- The balance key of service 0 or 1 of an egress. -/
def shareKey (die c sv : Nat) : Nat := (die * 16 + c) * 2 + sv

/-- A virtual lane's oldest packet may leave: it is in the queue, its ingress tag is known (R318), and a Shuhal port has a
credit for the lane (R323; DESIGN CHOICE, log 154). -/
def vlReady (s : State) (die c v : Nat) : Bool :=
  match (heldOn s die).find? (fun h => h.egress == c && h.vl == v) with
  | none => false
  | some h => !h.waits && h.tagSt != 0 && (decide (13 ≤ c) || Config.linkCredit s.free (egressPort die c) v)

/-- The packet of a service that an egress may send: the oldest of its two virtual lanes. -/
def serviceHead (s : State) (die c sv : Nat) : Option Held :=
  let r0 := vlReady s die c (2 * sv)
  let r1 := vlReady s die c (2 * sv + 1)
  (heldOn s die).find? (fun h => h.egress == c && ((r0 && h.vl == 2 * sv) || (r1 && h.vl == 2 * sv + 1)))

/-- The service that an egress serves next (R323): 3, then 2, then of 1 and 0 the one with fewer bytes served
while both waited. -/
def nextService (s : State) (die c : Nat) : Option Nat :=
  let has (v : Nat) : Bool := (serviceHead s die c v).isSome
  if has 3 then some 3
  else if has 2 then some 2
  else if has 1 && has 0 then
    some (if tget s.swShare 0 (shareKey die c 1) ≤ tget s.swShare 0 (shareKey die c 0) then 1 else 0)
  else if has 1 then some 1
  else if has 0 then some 0
  else none

/-- Keep the balance of services 0 and 1: only bytes drained while both wait count. -/
def noteShare (s : State) (die c sv n : Nat) : State :=
  let has (v : Nat) : Bool := (heldOn s die).any (fun h => h.egress == c && heldService h == v)
  if 2 ≤ sv then s
  else if has 0 && has 1 then
    { s with swShare := tset s.swShare 0 (shareKey die c sv) (tget s.swShare 0 (shareKey die c sv) + n) }
  else { s with swShare := tset (tset s.swShare 0 (shareKey die c 0) 0) 0 (shareKey die c 1) 0 }

/-- A packet leaves an egress (R314, R318): on a Shuhal port in frames under the link key, with a tag that does not verify
where its own did not; to the ST engine or the other die only with a verified tag. -/
def sendHeld (s : State) (die c : Nat) (h : Held) : State :=
  if 13 ≤ c then (if h.tagSt = 2 then s else emit s (.forward die c h.pkt))
  else
    let p := egressPort die c
    let key := ((linkSlot s pLinkTx p 2).map (fun i => (vslot s i).key)).getD 0
    let n := (portOf s p).txN
    countFrame (emit s (.frame p n (Config.linkFrame key n (h.tagSt != 2) (stBytes h.pkt)))) p 0 1

/-- An egress sends: a Shuhal port while UP (R331) and its key has frames left (R317). -/
def egressOn (s : State) (die c : Nat) : Bool :=
  decide (13 ≤ c) || ((portOf s (egressPort die c)).st == 4 && decide ((portOf s (egressPort die c)).txN < 2 ^ 32))

/-- One packet leaves an egress of a port die. -/
def drainEgress (s : State) (die c : Nat) : State :=
  if !egressOn s die c then s
  else
    match nextService s die c with
    | none => s
    | some sv =>
      match serviceHead s die c sv with
      | none => s
      | some h =>
        let s1 := noteShare s die c sv (pktBytes h.pkt)
        sendHeld { s1 with switchq := tset s1.switchq [] die ((heldOn s1 die).erase h) } die c h

/-- A port die's switch for one tick: each egress sends one packet and takes one that waits for room. -/
def tickDie (s : State) (die : Nat) : State :=
  if portDieUp s die && !unitStopped s die 1 && !(heldOn s die).isEmpty then
    freshNext ((List.range 15).foldl (fun s c => enterQueue (drainEgress s die c) die c) s)
  else s

/-- A session whose numbers run out closes (R409): CLOSE leaves under its key, which retires. -/
def closeSpent (s : State) : State :=
  (tkeys (s.keys.filter (fun k => k.2.st == 1 && (decide (2 ^ 32 - 1 ≤ k.2.ctlNext) || decide (2 ^ 32 - 1 ≤ k.2.sendNext))))).foldl
    (fun s k => endSession (emit s (.close k (closeBytes k))) k) s

/-- What a step on an empty queue does: contexts that wait to open go on, spent sessions close, and each egress of each
port die that works sends one packet (DESIGN CHOICE, log 61). -/
def tick (s : State) : State := tickDie (tickDie (closeSpent (resumeAll s)) diePd0) diePd1

/-! ### Ethernet ports (R318 to R321) -/

/-- The port die of Ethernet port e (R305). -/
def ethDie (e : Nat) : Nat := if e < 2 then diePd0 else diePd1

/-- The logical ports of Ethernet port e. -/
def ethLps (s : State) (e : Nat) : Nat := 2 ^ rdE s eEthMode e

/-- Some round of some context is OPEN or CLOSING. -/
def anyRoundOpen (s : State) : Bool :=
  s.ctxs.any (fun c => roundSt s c.1 == rsOpen || roundSt s c.1 == rsClosing)

/-- The rule of ETH_MODE, ETH_INTERFACE and VLAN_ID (R321). -/
def ethRule (e : Ent) (p value : Nat) (s : State) : Nat × State :=
  if anyRoundOpen s then (stPolicy, s)
  else if e = eVlanId then (stOk, wrE s e p value)
  else (stOk, wrE (wrE s e p value) eLinkUp p 0)

/-- ETH_MODE_WRITE: a write of ETH_MODE (sub 1) or ETH_INTERFACE (sub 2). -/
def execEthModeWrite (src : Src) (p sub value : Nat) (s : State) : Res :=
  if sub = 1 then odCmd s src eEthMode p value (ethRule eEthMode p value)
  else if sub = 2 then odCmd s src eEthInterface p value (ethRule eEthInterface p value)
  else .next s

/-- The MAC works: its die is in service and awake, the module neither reset nor frozen. -/
def macUp (s : State) (p : Nat) : Bool := portDieUp s (ethDie p)

/-- ETH_LINK_UP (R321). -/
def execEthLinkUp (p lp : Nat) (s : State) : Res :=
  if macUp s p ∧ lp < ethLps s p then .next (wrE s eLinkUp p (putBit (rdE s eLinkUp p) lp true)) else .next s

/-- ETH_LINK_DOWN. -/
def execEthLinkDown (p lp : Nat) (s : State) : Res :=
  if s.pwr.frozen then .next s else .next (wrE s eLinkUp p (putBit (rdE s eLinkUp p) lp false))

/-- A frame that the MAC and the stack take (R319, R321). -/
def frameOk (s : State) (p : Nat) (g : EthFrame) : Bool :=
  g.fcsOk && decide (64 ≤ g.len ∧ g.len ≤ 9216) &&
    (if rdE s eVlanId p = 0 then frTags g.data == 0
     else frTags g.data == 1 && frVlan g.data == rdE s eVlanId p) && !frFragment g.data

/-- ETH_FRAME_RECEIVE (R319, R320, R353): an ST packet is handed to the ST engine of the die, whose own command then
carries it (DEDUCED, log 56); ARP, Neighbour Discovery and echo are answered, up to the Ringmaster's rate; anything else
is dropped and counted. -/
def execEthFrameReceive (p lp : Nat) (g : EthFrame) (s : State) : Res :=
  if macUp s p = false ∨ bit (rdE s eLinkUp p) lp = false then .next s
  else if frameOk s p g = false then .next (bumpE s eRxDiscard p)
  else if frUdp g.data ∧ frPort g.data = rdE s eStUdpPort 0 ∧ frSumOk g.data then
    .next (emit s (.forward (ethDie p) 13 { frPkt g.data with tagOk := g.tagOk }))
  else if frAnswered g.data then .next (if g.rateOk then emit s (.arp p lp) else s)
  else .next (bumpE s eRxDiscard p)

/-! ### Unreachable destinations and job aborts (R332, R338, R339) -/

/-- Contexts of a job that pass p. -/
def jobCtxs (s : State) (p : Nat → Bool) : List Nat :=
  (tkeys s.ctxs).filter (fun n => ctxUp s n && cfgE s eJobId n != 0 && p n)

/-- PATH_DEAD_EXPIRY (R332): the jobs that hold the module are aborted, and endpoints of no job that were
sending to it go to ERROR. -/
def execPathDeadExpiry (die dst : Nat) (s : State) : Res :=
  if !portDieUp s die || !outstanding s die dst then .next s
  else
    let s1 := bumpE s eUnreachable 0
    let s2 := (jobCtxs s1 (fun n => (jobPeers s1 n).contains dst)).foldl
      (fun s n => tryAbandon (jobAbort s n 2) n stAborted) s1
    let es := epsWhere s (fun e => cfgE s eJobId e.ctx == 0)
    .next ((es.filter (fun e => s.txs.any (fun t => t.die == die && t.dst == dst && t.ep == e))).foldl epError s2)

/-- JOB_ABORT_RECEIVE (R339): the first abort of a held job and round ends it and goes on; others are dropped
and counted. A malformed message is dropped with its header. -/
def execJobAbortReceive (sender job round cause origin : Nat) (rsvZero : Bool) (s : State) : Res :=
  let ns := jobCtxs s (fun n => abandonable s n && cfgE s eJobId n == job && rdE s eRoundNumber n == round)
  if !rtUp s then .next s
  else if rsvZero = false ∨ cause = 0 ∨ 5 < cause then .next (bumpE s eRxDropHeader 0)
  else if job = 0 ∨ ns.isEmpty ∨ s.abortsSeen.contains (job, round) then .next (bumpE s eAbortsDropped 0)
  else
    .next (ns.foldl (fun s n => tryAbandon (sendAborts s n cause origin sender) n (if cause = 3 then stDiverged else stAborted))
      (bumpE s eAbortsReceived 0))

end Sys2Proof.Machine
end

