-- ==== Sys2Proof/Machine/Tenancy.lean ====
section
/-!
DEFINITION. Tenants (chapter 16): grants and quotas, the fence of a function in its steps, its scrub, RELEASE,
virtual functions, and the teardown of a context. The units that do not stop within 100 µs of step 3 come
with the command that starts the fence or the teardown.
-/

namespace Sys2Proof.Machine

open Sys2Proof

/-! ### Status (R489) -/

/-- PCI_FN_STATUS of function f. -/
def pciFnStatus (s : State) (f : Nat) : Nat :=
  2 ^ 28 * rdE s eFnState f + 2 ^ 27 * b2n (fnSt s f).scrubDone + 2 ^ 24 * (fnSt s f).step + 2 ^ 8 * rdE s eFenceCause f + f

/-- Contexts of function f that are not FREE. -/
def fnCtxs (s : State) (f : Nat) : List Nat :=
  (List.range 256).filter (fun n => rdE s eCtxState n != cxFree && (cx s n).owner == f)

/-! ### Engine resets start (R512) -/

/-- Start an engine reset of a compute-die or port-die unit; one that runs already, or the reset of its die,
absorbs it (R523). -/
def startReset (s : State) (unit : Nat) (host : Bool) : State :=
  if unitExists unit = false ∨ 256 ≤ unit ∨ inService s (unit / 32) = false ∨
      s.resets.any (fun r => if r.die then r.id == unit / 32 else r.id == unit) then s
  else { s with resets := s.resets ++ [{ die := false, id := unit, host := host, escalated := false, retire := false }] }

/-- The descriptor runs on one of the units. -/
def onUnits (us : List Nat) (d : Desc) : Bool := d.engs.any us.contains || (d.started != [] && us.contains d.unit)

/-- Of the units named, those on which a running descriptor that passes p has not stopped. -/
def stuckUnits (s : State) (us : List Nat) (p : Desc → Bool) : List Nat :=
  us.filter (fun u => unitExists u && decide (u < 256) && s.descs.any (fun d => p d && onUnits [u] d))

/-! ### Scrub of a context's items (R497, R502) -/

/-- A context's Loft window, zeroed on the dies of its mask (R129). -/
def clearLoft (s : State) (n : Nat) : State :=
  let a := rdE s eLoftFirst n
  let b := rdE s eLoftLast n
  if b < a then s
  else (diesE s n).foldl (fun s d => setLoft s d (mclear (loftOf s d) (65536 * a) (65536 * (b + 1 - a)))) s

/-- The accumulation area, the Shared workspace and the share buffers that remain of a round that has not
returned to NONE (R112, R192), and the key-share area (R183). -/
def scrubAreas (s : State) (n : Nat) : State :=
  let s1 := ((cx s n).bufs.map (·.2.cohort)).foldl (fun s k => dropBuf s n k) s
  let s2 := if roundSt s n = rsNone then s1 else scrubRange s1 n (areaBase s n) (rcE s eAreaSize n)
  let s3 := if roundSt s n ≠ rsNone ∧ bit (cx s n).modes 3 then
      scrubRange s2 n (rcE s eShWorkBase n + shSubOff s n) (rcE s eShWorkSize n - shSubOff s n) else s2
  (cx s n).kshare.foldl (fun t r => scrubRange t n r.1 r.2) s3

/-- Retired keys of a context lose their contents; their KEY_ID stays in quarantine. -/
def zeroCtxKeys (s : State) (n : Nat) : State :=
  { s with keys := s.keys.map (fun k => (k.1,
      if k.2.st = 2 ∧ k.2.ctx = n then { st := 2, gen := k.2.gen, quar := true } else k.2)) }

/-- Scrub what the module holds for a context, which ends an abandoned round (R39) and a range write that waits (R219);
it enters QUARANTINE (R497, R502). -/
def scrubCtx (s : State) (n : Nat) : State :=
  let dies := diesE s n
  let first := rdE s eTileFirst n
  let cnt := rdE s eTileCount n
  let s1 := scrubAreas s n
  let s2 := clearTiles s1 (fun k _ => tileIn dies first cnt k || stagingTile s n k ||
    ((cx s n).tileGone.contains (k % 48) && dies.contains (k / 96)))
  let s3 := (cx s n).rangeSrc.foldl (fun s src => answer s src stOk) (zeroCtxKeys (clearLoft s2 n) n)
  let s4 := if roundSt s n = rsNone then s3 else setRound s3 n rsNone stOk
  let s5 := setCx (dropCtxEntries s4 n) n { owner := (cx s n).owner }
  wrE s5 eCtxState n cxQuarantine

/-! ### Teardown of a context (R502) -/

/-- Steps 4 to 6 of the teardown. -/
def teardownRest (s : State) (n : Nat) : State := scrubCtx (advanceCtxKey s n) n

/-- Endpoints of a context that are not FREE. -/
def ctxEps (s : State) (n : Nat) : List Nat := epsWhere s (fun e => epLive e && e.ctx == n)

/-- Triggers of a context, disarmed (R288). -/
def dropCtxTriggers (s : State) (n : Nat) : State :=
  ((tkeys (s.trigs.filter (fun t => t.2.ctx == n)))).foldl (fun s k => dropTrigger s (k / 256) (k % 256)) s

/-- Steps 1 to 3 of the teardown: endpoints flushed, admission stopped, descriptors running, waiting or queued
ended (R303). -/
def teardownFirst (s : State) (n : Nat) (stuck : List Nat) : State :=
  let s1 := (ctxEps s n).foldl destroyEp s
  let s2 := dropCtxTriggers (reverseAll s1 n (fun _ => true)) n
  completeAll s2 (fun d => !ctxReserved d && dCtx d == n && !onUnits stuck d) stAborted

/-- The rule of CTX_COMMAND DESTROY (R38): an active round is abandoned first. -/
def destroyRule (n : Nat) (stuck : List Nat) (s : State) : Nat × State :=
  if (rdE s eCtxState n ≠ cxConfigured ∧ rdE s eCtxState n ≠ cxActive) ∨ (cx s n).teardown ≠ 0 then (stPolicy, s)
  else
    let us := stuckUnits s stuck (fun d => !ctxReserved d && dCtx d == n)
    let s1 := if abandonable s n then tryAbandon (jobAbort s n 1) n stAborted else s
    let s2 := teardownFirst s1 n us
    if us.isEmpty then (stOk, teardownRest s2 n)
    else (stOk, setCx s2 n { cx s2 n with teardown := 3, stuck := us })

/-- DESTROY. -/
def execDestroy (src : Src) (n : Nat) (stuck : List Nat) (s : State) : Res :=
  odCmd s src eCtxCommand n 2 (destroyRule n stuck)

/-- TEARDOWN_ENGINE_TIMEOUT (R502 step 3): engines that have not stopped are reset. -/
def execTeardownEngineTimeout (n : Nat) (s : State) : Res :=
  if (cx s n).teardown = 3 ∧ s.pwr.frozen = false then .next ((cx s n).stuck.foldl (fun s u => startReset s u false) s)
  else .next s

/-! ### The fence (R494, R495) -/

/-- Sum of SCRUB_ERRORS over every function. -/
def scrubErrs (s : State) : Nat := ((List.range 64).map (fun f => rdE s eScrubErrors f)).sum

/-- Step 1: the function is FENCED, its interfaces closed, and its jobs aborted. (DEDUCED, log 113.)
(DEDUCED, log 116.) -/
def fenceStep1 (s : State) (f cause : Nat) : State :=
  let s1 := bumpE (wrE (wrE s eFnState f fnFenced) eFenceCause f cause) eFenceCount f
  let s2 := setFn s1 f { step := 1, stage := 3 }
  let s3 := { s2 with
    panel := { s2.panel with scrubErrMark := scrubErrs s }
    pcie := { s2.pcie with tdisp := if tget s2.pcie.tdisp 0 f = 0 then s2.pcie.tdisp else tput s2.pcie.tdisp f 3 } }
  (fnCtxs s3 f).foldl (fun s n => jobAbort s n 5) s3

/-- ENABLE of every command queue of f is cleared (R271, R495). -/
def stopQueues (s : State) (f : Nat) : State :=
  { s with cqs := s.cqs.map (fun c => (c.1, if c.1 / 64 = f then { c.2 with enable := false, fetchErr := false, laneFull := false } else c.2)) }

/-- Step 2: descriptors that have not started complete with FENCED, those of a round too (R303, DEDUCED, log 87); rounds
abandoned, endpoints flushed, contributions reversed, triggers disarmed, queues stopped. -/
def fenceStep2 (s : State) (f : Nat) : State :=
  let s0 := completeAll s (fun d => d.fn == f && d.started == []) stFenced
  let s1 := (fnCtxs s0 f).foldl (fun s n => tryAbandon s n stAborted) s0
  let s2 := (epsWhere s1 (fun e => e.owner == f && e.st == 1)).foldl epError s1
  let s3 := (fnCtxs s2 f).foldl (fun s n => reverseAll s n (fun _ => true)) s2
  let s4 := (tkeys (s3.trigs.filter (fun t => t.1 / 256 == f))).foldl (fun s k => dropTrigger s f (k % 256)) s3
  stopQueues { s4 with stream := tset s4.stream [] f [] } f

/-- Step 3: running descriptors complete with ABORTED once their engines stop. -/
def fenceStep3 (s : State) (f : Nat) (stuck : List Nat) : State :=
  completeAll s (fun d => d.fn == f && !onUnits stuck d) stAborted

/-- Step 4: keys advance and retire, TGEN advances, objects go to quarantine; the scrub may begin. -/
def fenceStep4 (s : State) (f : Nat) : State :=
  let s1 := (fnCtxs s f).foldl advanceCtxKey s
  let s2 := (tkeys (s1.keys.filter (fun k => k.2.st == 1 && k.2.owner == f && k.2.kind != 7))).foldl retireKey s1
  let s3 := retireSlots s2 (fun v => !v.moduleOwned && v.owner == f && (v.purpose == pXtsData || v.purpose == pXtsTweak || v.purpose == pIde))
  let s4 := wrE s3 eTgen f ((rdE s3 eTgen f + 1) % 65536)
  let s5 := (epsWhere s4 (fun e => e.owner == f && epLive e)).foldl destroyEp s4
  let s6 := { s5 with
    pds := s5.pds.map (fun p => (p.1, if p.2.st = 1 ∧ p.2.owner = f then { p.2 with st := 2 } else p.2))
    regions := s5.regions.map (fun r => (r.1, if r.2.st = 1 ∧ r.2.owner = f then { r.2 with st := 2 } else r.2)) }
  let s7 := setFn s6 f { fnSt s6 f with step := 4, stage := 5, stuck := [] }
  wrE s7 eScrubActive 0 (putBit (rdE s7 eScrubActive 0) f true)

/-- Begin a fence of function f (R494); one that runs already absorbs it. -/
def beginFence (s : State) (f cause : Nat) (stuck : List Nat) : State :=
  if (fnSt s f).stage ≠ 0 then s
  else
    let us := stuckUnits s stuck (fun d => d.fn == f)
    let s1 := fenceStep3 (fenceStep2 (fenceStep1 s f cause) f) f us
    if us.isEmpty then fenceStep4 s1 f
    else setFn s1 f { fnSt s1 f with step := 2, stuck := us }

/-- Fence every function (R463, R465): those whose fence runs already finish it. -/
def fenceAll (s : State) (stuck : List Nat) : State :=
  (List.range 64).foldl (fun s f => beginFence s f 4 stuck) s

/-- Engines that pass p have stopped: fences at step 3 and teardowns that waited for the last of them go on. -/
def unstick (s : State) (p : Nat → Bool) : State :=
  let s1 := (List.range 64).foldl (fun s f =>
    let x := fnSt s f
    let us := x.stuck.filter (fun u => !p u)
    if x.stage = 3 ∧ x.stuck ≠ [] then
      if us.isEmpty then fenceStep4 s f else setFn s f { x with stuck := us }
    else s) s
  (tkeys s1.ctxs).foldl (fun s n =>
    let c := cx s n
    let us := c.stuck.filter (fun u => !p u)
    if c.teardown = 3 then
      if us.isEmpty then teardownRest s n else setCx s n { c with stuck := us }
    else s) s1

/-- The rule of FN_COMMAND FLASH: discarded during a running fence. (DEDUCED, log 101.) -/
def flashRule (f : Nat) (stuck : List Nat) (s : State) : Nat × State := (stOk, beginFence s f 1 stuck)

/-- FLASH. -/
def execFlash (src : Src) (f : Nat) (stuck : List Nat) (s : State) : Res := odCmd s src eFnCommand f 1 (flashRule f stuck)

/-- FUNCTION_LEVEL_RESET (R494). -/
def execFunctionLevelReset (f : Nat) (stuck : List Nat) (s : State) : Res :=
  if rtUp s ∧ fnExists s f then .next (beginFence s f 2 stuck) else .next s

/-- FENCE_ENGINE_TIMEOUT (R495 step 3): engines that have not stopped within 100 µs are reset. -/
def execFenceEngineTimeout (f : Nat) (s : State) : Res :=
  if (fnSt s f).stage = 3 ∧ s.pwr.frozen = false then .next ((fnSt s f).stuck.foldl (fun s u => startReset s u false) s)
  else .next s

/-! ### Scrub (R497 to R499) -/

/-- Device memory that lies under the keys of function f reads as nothing written (DESIGN CHOICE, log 62). -/
def scrubDram (s : State) (f : Nat) : State :=
  { s with
    vm := s.vm.filter (fun m => tget s.vmFn 0 m.1 != f + 1)
    vmFn := s.vmFn.filter (fun m => m.2 != f + 1) }

/-- Sync counters of f's blocks read 0; registers of its queues their reset values (R497). -/
def scrubQueues (s : State) (f : Nat) : State :=
  { s with
    syn := s.syn.filter (fun c => synOwnerOf s (c.1 / 64) != f)
    cqs := s.cqs.filter (fun c => c.1 / 64 != f)
    evqs := s.evqs.filter (fun c => c.1 / 4 != f) }

/-- A unit of the grant failed its read-back twice (R499). -/
def scrubBad (f : Nat) (s : State) (x : Nat × Nat) : State :=
  let lo := rdE s eDramFirst f
  if x.1 < 6 ∧ lo ≤ x.2 ∧ x.2 < lo + rdE s eDramCount f then
    let s1 := bumpE s eScrubErrors f
    let s2 := wrE s1 eDramBad 0 (putBit (rdE s1 eDramBad 0) (256 * x.1 + x.2) true)
    writeFault s2 { plainFault ftIntegrity stIntegrity 0 noUnit (x.1 + 256 * x.2) with fn := f }
  else s

/-- Compute dies that sleep: a scrub wakes them first (R71, R558). -/
def sleepingDies (s : State) : List Nat := (List.range 6).filter (fun d => inService s d && decide (2 ≤ dieState s d))

/-- FENCE_SCRUB (R495 step 5, R497): everything that belongs to f is overwritten and read back. A block that fails twice is
marked, and the fence completes all the same. -/
def execFenceScrub (f : Nat) (bad : List (Nat × Nat)) (s : State) : Res :=
  if (fnSt s f).stage ≠ 5 ∨ (fnSt s f).step ≠ 4 ∨ s.pwr.frozen then .next s
  else if sleepingDies s ≠ [] then .next ((sleepingDies s).foldl wakeOnDemand s)
  else
    let s1 := (fnCtxs s f).foldl scrubCtx s
    let s2 := bad.foldl (scrubBad f) (scrubQueues (scrubDram s1 f) f)
    let s3 := setFn s2 f { fnSt s2 f with step := 5 }
    .next (wrE s3 eScrubActive 0 (putBit (rdE s3 eScrubActive 0) f false))

/-- Every function has been fenced and scrubbed. -/
def allScrubbed (s : State) : Bool := (List.range 64).all (fun f => (fnSt s f).scrubDone && (fnSt s f).stage == 0)

/-- The lifecycle action that waited for the fences takes place (R463, R465): RETIRE zeroes the vault and
burns RETIRED and DUS_KILL; an accepted unlock zeroes it, extends MR3 and opens the port. -/
def finishLc (s : State) : State :=
  let s0 := dropLinks (zeroVault s)
  let s1 := if s.lcWait = 1 then
      { s0 with
        fuses := { s0.fuses with lifecycle := putBit (putBit s0.fuses.lifecycle 2 true) 3 true }
        boot := { s0.boot with lc := 4, idPub := 0 } }
    else
      let s2 := extendMr s0 3 (asc "ELASH-EVT-DEBUG" ++ bytesOf s0.fuses.debugKey 32)
      { s2 with boot := { s2.boot with debugOpen := true } }
  let s3 := wrE { s1 with lcWait := 0, lcSrc := none } eLcStatus 0 stOk
  let s4 := match s.lcSrc with
    | some src => answer s3 src stOk
    | none => s3
  (tkeys (s4.keys.filter (fun k => k.2.st == 1 && k.2.kind == 7))).foldl retireKey s4

/-- SCRUB_DONE (R495 step 6): RELEASE is possible unless a grant write made the function UNCLEAN meanwhile (R491). A
lifecycle action that waited for the last fence proceeds (R504). -/
def execScrubDone (f : Nat) (s : State) : Res :=
  if (fnSt s f).stage ≠ 5 ∨ (fnSt s f).step ≠ 5 ∨ s.pwr.frozen then .next s
  else
    let s1 := setFn s f { scrubDone := rdE s eFnState f == fnFenced, step := 6 }
    let s2 := writeFault s1 { plainFault ftFenceDone 0 0 noUnit f with fn := f }
    .next (if s2.lcWait ≠ 0 ∧ allScrubbed s2 then finishLc s2 else s2)

/-! ### RELEASE and grants (R490, R491, R496) -/

/-- Tenant keys can be derived: not without a DUS, nor once it is killed (R462). -/
def hasTenantKeys (s : State) : Bool := effLc s != 0 && effLc s != 4

/-- The new XTS pair of function f, where the lifecycle has tenant keys; none while no slot is EMPTY (R446). -/
def releaseKeys (s : State) (f : Nat) : Option State :=
  if hasTenantKeys s then
    (installKey s pXtsData f 0 63 false (xtsKey s f pXtsData)).bind fun s1 =>
      installKey s1 pXtsTweak f 0 63 false (xtsKey s1 f pXtsTweak)
  else some s

/-- The rule of FN_COMMAND RELEASE: a vault that has zeroed its keys installs none (R455). -/
def releaseFnRule (f : Nat) (s : State) : Nat × State :=
  if (fnSt s f).scrubDone = false ∨ vaultUp s = false then (stPolicy, s)
  else match releaseKeys s f with
    | none => (stPolicy, s)
    | some s1 => (stOk, flushMsix (setFn (wrE s1 eFnState f fnOpen) f { fnSt s1 f with scrubDone := false }) f)

/-- RELEASE. The install, and with it the answer, waits while no vault slot is EMPTY (R446). (DEDUCED, log 99.) -/
def execRelease (src : Src) (f : Nat) (s : State) : Res :=
  if (fnSt s f).scrubDone && (releaseKeys s f).isNone then .next s
  else odCmd s src eFnCommand f 2 (releaseFnRule f)

/-- The grant of function f, were it first and cnt: it meets no other grant and no unit marked bad (R491). -/
def grantFree (s : State) (f first cnt : Nat) : Bool :=
  (List.range 64).all (fun g => g == f || !overlaps first cnt (rdE s eDramFirst g) (rdE s eDramCount g)) &&
    (List.range 6).all (fun d => bits (rdE s eDramBad 0) (256 * d + 255) (256 * d) / 2 ^ first % 2 ^ cnt == 0)

/-- The kind of object a quota entry bounds (R490). -/
def quotaKind (e : Ent) : Nat :=
  if e = eQuotaPd then 1 else if e = eQuotaRegions then 2 else if e = eQuotaEndpoints then 3 else 4

/-- The sum of a quota over every function, were f's value v. -/
def quotaSum (s : State) (e : Ent) (f v : Nat) : Nat :=
  ((List.range 64).map (fun g => if g = f then v else rdE s e g)).sum

/-- The rule of the grant and quota entries (R491); a grant beyond unit 239 is a pair that does not agree (DEDUCED, log 63).
(DEDUCED, log 100.) -/
def grantRule (e : Ent) (f v : Nat) (s : State) : Nat × State :=
  if rdE s eFnState f = fnOpen then (stPolicy, s)
  else if e = eDramFirst ∨ e = eDramCount then
    let first := if e = eDramFirst then v else rdE s eDramFirst f
    let cnt := if e = eDramCount then v else rdE s eDramCount f
    if 240 < first + cnt then (stParam, s)
    else if !grantFree s f first cnt then (stPolicy, s)
    else
      let s1 := wrE s e f v
      (stOk, if rdE s eFnState f = fnFenced then setFn (wrE s1 eFnState f fnUnclean) f { fnSt s1 f with scrubDone := false } else s1)
  else if v < objHeld s f (quotaKind e) ∨ objCount (quotaKind e) < quotaSum s e f v then (stPolicy, s)
  else (stOk, wrE s e f v)

/-- The entry behind a subindex of the tenancy record that GRANT_WRITE writes. -/
def grantEnt (sub : Nat) : Option Ent :=
  [eDramFirst, eDramCount, eQuotaPd, eQuotaRegions, eQuotaEndpoints, eQuotaKeys][sub - 3]?.bind
    (fun e => if 3 ≤ sub then some e else none)

/-- GRANT_WRITE: a write of DRAM_FIRST to QUOTA_KEYS. -/
def execGrantWrite (src : Src) (f sub value : Nat) (s : State) : Res :=
  match grantEnt sub with
  | some e => odCmd s src e f value (grantRule e f value)
  | none => .next s

/-! ### Virtual functions (R527) -/

/-- VF_ENABLE: VF Enable set, or NumVFs raised; ignored until the firmware runs. A new function is UNCLEAN. -/
def execVfEnable (num : Nat) (s : State) : Res :=
  let old := if s.pcie.vfEnable then s.pcie.numVfs else 0
  if !rtUp s || num == 0 || decide (num < old) then .next s
  else
    let s1 := { s with pcie := { s.pcie with vfEnable := true, numVfs := num } }
    .next (((List.range (num - old)).map (· + old + 1)).foldl (fun s f =>
      setFn (wrE s eFnState f fnUnclean) f { fnSt s f with scrubDone := false }) s1)

/-- VF_REMOVAL: NumVFs lowered, or VF Enable cleared (0): each function removed is fenced as a function-level reset
fences it. -/
def vfRemove (s : State) (num : Nat) : State :=
  if s.pcie.vfEnable = false ∨ s.pcie.numVfs ≤ num then s
  else
    let gone := (List.range (s.pcie.numVfs - num)).map (· + num + 1)
    let s1 := gone.foldl (fun s f => beginFence s f 2 []) s
    { s1 with pcie := { s1.pcie with
      vfEnable := num != 0
      numVfs := num
      memOn := s1.pcie.memOn.filter (fun f => !gone.contains f)
      vfD3 := s1.pcie.vfD3.filter (fun f => !gone.contains f) } }

/-- VF_REMOVAL. -/
def execVfRemoval (num : Nat) (s : State) : Res := if rtUp s then .next (vfRemove s num) else .next s

end Sys2Proof.Machine
end

