-- ==== Sys2Proof/Machine/Faults.lean ====
section
/-!
DEFINITION. Watchdogs and the three levels of reset, dies out of service, and the state a module reset leaves
(chapter 17).
-/

namespace Sys2Proof.Machine

open Sys2Proof

/-! ### Module reset (R519, R520) -/

/-- The module held in reset: what neither the reset nor the loss of its logic reaches stays (fuses, MRAM, host
memory, pins, the supplies, the TAP), and everything else has its reset value (R70, R488, R560; DESIGN CHOICE, log 58). Device
memory lies under keys that can no longer be derived (R488). -/
def coldState (s : State) : State :=
  { pending := s.pending
    host := s.host
    fuses := s.fuses
    mram := s.mram
    ports := (s.ports.filter (fun p => p.2.cable)).map (fun p => (p.1, { cable := true }))
    pwr := {
      v48 := s.pwr.v48
      pwrGood := s.pwr.pwrGood
      aux := s.pwr.aux
      refclk := s.pwr.refclk
      thermAlert := s.pwr.thermAlert
      tripped := s.pwr.tripped }
    dbg := { ir := s.dbg.ir }
    sent := s.sent
    free := s.free }

/-- Steps 2 and 3 of R520: job aborts with cause 4 for every context with a JOB_ID; then every transmitter is in
electrical idle, which the held module keeps. -/
def resetAborts (s : State) : State :=
  ((List.range 256).filter (fun n => rdE s eCtxState n != cxFree)).foldl (fun s n => jobAbort s n 4) s

/-- A module reset (R520): its record reaches MRAM, jobs are aborted, and the module resets itself as RESET_N does. -/
def moduleReset (s : State) (cause flags : Nat) : State :=
  let s1 := writeFault s { plainFault ftModuleReset stHang 3 noUnit cause with flags := flags }
  let s2 := coldState (resetAborts s1)
  { s2 with mram := { s2.mram with moduleResets := satAdd 0xFFFFFFFF s2.mram.moduleResets 1 } }

/-- MODULE_RESET. -/
def execModuleReset (cause : Nat) (s : State) : Res :=
  if rtUp s ∧ 1 ≤ cause ∧ cause ≤ 4 then .next (moduleReset s cause 0) else .next s

/-! ### What a reset of a unit destroys (R513, R514) -/

/-- The adder array's half of Thatch is zeroed, and rounds with staging rows in it are abandoned; their
events carry HANG_RESET (DEDUCED, log 20). -/
def resetArray (s : State) (half : Nat) : State :=
  let ns := tkeys (s.ctxs.filter (fun c => c.2.staged.any (fun r => r.1 / 3072 == half)))
  clearTiles (ns.foldl (fun s n =>
    if abandonable s n then abandonBy s n stAborted stAborted stHang (fun _ => false) else s) s) (fun k _ => k / 48 == half)

/-- A Turnstile reset: contributions admitted through it are reversed, handshakes dropped and counted. -/
def resetTurnstile (s : State) (die : Nat) : State :=
  let s1 := (s.rxs.filter (fun x => x.die == die && x.con.isSome)).foldl reverseOne s
  let gone := s1.hss.filter (fun h => h.die == die)
  gone.foldl (fun s _ => sessionFail s) { s1 with hss := s1.hss.filter (fun h => h.die != die) }

/-- A parking-buffer reset: parked packets are dropped and counted. -/
def resetParking (s : State) (die : Nat) : State :=
  addE { s with parked := tset s.parked [] die [] } ePrkDropTimeout 0 (parkedOn s die).length

/-- Endpoints enter ERROR and every key with a stream on one of them is retired (R513). -/
def failEps (s : State) (es : List Nat) : State :=
  let ks := (es.flatMap (fun e => (epOf s e).streams.map (·.key))).eraseDups
  ks.foldl retireKey (es.foldl epError s)

/-- An ST engine reset: its die's ST descriptors end with HANG_RESET and its rate cache is cleared. -/
def resetSt (s : State) (die : Nat) : State :=
  let s1 := completeAll s (fun d => isTransport (dOp d) && execDies s d == [die] && d.started != []) stHang
  let s2 := (s1.txs.filter (fun t => t.die == die && t.desc == 0)).foldl dropTx s1
  { s2 with rates := tset s2.rates [] die [] }

/-- The effect of a unit's reset on what it held (R513). -/
def unitEffects (s : State) (unit : Nat) : State :=
  let die := unit / 32
  let i := unit % 32
  if die < 6 then (if i = 10 ∨ i = 11 then resetArray s (2 * die + (i - 10)) else s)
  else if i = 0 then resetTurnstile s die
  else if i = 1 then { s with switchq := tset s.switchq [] die [] }
  else if i = 2 then resetParking s die
  else if i = 3 then failEps s (residents s die)
  else resetSt s die

/-! ### Engine reset (R505 to R513) -/

/-- A running descriptor on the unit that waits for nothing (R506). -/
def unitDesc (s : State) (unit : Nat) : Option Desc :=
  s.descs.find? (fun d => d.phase == .running && onUnits [unit] d)

/-- The unit holds work that its watchdog covers (R505, R506). -/
def unitWorks (s : State) (unit : Nat) : Bool :=
  let die := unit / 32
  let i := unit % 32
  if die < 6 then (unitDesc s unit).isSome
  else if i = 0 then s.rxs.any (fun x => x.die == die)
  else if i = 1 then !(heldOn s die).isEmpty
  else if i = 3 then s.eps.any (fun e => e.2.fetching && homeDie e.1 == die)
  else if i = 4 then s.txs.any (fun t => t.die == die)
  else false

/-- The status a unit's reset causes: HANG_RESET where a descriptor ends with it, else 0 (R508). (DEDUCED, log 123.) -/
def hangStatus (s : State) (unit : Nat) : Nat :=
  if (unitDesc s unit).isSome || (decide (6 ≤ unit / 32) && unit % 32 == 4 && s.txs.any (fun t => t.die == unit / 32))
  then stHang else 0

/-- WATCHDOG_EXPIRY (R507): a HANG record, and an engine reset starts. -/
def execWatchdogExpiry (unit : Nat) (s : State) : Res :=
  if !(rtUp s && decide (unit < 256) && unitExists unit && unitWorks s unit && !unitStopped s (unit / 32) (unit % 32)) then .next s
  else
    let s1 := bumpE s eWatchdogExpiries 0
    let r := match unitDesc s unit with
      | some d => descFault d ftHang stHang 1 unit (freshVal s1 % 2 ^ 32)
      | none => plainFault ftHang (hangStatus s unit) 1 unit 0
    .next (startReset (writeFault (freshNext s1) r) unit false)

/-- The flags of a reset's record (R508). -/
def resetFlags (r : ResetRun) : Nat := 4 * b2n r.escalated + 8 * b2n r.host

/-- The descriptors that a reset of the unit ends: those it runs, and for an adder array all that run on
its tiles (R222). -/
def resetEnds (unit : Nat) (d : Desc) : Bool :=
  onUnits [unit] d || (decide (unit < 192) && (unit % 32 == 10 || unit % 32 == 11) && !d.started.isEmpty &&
    (match tileOfD d with | some k => k / 48 == unit / 32 * 2 + (unit % 32 - 10) | none => false))

/-- ENGINE_RESET_COMPLETE (R512, R513): the descriptor it ran ends with HANG_RESET, the unit is back in service, and what
waited for it goes on. A host's request has overridden a halt of the unit (R598). -/
def execEngineResetComplete (unit micros : Nat) (s : State) : Res :=
  match s.resets.find? (fun r => !r.die && r.id == unit) with
  | none => .next s
  | some r =>
    if s.pwr.frozen then .next s
    else
      let s0 := bumpE { s with
        resets := s.resets.filter (fun x => x.die || x.id != unit)
        dbg := { s.dbg with halted := s.dbg.halted.filter (· != unit), steps := terase s.dbg.steps unit } } eEngineResets 0
      let rec0 := match unitDesc s unit with
        | some d => descFault d ftEngineReset stHang 1 unit micros
        | none => plainFault ftEngineReset (hangStatus s unit) 1 unit micros
      let s1 := writeFault s0 { rec0 with flags := rec0.flags + resetFlags r }
      let s2 := completeAll s1 (fun d => !isTransport (dOp d) && resetEnds unit d) stHang
      .next (unstick (unitEffects s2 unit) (· == unit))

/-! ### Die reset (R515 to R517) -/

/-- The descriptor has work on the die, or a transfer that crosses it (R516, R517): a transport descriptor's transfers
run between its port die and the dies of its context (DEDUCED, log 64). -/
def descOnDie (s : State) (die : Nat) (d : Desc) : Bool :=
  d.lanes.contains die || d.started.contains die || d.engs.any (fun u => u / 32 == die) ||
    (isTransport (dOp d) && d.started != [] &&
      (execDies s d).any (fun p => (diesOf (maskOf s (dCtx d))).any (fun c => (route p c).contains die)))

/-- The context has work on the die (R516). -/
def ctxOnDie (s : State) (die n : Nat) : Bool :=
  s.descs.any (fun d => !ctxReserved d && dCtx d == n && descOnDie s die d) ||
    (if die < 6 then roundSt s n != rsNone && (roundDies s n).contains die
     else s.eps.any (fun e => epLive e.2 && e.2.ctx == n && homeDie e.1 == die) ||
      s.rxs.any (fun x => x.die == die && match x.con with | some c => c.ctx == n | none => false))

/-- Contexts with work on the die fail with HANG_RESET: a round in OPEN, CLOSING or COMBINING is abandoned, a job aborted
with cause 4, and their descriptors there end. -/
def failOnDie (s : State) (die : Nat) : State :=
  let ns := (List.range 256).filter (fun n => rdE s eCtxState n != cxFree && ctxOnDie s die n)
  let own := descOnDie s die
  let s1 := ns.foldl (fun s n => jobAbort s n 4) s
  let s2 := ns.foldl (fun s n =>
    if rsOpen ≤ roundSt s n ∧ roundSt s n ≤ rsCombining then abandonBy s n stAborted stHang stHang own else s) s1
  completeAll s2 own stHang

/-- The ports of a port die go DOWN, to train again unless the die is out of service (R516, R518). -/
def downPorts (s : State) (die : Nat) (out : Bool) : State :=
  let s1 := { s with ports := s.ports.map (fun p => (p.1,
    if portDie p.1 = die ∧ p.2.st ≠ 0 ∧ p.2.st ≠ 6 then (if out then portDown p.2 0 else portRetrain p.2) else p.2)) }
  ((List.range 4).filter (fun e => ethDie e == die)).foldl (fun s e => wrE s eLinkUp e 0) s1

/-- The effect of a die reset (R515, R516): every unit reset, Thatch and Loft zeroed, ports and endpoints down. -/
def dieEffects (s : State) (die : Nat) (out : Bool) : State :=
  let s1 := failOnDie s die
  let s2 := if die < 6 then
      let s3 := clearTiles (resetArray (resetArray s1 (2 * die)) (2 * die + 1)) (fun k _ => k / 96 == die)
      { setLoft s3 die [] with ctxs := s3.ctxs.map (fun c => (c.1, { c.2 with keysLoaded := c.2.keysLoaded.filter (· != die) })) }
    else
      let s3 := resetSt (resetParking (resetTurnstile s1 die) die) die
      let s4 := failEps s3 (epsWhere s3 epLive |>.filter (fun e => homeDie e == die))
      downPorts { s4 with switchq := tset s4.switchq [] die [] } die out
  unstick { s2 with pwr := { s2.pwr with
      die := terase s2.pwr.die die
      entering := terase s2.pwr.entering die
      powered := s2.pwr.powered.filter (fun u => u / 32 != die) } } (fun u => u / 32 == die)

/-- Set DIE_HEALTH of a die (R524). -/
def setHealth (s : State) (die v : Nat) : State := wrE s eDieHealth 0 (putBits (rdE s eDieHealth 0) (2 * die + 1) (2 * die) v)

/-- The die may go out of service (R518): some port die stays, and some compute die that RT and a port die both reach over
dies in service. -/
def mayRetire (s : State) (die : Nat) : Bool :=
  let t := setHealth s die 2
  decide (die < 8) && ([diePd0, diePd1].any (inService t)) &&
    (List.range 6).any (fun c => inService t c && routeUp t dieRt c &&
      [diePd0, diePd1].any (fun p => inService t p && routeUp t p c))

/-- A die goes out of service, with the given record at LEVEL 4, or the module resets (R518). (DEDUCED, log 115.) -/
def retireDie (s : State) (die : Nat) (r : FaultRec) : State :=
  if mayRetire s die then
    let s1 := { s with resets := s.resets.filter (fun x => if x.die then x.id != die else x.id / 32 != die) }
    dieEffects (setHealth (writeFault s1 { r with level := 4 }) die 2) die true
  else moduleReset s 4 4

/-- A DIE_RESET record. -/
def dieRecord (die micros flags : Nat) : FaultRec := { plainFault ftDieReset stHang 2 noUnit (die + 256 * (micros % 2 ^ 24)) with flags := flags }

/-- Start a die reset (R515): a sleeping die is woken first; the third due in one boot takes the die out of service. -/
def startDieReset (s : State) (die : Nat) (host escalated : Bool) : State :=
  if inService s die = false ∨ s.resets.any (fun r => r.die && r.id == die) then s
  else
    let s1 := { s with resets := s.resets.filter (fun x => x.die || x.id / 32 != die) }
    if 2 ≤ tget s.dieResetCount 0 die then
      retireDie s1 die (dieRecord die 0 (4 + 8 * b2n host))
    else
      let r : ResetRun := { die := true, id := die, host := host, escalated := escalated, retire := false }
      setHealth { wakeOnDemand s1 die with resets := s1.resets ++ [r] } die 1

/-- ENGINE_RESET_OVERRUN (R512, R523): the overruns of one die lead to one die reset. -/
def execEngineResetOverrun (unit : Nat) (s : State) : Res :=
  if s.pwr.frozen then .next s
  else match s.resets.find? (fun r => !r.die && r.id == unit) with
    | none => .next s
    | some r => .next (startDieReset s (unit / 32) r.host true)

/-- DIE_RESET_COMPLETE (R515, R516). The record is written here, where its time is known (DEDUCED, log 65). -/
def execDieResetComplete (die micros : Nat) (s : State) : Res :=
  match s.resets.find? (fun r => r.die && r.id == die) with
  | none => .next s
  | some r =>
    if s.pwr.frozen then .next s
    else
      let s1 := bumpE { s with
        resets := s.resets.filter (fun x => !x.die || x.id != die)
        dieResetCount := tset s.dieResetCount 0 die (tget s.dieResetCount 0 die + 1) } eDieResets 0
      .next (setHealth (dieEffects (writeFault s1 (dieRecord die micros (resetFlags r))) die false) die 0)

/-- DIE_RESET_OVERRUN (R515): the module resets; the die's own record comes first (DEDUCED, log 65). -/
def execDieResetOverrun (die : Nat) (s : State) : Res :=
  if s.pwr.frozen then .next s
  else match s.resets.find? (fun r => r.die && r.id == die) with
    | none => .next s
    | some r => .next (moduleReset (writeFault s (dieRecord die 2000 (resetFlags r))) 1 4)

/-- HEARTBEAT_LOSS (R507, R510): a root-die core or unit hangs; the module resets. A halted core's heartbeat is not missed
(R589). -/
def execHeartbeatLoss (unit : Nat) (s : State) : Res :=
  if rtUp s ∧ 256 ≤ unit ∧ unitExists unit ∧ s.dbg.halted.contains unit = false then
    .next (moduleReset (writeFault s (plainFault ftHang 0 3 unit 0)) 2 0)
  else .next s

/-! ### Host requests (R521) -/

/-- The rule of RESET_REQUEST. -/
def resetRule (level unit : Nat) (s : State) : Nat × State :=
  if level = 1 then
    if unitExists unit && decide (unit < 256) && inService s (unit / 32) then (stOk, startReset s unit true) else (stParam, s)
  else if level = 2 then
    if decide (unit < 8) && inService s unit then (stOk, startDieReset s unit true false) else (stParam, s)
  else if level = 3 then (stOk, moduleReset s 3 8)
  else (stParam, s)

/-- RESET_REQUEST_ENGINE. -/
def execResetRequestEngine (src : Src) (unit : Nat) (s : State) : Res :=
  odCmd s src eResetRequest 0 (4096 + unit % 4096) (resetRule 1 unit)

/-- RESET_REQUEST_DIE. -/
def execResetRequestDie (src : Src) (unit : Nat) (s : State) : Res :=
  odCmd s src eResetRequest 0 (8192 + unit % 4096) (resetRule 2 unit)

/-- RESET_REQUEST_MODULE: the module ignores the identifier, and the answer is lost with the mailbox. -/
def execResetRequestModule (src : Src) (unit : Nat) (s : State) : Res :=
  odCmd s src eResetRequest 0 (12288 + unit % 4096) (resetRule 3 unit)

/-! ### In-package links (R18, R518) -/

/-- The dies that in-package link l joins, in the order of R18's table. -/
def linkEnds (l : Nat) : Nat × Nat :=
  [(0, 1), (1, 2), (2, 3), (3, 4), (4, 5), (5, 0), (6, 0), (6, 1), (6, 2), (7, 3), (7, 4), (7, 5), (8, 6), (8, 7), (8, 0),
    (8, 3)].getD l (9, 9)

/-- IN_PACKAGE_LINK_ERROR (R518): the die at an end of the link goes out of service. -/
def execInPackageLinkError (link die : Nat) (s : State) : Res :=
  if !(rtUp s && ((linkEnds link).1 == die || (linkEnds link).2 == die) && inService s die) then .next s
  else .next (retireDie s die (plainFault ftLink 0 3 noUnit (0x100 + link)))

end Sys2Proof.Machine
end

