-- ==== Sys2Proof/Machine/Power.lean ====
section
/-!
DEFINITION. Power states, wakes, temperature, clocks and supplies (chapter 19). Times are the rows': the command
that ends an entry, a wake or a gating delay says that it has passed.
-/

namespace Sys2Proof.Machine

open Sys2Proof

/-! ### States (R554, R573, R574) -/

/-- Power state of a die as DIE_POWER shows it: Run while any of its units is powered (R555). -/
def diePower (s : State) (d : Nat) : Nat :=
  if 2 ≤ dieState s d then dieState s d
  else if s.pwr.powered.any (fun u => u / 32 == d) then 0 else 1

/-- MODULE_STATE: the state of the most awake die. -/
def moduleState (s : State) : Nat := leastOr 1 ((List.range 9).map (diePower s))

/-- DIE_POWER. -/
def diePowers (s : State) : Nat := ((List.range 9).map (fun d => diePower s d * 4 ^ d)).sum

/-- PWR_STATUS (R574). -/
def pwrStatus (s : State) : Nat :=
  2 ^ 30 * moduleState s + 2 ^ 29 * b2n s.pwr.thermAlert + 2 ^ 28 * b2n s.pwr.refclk + diePowers s

/-- The module sleeps: its root die does. -/
def moduleAsleep (s : State) : Bool := decide (2 ≤ dieState s dieRt)

/-- The module is powered, out of reset and not frozen. -/
def alive (s : State) : Bool := running s && !s.pwr.frozen && !s.pwr.inReset

/-! ### Requests (R556) -/

/-- A descriptor is queued or running on the die. -/
def dieBusy (s : State) (d : Nat) : Bool :=
  s.descs.any (fun x => x.lanes.contains d || x.started.contains d || x.engs.any (fun u => u / 32 == d))

/-- Sleep of the die is refused: R69 forbids it, or work is on it. -/
def sleepRefused (s : State) (d : Nat) : Bool :=
  dieBusy s d ||
    (if d < 6 then (List.range 256).any (fun n => decide (rsOpen ≤ roundSt s n ∧ roundSt s n ≤ rsCombining) && (roundDies s n).contains d)
     else (List.range 256).any (fun n => roundSt s n == rsOpen || roundSt s n == rsClosing) || !(parkedOn s d).isEmpty)

/-- Step 1 of R557 for one port of a port die: an UP port sends its notice and leaves the live set; a port in FAULT stays
there (R313). -/
def sleepPort (kind : Nat) (s : State) (p : Nat) : State :=
  let x := portOf s p
  if x.st ≠ 4 then (if kind = 3 ∧ x.st ≠ 6 then setPort s p (portDown x 0) else s)
  else
    let s1 := emit s (.sleepNotice p kind)
    setPort s1 p (if kind = 3 then portDown x 0 else { x with st := 5, width := 0 })

/-- The ports of a port die. -/
def portsOf (d : Nat) : List Nat := (List.range 13).map (fun p => if d = diePd0 then p else 13 + p)

/-- Steps 1 and 2 of R557 for a die: its ports, and for Deep sleep its endpoints, rate cache and link keys. -/
def sleepDie (kind : Nat) (s : State) (d : Nat) : State :=
  let s1 := if d < 6 then s
    else
      let s2 := (portsOf d).foldl (sleepPort kind) s
      let s3 := ((List.range 4).filter (fun e => ethDie e == d)).foldl (fun s e => wrE s eLinkUp e 0) s2
      if kind ≠ 3 then s3
      else
        let s4 := (residents s3 d).foldl evictEp s3
        retireSlots { s4 with rates := tset s4.rates [] d [] }
          (fun v => (v.purpose == pLinkTx || v.purpose == pLinkRx) && portDie v.port == d)
  { s1 with pwr := { s1.pwr with entering := tput s1.pwr.entering d kind } }

/-- The rule of DIE_REQUEST for Sleep (2) and Deep sleep (3). -/
def dieSleepRule (kind d : Nat) (s : State) : Nat × State :=
  if 8 ≤ d then (stParam, s)
  else if dieState s d = kind ∨ inService s d = false then (stOk, s)
  else if sleepRefused s d then (stPolicy, s)
  else (stOk, sleepDie kind s d)

/-- The module's request for Sleep or Deep sleep (R556, R557): every compute and port die, then the root die; none
where one of them would be refused. -/
def moduleSleepRule (kind : Nat) (s : State) : Nat × State :=
  let ds := (List.range 8).filter (fun d => inService s d && dieState s d != kind)
  if ds.any (sleepRefused s) then (stPolicy, s)
  else
    let s1 := (ds ++ [dieRt]).foldl (sleepDieRt kind) s
    (stOk, { s1 with pwr := { s1.pwr with timer := rdE s eWakeTimer 0 } })
where
  /-- A die enters; the root die has no ports. -/
  sleepDieRt (kind : Nat) (s : State) (d : Nat) : State :=
    if d = dieRt then { s with pwr := { s.pwr with entering := tput s.pwr.entering d kind } } else sleepDie kind s d

/-! ### Wakes (R562, R565) -/

/-- Every die is on its way to Idle. -/
def wakeAll (s : State) : State := ((dieRt :: List.range 8).filter (inService s)).foldl wakeOnDemand s

/-- The endpoint tells the host of a wake (R565). -/
def tellHost (s : State) : State :=
  if s.pcie.dstate = 1 then emit s .pme
  else if s.pcie.dstate = 2 then emit { s with pcie := { s.pcie with wakePin := true } } .wakePin
  else s

/-- A wake source wakes the module (R562). -/
def moduleWake (s : State) (cause : Nat) : State := wrE (wakeAll (tellHost s)) eWakeCause 0 cause

/-- Source k of R562 is enabled. -/
def wakeEnabled (s : State) (k : Nat) : Bool := bit (rdE s eWakeEnable 0) (k - 1)

/-- A wake source acts on a sleeping module only. -/
def wakeBy (k : Nat) (s : State) : State :=
  if alive s && moduleAsleep s && wakeEnabled s k then moduleWake s k else s

/-- The rule of DIE_REQUEST wake: a sleeping module wakes as a whole. -/
def dieWakeRule (d : Nat) (s : State) : Nat × State :=
  if 8 ≤ d then (stParam, s)
  else if moduleAsleep s then (stOk, moduleWake s 6)
  else (stOk, wakeOnDemand s d)

/-- The rule of MODULE_REQUEST wake. -/
def moduleWakeRule (s : State) : Nat × State :=
  if moduleAsleep s then (stOk, moduleWake s 6) else (stOk, wakeAll s)

/-- The rule of MODULE_REQUEST by its code. -/
def moduleRequestRule (v : Nat) (s : State) : Nat × State :=
  if v = 1 then moduleWakeRule s else moduleSleepRule v s

/-- The rule of DIE_REQUEST by its value; a code of 0 names no request (DEDUCED, log 66). -/
def dieRequestRule (v : Nat) (s : State) : Nat × State :=
  let c := bits v 9 8
  if c = 0 then (stParam, s) else if c = 1 then dieWakeRule (v % 16) s else dieSleepRule c (v % 16) s

/-- MODULE_REQUEST_WAKE. -/
def execModuleRequestWake (src : Src) (s : State) : Res := odCmd s src eModuleRequest 0 1 (moduleRequestRule 1)
/-- MODULE_REQUEST_SLEEP. -/
def execModuleRequestSleep (src : Src) (s : State) : Res := odCmd s src eModuleRequest 0 2 (moduleRequestRule 2)
/-- MODULE_REQUEST_DEEP_SLEEP. -/
def execModuleRequestDeepSleep (src : Src) (s : State) : Res := odCmd s src eModuleRequest 0 3 (moduleRequestRule 3)
/-- DIE_REQUEST_WAKE. -/
def execDieRequestWake (src : Src) (die : Nat) (s : State) : Res :=
  odCmd s src eDieRequest 0 (256 + die % 16) (dieRequestRule (256 + die % 16))
/-- DIE_REQUEST_SLEEP. -/
def execDieRequestSleep (src : Src) (die : Nat) (s : State) : Res :=
  odCmd s src eDieRequest 0 (512 + die % 16) (dieRequestRule (512 + die % 16))
/-- DIE_REQUEST_DEEP_SLEEP. -/
def execDieRequestDeepSleep (src : Src) (die : Nat) (s : State) : Res :=
  odCmd s src eDieRequest 0 (768 + die % 16) (dieRequestRule (768 + die % 16))

/-- What a die loses in Deep sleep (R560): Thatch and Loft; RESIDENT keys reload at their next use (R171).
    Loft reads 0 afterwards (DESIGN CHOICE, log 158). -/
def deepLoss (s : State) (d : Nat) : State :=
  let s1 := setLoft (clearTiles s (fun k _ => k / 96 == d)) d []
  { s1 with ctxs := s1.ctxs.map (fun c => (c.1, { c.2 with keysLoaded := c.2.keysLoaded.filter (· != d) })) }

/-- SLEEP_ENTRY_COMPLETE (R557 steps 3 and 4, R560): the die's clocks stop. The root die enters last, and the RNG stops. A
wake that came meanwhile follows at once (R575). -/
def execSleepEntryComplete (die : Nat) (s : State) : Res :=
  let e := tget s.pwr.entering 0 die
  let others := s.pwr.entering.any (fun x => x.1 != die && decide (2 ≤ x.2 % 4))
  if e % 4 < 2 ∨ s.pwr.frozen ∨ (die = dieRt ∧ others) then .next s
  else
    let s1 := { s with pwr := { s.pwr with
      die := tset s.pwr.die 1 die (e % 4)
      entering := if 4 ≤ e then tput s.pwr.entering die 1 else terase s.pwr.entering die
      powered := s.pwr.powered.filter (fun u => u / 32 != die) } }
    let s2 := if e % 4 = 3 ∧ die < 6 then deepLoss s1 die else s1
    .next (if die = dieRt then rngStop s2 else s2)

/-- A port of a waking die (R564, R566): one in SLEEP sends the calliope pattern and resumes from step 4 of its training
with its keys; one that went DOWN trains from step 2. -/
def wakePort (s : State) (p : Nat) : State :=
  let x := portOf s p
  if x.st = 5 then emit (setPort s p { x with st := 2, trainStep := 3 }) (.calliope p)
  else if x.st = 0 ∧ x.enable ∧ x.cable ∧ x.debounced then setPort s p (portRetrain x)
  else s

/-- WAKE_COMPLETE (R558, R562, R566): the die reaches Idle; from Deep sleep only with REFCLK stable (R570). The root die's
RNG begins its start-up tests (R487). -/
def execWakeComplete (die : Nat) (s : State) : Res :=
  if tget s.pwr.entering 0 die ≠ 1 ∨ s.pwr.frozen ∨ (tget s.pwr.die 1 die = 3 ∧ s.pwr.refclk = false) then .next s
  else
    let s1 := { s with pwr := { s.pwr with
      die := terase s.pwr.die die
      entering := terase s.pwr.entering die } }
    if die = dieRt then .next (if s1.rng.st = rngStopped then rngStart s1 else s1)
    else if die < 6 then .next s1
    else .next ((portsOf die).foldl wakePort s1)

/-! ### Engine gating (R555) -/

/-- The unit holds work: a descriptor, or what a port-die unit holds. -/
def unitBusy (s : State) (unit : Nat) : Bool :=
  s.descs.any (fun d => d.engs.contains unit) || (decide (192 ≤ unit ∧ unit < 256) && unitWorks s unit)

/-- ENGINE_GATE: no work for GATE_DELAY. -/
def execEngineGate (unit : Nat) (s : State) : Res :=
  if s.pwr.frozen ∨ unitBusy s unit then .next s
  else .next { s with pwr := { s.pwr with powered := s.pwr.powered.filter (· != unit) } }

/-- ENGINE_POWER_UP: 8 µs after a dispatch to a gated engine. -/
def execEnginePowerUp (unit : Nat) (s : State) : Res :=
  if s.pwr.frozen ∨ unitBusy s unit = false ∨ s.pwr.powered.contains unit then .next s
  else .next { s with pwr := { s.pwr with powered := s.pwr.powered ++ [unit] } }

/-! ### Wake sources (R562 to R565) -/

/-- WAKE_N: asserted for two always-on cycles. -/
def execWakeN (s : State) : Res := if s.pwr.aux then .next (wakeBy 1 s) else .next s

/-- WAKE_TIMER: the timer started at the last entry expires. -/
def execWakeTimer (s : State) : Res :=
  if s.pwr.timer = 0 ∨ s.pwr.frozen then .next s
  else .next { wakeBy 5 s with pwr := { (wakeBy 5 s).pwr with timer := 0 } }

/-- MANAGEMENT_WAKE_PACKET. -/
def execManagementWakePacket (s : State) : Res := .next (wakeBy 3 s)

/-- PCIE_WAKE: the physical function moves to D0, or after D3cold PERST# deasserts, which resets configuration space, clears
VF Enable and releases WAKE# (R562, R565). -/
def execPcieWake (perst : Bool) (s : State) : Res :=
  if !alive s || s.pcie.dstate == 0 || (perst && s.pcie.dstate != 2) then .next s
  else
    let s1 := if perst then vfRemove s 0 else s
    let s2 := { s1 with pcie := { s1.pcie with
      dstate := 0
      wakePin := false
      l1 := false
      memOn := if perst then [] else s1.pcie.memOn } }
    .next (wakeBy 2 (flushMsix s2 0))

/-- CALLIOPE_PATTERN (R562, R564): a port in SLEEP of a sleeping die wakes the module, or the die alone where the module is
awake; a port whose own die is awake resumes its training. -/
def execCalliopePattern (p : Nat) (s : State) : Res :=
  let x := portOf s p
  if x.st ≠ 5 ∨ alive s = false then .next s
  else if dieState s (portDie p) < 2 then .next (setPort s p { x with st := 2, trainStep := 3 })
  else if wakeEnabled s 4 = false then .next s
  else if moduleAsleep s then .next (moduleWake s 4)
  else .next (wakeOnDemand s (portDie p))

/-- The rule of PEER_WAKE: every named port in SLEEP sends the pattern. -/
def peerWakeRule (mask : Nat) (s : State) : Nat × State :=
  (stOk, (setBits 26 mask).foldl (fun s p => if (portOf s p).st = 5 then emit s (.calliope p) else s) s)

/-- PEER_WAKE. -/
def execPeerWake (src : Src) (mask : Nat) (s : State) : Res := odCmd s src ePeerWake 0 mask (peerWakeRule mask)

/-! ### D-states (R535) -/

/-- The physical function enters D3hot (1) or D3cold (2): the link is in L1, and the module takes a request for Sleep or
Deep sleep, which leaves it as it is where it is refused. -/
def enterD3 (d : Nat) (s : State) : State :=
  (moduleSleepRule (d + 1) { s with pcie := { s.pcie with dstate := d, l1 := true } }).2

/-- D3HOT. -/
def execD3hot (s : State) : Res := if alive s ∧ s.pcie.dstate = 0 then .next (enterD3 1 s) else .next s
/-- D3COLD. -/
def execD3cold (s : State) : Res := if alive s ∧ s.pcie.dstate ≠ 2 then .next (enterD3 2 s) else .next s

/-! ### Supplies and clocks (R559, R570 to R572) -/

/-- INPUT_POWER_LOSS (R559): the module is Off; what no state keeps in Off is lost. -/
def execInputPowerLoss (s : State) : Res :=
  let s1 := coldState s
  .next { s1 with ports := [], pwr := { s1.pwr with
    v48 := false
    pwrGood := false
    thermAlert := false
    tripped := false } }

/-- PWR_GOOD_ASSERT (R572 step 3): the 48 V input is within its range and the regulators regulate. -/
def execPwrGoodAssert (s : State) : Res :=
  if s.pwr.aux then .next { s with pwr := { s.pwr with v48 := true, pwrGood := true } } else .next s

/-- AUXILIARY_RAIL_VALID (R572 step 1, R576). -/
def execAuxiliaryRailValid (s : State) : Res := .next { s with pwr := { s.pwr with aux := true } }

/-- AUXILIARY_RAIL_LOSS (R576): every sideband input is ignored from now on. -/
def execAuxiliaryRailLoss (s : State) : Res := .next { s with pwr := { s.pwr with aux := false } }

/-- REFCLK_STABLE (R570). -/
def execRefclkStable (s : State) : Res := .next { s with pwr := { s.pwr with refclk := true } }

/-- REFCLK_LOSS (R570, R571). -/
def execRefclkLoss (s : State) : Res := .next { s with pwr := { s.pwr with refclk := false, trimmed := false } }

/-- ALWAYS_ON_TRIM (R571): while REFCLK runs. -/
def execAlwaysOnTrim (s : State) : Res :=
  if s.pwr.refclk ∧ s.pwr.frozen = false then .next { s with pwr := { s.pwr with trimmed := true } } else .next s

/-! ### Temperature (R567, R594) -/

/-- Dies of a sample that read at least t °C, or less than t where `below` (DIE_TEMP: °C plus 64). -/
def diesAt (temps : List Nat) (t : Nat) : List Nat := (List.range 9).filter (fun d => decide (t + 64 ≤ temps.getD d 0))

/-- THERM_ALERT_N after a sample: asserted at 100 °C, deasserted once every die reads below 95 °C. -/
def alertAfter (old : Bool) (temps : List Nat) : Bool :=
  !(diesAt temps 100).isEmpty || (old && !(diesAt temps 95).isEmpty)

/-- A thermal trip (R567): its record, the steps 2 and 3 of R520, and the module holds itself in reset; THERM_TRIPS lives
through that reset. -/
def thermalTrip (s : State) (d : Nat) : State :=
  let s1 := writeFault s (plainFault ftThermal 0 3 noUnit d)
  let n := satAdd 0xFFFFFFFF (rdE s eThermTrips 0) 1
  let s2 := coldState (resetAborts s1)
  wrE { s2 with pwr := { s2.pwr with tripped := true } } eThermTrips 0 n

/-- THERMAL_SAMPLE (R567): one junction temperature per die. -/
def execThermalSample (temps : List Nat) (s : State) : Res :=
  if temps.length ≠ 9 ∨ s.pwr.frozen ∨ s.pwr.inReset ∨ s.pwr.v48 = false then .next s
  else
    let a := alertAfter s.pwr.thermAlert temps
    let s1 := { s with pwr := { s.pwr with
      temps := temps
      thermAlert := a
      hot := diesAt temps 115 } }
    let s2 := if a ∧ s.pwr.thermAlert = false then
        writeFault s1 (plainFault ftThermal 0 0 noUnit ((diesAt temps 100).headD 0)) else s1
    match (diesAt temps 115).find? s.pwr.hot.contains with
    | some d => .next (thermalTrip s2 d)
    | none => .next s2

/-- THERMAL_RECOVERY (R567): every die reads below 95 °C; the module no longer holds itself in reset, and boots when
its boot sequence starts (DESIGN CHOICE, log 58). -/
def execThermalRecovery (temps : List Nat) (s : State) : Res :=
  if s.pwr.tripped ∧ temps.length = 9 ∧ diesAt temps 95 = [] then
    .next { s with pwr := { s.pwr with
      tripped := false
      thermAlert := false
      temps := temps } }
  else .next s

/-- OVER_TEMPERATURE_COMPARATOR (R594): only while frozen. -/
def execOverTemperatureComparator (die : Nat) (s : State) : Res :=
  if s.pwr.frozen then
    .next { s with pwr := { s.pwr with
      thermAlert := true
      logicOff := if s.pwr.logicOff.contains die then s.pwr.logicOff else s.pwr.logicOff ++ [die] } }
  else .next s

end Sys2Proof.Machine
end

