-- ==== Sys2Proof/Machine/Boot.lean ====
section
/-!
DEFINITION. Boot, firmware images, lifecycle commands, debug unlock, the tamper response and policy bundles (chapter 14).
What the boot ROM and the vault find in fuses, images and signatures comes with the command (DESIGN CHOICE, log 10).
-/

namespace Sys2Proof.Machine

open Sys2Proof

/-! ### Reset pin and boot sequence (R434, R572) -/

/-- RESET_N_ASSERT (R572, R594): also ends a freeze; ignored without the auxiliary rail (R576). -/
def execResetNAssert (s : State) : Res := if s.pwr.aux then .next (coldState s) else .next s

/-- The lifecycle that the fused bits give (R462). -/
def fusedLc (f : Nat) : Nat := if bit f 2 then 4 else if bit f 1 then 2 else if bit f 0 then 1 else 0

/-- The boot halts with a BOOT_ERROR (R434). -/
def bootHalt (s : State) (e : Nat) : State := { s with boot := { s.boot with st := 4, error := e } }

/-- The fuse summary of MR0 (R439; DEDUCED, log 67). -/
def fuseSummary (s : State) : List Nat :=
  [s.fuses.lifecycle, s.fuses.svnFloor, s.fuses.vendorRevoke] ++ bytesOf s.fuses.serial 8 ++ bytesOf s.fuses.manifest 32 ++
    List.replicate 21 0

/-- MR0 as the boot ROM extends it. -/
def extendMr0 (s : State) : State :=
  extendMr s 0 (bytesOf Config.romHash 32 ++ fuseSummary s ++ bytesOf s.mram.tamperCount 4)

/-- The Ethernet ports' MAC addresses from the fuses (R321, R432): logical port k of port e has the address 4 e + k above
MAC_BASE (DEDUCED, log 68). -/
def bootMacs (s : State) : State :=
  (List.range 16).foldl (fun s i => wrEj s eLpKMac (i / 4) (i % 4) ((s.fuses.macBase + i) % 2 ^ 48)) s

/-- Step 2: fuses sensed; the lifecycle takes effect, and with it an identity made for it (R462, R463). -/
def bootFuses (s : State) : State :=
  let lc := fusedLc s.fuses.lifecycle
  let m := match s.mram.nextIdPub with
    | some p => if lc = 2 then { s.mram with
        idPub := p
        nextIdPub := none
        idTree := 0
        idMark := 0
        idNodes := (idNodesOf s.fuses.dus lc 0).2
        idTop := (idNodesOf s.fuses.dus lc 0).1
        nextNodes := none } else s.mram
    | none => s.mram
  bootMacs { s with
    mram := m
    boot := { s.boot with lc := lc, idPub := if lc = 1 ∨ lc = 2 then m.idPub else 0 } }

/-- Step 4: MRAM verified, BOOT_COUNT incremented, every tree resumed at its mark (R453), MR0 extended. -/
def bootMram (s : State) : State :=
  extendMr0 { s with
    mram := { s.mram with bootCount := s.mram.bootCount + 1 }
    boot := { s.boot with idLeaf := s.mram.idMark } }

/-- The wrap key's slot (R441, R443): module-owned, every unit that receives keys named. (DEDUCED, log 96.) -/
def wrapSlot (s : State) : State := (installKey s pWrap 0 0 2047 true (freshVal s)).getD s

/-- Step 6: BOOT_SALT and the transport wrap key are drawn; the module waits for an image. -/
def bootDraw (s : State) (salt : Nat) : State :=
  let s1 := freshNext (wrapSlot (rngTake s 1))
  { s1 with boot := { s1.boot with st := 1, salt := salt } }

/-! ### Tamper (R455, R579) -/

/-- The tamper response: once per boot; nothing is left to zero in RETIRED. (DEDUCED, log 98.) -/
def tamperResponse (s : State) : State :=
  if s.boot.tampered ∨ effLc s = 4 then s
  else
    let s1 := (tkeys (s.keys.filter (fun k => k.2.st == 1))).foldl retireKey s
    let s2 := rngZero (dropLinks (zeroVault s1))
    let n := satAdd 0xFFFFFFFF s.mram.tamperCount 1
    let s3 := extendMr { s2 with
      vm := []
      vmFn := []
      hss := []
      rng := { s2.rng with st := rngHalted }
      mram := { s2.mram with tamperCount := n, tamperLatch := false }
      boot := { s2.boot with tampered := true } } 3 (asc "ELASH-EVT-TAMPER")
    writeFault s3 (plainFault ftTamper 0 0 264 n)

/-- TAMPER (R579): ignored without the auxiliary rail; latched where the module is Off or held in reset (R560). A freeze
does not stop the response (R598). -/
def execTamper (s : State) : Res :=
  if s.pwr.aux = false then .next s
  else if s.pwr.inReset then .next { s with mram := { s.mram with tamperLatch := true } }
  else .next (tamperResponse s)

/-- The boot sequence from step 1 (R434): it halts at the first failure, or waits for an image. A tamper latch takes
effect then (R560; DEDUCED, log 69). (DESIGN CHOICE, log 94.) -/
def bootSequence (b : BootEnv) (s : State) : State :=
  let s1 := rngStart { s with
    pwr := { s.pwr with inReset := false }
    dbg := { s.dbg with ir := if s.dbg.ir = 0 ∨ s.dbg.ir = 3 ∨ s.dbg.ir = 4 then 0xFF else s.dbg.ir } }
  if b.fusesOk = false then freshNext (bootHalt s1 (freshVal s1 % 256))
  else
    let s2 := bootFuses s1
    let s3 := { s2 with fuses := { s2.fuses with dieIds := b.dieIds % 2 ^ 576 } }
    if b.linksOk = false ∨ Config.sha256 (bytesOf (b.dieIds % 2 ^ 576) 72) ≠ s3.fuses.manifest then bootHalt s3 7
    else if b.mramOk = false ∨ s3.mram.bootCount = 0xFFFFFFFF then bootHalt s3 8
    else
      let s4 := bootMram s3
      if b.rngCause ≠ 0 then bootHalt (rngFail s4 b.rngCause) 6
      else
        let s5 := bootDraw (rngInstantiate s4) (b.salt % 2 ^ 256)
        if s5.mram.tamperLatch then tamperResponse s5 else s5

/-- RESET_N_DEASSERT (R434, R572, R576): the supplies and REFCLK are there and no thermal trip holds the module. -/
def execResetNDeassert (b : BootEnv) (s : State) : Res :=
  if s.pwr.inReset ∧ s.pwr.tripped = false ∧ s.pwr.aux ∧ s.pwr.v48 ∧ s.pwr.pwrGood ∧ s.pwr.refclk then
    .next (bootSequence b s)
  else .next s

/-! ### Firmware images (R435 to R437, R530) -/

/-- The header of the image in the boot window (R435), and what the checks of its signature and digest find. -/
def imageOf (m : Mem) (sigOk digestOk : Bool) : Image :=
  { magic := mrd m 0 4, hdrVersion := mrd m 4 1, keySlot := mrd m 5 1, imageBytes := mrd m 8 4, svn := mrd m 12 4,
    build := mrd m 16 4, sigBytes := mrd m 20 4, imageDigest := mrd m 32 32, vendorPub := mrd m 64 60,
    rsvZero := mrd m 6 2 == 0 && mrd m 24 8 == 0 && mrd m 124 132 == 0, sigOk := sigOk, digestOk := digestOk }

/-- The image's first failing check (R436). -/
def imageErr (s : State) (len : Nat) (i : Image) : Option Nat :=
  if !(i.magic == 0x72081A5E && i.hdrVersion == 1 && decide (i.keySlot ≤ 1) && i.rsvZero &&
      decide (65536 ≤ i.imageBytes ∧ i.imageBytes ≤ 3145728 ∧ i.svn ≤ 128 ∧ i.sigBytes ≤ 16384) && i.imageBytes % 64 == 0 &&
      len == 256 + i.imageBytes + i.sigBytes) then some 1
  else if Config.sha256 (bytesOf i.vendorPub 60) ≠ (if i.keySlot = 0 then s.fuses.vendor0 else s.fuses.vendor1) ∨
      bit s.fuses.vendorRevoke i.keySlot then some 2
  else if i.sigOk = false then some 3
  else if i.digestOk = false then some 4
  else if i.svn < s.fuses.svnFloor then some 5
  else none

/-- Reserve the alias index of this boot (R437 step 4, R453): a lifecycle with an identity only. -/
def bootAlias (s : State) : State :=
  if s.boot.lc = 1 ∨ s.boot.lc = 2 then
    let s1 := reserveAlias { s with boot := { s.boot with aliasIdx := s.mram.aliasNext } }
    { s1 with mram := { s1.mram with aliasMark := 0 } }
  else s

/-- The image in the window is complete (R436, R437, R530): refused with its code, the window zeroed and another awaited; or
MR1 is extended by the header and the firmware runs. -/
def bootImage (s : State) (len : Nat) (sigOk digestOk : Bool) : State :=
  let i := imageOf s.boot.win sigOk digestOk
  let s0 := { s with boot := { s.boot with
    win := []
    written := 0
    claim := 0 } }
  match imageErr s len i with
  | some e => { s0 with boot := { s0.boot with error := e, refusals := satAdd 255 s0.boot.refusals 1 } }
  | none =>
    let s1 := extendMr s0 1 (mbytes s.boot.win 0 256)
    bootAlias { s1 with boot := { s1.boot with
      st := 3
      error := 0
      svn := i.svn
      build := i.build } }

/-- BOOT_COMMIT: a write of the boot register, unless the management port has claimed the image. -/
def execBootCommit (len : Nat) (img : ImageCheck) (s : State) : Res :=
  if s.boot.st = 1 ∧ s.boot.claim ≠ 2 ∧ s.pwr.frozen = false ∧ memUp s 0 then .next (bootImage s len img.sigOk img.digestOk)
  else .next s

/-- The rule of IMAGE_COMMIT: discarded where the host has claimed the image. -/
def imageCommitRule (len : Nat) (sigOk digestOk : Bool) (s : State) : Nat × State :=
  if s.boot.claim = 1 then (stOk, s) else (stOk, bootImage s len sigOk digestOk)

/-- IMAGE_COMMIT: a write of the boot entry on the management port without a session. -/
def execImageCommit (len : Nat) (img : ImageCheck) (s : State) : Res :=
  odCmd s .port eImageCommit 0 len (imageCommitRule len img.sigOk img.digestOk)

/-! ### Lifecycle (R462, R463) -/

/-- PRESENCE_N was pressed within the 30 s before the write. -/
def pressed (s : State) (now : Nat) : Bool :=
  match s.boot.press with
  | some t => decide (t ≤ now ∧ now ≤ t + 30000)
  | none => false

/-- The rule of PROVISION: the DUS is burnt, and the DEV identity computed from it. -/
def provisionRule (now dus : Nat) (s : State) : Nat × State :=
  if effLc s ≠ 0 ∨ pressed s now = false ∨ vaultUp s = false then (stPolicy, s)
  else if s.rng.queue = [] then (stRng, bumpB s rUnavail 4 1)
  else
    let s1 := rngTake s 1
    (stOk, bootAlias (wrE { s1 with
      fuses := { s1.fuses with dus := dus, lifecycle := putBit s1.fuses.lifecycle 0 true }
      mram := { s1.mram with
        idPub := idPubOf dus 1
        idTree := 0
        idMark := 0
        idNodes := (idNodesOf dus 1 0).2
        idTop := (idNodesOf dus 1 0).1 }
      boot := { s1.boot with
        lc := 1
        idPub := idPubOf dus 1
        idLeaf := 0 } } eLcStatus 0 stOk))

/-- PROVISION. -/
def execProvision (src : Src) (now dus len : Nat) (s : State) : Res :=
  odRun s src eLcCommand 0 len 1 (provisionRule now (dus % 2 ^ 256))

/-- The rule of PRODUCE: the PROD identity waits for the next reset. The management port without a session is no source
of it. -/
def produceRule (src : Src) (now : Nat) (s : State) : Nat × State :=
  if src = .port then (stAccess, s)
  else if effLc s ≠ 1 ∨ bit s.fuses.lifecycle 1 ∨ pressed s now = false ∨ vaultUp s = false then (stPolicy, s)
  else
    (stOk, wrE { s with
      fuses := { s.fuses with lifecycle := putBit s.fuses.lifecycle 1 true }
      mram := { s.mram with nextIdPub := some (idPubOf s.fuses.dus 2) } } eLcStatus 0 stOk)

/-- PRODUCE. -/
def execProduce (src : Src) (now len : Nat) (s : State) : Res := odRun s src eLcCommand 0 len 2 (produceRule src now)

/-- A lifecycle action begins: every function is fenced, and the action waits for the last of them (R463, R465). -/
def beginLc (s : State) (act : Nat) (src : Option Src) : State :=
  fenceAll { s with lcWait := act, lcSrc := src } []

/-- The rule of RETIRE. -/
def retireRule (src : Src) (now : Nat) (s : State) : Nat × State :=
  if src = .port then (stAccess, s)
  else if (effLc s ≠ 1 ∧ effLc s ≠ 2) ∨ pressed s now = false ∨ s.lcWait ≠ 0 then (stPolicy, s)
  else (stOk, beginLc s 1 (some src))

/-- LC_RETIRE: answered once the last fence is complete. -/
def execLcRetire (src : Src) (now : Nat) (s : State) : Res := odDefer s src eLcCommand 0 1 3 (retireRule src now)

/-! ### Debug unlock (R464, R465) -/

/-- The challenge in force, or a new one: its nonce is a free value. (DESIGN CHOICE, log 102.) -/
def challengeNow (s : State) (now : Nat) : Nat × State :=
  match s.boot.challenge with
  | some c =>
    if s.boot.challengeAt ≤ now ∧ now ≤ s.boot.challengeAt + 60000 then (c, s) else newChallenge s now
  | none => newChallenge s now
where
  /-- 32 bytes of nonce, MODULE_SERIAL, BOOT_COUNT and four zero bytes. -/
  newChallenge (s : State) (now : Nat) : Nat × State :=
    let c := freshVal s % 2 ^ 256 + 2 ^ 256 * (s.fuses.serial % 2 ^ 64) + 2 ^ 320 * (s.mram.bootCount % 2 ^ 32)
    (c, freshNext { s with boot := { s.boot with challenge := some c, challengeAt := now } })

/-- DEBUG_CHALLENGE: a read of the entry by a mailbox or a management session. -/
def execDebugChallenge (src : Src) (now : Nat) (s : State) : Res :=
  if !srcLive s src then .next s
  else
    match src with
    | .port => .next (answerWith s src stAccess 0 0 true false)
    | .peer _ => .next (answerWith s src stAccess 0 0 true false)
    | _ =>
      let r := challengeNow s now
      .next (answerWith r.2 src stOk r.1 48 true false)

/-- The vault accepts a response (R464 step 4). -/
def unlockOk (s : State) (now pub : Nat) (sigOk : Bool) : Bool :=
  sigOk && s.fuses.debugKey != 0 && Config.sha256 (bytesOf pub 60) == s.fuses.debugKey && s.boot.challenge.isSome &&
    decide (s.boot.challengeAt ≤ now ∧ now ≤ s.boot.challengeAt + 60000) &&
    (match s.boot.press with | some t => decide (s.boot.challengeAt ≤ t ∧ t ≤ now) | none => false)

/-- The rule of DEBUG_RESPONSE and of its JTAG counterpart: only in PROD, and at most three refusals in one boot. -/
def unlockRule (src : Option Src) (now pub : Nat) (sigOk : Bool) (s : State) : Nat × State :=
  if effLc s ≠ 2 ∨ s.lcWait ≠ 0 then (stPolicy, wrE s eLcStatus 0 stPolicy)
  else if 3 ≤ rdE s eUnlockFails 0 ∨ unlockOk s now pub sigOk = false then
    (stPolicy, wrE (bumpE s eUnlockFails 0) eLcStatus 0 stPolicy)
  else (stOk, beginLc s 2 src)

/-- DEBUG_RESPONSE: answered once the last fence is complete. -/
def execDebugResponse (src : Src) (now pub : Nat) (sigOk : Bool) (s : State) : Res :=
  odDefer s src eDebugResponse 0 4096 0 (unlockRule (some src) now pub sigOk)

/-! ### Policy bundles (R459 to R461) -/

/-- n to the next multiple of 4. -/
def pad4 (n : Nat) : Nat := 4 * cdiv n 4

/-- The k entries of a bundle from byte a (R459). -/
def bundleEntries (m : Mem) : Nat → Nat → List BundleEntry
  | 0, _ => []
  | k + 1, a =>
    let len := mrd m (a + 4) 4
    { index := mrd m a 2, sub := mrd m (a + 2) 1, len := len, value := mrd m (a + 8) (min len 12288) } ::
      bundleEntries m k (a + 8 + pad4 len)

/-- Each of k entries from byte a has its reserved byte and its padding 0, and the last ends at byte e. -/
def bundleFits (m : Mem) (e : Nat) : Nat → Nat → Bool
  | 0, a => a == e
  | k + 1, a =>
    let len := mrd m (a + 4) 4
    decide (a + 8 + pad4 len ≤ e) && mrd m (a + 3) 1 == 0 && mrd m (a + 8 + len) (pad4 len - len) == 0 &&
      bundleFits m e k (a + 8 + pad4 len)

/-- The bundle that the bytes of POLICY_BUNDLE hold (R459), and what the check of its signature finds. -/
def bundleOf (m : Mem) (sigOk : Bool) : Bundle :=
  let k := mrd m 8 4
  let e := mrd m 4 4
  { context := mrd m 1 1, bootCount := mrd m 12 4, serial := mrd m 16 8, signerPub := mrd m 24 60, sigOk := sigOk,
    entries := bundleEntries m (min k 255) 128,
    layoutOk := mrd m 0 1 == 1 && mrd m 2 2 == 0 && mrd m 84 44 == 0 && decide (e ≤ 12288 ∧ 1 ≤ k ∧ k ≤ 255) &&
      bundleFits m e (min k 255) 128 }

/-- An entry that a bundle for context n may name, with its length (order 4 of R460). -/
def bundleNames (n : Nat) (x : BundleEntry) : Bool :=
  (match odFind x.index x.sub with
    | some e => lenOk e x.len
    | none => false) &&
    ((x.index == 0x5200 + n && decide (1 ≤ x.sub ∧ x.sub ≤ 5)) || (x.index == 0x5400 + n && decide (1 ≤ x.sub ∧ x.sub ≤ 64)) ||
      (x.index == 0x5900 + n && decide (1 ≤ x.sub ∧ x.sub ≤ 8)) || (x.index == 0x5B00 + n && decide (1 ≤ x.sub ∧ x.sub ≤ 17)))

/-- A value of a bundle lies in its entry's range (order 5 of R460). -/
def bundleValue (x : BundleEntry) : Bool :=
  match odFind x.index x.sub with
  | some e => valueOk e x.value
  | none => false

/-- The checks of R460 for function f; stOk when all pass. -/
def bundleStatus (s : State) (f : Nat) (b : Bundle) : Nat :=
  let n := b.context
  let auth := rdE s ePolicyAuthority f
  if b.layoutOk = false ∨ b.entries.isEmpty ∨ 255 < b.entries.length ∨ 256 ≤ n then stUnsupported
  else if auth = 0 ∨ Config.sha256 (bytesOf b.signerPub 60) ≠ auth ∨ b.sigOk = false ∨
      (b.bootCount ≠ 0 ∧ b.bootCount ≠ s.mram.bootCount) ∨ (b.serial ≠ 0 ∧ b.serial ≠ s.fuses.serial) then stPolicy
  else if (cx s n).owner ≠ f ∨ rdE s eCtxState n ≠ cxConfigured ∨ rdE s ePolicyLock n ≠ 0 then stPolicy
  else if b.entries.all (bundleNames n) = false then stAccess
  else if b.entries.all bundleValue = false then stParam
  else stOk

/-- One entry of a bundle is written. -/
def bundleWrite (s : State) (x : BundleEntry) : State :=
  match odFind x.index x.sub with
  | some e => wrEj s e (x.index - e.base) (x.sub - e.subLo) x.value
  | none => s

/-- The rule of POLICY_BUNDLE. -/
def bundleRule (src : Src) (b : Bundle) (s : State) : Nat × State :=
  let st := bundleStatus s (srcFn src) b
  let s1 := if st = stOk then (policyLockRule b.context (b.entries.foldl bundleWrite s)).2 else s
  (st, wrE s1 eBundleStatus 0 st)

/-- POLICY_BUNDLE: a write of the whole bundle from a mailbox. -/
def execPolicyBundle (src : Src) (b : BundleData) (s : State) : Res :=
  odRun s src ePolicyBundle 0 16384 0 (bundleRule src (bundleOf b.data b.sigOk))

end Sys2Proof.Machine
end

