-- ==== Sys2Proof/Machine/Registers.lean ====
section
/-!
DEFINITION. The registers of BAR0 and BAR2 as software reads and writes them (R8, R30, R31, R528 to R532, R543):
each register's word, the writes that registers without a command of their own take, and snapshots (R544).
-/

namespace Sys2Proof.Machine

open Sys2Proof

/-! ### Thatch registers (R224) -/

/-- A context in CONFIGURED or ACTIVE whose range holds tile t of the die, if there is one (R224). -/
def tileOwner (s : State) (die t : Nat) : Option Nat := (List.range 256).find? (fun n => tileInRange s n die t)

/-- The tile is reserved for staging by some context's round. -/
def tileStaging (s : State) (key : Nat) : Bool := s.ctxs.any (fun c => stagingTile s c.1 key)

/-- THT_TILE_STATE of tile t of array a. -/
def tileState (s : State) (die a t : Nat) : Nat :=
  let x := tileOf s die a t
  (match tileOwner s die t with | some n => 2 ^ 24 * n + 2 ^ 23 | none => 0) +
    2 ^ 22 * b2n (tileStaging s (die * 96 + 48 * a + t)) + 2 ^ 21 * b2n (!x.sat.isEmpty) + 2 ^ 20 * b2n x.prov +
    2 ^ 16 * x.ty + 2 ^ 8 * x.laneW

/-- THT_TILE_SPEC: the sum of the tile's row speculation counts. -/
def tileSpec (s : State) (die a t : Nat) : Nat :=
  ((tkeys s.ctxs).flatMap (fun n => (List.range 64).map (fun x =>
    match stagedAt s n (die * 6144 + a * 3072 + t * 64 + x) with
    | some v => specCount s n v.1 v.2
    | none => 0))).sum

/-- THT_ROW_SAT_LO (0) and THT_ROW_SAT_HI (32). -/
def tileSat (x : Tile) (lo : Nat) : Nat := ((List.range 32).map (fun i => if x.sat.contains (lo + i) then 2 ^ i else 0)).sum

/-- The word at offset o of a compute die's THT_ block. -/
def thtWord (s : State) (die o : Nat) : Nat :=
  let k := o / 16
  let a := k / 48
  let t := k % 48
  if 2 ≤ a then 0
  else if o % 16 = 0 then tileState s die a t
  else if o % 16 = 4 then tileSpec s die a t
  else if o % 16 = 8 then tileSat (tileOf s die a t) 0
  else if o % 16 = 12 then tileSat (tileOf s die a t) 32
  else 0

/-! ### Root-die registers -/

/-- DBG_STATUS (R586, R592): open in BLANK, DEV and DEBUG_OPEN, closed in PROD, boundary scan only in RETIRED. -/
def dbgStatus (s : State) : Nat :=
  let lc := effLc s
  let cores := s.dbg.halted.filter (fun u => decide (256 ≤ u))
  2 ^ 30 * (if lc = 4 then 2 else if lc = 2 then 0 else 1) + 2 ^ 29 * b2n (lc != 2 && lc != 4) +
    2 ^ 28 * b2n (!s.dbg.halted.isEmpty) + 2 ^ 20 * (cores.map (fun u => 2 ^ (u - 256))).sum +
    (s.dbg.halted.filter (fun u => decide (u < 256))).length

/-- A counter register of BAR2: those of the module ports, the switches and the RNG (R311, R326, R483). -/
def isCounterReg (off : Nat) : Bool :=
  let w := off / 0x1000000
  let o := off % 0x1000000
  if w = 0 then decide (0x240018 ≤ o ∧ o < 0x240038)
  else if w = 8 ∨ w = 9 then
    decide (0x52010 ≤ o ∧ o < 0x52030) || (decide (0x800000 ≤ o ∧ o < 0x8D0000) && decide (0x10 ≤ o % 0x10000 ∧ o % 0x10000 < 0x30))
  else false

/-- A stored BAR2 register at 8-byte or 4-byte offset, under VIEW the held value of a counter (R544). -/
def storedB (s : State) (off dflt : Nat) : Nat :=
  if s.pcie.snapView && isCounterReg off then tget s.pcie.snapBar2 dflt off else rdB s off dflt

/-- Half of a 64-bit value: the high one at offset + 4. -/
def half (v off : Nat) : Nat := if off % 8 = 4 then v / 2 ^ 32 % 2 ^ 32 else v % 2 ^ 32

/-- The word at offset o of the RNG_ block (R483). -/
def rngWord (s : State) (o : Nat) : Nat :=
  if o = 0 then rngStatus s
  else if o = 4 then 2 ^ 30 * b2n s.rng.capture
  else if o = 8 then rdB s rBias 0x8000
  else if o = 0xC then rdB s rAutocorr 0
  else if o = 0x10 then s.rng.ri
  else if o = 0x18 ∨ o = 0x1C then half (storedB s rBytesOut 0) o
  else if 0x20 ≤ o ∧ o < 0x38 then storedB s (0x240000 + o) 0
  else if o = 0x38 then rngRaw s
  else 0

/-- The word at offset o of RT's window. -/
def rtWord (s : State) (o : Nat) : Nat :=
  if o = 0x200000 then kvStatus s
  else if 0x201000 ≤ o ∧ o < 0x201800 then half (kvSlot s ((o - 0x201000) / 8)) o
  else if 0x240000 ≤ o ∧ o < 0x280000 then rngWord s (o - 0x240000)
  else if o = 0x300000 then dbgStatus s
  else if o = 0x800000 then pwrStatus s
  else if o = 0xA00000 then 2 ^ 29 * b2n s.pcie.snapView
  else if o = 0xA00004 then rdE s eSnapSeq 0
  else if o = 0xA00008 ∨ o = 0xA0000C then half s.pcie.snapUptime o
  else 0

/-! ### Port-die registers -/

/-- The word at offset o of a module port's registers (R311). -/
def shlWord (s : State) (p o : Nat) : Nat :=
  if o = 0 then portStatus s p
  else if o = 4 then portCtrl s p
  else if o = 8 then portPeer s p
  else if 0x10 ≤ o ∧ o < 0x20 then half (storedB s (portBase p + o / 8 * 8) 0) o
  else if 0x20 ≤ o ∧ o < 0x30 then storedB s (portBase p + o) 0
  else 0

/-- The word at offset o of a port die's SW_ block (R326). -/
def swWord (s : State) (die o : Nat) : Nat :=
  if o < 0x10000 then swDest s die (o / 2) + 2 ^ 16 * swDest s die (o / 2 + 1)
  else if o < 0x12000 then half (swPathset s die ((o - 0x10000) / 8)) o
  else if o = 0x12000 ∨ o = 0x12004 then rdB s (swBase die + o) 0
  else if o = 0x12008 then swThreshold s die
  else if 0x12010 ≤ o ∧ o < 0x12030 then half (storedB s (swBase die + o / 8 * 8) 0) o
  else 0

/-- The module port whose registers lie at offset o of a port die's window. -/
def shlPort (die o : Nat) : Option Nat :=
  let p := (o - 0x800000) / 0x10000
  if 0x800000 ≤ o ∧ p < 13 then some (if die = diePd0 then p else 13 + p) else none

/-- The word at a 4-byte offset of BAR2: zero wherever no register lies (R30, R31). -/
def bar2Word (s : State) (off : Nat) : Nat :=
  let w := off / 0x1000000
  let o := off % 0x1000000
  if w = 0 then rtWord s o
  else if w ≤ 6 then (if 0x800000 ≤ o ∧ o < 0x900000 then thtWord s (w - 1) (o - 0x800000) else 0)
  else if w = 8 ∨ w = 9 then
    if 0x40000 ≤ o ∧ o < 0x80000 then swWord s (w - 2) (o - 0x40000)
    else match shlPort (w - 2) o with
      | some p => shlWord s p (o % 0x10000)
      | none => 0
  else 0

/-- A 64-bit register begins at a BAR2 offset. -/
def wide2 (off : Nat) : Bool :=
  let w := off / 0x1000000
  let o := off % 0x1000000
  off % 8 == 0 &&
    (if w = 0 then decide (0x201000 ≤ o ∧ o < 0x201800) || o == 0x240018 || o == 0xA00008
     else (w == 8 || w == 9) && (decide (0x50000 ≤ o ∧ o < 0x52000) || decide (0x52010 ≤ o ∧ o < 0x52030) ||
      (decide (0x800000 ≤ o ∧ o < 0x8D0000) && (o % 0x10000 == 0x10 || o % 0x10000 == 0x18))))

/-- The die whose window holds a BAR2 offset. -/
def windowDie (off : Nat) : Nat :=
  let w := off / 0x1000000
  if w = 0 then dieRt else if w ≤ 6 then w - 1 else w - 2

/-! ### Snapshots (R544) -/

/-- The counter entries of the dictionary (DEDUCED, log 71). -/
def counterEnts : List Ent :=
  [eStarvePromotions, eHsPtrFaults, eSynForeign, eRxDiscard, eUnreachable, eAbortsReceived, eAbortsDropped, eTxPackets,
    eRetxTimeout, eRetxFast, eRxDuplicate, eRxDropHeader, eRxDropKey, eRxDropGeneration, eCeReceived, eRateEvictions,
    eEpForeign, eEpcFetches, eEpcEvictions, eEpcFetchIntegrity, ePrkParked, ePrkDropFull, ePrkDropTimeout, eRxWindowDrop,
    eRxStreamFull, eRxNoSlot] ++
  [eTagFails, eSessionFails, eSlotPending, eRingFull, eCheckFails, eDualDisagree, eEccCorrected, eEccUncorrected, eRecombines,
    eDissents, eRemaskSkipped, eRngFailuresCopy, eFenceCount, eScrubErrors, eWatchdogExpiries, eEngineResets, eDieResets,
    eModuleResets, eFaultLost, eThermTrips, eIdeMisrouted, eSharesAccepted, eSharesDropped, eExchangeDropped,
    eFloatWindowFull, eKeyReloads, eKeyBytes]

/-- A stored key of a counter entry. -/
def isCounterKey (k : Nat) : Bool :=
  let index := k / 256 % 65536
  counterEnts.any (fun e => decide (e.base ≤ index ∧ index < e.base + (if e.perFn then 1 else e.count)) && k % 256 == e.subLo)

/-- Every counter as it stands: those that are not stored under their entry are added. -/
def countersNow (s : State) : Tbl Nat :=
  tset (tset (s.od.filter (fun x => isCounterKey x.1)) 0 (entKey eModuleResets 0 0) s.mram.moduleResets) 0
    (entKey eRngFailuresCopy 0 0) (rdB s rFailures 0)

/-- The counter registers of BAR0 as they stand, by function * 2^25 + offset: CQ_STARVE and CQ_OVERRUNS (R265), EVQ_LOST
(R300), MB_OVERRUNS (R549). -/
def bar0Counters (s : State) : Tbl Nat :=
  (s.cqs.flatMap (fun c =>
    let a := c.1 / 64 * 2 ^ 25 + 0x1000 + 64 * (c.1 % 64)
    [(a + 0x1C, c.2.starve), (a + 0x20, c.2.overruns)])) ++
  s.evqs.map (fun v => (v.1 / 4 * 2 ^ 25 + 0x3008 + 64 * (v.1 % 4), v.2.lost)) ++
  s.mboxes.map (fun m => (m.1 * 2 ^ 25 + 0x80200C, m.2.overruns))

/-- TAKE: every counter into its holding copy at one strobe, whose UPTIME is a free value (DESIGN CHOICE, log 11). -/
def snapTake (s : State) : State :=
  bumpE (freshNext { s with pcie := { s.pcie with
    snapOd := countersNow s
    snapBar2 := s.bar2.filter (fun x => isCounterReg x.1)
    snapBar0 := bar0Counters s
    snapUptime := freshVal s % 2 ^ 64 } }) eSnapSeq 0

/-- The rule of SNAP_TAKE: a 0 takes nothing. -/
def snapTakeRule (v : Nat) (s : State) : Nat × State := (stOk, if v = 0 then s else snapTake s)

/-! ### BAR2 writes -/

/-- A write of SHL_PORT_CTRL (R311). -/
def writePortCtrl (s : State) (p v : Nat) : State :=
  let s1 := setForceHalf (setEnable s p (bit v 31)) p (bit v 29)
  if bit v 30 then setRetrain s1 p else s1

/-- A write of RNG_CTRL (R484, R486). -/
def writeRngCtrl (s : State) (v : Nat) : State :=
  let s1 := if bit v 31 then (rngRestartRule s).2 else s
  if bit v 30 then (if effLc s = 1 then { s1 with rng := { s1.rng with capture := true } } else s1)
  else if s1.rng.capture then captureEnd s1 else s1

/-- A 32-bit write at a BAR2 offset; what no rule lets software write is discarded (R8, R31). -/
def bar2Write32 (s : State) (off v : Nat) : State :=
  let w := off / 0x1000000
  let o := off % 0x1000000
  if w = 0 then
    if o = 0x240004 then writeRngCtrl s v
    else if o = 0xA00000 then
      let s1 := if bit v 31 then snapTake s else s
      { s1 with pcie := { s1.pcie with snapView := bit v 29 } }
    else s
  else if w = 8 ∨ w = 9 then
    if 0x40000 ≤ o ∧ o < 0x50000 then
      wrB (wrB s off 0 (v % 2 ^ 16 &&& 0x83FF)) (off + 2) 0 (v / 2 ^ 16 % 2 ^ 16 &&& 0x83FF)
    else if 0x50000 ≤ o ∧ o < 0x52000 then
      let b := off / 8 * 8
      wrB s b 0 (if off % 8 = 4 then putBits (rdB s b 0) 63 32 v else putBits (rdB s b 0) 31 0 v)
    else if o = 0x52000 then wrB s off 0 (v % 2 ^ 13)
    else if o = 0x52004 then wrB s off 0 (v % 2 ^ 8)
    else if o = 0x52008 then wrB s off 65536 (max 4096 (min 262144 v))
    else match shlPort (w - 2) o with
      | some p => if o % 0x10000 = 4 then writePortCtrl s p v else s
      | none => s
  else s

/-- A write of `size` bytes to BAR2 (R543): one 16-bit, 32-bit or 64-bit access; the access to a sleeping die completes after
its register domain has woken (R32), which no state shows. An access of another size or off its alignment is discarded
(DEDUCED, log 72). -/
def bar2Write (s : State) (off size v : Nat) : State :=
  let o := off % 0x1000000
  if size = 8 ∧ off % 8 = 0 then
    if wide2 off then
      (if 0x50000 ≤ o ∧ o < 0x52000 then wrB s off 0 (v % 2 ^ 64) else s)
    else bar2Write32 (bar2Write32 s off (v % 2 ^ 32)) (off + 4) (v / 2 ^ 32 % 2 ^ 32)
  else if size = 4 ∧ off % 4 = 0 then bar2Write32 s off (v % 2 ^ 32)
  else if size = 2 ∧ off % 2 = 0 ∧ 8 ≤ off / 0x1000000 ∧ off / 0x1000000 ≤ 9 ∧ 0x40000 ≤ o ∧ o < 0x50000 then
    wrB s off 0 (v % 2 ^ 16 &&& 0x83FF)
  else s

/-! ### BAR0 reads -/

/-- CQ_CONFIG as it reads (R266). -/
def cqConfig (c : Cq) : Nat := 2 ^ 31 * b2n c.enable + 2 ^ 29 * c.space + 2 ^ 26 * c.cls + 2 ^ 24 * c.evq + 2 ^ 16 * c.ctx

/-- CQ_STATUS (R265). -/
def cqStatus (s : State) (f q : Nat) : Nat :=
  4 * b2n (cq s f q).fetchErr + 2 * b2n (laneFullNow s f q) + b2n (s.descs.any (fun d => d.fn == f && d.queue == q))

/-- The word at offset o of command queue q's registers (R265). -/
def cqWord (s : State) (f q o : Nat) : Nat :=
  let c := cq s f q
  if o = 0 ∨ o = 4 then half c.base o
  else if o = 8 then cqConfig c
  else if o = 0xC then c.depth
  else if o = 0x10 then c.urgentAge
  else if o = 0x14 then c.head
  else if o = 0x18 then cqStatus s f q
  else if o = 0x1C then c.starve
  else if o = 0x20 then c.overruns
  else 0

/-- The word at offset o of event queue e's registers (R300). -/
def evqWord (s : State) (f e o : Nat) : Nat :=
  let x := evq s f e
  if o = 0 then 2 ^ 31 * b2n x.enable + 2 ^ 8 * x.vector
  else if o = 4 then x.depth
  else if o = 8 then x.lost
  else if o = 0xC then x.entries.length
  else 0

/-- BOOT_STATUS, BOOT_WRITTEN (R530). -/
def bootWord (s : State) (o : Nat) : Nat :=
  if o = 0 then kvStatus s % 2 ^ 20 + 2 ^ 31 * b2n (s.boot.claim == 2)
  else if o = 8 then s.boot.written
  else 0

/-- The word at offset o of the mailbox registers (R549). -/
def mbWord (s : State) (f o : Nat) : Nat :=
  let m := mboxOf s f
  if o = 4 then 1 + 2 * b2n m.busy + 4 * b2n m.respValid
  else if o = 8 then m.vector
  else if o = 0xC then m.overruns
  else 0

/-- The default of word w of an MSI-X table: each vector is masked (PCIe base specification, PRESUMED, log 73). -/
def msixDflt (w : Nat) : Nat := if w % 4 = 3 then 1 else 0

/-- The word at a 4-byte offset of BAR0 of function f, where BAR0 answers; registers with a read of their own (event queues,
foreign counters and endpoints) are the reading command's. -/
def bar0Word (s : State) (f off : Nat) : Nat :=
  if off = 0 then pciFnStatus s f
  else if 0x100 ≤ off ∧ off < 0x110 then (if f = 0 then bootWord s (off - 0x100) else 0)
  else if 0x1000 ≤ off ∧ off < 0x2000 then cqWord s f ((off - 0x1000) / 64) (off % 64)
  else if 0x3000 ≤ off ∧ off < 0x3100 then evqWord s f ((off - 0x3000) / 64) (off % 64)
  else if 0x8000 ≤ off ∧ off < 0x9000 then
    let w := (off - 0x8000) / 4
    tget s.msix (msixDflt w) (f * 1024 + w)
  else if 0x9000 ≤ off ∧ off < 0x9020 then fld (tget s.msixPend 0 f) (off - 0x9000) 4
  else if 0x100000 ≤ off ∧ off < 0x100200 then (if off % 8 = 0 then (cq s f ((off - 0x100000) / 8)).prod else 0)
  else if 0x200000 ≤ off ∧ off < 0x220000 then (if off % 8 = 0 then synGet s ((off - 0x200000) / 8) else 0)
  else if 0x300000 ≤ off ∧ off < 0x400000 then
    let e := epOf s ((off - 0x300000) / 4)
    e.st + 2 ^ 16 * (e.slotCount - e.slots.length)
  else if 0x800000 ≤ off ∧ off < 0x802000 then mrd (mboxBytes s f) (off - 0x800000) 4
  else if 0x802000 ≤ off ∧ off < 0x803000 then mbWord s f (off - 0x802000)
  else if 0x1000000 ≤ off ∧ off < 0x1400000 then
    (if f = 0 ∧ s.boot.st = 1 then mrd s.boot.win (off - 0x1000000) 4 else 0)
  else 0

/-- A part of BAR0 answers (R495, R501, R529, R531): with the function unmapped or the firmware not yet running only some of
the physical function's does. -/
def bar0Answers (s : State) (f off : Nat) : Bool :=
  fnExists s f && memUp s f && !s.pwr.frozen && !s.pwr.inReset &&
    (off == 0 && (f == 0 || running s) ||
      (f == 0 && (decide (0x100 ≤ off ∧ off < 0x110) || decide (0x1000000 ≤ off ∧ off < 0x1400000))) ||
      bar0Up s f || (mboxUp s f && decide (0x800000 ≤ off ∧ off < 0x803000)))

/-- CQ_BASE is the one 64-bit register of BAR0. -/
def wide0 (off : Nat) : Bool := decide (0x1000 ≤ off ∧ off < 0x2000) && off % 64 == 0

/-! ### BAR0 writes -/

/-- A write to a command queue's registers (R265, R266). -/
def cqWrite32 (s : State) (f q o v : Nat) : State :=
  let c := cq s f q
  if o = 0 then setCq s f q { c with base := putBits c.base 31 0 v }
  else if o = 4 then setCq s f q { c with base := putBits c.base 63 32 v }
  else if o = 8 then cqConfigWrite s f q v
  else if o = 0xC then setCq s f q { c with depth := v }
  else if o = 0x10 then setCq s f q { c with urgentAge := max 1 (min 1000000 v) }
  else s

/-- A write to an event queue's registers (R300). -/
def evqWrite32 (s : State) (f e o v : Nat) : State :=
  if o = 0 then writeEvqConfig s f e v else if o = 4 then writeEvqDepth s f e v else s

/-- A write of a word of the MSI-X table: unmasking a vector sends its pending message (R532).
    Every bit of the word is stored, reserved bits of Vector Control too (DESIGN CHOICE, log 157). -/
def msixWrite32 (s : State) (f w v : Nat) : State :=
  flushMsix { s with msix := tset s.msix (msixDflt w) (f * 1024 + w) v } f

/-- Bytes written into the boot window claim the image for the host (R530). -/
def bootWindowWrite (s : State) (a size v : Nat) : State :=
  if s.boot.st ≠ 1 ∨ s.boot.claim = 2 then s
  else { s with boot := { s.boot with
    claim := 1
    win := mwr s.boot.win a size v
    written := max s.boot.written (a + size) } }

/-- The state that a meaning answers, where it answers one. -/
def resState (s : State) : Res → State
  | .next t => t
  | _ => s

/-- An endpoint doorbell by its command code (R384); another code is discarded. -/
def epDoorbell (s : State) (f e v : Nat) : State :=
  let c := v % 16
  let k := bits v 31 16
  resState s (if c = 1 then execResume f e s else if c = 2 then execError f e s else if c = 3 then execEvict f e s
    else if c = 4 then execRecycle f e k s else if c = 5 then execRecordFree f e k s else doorbell f e s (fun s => s))

/-- A 32-bit write at a BAR0 offset that answers. -/
def bar0Write32 (s : State) (f off v : Nat) : State :=
  if 0x1000 ≤ off ∧ off < 0x2000 then cqWrite32 s f ((off - 0x1000) / 64) (off % 64) v
  else if 0x3000 ≤ off ∧ off < 0x3100 then evqWrite32 s f ((off - 0x3000) / 64) (off % 64) v
  else if 0x8000 ≤ off ∧ off < 0x9000 then msixWrite32 s f ((off - 0x8000) / 4) v
  else if 0x100000 ≤ off ∧ off < 0x100200 ∧ off % 8 = 0 then resState s (execCqDoorbell f ((off - 0x100000) / 8) v s)
  else if 0x200000 ≤ off ∧ off < 0x220000 then
    let c := (off - 0x200000) / 8
    resState s (if off % 8 = 0 then execSynValueWrite f c v s else execSynAdd f c v s)
  else if 0x300000 ≤ off ∧ off < 0x400000 then epDoorbell s f ((off - 0x300000) / 4) v
  else if 0x802000 ≤ off ∧ off < 0x803000 then
    (if off = 0x802008 then setMbox s f { mboxOf s f with vector := v &&& 0x800000FF } else s)
  else s

/-- A write of `size` bytes to BAR0 (R543). The mailbox request and the boot window take any size; other registers 32-bit
and 64-bit accesses on their alignment (DEDUCED, log 72). BOOT_COMMIT and MB_DOORBELL are commands of their own. -/
def bar0Write (s : State) (f off size v : Nat) : State :=
  if bar0Answers s f off = false then s
  else if 0x800000 ≤ off ∧ off + size ≤ 0x801000 then
    setMboxBytes s f (mwr (mboxBytes s f) (off - 0x800000) size (v % 2 ^ (8 * size)))
  else if 0x1000000 ≤ off ∧ off + size ≤ 0x1400000 then
    (if f = 0 then bootWindowWrite s (off - 0x1000000) size (v % 2 ^ (8 * size)) else s)
  else if size = 8 ∧ off % 8 = 0 then
    if wide0 off then setCq s f ((off - 0x1000) / 64) { cq s f ((off - 0x1000) / 64) with base := v % 2 ^ 64 }
    else bar0Write32 (bar0Write32 s f off (v % 2 ^ 32)) f (off + 4) (v / 2 ^ 32 % 2 ^ 32)
  else if size = 4 ∧ off % 4 = 0 then bar0Write32 s f off (v % 2 ^ 32)
  else s

/-! ### Reads (R31, R32, R529, R543) -/

/-- A read of 4 or 8 bytes whose register is 64 bits wide at `wide` offsets: the low half latches the high one, and the next
read of the high half returns it. Any other size of another part of the BAR cuts the word it lies in. -/
def readWords (s : State) (key off size : Nat) (wide : Nat → Bool) (word : Nat → Nat) : Nat × State :=
  let w := off / 4 * 4
  let lo := word w
  if size = 4 ∧ off % 4 = 0 ∧ wide off then
    (lo, { s with pcie := { s.pcie with hiLatch := tput s.pcie.hiLatch (key + off + 4) (word (off + 4)) } })
  else if size = 4 ∧ off % 8 = 4 ∧ wide (off - 4) then
    match tfind s.pcie.hiLatch (key + off) with
    | some v => (v, { s with pcie := { s.pcie with hiLatch := terase s.pcie.hiLatch (key + off) } })
    | none => (lo, s)
  else ((lo + 2 ^ 32 * word (w + 4)) / 2 ^ (8 * (off % 4)) % 2 ^ (8 * min size 8), s)

/-- A read of a sync counter or an endpoint doorbell that the function does not own: zero, and counted (R278, R384). -/
def foreignRead (s : State) (f off : Nat) : Option State :=
  let c := (off - 0x200000) / 8
  let e := (off - 0x300000) / 4
  if 0x200000 ≤ off ∧ off < 0x220000 ∧ ownsCounter s f c = false then some (bumpE s eSynForeign 0)
  else if 0x300000 ≤ off ∧ off < 0x400000 ∧ !(epLive (epOf s e) && (epOf s e).owner == f) then some (bumpE s eEpForeign f)
  else none

/-- A read of BAR0 by function f: its value and what it leaves. -/
def bar0Read (s : State) (f off size : Nat) : Nat × State :=
  if bar0Answers s f off = false then (0, s)
  else if 0x800000 ≤ off ∧ off < 0x802000 then (mrd (mboxBytes s f) (off - 0x800000) size, s)
  else if 0x1000000 ≤ off ∧ off < 0x1400000 then
    (if f = 0 ∧ s.boot.st = 1 then mrd s.boot.win (off - 0x1000000) size else 0, s)
  else match (if bar0Up s f then foreignRead s f off else none) with
    | some t => (0, t)
    | none => readWords s (2 ^ 40 + f * 2 ^ 32) off size wide0 (bar0Word s f)

/-- The read can reach the function: its memory space is on, and the module neither frozen nor in reset. -/
def readLive (s : State) (f : Nat) : Bool := fnExists s f && memUp s f && !s.pwr.frozen && !s.pwr.inReset

/-- REGISTER_READ (R31, R32, R501, R529, R531, R543). A 16-byte read of an event queue is a command of its own; a read that the
function's BAR does not decode gets no completion with data (R529). -/
def execRegisterRead (r : RegRead) (s : State) : Res :=
  match r with
  | .bar0 f off size =>
    if !readLive s f then .next s
    else if bar0Up s f ∧ 0x400000 ≤ off ∧ off < 0x404000 then .next (emit (linkWork s) (.regData 0))
    else
      let v := bar0Read s f off size
      .next (emit (linkWork v.2) (.regData v.1))
  | .bar2 off size =>
    if !readLive s 0 then .next s
    else if running s = false then .next (emit (linkWork s) (.regData 0))
    else
      let v := readWords s 0 off size wide2 (bar2Word s)
      .next (emit (linkWork (freshNext v.2)) (.regData v.1))

end Sys2Proof.Machine
end

