-- ==== Sys2Proof/Machine/Pcie.lean ====
section
/-!
DEFINITION. The PCIe endpoint beyond its BARs (chapter 18): link power, IDE streams, DOE with SPDM, and TDISP.
-/

namespace Sys2Proof.Machine

open Sys2Proof

/-! ### Link power (R526) -/

/-- The endpoint can change its link's power: the module runs and the function is in D0. -/
def linkLive (s : State) : Bool := rtUp s && s.pcie.dstate == 0

/-- LINK_WIDTH_REDUCTION: L0p halves the width, down to x2. -/
def execLinkWidthReduction (s : State) : Res :=
  if linkLive s ∧ s.pcie.l1 = false ∧ 2 < s.pcie.width then
    .next { s with pcie := { s.pcie with width := s.pcie.width / 2 } }
  else .next s

/-- ASPM_L1_ENTRY: ASPM is enabled and the link has been idle for 64 µs. -/
def execAspmL1Entry (s : State) : Res :=
  if linkLive s then .next { s with pcie := { s.pcie with l1 := true } } else .next s

/-- L1.2 is enabled only while the module is out of Run. -/
def l12Enabled (s : State) : Bool := moduleState s != 0

/-! ### Completions that fail (R534) -/

/-- PCIE_COMPLETION_TIMEOUT: the descriptor that issued the read ends with TIMEOUT, or the ring fetch fails. -/
def execPcieCompletionTimeout (r : HostRead) (s : State) : Res :=
  match r with
  | .desc i =>
    match descOf s i with
    | none => .next s
    | some d => if d.phase = .running ∧ stalled s d = false then .next (hwEnd s d .timeout) else .next s
  | .ring f q =>
    let c := cq s f q
    if q < 64 ∧ c.enable ∧ c.fetchErr = false ∧ c.head ≠ c.prod ∧ c.space = 0 ∧ rtUp s ∧ fnBlocked s f = false then
      .next (queueError s f q stTimeout)
    else .next s

/-! ### TDISP (R538) -/

/-- TDISP state of function f: 0 CONFIG_UNLOCKED, 1 CONFIG_LOCKED, 2 RUN, 3 ERROR. -/
def tdispSt (s : State) (f : Nat) : Nat := tget s.pcie.tdisp 0 f

/-- Set it. -/
def setTdisp (s : State) (f v : Nat) : State := { s with pcie := { s.pcie with tdisp := tset s.pcie.tdisp 0 f v } }

/-- Function f is a virtual function, one TDISP interface, of a module whose DOE mailbox answers. -/
def tdispUp (s : State) (f : Nat) : Bool := rtUp s && s.pcie.dstate == 0 && f != 0 && fnExists s f

/-- LOCK_INTERFACE: allowed while the function is OPEN; refused with a TDISP error otherwise (R553). -/
def execLockInterface (f : Nat) (s : State) : Res :=
  if !tdispUp s f then .next s
  else if tdispSt s f = 0 ∧ fnBlocked s f = false then .next (setTdisp s f 1)
  else .next (emit s (.tdispError f))

/-- START_INTERFACE: from CONFIG_LOCKED. -/
def execStartInterface (f : Nat) (s : State) : Res :=
  if !tdispUp s f then .next s
  else if tdispSt s f = 1 then .next (setTdisp s f 2)
  else .next (emit s (.tdispError f))

/-- STOP_INTERFACE: with SCRUB_DONE the interface is unlocked; without it a locked one goes to ERROR, which fences its
function. -/
def execStopInterface (f : Nat) (s : State) : Res :=
  if !tdispUp s f then .next s
  else if (fnSt s f).scrubDone then .next (setTdisp s f 0)
  else if tdispSt s f = 1 ∨ tdispSt s f = 2 then .next (beginFence s f 3 [])
  else .next s

/-- GET_DEVICE_INTERFACE_REPORT: one range, the function's 64 MiB BAR0; the MSI-X table and pending bits are non-TEE, and no
ATS is used. -/
def execGetDeviceInterfaceReport (f : Nat) (s : State) : Res :=
  if tdispUp s f then .next (emit s (.tdispReport f)) else .next s

/-- TDISP_ERROR: a locked interface goes to ERROR, which fences its function; the offending read returns zeros and a write is
discarded. -/
def execTdispError (f : Nat) (isRead : Bool) (s : State) : Res :=
  if tdispUp s f ∧ (tdispSt s f = 1 ∨ tdispSt s f = 2) then
    let s1 := beginFence s f 3 []
    .next (if isRead then emit s1 (.regData 0) else s1)
  else .next s

/-! ### DOE and SPDM (R537) -/

/-- Certificate slot 0: ENDORSEMENT followed by ALIAS_CERT. -/
def spdmChain (s : State) : Nat := s.mram.endorsement % 2 ^ (8 * 4096) + 2 ^ (8 * 4096) * rdE s eAliasCert 0

/-- Measurement blocks 1 to 8: MR0 to MR7. -/
def spdmBlocks (s : State) : Nat := ofBytes ((List.range 8).flatMap (fun k => bytesOf (rdEj s eMrK 0 k) 32))

/-- Requests whose response carries a signature: CHALLENGE, GET_MEASUREMENTS and KEY_EXCHANGE (request codes of SPDM 1.3,
PRESUMED, log 74). -/
def spdmSigned (code : Nat) : Bool := code == 0x83 || code == 0xE0 || code == 0xE4

/-- What a response shows of the module: the chain for GET_CERTIFICATE, the blocks for GET_MEASUREMENTS. -/
def spdmData (s : State) (code : Nat) : Nat := if code = 0x82 then spdmChain s else if code = 0xE0 then spdmBlocks s else 0

/-- SPDM_REQUEST: a requester that does not offer the module's set receives an error, and so does a request that needs a
signature no alias key can make; a signature uses a leaf of the current alias. -/
def execSpdmRequest (code : Nat) (offered : Bool) (s : State) : Res :=
  if !(rtUp s && s.pcie.dstate == 0) then .next s
  else if offered = false ∨ (spdmSigned code ∧ aliasReady s = false) then .next (emit s (.spdm code false 0))
  else
    let s1 := emit s (.spdm code true (spdmData s code))
    .next (if spdmSigned code then useAlias s1 else s1)

/-! ### IDE (R536) -/

/-- The function that a stream is bound to. -/
def streamFn (s : State) (k : Nat) : Option Nat := if tget s.pcie.streams 0 k = 0 then none else some (tget s.pcie.streams 0 k - 1)

/-- A PENDING slot with the next key of function f's stream. -/
def nextIdeSlot (s : State) (f : Nat) : Option Nat :=
  firstFrom (fun i => (vslot s i).st == 1 && (vslot s i).purpose == pIde && !(vslot s i).moduleOwned && (vslot s i).owner == f) 0 256

/-- K_SET_GO: the switch point of a refreshed key (R445); its predecessor goes to RETIRING. -/
def execKSetGo (stream : Nat) (s : State) : Res :=
  if !(vaultUp s && !s.pwr.frozen) then .next s
  else match (streamFn s stream).bind (nextIdeSlot s) with
    | some i => .next (activateSlot s i)
    | none => .next s

/-- IDE_STREAM_TLP: one for another function is discarded and counted; one for the bound function passes on, and what it
asks for is its own command. -/
def execIdeStreamTlp (stream f : Nat) (s : State) : Res :=
  if rtUp s ∧ streamFn s stream ≠ some f then .next (bumpE s eIdeMisrouted 0) else .next s

/-- The interface is locked: CONFIG_LOCKED or RUN. -/
def tdispLocked (s : State) (f : Nat) : Bool := tdispSt s f == 1 || tdispSt s f == 2

/-- A configuration write binds a stream (R536): a change to a locked interface's stream puts it in ERROR, and the write is
discarded (R538). -/
def bindStream (s : State) (stream fn : Nat) : State :=
  let fs := (match streamFn s stream with | some f => [f] | none => []) ++ (if fn < 64 then [fn] else [])
  match fs.find? (tdispLocked s) with
  | some f => beginFence s f 3 []
  | none => { s with pcie := { s.pcie with streams := tset s.pcie.streams 0 stream (if fn < 64 then fn + 1 else 0) } }

/-- A write of Memory Space Enable (R529): what was held as pending leaves once it is set. -/
def setMemSpace (s : State) (f : Nat) (on : Bool) : State :=
  let l := s.pcie.memOn.filter (· != f)
  flushMsix { s with pcie := { s.pcie with memOn := if on then l ++ [f] else l } } f

/-- A virtual function's D-state (R535): it affects only that function's BAR0. -/
def setVfD (s : State) (f d : Nat) : State :=
  let l := s.pcie.vfD3.filter (· != f)
  flushMsix { s with pcie := { s.pcie with vfD3 := if d = 0 then l else l ++ [f] } } f

/-! ### Snapshots and RNG_RESTART through either door -/

/-- SNAPSHOT_TAKE (R544): through SNAP_CTRL of BAR2, or a write of SNAP_TAKE. -/
def execSnapshotTake (viaOd : Option Src) (s : State) : Res :=
  match viaOd with
  | some src => odCmd s src eSnapTake 0 1 (snapTakeRule 1)
  | none => if bar2Up s then .next (snapTake s) else .next s

/-- RNG_RESTART (R484, R485): through RNG_CTRL of BAR2, or a write of the dictionary's entry. -/
def execRngRestart (viaOd : Option Src) (s : State) : Res :=
  match viaOd with
  | some src => odCmd s src eRngRestart 0 1 rngRestartRule
  | none => if bar2Up s then .next (rngRestartRule s).2 else .next s

end Sys2Proof.Machine
end

