-- ==== Sys2Proof/Machine/Panel.lean ====
section
/-!
DEFINITION. Pins, panel and debug (chapter 20): the freeze, the presence button, the LEDs, the TAP and its debug
commands.
-/

namespace Sys2Proof.Machine

open Sys2Proof

/-! ### Freeze (R593, R594) -/

/-- The lifecycle opens the debug port and honours FREEZE_N: BLANK, DEV and DEBUG_OPEN (R586, R593). -/
def portOpen (s : State) : Bool := effLc s == 0 || effLc s == 1 || effLc s == 3

/-- FREEZE_N: every clock stops, in the middle of whatever runs; DRAM gets no refresh and loses its contents. -/
def execFreezeN (s : State) : Res :=
  if pinsUp s ∧ portOpen s ∧ s.pwr.inReset = false ∧ s.pwr.frozen = false then
    .next { s with
      pwr := { s.pwr with frozen := true }
      vm := []
      vmFn := [] }
  else .next s

/-! ### Panel (R578 to R583) -/

/-- PRESENCE_PRESS (R578): the time of a counted press is recorded, and LED_LOCATE acknowledges it. -/
def execPresencePress (now : Nat) (s : State) : Res :=
  if pinsUp s ∧ s.pwr.inReset = false ∧ s.pwr.frozen = false then
    .next { s with
      boot := { s.boot with press := some now }
      panel := { s.panel with locateAck := true } }
  else .next s

/-- LOCATE_ACKNOWLEDGEMENT_END (R578): the locate pattern resumes. -/
def execLocateAcknowledgementEnd (s : State) : Res :=
  if s.pwr.frozen then .next s else .next { s with panel := { s.panel with locateAck := false } }

/-- LED_ACT_TIMEOUT (R583). -/
def execLedActTimeout (s : State) : Res :=
  if s.pwr.frozen then .next s else .next { s with panel := { s.panel with ledAct := false } }

/-- The rule of LOCATE. -/
def locateRule (v : Nat) (s : State) : Nat × State := (stOk, wrE s eLocate 0 v)

/-- LOCATE_WRITE (R581). -/
def execLocateWrite (src : Src) (value : Nat) (s : State) : Res := odCmd s src eLocate 0 value (locateRule value)

/-- LED_STATUS (R582): 0 dark, 1 at 4 Hz, 2 two pulses every second, 3 at 1 Hz, 4 a pulse every 4 s, 5 a pulse every 8 s,
6 steady. -/
def ledStatus (s : State) : Nat :=
  if pinsUp s = false then 0
  else if s.boot.st = 4 then 1
  else if rdE s eScrubActive 0 ≠ 0 then 2
  else if s.boot.st < 3 then 3
  else if moduleState s = 2 then 4
  else if moduleState s = 3 then 5
  else 6

/-- LED_FAULT (R583). -/
def ledFault (s : State) : Bool :=
  pinsUp s && (s.boot.tampered || s.boot.error != 0 || !(List.range 9).all (inService s) || s.pwr.thermAlert ||
    decide (s.panel.scrubErrMark < scrubErrs s))

/-- LED_ACT (R583): dark while the module sleeps. -/
def ledAct (s : State) : Bool := pinsUp s && s.panel.ledAct && decide (moduleState s < 2)

/-- LED_LOCATE (R578, R583): 0 dark, 1 blinking, 2 steady while a press is acknowledged. -/
def ledLocate (s : State) : Nat :=
  if pinsUp s = false then 0 else if s.panel.locateAck then 2 else rdE s eLocate 0

/-- CABLE_PRESENT (R581). -/
def cablePresent (s : State) : Nat :=
  ((List.range 26).map (fun p => if (portOf s p).cable && (portOf s p).debounced then 2 ^ p else 0)).sum

/-- PANEL_INPUTS (R581): the levels of the four inputs are free values (DESIGN CHOICE, log 75). -/
def panelInputs (s : State) : Nat := freshVal s % 16 + 16 * b2n s.pwr.thermAlert

/-- PRESENCE_AGE (R581): a time, free where a press has been counted since boot. -/
def presenceAge (s : State) : Nat := if s.boot.press.isSome then freshVal s % 2 ^ 32 else 0xFFFFFFFF

/-! ### The TAP (R584 to R586, R597) -/

/-- The instruction is one of the table, and the state permits it. -/
def irPermitted (s : State) (code : Nat) : Bool :=
  if code = 1 ∨ code = 2 ∨ code = 0xFF then true
  else if code = 0 ∨ code = 3 ∨ code = 4 then s.pwr.inReset
  else if code = 0x10 then portOpen s && !s.pwr.inReset
  else if code = 0x11 ∨ code = 0x12 then effLc s == 2 && !s.pwr.inReset
  else if code = 0x13 then s.pwr.frozen
  else false

/-- The boundary-scan cells (R596): RESET_N, the cables and PWR_GOOD as the state has them, the other cells free values
(DESIGN CHOICE, log 75). -/
def boundaryCells (s : State) : Nat :=
  let v := putBit (putBit (freshVal s % 2 ^ 46) 0 (!s.pwr.inReset)) 32 s.pwr.pwrGood
  (List.range 26).foldl (fun v p => putBit v (5 + p) (!(portOf s p).cable)) v

/-- The data register of DBG_ACCESS and FREEZE_READ as Capture-DR loads it (R587): every command here is complete. -/
def dbgCapture (s : State) : Nat := s.dbg.data % 2 ^ 32 + 2 ^ 32 * (s.dbg.status % 256) + 2 ^ 40

/-- What the data register of the loaded instruction shifts out first. -/
def tapData (s : State) : Nat :=
  let c := s.dbg.ir
  if c = 2 then 0x17208A3D
  else if c = 0 ∨ c = 1 then boundaryCells s
  else if c = 0x10 ∨ c = 0x13 then dbgCapture s
  else 0

/-- TAP_RESET (R584, R598): IDCODE; the result of a command in progress is lost. -/
def execTapReset (s : State) : Res :=
  if pinsUp s then
    .next { s with dbg := { s.dbg with
      ir := 2
      data := 0
      status := 0 } }
  else .next s

/-- TAP_INSTRUCTION_LOAD (R584): an instruction that is not permitted selects BYPASS. UNLOCK_CHALLENGE shifts out the
challenge of R464, which a read of it fixes (R586). -/
def execTapInstructionLoad (code now : Nat) (s : State) : Res :=
  if pinsUp s = false then .next s
  else
    let s1 := { s with dbg := { s.dbg with ir := if irPermitted s code then code else 0xFF } }
    if s1.dbg.ir = 0x11 ∧ s.pwr.frozen = false then
      let r := challengeNow s1 now
      .next (emit r.2 (.tap r.1))
    else .next (emit (freshNext s1) (.tap (tapData s1)))

/-- UNLOCK_RESPONSE (R586): Update-DR submits the response to the vault under R464 and R465. -/
def execUnlockResponse (now pub : Nat) (sigOk : Bool) (s : State) : Res :=
  if rtUp s ∧ s.dbg.ir = 0x12 then .next (unlockRule none now pub sigOk s).2 else .next s

/-! ### Debug commands (R587 to R591) -/

/-- A command that Update-DR issues: its instruction is loaded, and the port open (or the module frozen). While the module is
frozen the clocks that would carry out a DBG_ACCESS command stand (DEDUCED, log 76). -/
def dbgIssued (s : State) (w : DbgWord) : Bool :=
  pinsUp s && portOpen s && (if w.freeze then s.dbg.ir == 0x13 && s.pwr.frozen else s.dbg.ir == 0x10 && !s.pwr.frozen && !s.pwr.inReset)

/-- Finish a command with its result and status. -/
def dbgDone (s : State) (st v : Nat) : State :=
  emit { s with dbg := { s.dbg with data := v % 2 ^ 32, status := st } } (.dbgData (v % 2 ^ 32) st)

/-- The checks of every command (R587): reserved fields and SPACE, then TARGET; an address off its alignment disagrees
(DEDUCED, log 76). -/
def dbgCheck (w : DbgWord) : Option Nat :=
  if w.rsv ≠ 0 ∨ 4 < w.space then some stUnsupported
  else if unitExists w.target = false ∨ w.addr % 4 ≠ 0 then some stParam
  else none

/-- Run a command: refused by its checks with data 0, or carried out. FREEZE_READ accepts READ32 and STATUS only. -/
def dbgRun (s : State) (w : DbgWord) (reads : Bool) (check : Option Nat) (eff : State → State) : Res :=
  if !dbgIssued s w then .next s
  else if w.freeze ∧ reads = false then .next (dbgDone s stUnsupported 0)
  else match dbgCheck w with
    | some st => .next (dbgDone s st 0)
    | none => match check with
      | some st => .next (dbgDone s st 0)
      | none => .next (eff s)

/-- DBG_NOP. -/
def execDbgNop (w : DbgWord) (s : State) : Res := dbgRun s w false none (fun s => dbgDone s stOk 0)

/-! ### Memory spaces (R591, R595) -/

/-- The adder array's half and the byte offset in it that a Thatch address names: an adder array's own identifier names its half,
any other unit of the die both halves in order (R216; DEDUCED, log 76). -/
def dbgHalf (w : DbgWord) : Nat × Nat :=
  let i := w.target % 32
  if i = 10 then (0, w.addr) else if i = 11 then (1, w.addr) else (w.addr / 25165824, w.addr % 25165824)

/-- Two 32-bit halves of a Thatch word. -/
def thatchRead (s : State) (die a o : Nat) : Nat :=
  half (tRaw (tileOf s die a (o / 524288)) (o % 524288 / 8192) (o % 8192 / 8)) o

/-- A Thatch word from its 64 bits, by the tile's type (R221). -/
def rawTile (t : Tile) (x j v : Nat) : Tile :=
  if t.ty = 0 then t
  else if t.ty = 1 then { t with words := tset t.words 0 (1024 * x + j) (v % 2 ^ 40) }
  else if t.ty = 2 then
    { t with words := tset t.words 0 (1024 * x + j) (v % 2 ^ 32), errs := tset t.errs 0 (1024 * x + j) (v / 2 ^ 32) }
  else { t with words := tset t.words 0 (1024 * x + j) (v % 2 ^ (if t.ty = 3 then t.laneW else 32)) }

/-- Write one half of a Thatch word. -/
def thatchWrite (s : State) (die a o v : Nat) : State :=
  let t := o / 524288
  let x := o % 524288 / 8192
  let j := o % 8192 / 8
  let raw := tRaw (tileOf s die a t) x j
  setTile s die a t (rawTile (tileOf s die a t) x j (if o % 8 = 4 then putBits raw 63 32 v else putBits raw 31 0 v))

/-- Bytes of a die's Loft (R29, R129: 1,536 units of 64 KiB). -/
def loftBytes : Nat := 1536 * 65536

/-- The place exists, and the lifecycle permits the space: tenant contents not in DEBUG_OPEN; DRAM within the function's
grant, which a freeze loses. A freeze readout of secrets is refused (R595). -/
def dbgAccess (s : State) (w : DbgWord) : Option Nat :=
  let die := w.target / 32
  if w.space = 0 then (if w.addr < 2 ^ 28 then none else some stAccess)
  else if w.space = 1 then (if w.freeze ∧ 264 ≤ w.target then some stAccess else none)
  else if w.space = 2 then
    if w.freeze then some stUnsupported
    else if effLc s = 3 ∨ 6 ≤ die ∨ w.addr / 2 ^ 28 < rdE s eDramFirst w.fn ∨
        rdE s eDramFirst w.fn + rdE s eDramCount w.fn ≤ w.addr / 2 ^ 28 then some stAccess
    else none
  else if effLc s = 3 ∨ 6 ≤ die then some stAccess
  else if w.space = 3 then (if w.addr + 4 ≤ loftBytes then none else some stAccess)
  else if (dbgHalf w).1 < 2 ∧ (dbgHalf w).2 + 4 ≤ 25165824 then none
  else some stAccess

/-- Units whose memory no space returns: the key vault, the RNG and the other root-die units (R591). -/
def dbgSecret (w : DbgWord) : Bool := decide (264 ≤ w.target)

/-- The word that READ32 returns. A die whose logic supply is off, and DRAM, whose layout the spec does not give, show free
values (DEDUCED, log 76). -/
def dbgWordAt (s : State) (w : DbgWord) : Nat :=
  let die := w.target / 32
  if w.space ≠ 0 ∧ (w.space = 2 ∨ s.pwr.logicOff.contains die) then freshVal s
  else if w.space = 0 then
    (if s.pwr.logicOff.contains (windowDie w.addr) then freshVal s else bar2Word s w.addr)
  else if w.space = 1 then (if dbgSecret w then 0 else mrd s.dbg.coreMem (w.target * 2 ^ 48 + w.addr) 4)
  else if w.space = 3 then mrd (loftOf s die) w.addr 4
  else thatchRead s die (dbgHalf w).1 (dbgHalf w).2

/-- DBG_READ32. -/
def execDbgRead32 (w : DbgWord) (s : State) : Res :=
  dbgRun s w true (dbgAccess s w) (fun s => dbgDone (freshNext s) stOk (dbgWordAt s w))

/-- What WRITE32 stores. A write of DRAM lands where the spec does not say (DEDUCED, log 76). -/
def dbgStore (s : State) (w : DbgWord) : State :=
  let die := w.target / 32
  if w.space = 0 then bar2Write s w.addr 4 w.data
  else if w.space = 1 then
    if dbgSecret w then s
    else { s with dbg := { s.dbg with coreMem := mwr s.dbg.coreMem (w.target * 2 ^ 48 + w.addr) 4 w.data } }
  else if w.space = 2 then s
  else if w.space = 3 then setLoft s die (mwr (loftOf s die) w.addr 4 w.data)
  else thatchWrite s die (dbgHalf w).1 (dbgHalf w).2 w.data

/-- DBG_WRITE32. -/
def execDbgWrite32 (w : DbgWord) (s : State) : Res :=
  dbgRun s w false (dbgAccess s w) (fun s => dbgDone (dbgStore s w) stOk 0)

/-! ### Halting (R588, R589) -/

/-- A Ringmaster core, or a unit of a compute or port die. -/
def haltable (w : DbgWord) : Option Nat := if w.target < 264 then none else some stParam

/-- Replace the list of halted targets and a step count. -/
def setHalt (s : State) (l : List Nat) (u n : Nat) : State := { s with dbg := { s.dbg with halted := l, steps := tset s.dbg.steps 0 u n } }

/-- DBG_HALT: a target that is halted already stays as it is. -/
def execDbgHalt (w : DbgWord) (s : State) : Res :=
  dbgRun s w false (haltable w) (fun s =>
    dbgDone (if s.dbg.halted.contains w.target then s else setHalt s (s.dbg.halted ++ [w.target]) w.target 0) stOk 0)

/-- DBG_RESUME. -/
def execDbgResume (w : DbgWord) (s : State) : Res :=
  dbgRun s w false (haltable w) (fun s => dbgDone (setHalt s (s.dbg.halted.filter (· != w.target)) w.target 0) stOk 0)

/-- The descriptor that a unit's sequencer holds. -/
def heldDesc (s : State) (u : Nat) : Option Desc := s.descs.find? (fun d => onUnits [u] d)

/-- DBG_STEP: SLOT steps of a halted target; the steps that a sequencer has taken are counted while it holds a descriptor,
whose data shows when it completes (DEDUCED, log 77). -/
def execDbgStep (w : DbgWord) (s : State) : Res :=
  dbgRun s w false (if w.slot = 0 then some stParam else haltable w) (fun s =>
    dbgDone (if s.dbg.halted.contains w.target ∧ (heldDesc s w.target).isSome then
      setHalt s s.dbg.halted w.target (satAdd 65535 (tget s.dbg.steps 0 w.target) (w.slot % 256)) else s) stOk 0)

/-- What STATUS returns: of a core HALTED and its instruction address, a free value. -/
def dbgStatusWord (s : State) (u : Nat) : Nat :=
  let h := b2n (s.dbg.halted.contains u)
  if 256 ≤ u then h + 2 * (freshVal s % 2 ^ 31)
  else match heldDesc s u with
    | some d => h + 2 + 2 ^ 8 * dOp d + 2 ^ 16 * tget s.dbg.steps 0 u
    | none => h + 2 ^ 16 * tget s.dbg.steps 0 u

/-- DBG_STATUS. -/
def execDbgStatus (w : DbgWord) (s : State) : Res :=
  dbgRun s w true (haltable w) (fun s => dbgDone (freshNext s) stOk (dbgStatusWord s w.target))

/-! ### Breakpoints (R590) -/

/-- The slot exists: 12 on a Ringmaster core, 4 on a sequencer. -/
def bpSlotOk (w : DbgWord) : Option Nat :=
  if w.target < 256 then (if w.slot < 4 then none else some stParam)
  else if w.target < 264 then (if w.slot < 12 then none else some stParam)
  else some stParam

/-- What an armed slot holds: the match of a sequencer slot, the address of a core's slot. -/
def bpValue (w : DbgWord) : Nat := if w.target < 256 then 2 ^ 48 + w.data % 2 ^ 32 else 2 ^ 48 + w.addr

/-- Arm or clear a slot. -/
def setBp (s : State) (w : DbgWord) (v : Nat) : State :=
  { s with dbg := { s.dbg with bps := tset s.dbg.bps 0 (w.target * 16 + w.slot) v } }

/-- DBG_SET_BP. -/
def execDbgSetBp (w : DbgWord) (s : State) : Res :=
  dbgRun s w false (bpSlotOk w) (fun s => dbgDone (setBp s w (bpValue w)) stOk 0)

/-- DBG_CLEAR_BP. -/
def execDbgClearBp (w : DbgWord) (s : State) : Res :=
  dbgRun s w false (bpSlotOk w) (fun s => dbgDone (setBp s w 0) stOk 0)

end Sys2Proof.Machine
end

