-- ==== Sys2Proof/Machine/Dictionary.lean ====
section
/-!
DEFINITION. The Oronos object dictionary as requests reach it (chapter 18): the commands of contexts, rounds, cohorts and
objects, writes of every other entry, reads, segments, and the mailbox doorbell.
-/

namespace Sys2Proof.Machine

open Sys2Proof

/-! ### Commands of contexts, rounds and cohorts (R35, R44) -/

/-- The rule of CTX_COMMAND CREATE by function f (R34, R38). -/
def createRule (f n : Nat) (s : State) : Nat × State :=
  match createCheck s f n with
  | some st => (st, s)
  | none => (stOk, createCtx s f n)

/-- CREATE. -/
def execCreate (src : Src) (n : Nat) (s : State) : Res := odCmd s src eCtxCommand n 1 (createRule (srcFn src) n)

/-- POLICY_LOCK. -/
def execPolicyLock (src : Src) (n : Nat) (s : State) : Res := odCmd s src ePolicyLock n 1 (policyLockRule n)

/-- ROUND_OPEN. -/
def execRoundOpen (src : Src) (n : Nat) (s : State) : Res := odCmd s src eRoundCommand n 1 (openRule n)

/-- ROUND_CLOSE. -/
def execRoundClose (src : Src) (n : Nat) (s : State) : Res := odCmd s src eRoundCommand n 2 (closeRule n)

/-- ROUND_ABANDON. -/
def execRoundAbandon (src : Src) (n : Nat) (s : State) : Res := odCmd s src eRoundCommand n 3 (abandonRule n)

/-- ROUND_RELEASE. -/
def execRoundRelease (src : Src) (n : Nat) (s : State) : Res := odCmd s src eRoundCommand n 4 (releaseRule n)

/-- COHORT_OPEN. -/
def execCohortOpen (src : Src) (n : Nat) (s : State) : Res := odCmd s src eCohortCommand n 1 (cohortOpenRule n)

/-- COHORT_SHUT. -/
def execCohortShut (src : Src) (n : Nat) (s : State) : Res := odCmd s src eCohortCommand n 2 (cohortShutRule n)

/-- BASIS_LOAD. -/
def execBasisLoad (src : Src) (n value : Nat) (s : State) : Res := odCmd s src eBasisLoad n value (basisLoadRule n value)

/-- SYN_BLOCK_WRITE (R280). -/
def execSynBlockWrite (src : Src) (k value : Nat) (s : State) : Res :=
  odCmd s src (if k < 128 then eSynBlockLo else eSynBlockHi) 0 value (synBlockRule k value)

/-! ### Commands of the object record (R382) -/

/-- A write of OBJ_COMMAND by the function the source acts for. -/
def objCmd (s : State) (src : Src) (code : Nat) : Res := odCmd s src eObjCommand (srcFn src) code (objRule (srcFn src) code)

/-- OBJ_CREATE. -/
def execObjCreate (src : Src) (s : State) : Res := objCmd s src 1
/-- OBJ_MODIFY. -/
def execObjModify (src : Src) (s : State) : Res := objCmd s src 2
/-- OBJ_DESTROY. -/
def execObjDestroy (src : Src) (s : State) : Res := objCmd s src 3
/-- ADVANCE. -/
def execAdvance (src : Src) (s : State) : Res := objCmd s src 4
/-- QUERY. -/
def execQuery (src : Src) (s : State) : Res := objCmd s src 5
/-- RETIRE. -/
def execRetire (src : Src) (s : State) : Res := objCmd s src 6
/-- ADVANCE_CTX_KEY. -/
def execAdvanceCtxKey (src : Src) (s : State) : Res := objCmd s src 7

/-! ### Writes (R36, R539, R547) -/

/-- The record number under which a source's access to an entry falls: entries with a copy per function take the source's
function; SNAP_VIEW has one more copy per management session (R544). -/
def recordNo (src : Src) (e : Ent) (index : Nat) : Nat :=
  if e = eSnapView then (match src with | .mgmt k => 64 + k | _ => srcFn src)
  else if e.perFn then srcFn src
  else index - e.base

/-- A change of PLCA_ID, PLCA_NODES or OD_UDP_PORT ends every session on the management port (R552), which are those whose
peer sent its HELLO there, and every request without one. -/
def endPortSessions (s : State) : State :=
  let s1 := (tkeys (s.keys.filter (fun k => k.2.st == 1 && k.2.form == 3))).foldl endSession s
  { s1 with
    staging := s1.staging.filter (fun x => x.src != .port)
    copies := s1.copies.filter (fun x => x.src != .port) }

/-- The rule of POLICY_AUTHORITY (R461). -/
def authorityRule (f v : Nat) (s : State) : Nat × State :=
  if (fnCtxs s f).any (fun n => rdE s ePolicyLock n == 1) then (stPolicy, s) else (stOk, wrE s ePolicyAuthority f v)

/-- A write that only stores its value. -/
def storeRule (e : Ent) (n j v : Nat) (s : State) : Nat × State := (stOk, wrEj s e n j v)

/-- The rules of command entries, whose value is a code. -/
def codeRule (src : Src) (e : Ent) (n v : Nat) : Option (State → Nat × State) :=
  if e = eCtxCommand then some (if v = 1 then createRule (srcFn src) n else destroyRule n [])
  else if e = eRoundCommand then
    some (if v = 1 then openRule n else if v = 2 then closeRule n else if v = 3 then abandonRule n else releaseRule n)
  else if e = eCohortCommand then some (if v = 1 then cohortOpenRule n else cohortShutRule n)
  else if e = eObjCommand then some (objRule n v)
  else if e = eFnCommand then some (if v = 1 then flashRule n [] else releaseFnRule n)
  else if e = eModuleRequest then some (moduleRequestRule v)
  else if e = eDieRequest then some (dieRequestRule v)
  else if e = eResetRequest then some (resetRule (bits v 13 12) (v % 512))
  else if e = ePeerWake then some (peerWakeRule v)
  else if e = eSnapTake then some (snapTakeRule v)
  else if e = eRngRestart then some (fun s => if v = 1 then rngRestartRule s else (stOk, s))
  else none

/-- The rules of configuration entries that do more than store. -/
def configRule (e : Ent) (n j v : Nat) : Option (State → Nat × State) :=
  if e = ePolicyLock then some (fun s => if v = 1 then policyLockRule n s else (stOk, s))
  else if e = eBasisLoad then some (basisLoadRule n v)
  else if e = eSynBlockLo then some (synBlockRule j v)
  else if e = eSynBlockHi then some (synBlockRule (128 + j) v)
  else if e = eEthMode ∨ e = eEthInterface ∨ e = eVlanId then some (ethRule e n v)
  else if e = eFabricLock then some (fabricLockRule v)
  else if e = eSvnCommit then some (svnCommitRule v)
  else if e = eMrExtend then some (mrExtendRule (v % 256) (v / 256))
  else if e.base = 0x8100 then some (grantRule e n v)
  else if e = ePolicyAuthority then some (authorityRule n v)
  else if e = eMgmtLock then some (fun s => (stOk, if v = 1 then wrE s eMgmtLock 0 1 else s))
  else if e = eEndorsement then some (fun s => (stOk, { s with mram := { s.mram with endorsement := v } }))
  else if e = ePlcaId ∨ e = ePlcaNodes ∨ e = eOdUdpPort then some (fun s => (stOk, if rdE s e 0 = v then s else endPortSessions (wrE s e 0 v)))
  else if e = eImageData then some (fun s => (stOk, if s.boot.claim = 1 then s else
    { s with boot := { s.boot with claim := 2, win := mwr [] 0 3162368 v } }))
  else none

/-- The rule of a write of value v to record n, subindex subLo + j of an entry. -/
def writeRule (src : Src) (e : Ent) (n j v : Nat) : State → Nat × State :=
  match codeRule src e n v with
  | some r => r
  | none => (configRule e n j v).getD (storeRule e n j v)

/-- A write of TILE_FIRST or TILE_COUNT, whose answer waits until no removed tile is latched (R219). -/
def rangeRule (src : Src) (e : Ent) (n v : Nat) (s : State) : Nat × State :=
  let s1 := if e = eTileFirst then rangeWrite s n v (rdE s eTileCount n) else rangeWrite s n (rdE s eTileFirst n) v
  (stOk, if rangeWaits s1 n then setCx s1 n { cx s1 n with rangeSrc := (cx s1 n).rangeSrc ++ [src] } else answer s1 src stOk)

/-- TILE_RANGE_REMOVAL (R219): the removed tiles that were still in use are zeroed, and writes that waited for them
complete. -/
def execTileRangeRemoval (n : Nat) (s : State) : Res :=
  let s1 := dropRemoved s n
  if s.pwr.frozen then .next s
  else if rangeWaits s1 n then .next s1
  else .next ((cx s1 n).rangeSrc.foldl (fun s src => answer s src stOk) (setCx s1 n { cx s1 n with rangeSrc := [] }))

/-- Entries whose write is a command with operands that a plain value does not carry (a time, what a signature check finds, an
image): such a write is that command (DEDUCED, log 78). -/
def ownCommand (e : Ent) : Bool :=
  e == eLcCommand || e == eDebugResponse || e == ePolicyBundle || e == eImageCommit || e == eQuoteRequest || e == eDebugChallenge

/-- A write by a source of len bytes to INDEX and SUB. Subindex 0 is not writable (R546). -/
def odWrite (s : State) (src : Src) (index sub len value : Nat) : Res :=
  match odFind index sub with
  | none => if srcLive s src then .next (answer s src (if sub = 0 ∧ (odHighest index).isSome then stAccess else stUnsupported)) else .next s
  | some e =>
    if ownCommand e then .next s
    else if e = eTileFirst ∨ e = eTileCount then
      odDefer s src e (recordNo src e index) len value (rangeRule src e (recordNo src e index) value)
    else odRun s src e (recordNo src e index) len value (writeRule src e (recordNo src e index) (sub - e.subLo) value)

/-- OD_WRITE_ENTRY: an entry of the dictionary, a register of a BAR, or a configuration register. -/
def execOdWriteEntry (t : Target) (s : State) : Res :=
  match t with
  | .od src index sub len value => odWrite s src index sub len value
  | .bar0 f off size value => .next (bar0Write s f off size value)
  | .bar2 off size value => .next (if bar2Up s then bar2Write s off size value else s)
  | .memSpace f on => .next (if fnExists s f && !s.pwr.frozen && !s.pwr.inReset then setMemSpace s f on else s)
  | .dstate f d => .next (if fnExists s f && f != 0 && !s.pwr.frozen && !s.pwr.inReset then setVfD s f d else s)
  | .ide stream fn => .next (if rtUp s then bindStream s stream fn else s)

/-! ### Reads (R545 to R549) -/

/-- The 64 bytes of a fault record (R508). -/
def faultBytes (r : FaultRec) : Nat :=
  let m (i : Nat) : Nat := r.mods.getD i 0xFFFF % 65536
  ofBytes (bytesOf r.seq 4 ++ [r.ty, r.status, r.level, r.flags] ++ bytesOf r.source 2 ++ [r.ctx, r.fn] ++ bytesOf r.queue 2 ++
    [r.opcode, 0] ++ bytesOf r.sequence 4 ++ bytesOf r.descAddr 8 ++ [r.descSpace, 0, 0, 0] ++ bytesOf r.uptime 8 ++
    bytesOf r.bootCount 4 ++ bytesOf (m 0) 2 ++ bytesOf (m 1) 2 ++ bytesOf (m 2) 2 ++ [0, 0] ++ bytesOf r.detail 4)

/-- The record with a SEQ, or zeros when it is not held (R524). -/
def faultSelected (s : State) : Nat :=
  match s.faults.find? (fun r => r.seq == rdE s eFaultSelect 0) with
  | some r => faultBytes r
  | none => 0

/-- BASIS_AGREE (R129): bit k set while entry k passes every check of R130. -/
def basisAgree (s : State) (n : Nat) : Nat :=
  ((List.range 80).map (fun k => if basisOk (rdEj s eBasisK n k) then 2 ^ k else 0)).sum

/-- Security and boot entries that show what other state holds (R466, R552). -/
def trustValue (s : State) (e : Ent) : Option Nat :=
  if e = eLifecycle then some (effLc s)
  else if e = eModuleSerial ∨ e = eIdSerial then some (s.fuses.serial % 2 ^ 64)
  else if e = eDieIds then some s.fuses.dieIds
  else if e = eIdentityPub then some s.boot.idPub
  else if e = eEndorsement then some s.mram.endorsement
  else if e = eFwSvn then some s.boot.svn
  else if e = eFwBuild then some s.boot.build
  else if e = eSvnCommit then some s.fuses.svnFloor
  else if e = eBootCount then some s.mram.bootCount
  else if e = eIdentityLeft then some (identityLeft s)
  else if e = eAliasState then some (s.boot.aliasIdx % 2 ^ 32 + 2 ^ 32 * (s.boot.aliasLeaf % 1024))
  else if e = eSlotCounts then some (slotCounts s)
  else none

/-- Power, panel, fault and RNG entries that show what other state holds (R485, R524, R573, R581). Temperatures before the first
sample and the input power are free values (DESIGN CHOICE, log 11). -/
def stateValue (s : State) (e : Ent) (j : Nat) : Option Nat :=
  if e = eGuardLevel then some (guardLevel s)
  else if e = eRngStateCopy then some (rngStatus s)
  else if e = eRngFailuresCopy then some (rdB s rFailures 0)
  else if e = eFaultRecord then some (faultSelected s)
  else if e = ePersistCount then some s.mram.persist.length
  else if e = ePersistK then some ((s.mram.persist[j]?.map faultBytes).getD 0)
  else if e = eModuleResets then some s.mram.moduleResets
  else if e = eModuleState then some (moduleState s)
  else if e = eDiePower then some (diePowers s)
  else if e = eDieTemp then some (if s.pwr.temps.isEmpty then freshVal s % 2 ^ 72 else ofBytes s.pwr.temps)
  else if e = eModulePower then some (freshVal s % 2 ^ 32)
  else if e = ePresenceAge then some (presenceAge s)
  else if e = eCablePresent then some (cablePresent s)
  else if e = ePanelInputs then some (panelInputs s)
  else none

/-- What a counter entry shows a source whose SNAP_VIEW is 1 (R544). -/
def heldView (s : State) (src : Src) (e : Ent) : Bool :=
  counterEnts.contains e && rdE s eSnapView (recordNo src eSnapView 0) == 1

/-- The value of record n, subindex subLo + j as a source reads it; a write-only entry reads as zeros (R547), and
CTX_KEY_GEN shows the generation of the context that CONTEXT names (R382). (DEDUCED, log 122.) -/
def odValue (s : State) (src : Src) (e : Ent) (n j : Nat) : Nat :=
  if e.acc = .wo then 0
  else if heldView s src e then tget s.pcie.snapOd (entDflt e j) (entKey e n j)
  else if e = eBasisAgree then basisAgree s n
  else if e = eObjCtxKeyGen then tget s.ctxKeyGen 0 (rdE s eObjContext n)
  else if e = eRomPrimeI then romPrime j
  else if e = eRomRootI then romRoot j
  else (trustValue s e <|> stateValue s e j).getD (rdEj s e n j)

/-- Order 2 of R600 for a read: the reach of the transport (R549), the copies of R466, and R34 for a context's entries. -/
def srcMayRead (s : State) (src : Src) (e : Ent) (n : Nat) : Bool :=
  match src with
  | .port => inIdentity e || (running s && effLc s == 0 && (e == eLcCommand || e == eLcStatus))
  | .peer _ => inIdentity e || e == eIdentityPub || e == eAliasCert
  | .mailbox f =>
    (e.base != 0x6100 || f == 0 || n == f) &&
      ((ctxOfIndex (e.base + n)).isNone || rdE s eCtxState n == cxFree || (cx s n).owner == f)
  | .mgmt _ => true

/-- MAX_DATA (R549). -/
def maxData (s : State) (src : Src) : Nat :=
  match src with
  | .port => 1024
  | .mgmt k => if (keyOf s k).form = 3 then 1024 else 4080
  | _ => 4080

/-- The value and length that a read finds, or its status. -/
def odLookup (s : State) (src : Src) (index sub : Nat) : Nat × Nat × Nat :=
  match odFind index sub with
  | some e =>
    let n := recordNo src e index
    if srcMayRead s src e n then (stOk, odValue s src e n (sub - e.subLo), tyLen e.ty) else (stAccess, 0, 0)
  | none =>
    match (if sub = 0 then odHighest index else none), odFind index 1 with
    | some h, some e => if srcMayRead s src e (recordNo src e index) then (stOk, h, 1) else (stAccess, 0, 0)
    | some h, none => (stOk, h, 1)
    | none, _ => (stUnsupported, 0, 0)

/-- Answer a read of part of a value. -/
def answerPart (s : State) (src : Src) (value total off len : Nat) : State :=
  let k := min (min len (maxData s src)) (total - off)
  answerWith s src stOk (fld value off k) k true (decide (off + k < total))

/-- OD_READ (R545, R548): a READ at OFFSET 0 latches the value for the source and TRANSACTION, in place of the source's earlier
copy; a later offset reads that copy, and finds TIMEOUT where it has lapsed (DEDUCED, log 79). A read of DEBUG_CHALLENGE is its own
command. -/
def execOdRead (src : Src) (txn index sub off len : Nat) (s : State) : Res :=
  if !srcLive s src ∨ odFind index sub = some eDebugChallenge then .next s
  else if off = 0 then
    let r := odLookup s src index sub
    if r.1 ≠ stOk then .next (answerWith s src r.1 0 0 true false)
    else
      let new : ReadCopy := { src := src, txn := txn, value := r.2.1, len := r.2.2 }
      let others := s.copies.filter (fun c => c.src != src)
      let s1 := freshNext { s with copies := others ++ [new] }
      .next (answerPart s1 src r.2.1 r.2.2 0 len)
  else match s.copies.find? (fun c => c.src == src && c.txn == txn) with
    | some c => .next (answerPart s src c.value c.len off len)
    | none => .next (answerWith s src stTimeout 0 0 true false)

/-- OD_READ_COPY_LAPSE (R548). -/
def execOdReadCopyLapse (src : Src) (txn : Nat) (s : State) : Res :=
  if s.pwr.frozen then .next s
  else .next { s with copies := s.copies.filter (fun c => !(c.src == src && c.txn == txn)) }

/-! ### Segments (R548) -/

/-- The staging of a source and TRANSACTION. -/
def stagingOf (s : State) (src : Src) (txn : Nat) : Option Staging := s.staging.find? (fun x => x.src == src && x.txn == txn)

/-- Without it. -/
def dropStaging (s : State) (src : Src) (txn : Nat) : State :=
  { s with staging := s.staging.filter (fun x => !(x.src == src && x.txn == txn)) }

/-- A staged value with one segment more. -/
def stageAdd (x : Staging) (off len value : Nat) : Staging :=
  if len = 0 then x
  else { x with value := putBits x.value (8 * (off + len) - 1) (8 * off) value, len := max x.len (off + len) }

/-- The first segment of an image on the management port claims it (R530). -/
def claimImage (s : State) (src : Src) (index : Nat) : State :=
  if src = .port ∧ index = 0x1F00 ∧ s.boot.st = 1 ∧ s.boot.claim = 0 then { s with boot := { s.boot with claim := 2 } } else s

/-- OD_WRITE_SEGMENT: staged, or with LAST applied in one step under the checks of that moment; the LAST of a staging that has
lapsed is answered with TIMEOUT. -/
def execOdWriteSegment (src : Src) (txn index sub off len value : Nat) (last : Bool) (s : State) : Res :=
  if !srcLive s src then .next s
  else
    let new : Staging := { src := src, txn := txn, index := index, sub := sub, value := 0, len := 0, lapsed := false }
    let old := (stagingOf s src txn).getD new
    if old.lapsed ∧ off ≠ 0 then
      .next (if last then answer (dropStaging s src txn) src stTimeout else answer s src stOk)
    else if maxData s src < len then .next (answer s src stParam)
    else
      let x := stageAdd (if old.lapsed ∨ old.index ≠ index ∨ old.sub ≠ sub then new else old) off len (value % 2 ^ (8 * len))
      let s1 := claimImage (dropStaging s src txn) src index
      if last then odWrite s1 src index sub x.len x.value
      else .next (answer { s1 with staging := s1.staging ++ [x] } src stOk)

/-- OD_STAGING_TIMEOUT: what was staged is discarded. -/
def execOdStagingTimeout (src : Src) (txn : Nat) (s : State) : Res :=
  if s.pwr.frozen then .next s
  else
    let out := mapIf (fun x => x.src == src && x.txn == txn) (fun x => { x with value := 0, len := 0, lapsed := true }) s.staging
    .next { s with staging := out }

/-! ### The mailbox doorbell (R549) -/

/-- A doorbell that is discarded and counted: BUSY, a length outside 16 to 4,096, or one that cuts a WRITE short. -/
def mbBad (s : State) (f len : Nat) : Bool :=
  (mboxOf s f).busy || decide (len < 16 ∨ 4096 < len) ||
    (mrd (mboxBytes s f) 0 1 == 2 && decide (len < 16 + mrd (mboxBytes s f) 12 4))

/-- MB_DOORBELL: the request is before the server; what it asks for is its own command. -/
def execMbDoorbell (f len : Nat) (s : State) : Res :=
  if !(mboxUp s f && fnExists s f) then .next s
  else
    let m := mboxOf s f
    if mbBad s f len then .next (setMbox s f { m with overruns := satAdd 0xFFFFFFFF m.overruns 1 })
    else .next (setMbox s f { m with busy := true, respValid := false })

end Sys2Proof.Machine
end

