-- ==== Sys2Proof/Machine/Start.lean ====
section
/-!
DEFINITION. The start of a descriptor: what its engine checks and copies when the Carousel hands it over (R131,
R145, R118, R218, R245, R248, R274, R290, R601).
-/

namespace Sys2Proof.Machine

open Sys2Proof

/-- What the engines of an opcode check when the descriptor starts, in each family's own order (R120, R143, R176,
R200, R243, R283, R386). -/
def opCheck (s : State) (d : Desc) : Option Nat :=
  let op := dOp d
  if op ≤ 0x02 then moveCheck s d
  else if 0x10 ≤ op ∧ op ≤ 0x17 ∨ op = 0x60 ∨ op = 0x61 then accCheck s d
  else if op = 0x20 then prgCheck s d
  else if op = 0x21 then reconCheck s d
  else if op = 0x22 then unmaskCheck s d
  else if 0x30 ≤ op ∧ op ≤ 0x35 then modCheck s d
  else if 0x40 ≤ op ∧ op ≤ 0x46 then sealedCheck s d
  else if 0x50 ≤ op ∧ op ≤ 0x53 then sharedCheck s d
  else if isTransport op ∧ stReservedOk d = false then some stUnsupported
  else none

/-- The entries a descriptor latches when it starts: the basis, the Loft window, the tile range (R131, R218), and
as they are in force SAFETY_NET, the round's count of merged contributions and the committee's threshold
(R248, R245, R118). -/
def latchOf (s : State) (n : Nat) : Tbl Nat :=
  let od := s.od.filter (fun kv => [0x5700, 0x5A00, 0x5100].contains (kv.1 / 256 - n))
  let put (e : Ent) (v : Nat) (t : Tbl Nat) := tset t (entDflt e 0) (entKey e n 0) v
  put eSafetyNet (cfgE s eSafetyNet n) (put eMerged (rdE s eMerged n)
    (put eCommitteeThreshold (rdE s eCommitteeThreshold n) od))

/-- What a descriptor copies when it first starts: the latched entries, a conversion table (R145), the shares
that a SEED_RECON works on (R118). -/
def copyAtStart (s : State) (d : Desc) : Desc :=
  let d1 := { d with latch := latchOf s (dCtx d) }
  { d1 with
    table := tableBytes s d1
    taken := if dOp d = 0x21 then
        match bufOf s (dCtx d) (df d 36 4) with | some b => reconSet s d1 b.2 | none => []
      else [] }

/-- A refusal that R92 has recorded in LAST_REFUSAL too: the lane pairs at UNMASK, and the tables and SCALE_BASE at
a dequantising DRAIN. -/
def noteFormat (s : State) (d : Desc) (st : Nat) : State :=
  let n := dCtx d
  let deq := dOp d == 0x15 && (aOp d == 1 || aOp d == 2) && (cfgE s eScaleBase n == 0 || !tablesOk s n)
  if st = stParam ∧ ((dOp d = 0x22 ∧ laneOk s n = false) ∨ deq = true) then noteRefusal s n st else s

/-- The first UNMASK of a cohort compares its survivors with MIN_SURVIVORS once more (R120): a shortfall fails the
cohort and answers POLICY_REFUSED. -/
def firstUnmask (s : State) (d : Desc) : State × Option Nat :=
  let n := dCtx d
  let k := df d 36 4
  let c := cohortOf s n k
  if dOp d != 0x22 || c.minChecked then (s, none)
  else if survivors s n k < rdE s eMinSurvivors n then (failCohort s n k stPolicy, some stPolicy)
  else (setCohort s n k { c with minChecked := true }, none)

/-- The checks of a first start, and the state that they leave. -/
def startChecks (s : State) (d : Desc) : State × Option Nat :=
  match commonCheck s d with
  | some st => (s, some st)
  | none =>
    match opCheck s d with
    | some st => (noteFormat s d st, some st)
    | none => firstUnmask s d

/-- The Carousel's record of the head it takes on a die: a promoted queue leaves the list, another is the last
served of its class (R290, R291). -/
def takeHead (s : State) (die : Nat) (d : Desc) : State :=
  let k := queueKey die d.fn d.queue
  { s with
    promoted := s.promoted.filter (· != k)
    served := if s.promoted.contains k then s.served
      else tset s.served 0 (die * 4 + classOf s d) (d.fn * 128 + d.queue + 1) }

/-- The descriptor as it stands once it has started on a die with its engines there. Which of a descriptor's engines
finishes last the spec does not time: SOURCE is a free one of them (R275, DESIGN CHOICE, log 84). -/
def startedOn (s : State) (die u : Nat) (d : Desc) : Desc :=
  let engs := d.engs ++ ((engTake s die u d).getD []).map (die * 32 + ·)
  let lanes := d.lanes.filter (· != die)
  { d with
    lanes := lanes
    started := d.started ++ [die]
    promoted := d.promoted || s.promoted.contains (queueKey die d.fn d.queue)
    unit := engs.getD (freshVal s % engs.length) noUnit
    engs := engs
    phase := if lanes.isEmpty then .running else .lanes }

/-- Start a picked head on a die (R274, R290, R131): at its first start the checks, whose refusal has outcome N, and
the copies; a breakpoint halts the unit before the first step. (DEDUCED, log 119.) -/
def startOn (s : State) (die u : Nat) (d : Desc) : State :=
  let first := d.started.isEmpty
  let d1 := startedOn s die u (if first then copyAtStart s d else d)
  let s1 := freshNext (takeHead s die d)
  let r := if first then startChecks s1 d1 else (s1, none)
  match r.2 with
  | some st => refuseDesc r.1 { d with promoted := d1.promoted } st
  | none =>
    let s2 := setDesc r.1 d1
    if bpHit s (die * 32 + u) d then
      { s2 with dbg := { s2.dbg with halted := s2.dbg.halted ++ [die * 32 + u] } }
    else s2

/-- CAROUSEL_DISPATCH (R290): when the unit of the die frees, the Carousel starts the head it picks.
A sleeping die is woken first (R558); a stopped unit takes nothing. -/
def execCarouselDispatch (die unit : Nat) (s : State) : Res :=
  if 8 ≤ die ∨ s.pwr.frozen ∨ unitStopped s die unit then .next s
  else
    match pickHead s die unit with
    | none => .next s
    | some d =>
      if 2 ≤ dieState s die then .next (wakeOnDemand s die)
      else .next (startOn s die unit d)

end Sys2Proof.Machine
end

