-- ==== Sys2Proof/Machine/Dispatch.lean ====
section
/-!
DEFINITION. One arm per command of the opcode table: a direct call of its meaning.
-/

namespace Sys2Proof.Machine

open Sys2Proof

/-- The effect of one command on everything but the queue. -/
def exec (i : Instr) (s : State) : Host.Outcome State Fault Refusal :=
  match i with
  | .odWriteEntry t => Sys2Proof.Machine.execOdWriteEntry t s
  | .odRead src txn index sub off len => Sys2Proof.Machine.execOdRead src txn index sub off len s
  | .odWriteSegment src txn index sub off len value last => Sys2Proof.Machine.execOdWriteSegment src txn index sub off len value last s
  | .odStagingTimeout src txn => Sys2Proof.Machine.execOdStagingTimeout src txn s
  | .mbDoorbell f len => Sys2Proof.Machine.execMbDoorbell f len s
  | .create src n => Sys2Proof.Machine.execCreate src n s
  | .destroy src n stuck => Sys2Proof.Machine.execDestroy src n stuck s
  | .teardownEngineTimeout n => Sys2Proof.Machine.execTeardownEngineTimeout n s
  | .contextQuarantineExpiry n => Sys2Proof.Machine.execContextQuarantineExpiry n s
  | .policyLock src n => Sys2Proof.Machine.execPolicyLock src n s
  | .roundOpen src n => Sys2Proof.Machine.execRoundOpen src n s
  | .roundClose src n => Sys2Proof.Machine.execRoundClose src n s
  | .roundAbandon src n => Sys2Proof.Machine.execRoundAbandon src n s
  | .roundRelease src n => Sys2Proof.Machine.execRoundRelease src n s
  | .closeGraceExpiry n => Sys2Proof.Machine.execCloseGraceExpiry n s
  | .roundEnterCombining n => Sys2Proof.Machine.execRoundEnterCombining n s
  | .roundEnterReady n => Sys2Proof.Machine.execRoundEnterReady n s
  | .clearSubtotalEncrypt n die => Sys2Proof.Machine.execClearSubtotalEncrypt n die s
  | .areaScrubComplete n => Sys2Proof.Machine.execAreaScrubComplete n s
  | .provTileZero n => Sys2Proof.Machine.execProvTileZero n s
  | .cohortOpen src n => Sys2Proof.Machine.execCohortOpen src n s
  | .cohortShut src n => Sys2Proof.Machine.execCohortShut src n s
  | .cohortMerge n k e => Sys2Proof.Machine.execCohortMerge n k e s
  | .shareBufferBind n => Sys2Proof.Machine.execShareBufferBind n s
  | .seedSumShareMessage key m => Sys2Proof.Machine.execSeedSumShareMessage key m s
  | .prgExpandDerive d e => Sys2Proof.Machine.execPrgExpandDerive d e s
  | .prgExpandMask d e => Sys2Proof.Machine.execPrgExpandMask d e s
  | .seedRecon d e => Sys2Proof.Machine.execSeedRecon d e s
  | .unmask d e => Sys2Proof.Machine.execUnmask d e s
  | .basisLoad src n value => Sys2Proof.Machine.execBasisLoad src n value s
  | .ntt d e => Sys2Proof.Machine.execNtt d e s
  | .intt d e => Sys2Proof.Machine.execIntt d e s
  | .vmulProduct d e => Sys2Proof.Machine.execVmulProduct d e s
  | .vmulScalar d e => Sys2Proof.Machine.execVmulScalar d e s
  | .vmulAdd d e => Sys2Proof.Machine.execVmulAdd d e s
  | .vmulSubtract d e => Sys2Proof.Machine.execVmulSubtract d e s
  | .vmulToMontgomery d e => Sys2Proof.Machine.execVmulToMontgomery d e s
  | .vmulToStandard d e => Sys2Proof.Machine.execVmulToStandard d e s
  | .vmacAddProduct d e => Sys2Proof.Machine.execVmacAddProduct d e s
  | .vmacAddScalar d e => Sys2Proof.Machine.execVmacAddScalar d e s
  | .vmacSubProduct d e => Sys2Proof.Machine.execVmacSubProduct d e s
  | .vmacSubScalar d e => Sys2Proof.Machine.execVmacSubScalar d e s
  | .baseconvFast d e => Sys2Proof.Machine.execBaseconvFast d e s
  | .baseconvExact d e => Sys2Proof.Machine.execBaseconvExact d e s
  | .baseconvPrepare d e => Sys2Proof.Machine.execBaseconvPrepare d e s
  | .automorphCoefficient d e => Sys2Proof.Machine.execAutomorphCoefficient d e s
  | .automorphNtt d e => Sys2Proof.Machine.execAutomorphNtt d e s
  | .ctAdd d e => Sys2Proof.Machine.execCtAdd d e s
  | .ctPmul d e => Sys2Proof.Machine.execCtPmul d e s
  | .keyswitch d e => Sys2Proof.Machine.execKeyswitch d e s
  | .rotate d e => Sys2Proof.Machine.execRotate d e s
  | .moddrop d e => Sys2Proof.Machine.execModdrop d e s
  | .encryptClearInt32 d e => Sys2Proof.Machine.execEncryptClearInt32 d e s
  | .encryptClearFp32Pair d e => Sys2Proof.Machine.execEncryptClearFp32Pair d e s
  | .decryptShare d e => Sys2Proof.Machine.execDecryptShare d e s
  | .keyShareMessage key m => Sys2Proof.Machine.execKeyShareMessage key m s
  | .shAdd d e => Sys2Proof.Machine.execShAdd d e s
  | .shAddPublic d e => Sys2Proof.Machine.execShAddPublic d e s
  | .shSubtract d e => Sys2Proof.Machine.execShSubtract d e s
  | .shScale d e => Sys2Proof.Machine.execShScale d e s
  | .shBeaver d e => Sys2Proof.Machine.execShBeaver d e s
  | .shOpen d e => Sys2Proof.Machine.execShOpen d e s
  | .exchangeTimeoutExpiry d => Sys2Proof.Machine.execExchangeTimeoutExpiry d s
  | .exchangeMessage key m => Sys2Proof.Machine.execExchangeMessage key m s
  | .tripleBatch key m => Sys2Proof.Machine.execTripleBatch key m s
  | .partnerQuoteCheck key q => Sys2Proof.Machine.execPartnerQuoteCheck key q s
  | .accIntAdd d e => Sys2Proof.Machine.execAccIntAdd d e s
  | .accIntSubtract d e => Sys2Proof.Machine.execAccIntSubtract d e s
  | .accFloat d e => Sys2Proof.Machine.execAccFloat d e s
  | .accMaskedAdd d e => Sys2Proof.Machine.execAccMaskedAdd d e s
  | .accMaskedSubtract d e => Sys2Proof.Machine.execAccMaskedSubtract d e s
  | .accSharedAdd d e => Sys2Proof.Machine.execAccSharedAdd d e s
  | .accSharedSubtract d e => Sys2Proof.Machine.execAccSharedSubtract d e s
  | .preloadZero d e => Sys2Proof.Machine.execPreloadZero d e s
  | .preloadLoad d e => Sys2Proof.Machine.execPreloadLoad d e s
  | .drainNative d e => Sys2Proof.Machine.execDrainNative d e s
  | .drainDequant d e => Sys2Proof.Machine.execDrainDequant d e s
  | .drainMean d e => Sys2Proof.Machine.execDrainMean d e s
  | .drainFused d e => Sys2Proof.Machine.execDrainFused d e s
  | .save d e => Sys2Proof.Machine.execSave d e s
  | .restore d e => Sys2Proof.Machine.execRestore d e s
  | .reduceMax d e => Sys2Proof.Machine.execReduceMax d e s
  | .reduceMin d e => Sys2Proof.Machine.execReduceMin d e s
  | .tileRangeRemoval n => Sys2Proof.Machine.execTileRangeRemoval n s
  | .cqDoorbell f q value => Sys2Proof.Machine.execCqDoorbell f q value s
  | .cqEnable f q value => Sys2Proof.Machine.execCqEnable f q value s
  | .cqDisable f q value => Sys2Proof.Machine.execCqDisable f q value s
  | .cqFlush f q value => Sys2Proof.Machine.execCqFlush f q value s
  | .descriptorFetch f q e => Sys2Proof.Machine.execDescriptorFetch f q e s
  | .descriptorForward f q => Sys2Proof.Machine.execDescriptorForward f q s
  | .carouselDispatch die unit => Sys2Proof.Machine.execCarouselDispatch die unit s
  | .urgentPromotion f q die => Sys2Proof.Machine.execUrgentPromotion f q die s
  | .synValueWrite f c value => Sys2Proof.Machine.execSynValueWrite f c value s
  | .synAdd f c value => Sys2Proof.Machine.execSynAdd f c value s
  | .synBlockWrite src k value => Sys2Proof.Machine.execSynBlockWrite src k value s
  | .copy d e => Sys2Proof.Machine.execCopy d e s
  | .fill d e => Sys2Proof.Machine.execFill d e s
  | .scrub d e => Sys2Proof.Machine.execScrub d e s
  | .wait d => Sys2Proof.Machine.execWait d s
  | .waitTimeout d => Sys2Proof.Machine.execWaitTimeout d s
  | .signalAdd d => Sys2Proof.Machine.execSignalAdd d s
  | .signalSet d => Sys2Proof.Machine.execSignalSet d s
  | .fenceQueue d => Sys2Proof.Machine.execFenceQueue d s
  | .fenceContext d => Sys2Proof.Machine.execFenceContext d s
  | .fenceFunction d => Sys2Proof.Machine.execFenceFunction d s
  | .nop d => Sys2Proof.Machine.execNop d s
  | .triggerArm d => Sys2Proof.Machine.execTriggerArm d s
  | .triggerCancel d => Sys2Proof.Machine.execTriggerCancel d s
  | .triggerFire f slot => Sys2Proof.Machine.execTriggerFire f slot s
  | .triggerStreamEntry f slot => Sys2Proof.Machine.execTriggerStreamEntry f slot s
  | .evqEnable f q value => Sys2Proof.Machine.execEvqEnable f q value s
  | .evqFlush f q value => Sys2Proof.Machine.execEvqFlush f q value s
  | .evqDepthWrite f q value => Sys2Proof.Machine.execEvqDepthWrite f q value s
  | .eventQueueRead f q size ptrFault => Sys2Proof.Machine.execEventQueueRead f q size ptrFault s
  | .cableInsertion p => Sys2Proof.Machine.execCableInsertion p s
  | .cableRemoval p lanesLost => Sys2Proof.Machine.execCableRemoval p lanesLost s
  | .cableDebounceDone p => Sys2Proof.Machine.execCableDebounceDone p s
  | .laneSignalDetected p lanes => Sys2Proof.Machine.execLaneSignalDetected p lanes s
  | .laneEqualisationDone p => Sys2Proof.Machine.execLaneEqualisationDone p s
  | .laneDeskewDone p => Sys2Proof.Machine.execLaneDeskewDone p s
  | .linkPeerHandshake p h => Sys2Proof.Machine.execLinkPeerHandshake p h s
  | .trainingTimeout p => Sys2Proof.Machine.execTrainingTimeout p s
  | .laneFault p lane => Sys2Proof.Machine.execLaneFault p lane s
  | .portEnable p on => Sys2Proof.Machine.execPortEnable p on s
  | .portRetrain p => Sys2Proof.Machine.execPortRetrain p s
  | .portForceHalf p on => Sys2Proof.Machine.execPortForceHalf p on s
  | .linkRekey p dir frame => Sys2Proof.Machine.execLinkRekey p dir frame s
  | .linkFrameReceive p tagOk notice within1ms => Sys2Proof.Machine.execLinkFrameReceive p tagOk notice within1ms s
  | .switchForward die inPort k => Sys2Proof.Machine.execSwitchForward die inPort k s
  | .packetResidenceExpiry die pos => Sys2Proof.Machine.execPacketResidenceExpiry die pos s
  | .inPackageLinkError link die => Sys2Proof.Machine.execInPackageLinkError link die s
  | .ethFrameReceive p lp g => Sys2Proof.Machine.execEthFrameReceive p lp g s
  | .ethModeWrite src p sub value => Sys2Proof.Machine.execEthModeWrite src p sub value s
  | .pathDeadExpiry die dst => Sys2Proof.Machine.execPathDeadExpiry die dst s
  | .childWaitExpiry n => Sys2Proof.Machine.execChildWaitExpiry n s
  | .jobAbortReceive sender job round cause origin rsvZero => Sys2Proof.Machine.execJobAbortReceive sender job round cause origin rsvZero s
  | .dataPacketReceive die k => Sys2Proof.Machine.execDataPacketReceive die k s
  | .ackTimerExpiry m => Sys2Proof.Machine.execAckTimerExpiry m s
  | .ackReceive die now k => Sys2Proof.Machine.execAckReceive die now k s
  | .statusReceive die k => Sys2Proof.Machine.execStatusReceive die k s
  | .retransmitTimerExpiry m pkt => Sys2Proof.Machine.execRetransmitTimerExpiry m pkt s
  | .packetTransmit m now => Sys2Proof.Machine.execPacketTransmit m now s
  | .rateIntervalUpdate die dst => Sys2Proof.Machine.execRateIntervalUpdate die dst s
  | .pathMaskRestore die dst path => Sys2Proof.Machine.execPathMaskRestore die dst path s
  | .odPacketReceive die k => Sys2Proof.Machine.execOdPacketReceive die k s
  | .hello die h => Sys2Proof.Machine.execHello die h s
  | .reply hs keyId keyGen dstEp sigOk secretOk => Sys2Proof.Machine.execReply hs keyId keyGen dstEp sigOk secretOk s
  | .finish hs confirmOk sigOk peerPub => Sys2Proof.Machine.execFinish hs confirmOk sigOk peerPub s
  | .accept hs status tagOk => Sys2Proof.Machine.execAccept hs status tagOk s
  | .close keyId tagOk => Sys2Proof.Machine.execClose keyId tagOk s
  | .credential hs part c => Sys2Proof.Machine.execCredential hs part c s
  | .handshakeTimeout hs => Sys2Proof.Machine.execHandshakeTimeout hs s
  | .objCreate src => Sys2Proof.Machine.execObjCreate src s
  | .objModify src => Sys2Proof.Machine.execObjModify src s
  | .objDestroy src => Sys2Proof.Machine.execObjDestroy src s
  | .advance src => Sys2Proof.Machine.execAdvance src s
  | .query src => Sys2Proof.Machine.execQuery src s
  | .retire src => Sys2Proof.Machine.execRetire src s
  | .advanceCtxKey src => Sys2Proof.Machine.execAdvanceCtxKey src s
  | .keyQuarantineExpiry k => Sys2Proof.Machine.execKeyQuarantineExpiry k s
  | .objectQuarantineExpiry kind k => Sys2Proof.Machine.execObjectQuarantineExpiry kind k s
  | .resume f ep => Sys2Proof.Machine.execResume f ep s
  | .error f ep => Sys2Proof.Machine.execError f ep s
  | .evict f ep => Sys2Proof.Machine.execEvict f ep s
  | .recycle f ep slot => Sys2Proof.Machine.execRecycle f ep slot s
  | .recordFree f ep count => Sys2Proof.Machine.execRecordFree f ep count s
  | .endpointQuarantineExpiry ep => Sys2Proof.Machine.execEndpointQuarantineExpiry ep s
  | .stWrite d => Sys2Proof.Machine.execStWrite d s
  | .stSend d => Sys2Proof.Machine.execStSend d s
  | .stRead d => Sys2Proof.Machine.execStRead d s
  | .messageDelivery m => Sys2Proof.Machine.execMessageDelivery m s
  | .endpointFetch ep ok => Sys2Proof.Machine.execEndpointFetch ep ok s
  | .endpointEviction die => Sys2Proof.Machine.execEndpointEviction die s
  | .parkingTimeout die pos => Sys2Proof.Machine.execParkingTimeout die pos s
  | .contributionCommit m e => Sys2Proof.Machine.execContributionCommit m e s
  | .msgIdleLimitExpiry m => Sys2Proof.Machine.execMsgIdleLimitExpiry m s
  | .importReceive key m => Sys2Proof.Machine.execImportReceive key m s
  | .importWaitExpiry n child seg => Sys2Proof.Machine.execImportWaitExpiry n child seg s
  | .recombine key m => Sys2Proof.Machine.execRecombine key m s
  | .rootDigest key m => Sys2Proof.Machine.execRootDigest key m s
  | .patrolRead die corrected uncorrected site => Sys2Proof.Machine.execPatrolRead die corrected uncorrected site s
  | .resetNDeassert b => Sys2Proof.Machine.execResetNDeassert b s
  | .bootCommit len img => Sys2Proof.Machine.execBootCommit len img s
  | .imageCommit len img => Sys2Proof.Machine.execImageCommit len img s
  | .aliasTreeGenerated idx => Sys2Proof.Machine.execAliasTreeGenerated idx s
  | .aliasRotation idx => Sys2Proof.Machine.execAliasRotation idx s
  | .identityTreeGeneration tree => Sys2Proof.Machine.execIdentityTreeGeneration tree s
  | .svnCommit src v => Sys2Proof.Machine.execSvnCommit src v s
  | .mrExtend src r data => Sys2Proof.Machine.execMrExtend src r data s
  | .fabricLock src => Sys2Proof.Machine.execFabricLock src s
  | .vaultInstall slot purpose owner port rights moduleOwned => Sys2Proof.Machine.execVaultInstall slot purpose owner port rights moduleOwned s
  | .vaultActivate slot => Sys2Proof.Machine.execVaultActivate slot s
  | .vaultSlotQuarantineExpiry slot => Sys2Proof.Machine.execVaultSlotQuarantineExpiry slot s
  | .remaskPass => Sys2Proof.Machine.execRemaskPass s
  | .quoteRequest src nonce n => Sys2Proof.Machine.execQuoteRequest src nonce n s
  | .quoteSign f => Sys2Proof.Machine.execQuoteSign f s
  | .policyBundle src b => Sys2Proof.Machine.execPolicyBundle src b s
  | .provision src now dus len => Sys2Proof.Machine.execProvision src now dus len s
  | .produce src now len => Sys2Proof.Machine.execProduce src now len s
  | .lcRetire src now => Sys2Proof.Machine.execLcRetire src now s
  | .debugChallenge src now => Sys2Proof.Machine.execDebugChallenge src now s
  | .debugResponse src now pub sigOk => Sys2Proof.Machine.execDebugResponse src now pub sigOk s
  | .tamper => Sys2Proof.Machine.execTamper s
  | .rngSample x => Sys2Proof.Machine.execRngSample x s
  | .rngEstimateWindow => Sys2Proof.Machine.execRngEstimateWindow s
  | .rngStartupComplete katOk => Sys2Proof.Machine.execRngStartupComplete katOk s
  | .drbgGenerate => Sys2Proof.Machine.execDrbgGenerate s
  | .reseedIntervalExpiry => Sys2Proof.Machine.execReseedIntervalExpiry s
  | .seedBlockArrivalReseed => Sys2Proof.Machine.execSeedBlockArrivalReseed s
  | .rngQueueRead consumer => Sys2Proof.Machine.execRngQueueRead consumer s
  | .rngWaitLimitExpiry consumer => Sys2Proof.Machine.execRngWaitLimitExpiry consumer s
  | .rngRestart viaOd => Sys2Proof.Machine.execRngRestart viaOd s
  | .rawCaptureSet => Sys2Proof.Machine.execRawCaptureSet s
  | .rawCaptureClear => Sys2Proof.Machine.execRawCaptureClear s
  | .flash src f stuck => Sys2Proof.Machine.execFlash src f stuck s
  | .functionLevelReset f stuck => Sys2Proof.Machine.execFunctionLevelReset f stuck s
  | .fenceEngineTimeout f => Sys2Proof.Machine.execFenceEngineTimeout f s
  | .fenceScrub f bad => Sys2Proof.Machine.execFenceScrub f bad s
  | .scrubDone f => Sys2Proof.Machine.execScrubDone f s
  | .release src f => Sys2Proof.Machine.execRelease src f s
  | .grantWrite src f sub value => Sys2Proof.Machine.execGrantWrite src f sub value s
  | .vfEnable num => Sys2Proof.Machine.execVfEnable num s
  | .vfRemoval num => Sys2Proof.Machine.execVfRemoval num s
  | .watchdogExpiry unit => Sys2Proof.Machine.execWatchdogExpiry unit s
  | .heartbeatLoss unit => Sys2Proof.Machine.execHeartbeatLoss unit s
  | .engineResetComplete unit micros => Sys2Proof.Machine.execEngineResetComplete unit micros s
  | .engineResetOverrun unit => Sys2Proof.Machine.execEngineResetOverrun unit s
  | .dieResetComplete die micros => Sys2Proof.Machine.execDieResetComplete die micros s
  | .dieResetOverrun die => Sys2Proof.Machine.execDieResetOverrun die s
  | .moduleReset cause => Sys2Proof.Machine.execModuleReset cause s
  | .resetRequestEngine src unit => Sys2Proof.Machine.execResetRequestEngine src unit s
  | .resetRequestDie src unit => Sys2Proof.Machine.execResetRequestDie src unit s
  | .resetRequestModule src unit => Sys2Proof.Machine.execResetRequestModule src unit s
  | .snapshotTake viaOd => Sys2Proof.Machine.execSnapshotTake viaOd s
  | .linkWidthReduction => Sys2Proof.Machine.execLinkWidthReduction s
  | .aspmL1Entry => Sys2Proof.Machine.execAspmL1Entry s
  | .d3hot => Sys2Proof.Machine.execD3hot s
  | .d3cold => Sys2Proof.Machine.execD3cold s
  | .lockInterface f => Sys2Proof.Machine.execLockInterface f s
  | .startInterface f => Sys2Proof.Machine.execStartInterface f s
  | .stopInterface f => Sys2Proof.Machine.execStopInterface f s
  | .getDeviceInterfaceReport f => Sys2Proof.Machine.execGetDeviceInterfaceReport f s
  | .tdispError f isRead => Sys2Proof.Machine.execTdispError f isRead s
  | .spdmRequest code offered => Sys2Proof.Machine.execSpdmRequest code offered s
  | .kSetGo stream => Sys2Proof.Machine.execKSetGo stream s
  | .moduleRequestWake src => Sys2Proof.Machine.execModuleRequestWake src s
  | .moduleRequestSleep src => Sys2Proof.Machine.execModuleRequestSleep src s
  | .moduleRequestDeepSleep src => Sys2Proof.Machine.execModuleRequestDeepSleep src s
  | .dieRequestWake src die => Sys2Proof.Machine.execDieRequestWake src die s
  | .dieRequestSleep src die => Sys2Proof.Machine.execDieRequestSleep src die s
  | .dieRequestDeepSleep src die => Sys2Proof.Machine.execDieRequestDeepSleep src die s
  | .sleepEntryComplete die => Sys2Proof.Machine.execSleepEntryComplete die s
  | .wakeComplete die => Sys2Proof.Machine.execWakeComplete die s
  | .engineGate unit => Sys2Proof.Machine.execEngineGate unit s
  | .enginePowerUp unit => Sys2Proof.Machine.execEnginePowerUp unit s
  | .wakeN => Sys2Proof.Machine.execWakeN s
  | .wakeTimer => Sys2Proof.Machine.execWakeTimer s
  | .managementWakePacket => Sys2Proof.Machine.execManagementWakePacket s
  | .pcieWake perst => Sys2Proof.Machine.execPcieWake perst s
  | .calliopePattern p => Sys2Proof.Machine.execCalliopePattern p s
  | .peerWake src mask => Sys2Proof.Machine.execPeerWake src mask s
  | .inputPowerLoss => Sys2Proof.Machine.execInputPowerLoss s
  | .pwrGoodAssert => Sys2Proof.Machine.execPwrGoodAssert s
  | .thermalSample temps => Sys2Proof.Machine.execThermalSample temps s
  | .thermalRecovery temps => Sys2Proof.Machine.execThermalRecovery temps s
  | .alwaysOnTrim => Sys2Proof.Machine.execAlwaysOnTrim s
  | .freezeN => Sys2Proof.Machine.execFreezeN s
  | .presencePress now => Sys2Proof.Machine.execPresencePress now s
  | .ledActTimeout => Sys2Proof.Machine.execLedActTimeout s
  | .tapReset => Sys2Proof.Machine.execTapReset s
  | .tapInstructionLoad code now => Sys2Proof.Machine.execTapInstructionLoad code now s
  | .unlockResponse now pub sigOk => Sys2Proof.Machine.execUnlockResponse now pub sigOk s
  | .dbgNop w => Sys2Proof.Machine.execDbgNop w s
  | .dbgRead32 w => Sys2Proof.Machine.execDbgRead32 w s
  | .dbgWrite32 w => Sys2Proof.Machine.execDbgWrite32 w s
  | .dbgHalt w => Sys2Proof.Machine.execDbgHalt w s
  | .dbgResume w => Sys2Proof.Machine.execDbgResume w s
  | .dbgStep w => Sys2Proof.Machine.execDbgStep w s
  | .dbgSetBp w => Sys2Proof.Machine.execDbgSetBp w s
  | .dbgClearBp w => Sys2Proof.Machine.execDbgClearBp w s
  | .dbgStatus w => Sys2Proof.Machine.execDbgStatus w s
  | .locateWrite src value => Sys2Proof.Machine.execLocateWrite src value s
  | .resetNAssert => Sys2Proof.Machine.execResetNAssert s
  | .pcieCompletionTimeout r => Sys2Proof.Machine.execPcieCompletionTimeout r s
  | .overTemperatureComparator die => Sys2Proof.Machine.execOverTemperatureComparator die s
  | .ethLinkUp p lp => Sys2Proof.Machine.execEthLinkUp p lp s
  | .ethLinkDown p lp => Sys2Proof.Machine.execEthLinkDown p lp s
  | .ideStreamTlp stream f => Sys2Proof.Machine.execIdeStreamTlp stream f s
  | .registerRead r => Sys2Proof.Machine.execRegisterRead r s
  | .cohortCloseGraceExpiry n k => Sys2Proof.Machine.execCohortCloseGraceExpiry n k s
  | .odReadCopyLapse src txn => Sys2Proof.Machine.execOdReadCopyLapse src txn s
  | .locateAcknowledgementEnd => Sys2Proof.Machine.execLocateAcknowledgementEnd s
  | .auxiliaryRailValid => Sys2Proof.Machine.execAuxiliaryRailValid s
  | .auxiliaryRailLoss => Sys2Proof.Machine.execAuxiliaryRailLoss s
  | .refclkStable => Sys2Proof.Machine.execRefclkStable s
  | .refclkLoss => Sys2Proof.Machine.execRefclkLoss s

end Sys2Proof.Machine
end

