-- ==== Sys2Proof/Machine/Step.lean ====
section
/-!
DEFINITION. One step: the command at the front of the queue is taken and run; on an empty queue time
passes and the switch drains one packet per egress (DESIGN CHOICE, log 1, DESIGN CHOICE, log 61).
-/

namespace Sys2Proof.Machine

open Sys2Proof

/-- Take the first waiting command and run it on the state without it; a tick when none waits (DESIGN CHOICE, log 61).
(DESIGN CHOICE, log 3.) -/
def step (s : State) : Host.Outcome State Fault Refusal :=
  match s.pending with
  | [] => .next (tick s)
  | c :: rest => exec c { s with pending := rest }

/-- The state with the command that a word spells put at the front of its queue; unchanged where the
word spells none. (DESIGN CHOICE, log 129.) -/
def State.withFetchWord (s : State) (nbits w : Nat) : State :=
  match decodeTableWord nbits w with
  | none => s
  | some c => { s with pending := c :: s.pending }

end Sys2Proof.Machine
end

