-- ==== Sys2Proof/Safety.lean ====
section
/-!
DEFINITION. The words that statements share: what it is for a request to be accepted, for a descriptor to
run, for a destination to be written, and the canonical form of every memory of a state.
-/

namespace Sys2Proof

open Sys2Proof.Machine

/-- A write of v to record n of entry e by src passes every check of R600. -/
abbrev Accepted (s : State) (src : Src) (e : Ent) (n v : Nat) : Prop :=
  srcLive s src = true ∧ odEarly s src e n = none ∧ odLate s e n (tyLen e.ty) v = none

/-- Descriptor i of s is d, runs with the opcode, and no engine it occupies is stopped, and the module is not frozen. -/
abbrev Runs (s : State) (i op : Nat) (d : Desc) : Prop :=
  descOf s i = some d ∧ dOp d = op ∧ d.phase = .running ∧ stalled s d = false

/-- Descriptor i of s is d, held, the oldest of its queue, with the opcode: the fetcher may execute it. -/
abbrev Holds (s : State) (i op : Nat) (d : Desc) : Prop :=
  controlOf s i op = some d ∧ controlCheck s d = none ∧ s.pwr.frozen = false

/-- Every memory of the state has its canonical form: addresses strictly rising, no listed byte 0. -/
def MemoryOk (s : State) : Prop :=
  memWf s.host = true ∧ (∀ n, memWf (vmOf s n) = true) ∧ (∀ d, memWf (loftOf s d) = true) ∧
    (∀ f, memWf (mboxBytes s f) = true) ∧ memWf s.dbg.coreMem = true

/-- Word t of limb j of the operand at address a. -/
def limbWordAt (m : Mem) (d : Desc) (a j t : Nat) : Nat := limbAt m (a + j * limbStride d) t

/-- u is s but for the memory of d's destination and the counter of free values: the c limbs at ADDR_D hold f as 32-bit words, and
every byte outside them reads as before. -/
def LimbsWritten (s u : State) (d : Desc) (c : Nat) (f : Nat → Nat → Nat) : Prop :=
  ∃ m, u = { setOpMem s d (df d 32 1) (bit (df d 36 1) 2) m with free := u.free } ∧
    (∀ j t, j < c → t < 2 ^ df d 33 1 → limbWordAt m d (df d 52 6) j t = f j t % 2 ^ 32) ∧
    ∀ a, (∀ j, j < c → a < df d 52 6 + j * limbStride d ∨ df d 52 6 + j * limbStride d + 4 * 2 ^ df d 33 1 ≤ a) →
      mget m a = mget (opMem s d (df d 32 1) (bit (df d 36 1) 2)) a

/-- Every input word of an element-wise descriptor is below the modulus of its limb (R134). -/
def WordsInRange (s : State) (d : Desc) : Prop :=
  (∀ j t, j < df d 35 1 → t < 2 ^ df d 33 1 → limbA s d j t < fld (limbBasis d j) 0 4) ∧
    (∀ j t, j < df d 35 1 → t < 2 ^ df d 33 1 → usesB d = true → limbB s d j t < fld (limbBasis d j) 0 4) ∧
    (∀ j, j < df d 35 1 → usesScalar d = true → scalarB s d j < fld (limbBasis d j) 0 4) ∧
    (∀ j t, j < df d 35 1 → t < 2 ^ df d 33 1 → dOp d = 0x33 → limbD s d j t < fld (limbBasis d j) 0 4)

/-- u is s but for the memory of d's destination and the counter of free values: the object at ADDR_D holds the polynomials c,
word for word, and every byte outside the object reads as before. -/
def ObjectWritten (s u : State) (d : Desc) (parts : Nat) (c : CtPoly) : Prop :=
  ∃ m fr, u = { setOpMem s d (df d 32 1) (sLoftD d) m with free := fr } ∧
    (∀ part i t, part < parts → i ≤ levelD s d → t < 2 ^ ksLogN s (dCtx d) →
      objPoly m (df d 48 6) (levelD s d) (ksLogN s (dCtx d)) part i t = c part i t % 2 ^ 32) ∧
    ∀ a, (a < df d 48 6 ∨ df d 48 6 + objSize s (dCtx d) (levelD s d) parts ≤ a) →
      mget m a = mget (opMem s d (df d 32 1) (sLoftD d)) a

/-- The operand ciphertext at ADDR_A, at its level. -/
def ctOperandA (s : State) (d : Desc) : CtPoly := ctAt s d (sLoftA d) (df d 36 6) (levelA s d)
/-- The operand object at ADDR_B, at the level of A. -/
def ctOperandB (s : State) (d : Desc) : CtPoly := ctAt s d (sLoftB d) (df d 42 6) (levelA s d)

/-- A Sealed descriptor runs, its checks pass, the keys it needs are in the die's Loft, and the words of A are below their
primes (R134, R171, R176). -/
abbrev SealedReady (s : State) (i op : Nat) (d : Desc) : Prop :=
  Runs s i op d ∧ sealedCheck s d = none ∧ sReload s d = s ∧ ctHigh s d (levelA s d) 2 (ctOperandA s d) = false

/-- Row r of the share vector at a as words. -/
def shareWord (s : State) (n a r j : Nat) : Nat := mrd (vmOf s n) (a + 4096 * r + 4 * j) 4

/-- u is s but for the context's device memory and the check values held of its rows: the rows named by d at its destination hold f,
and every other byte reads as before. -/
def ShareRowsWritten (s u : State) (d : Desc) (f : Nat → Nat → Nat) : Prop :=
  u = { s with vm := u.vm, ctxs := u.ctxs } ∧ (∀ n, n ≠ dCtx d → vmOf u n = vmOf s n ∧ cx u n = cx s n) ∧
    cx u (dCtx d) = { cx s (dCtx d) with chk := (cx u (dCtx d)).chk } ∧
    (∀ r j, shFirst d ≤ r → r < shFirst d + shCount d → j < 1024 →
      shareWord u (dCtx d) (df d 54 6) r j = f r j % 2 ^ 32) ∧
    ∀ a, (a < df d 54 6 + 4096 * shFirst d ∨ df d 54 6 + 4096 * (shFirst d + shCount d) ≤ a) →
      mget (vmOf u (dCtx d)) a = mget (vmOf s (dCtx d)) a

/-- The PRIME of limb j as latched. -/
def limbPrime (d : Desc) (j : Nat) : Nat := fld (limbBasis d j) 0 4
/-- The MONT of limb j as latched. -/
def limbMont (d : Desc) (j : Nat) : Nat := fld (limbBasis d j) 4 4

/-- The rows that d names (R238). -/
abbrev Named (d : Desc) (x : Nat) : Prop := aFirst d ≤ x ∧ x < aFirst d + aCount d

/-- Tile t is t0 but for the rows named by d, whose words are f and error words g. -/
def TileRows (d : Desc) (t0 t : Tile) (f g : Nat → Nat → Nat) : Prop :=
  t.ty = t0.ty ∧ t.laneW = t0.laneW ∧ ∀ x j, j < 1024 →
    (Named d x → tw t x j = f x j ∧ te t x j = g x j) ∧ (¬ Named d x → tw t x j = tw t0 x j ∧ te t x j = te t0 x j)

/-- u is s but for the tile that d names, which is t0 but for the rows named by d, whose words are f and error words g. -/
def TileWritten (s u : State) (d : Desc) (t0 : Tile) (f g : Nat → Nat → Nat) : Prop :=
  ∃ t, u = putTile s d t ∧ TileRows d t0 t f g

/-- Element p of a reduction takes part: it is no NaN. -/
abbrev Counts (s : State) (d : Desc) (p : Nat) : Prop := p < rCount d ∧ redNan (aFmt d) (redElem s d p) = false

/-- Element p of a reduction stands before element q in the order of R256. -/
abbrev Before (s : State) (d : Desc) (p q : Nat) : Prop :=
  keyLt (redKey (aFmt d) (redElem s d p)) (redKey (aFmt d) (redElem s d q)) = true

/-- The NaNs of a reduction. -/
def nanCount (s : State) (d : Desc) : Nat := ((List.range (rCount d)).filter (fun p => redNan (aFmt d) (redElem s d p))).length

/-- u is s but for the 16 bytes of a reduction's result: VALUE, INDEX and the NaNs skipped (R255). -/
def ResultWritten (s u : State) (d : Desc) (value index : Nat) : Prop :=
  u = setVm s (dCtx d) (mwr (vmOf s (dCtx d)) (aX d) 16 (value + 2 ^ 64 * index + 2 ^ 96 * nanCount s d))

/-- u is s but for the memory of a mover's destination, whose byte k of LENGTH is f k; every other byte reads as before. -/
def BytesMoved (s u : State) (d : Desc) (f : Nat → Byte) : Prop :=
  ∃ m, u = setOpMem s d (df d 32 1) (mvDstLoft d) m ∧
    (∀ k, k < mvLen d → mget m (mvDst d + k) = f k) ∧
    ∀ a, (a < mvDst d ∨ mvDst d + mvLen d ≤ a) → mget m a = mget (opMem s d (df d 32 1) (mvDstLoft d)) a

/-- Record n of a counter entry is one higher, or at its greatest value. -/
abbrev Counted (s t : State) (e : Ent) (n : Nat) : Prop := rdE t e n = satAdd (2 ^ (8 * tyLen e.ty) - 1) (rdE s e n) 1
/-- The BAR2 counter of k bytes at an offset is one higher, or at its greatest value. -/
abbrev CountedB (s t : State) (off k : Nat) : Prop := rdB t off 0 = satAdd (2 ^ (8 * k) - 1) (rdB s off 0) 1

/-- t is s but for module port p, which is x. -/
def PortBecomes (s t : State) (p : Nat) (x : Port) : Prop :=
  t = { s with ports := t.ports } ∧ portOf t p = x ∧ ∀ q, q ≠ p → portOf t q = portOf s q

/-- A data packet of a live, resident, ordinary endpoint passes the checks of R349 to R352 before its region and its slot. -/
abbrev PacketFits (s : State) (die : Nat) (k : Pkt) : Prop :=
  portDieUp s die = true ∧ headerOk k = true ∧ isData k.ty = true ∧ fnBlocked s k.tclass = false ∧ (epOf s k.dstEp).st = 1 ∧
    (epOf s k.dstEp).resident = true ∧ isAdmission (epOf s k.dstEp) = false ∧ keyPasses s k.keyId k.keyGen k.dstEp = true ∧
    (namesRegion k.ty = true → (regionOf s k.region).gen = k.regionGen)

/-- A doorbell write of function f reaches endpoint e, which it owns. -/
abbrev Doorbell (s : State) (f e : Nat) : Prop :=
  bar0Up s f = true ∧ e < 262144 ∧ epLive (epOf s e) = true ∧ (epOf s e).owner = f

/-- The object that the object record of function f names. -/
def objKindOf (s : State) (src : Src) : Nat := rdE s eObjKind (srcFn src)
/-- Its number. -/
def objIndexOf (s : State) (src : Src) : Nat := rdE s eObjIndex (srcFn src)

/-- An object command of a code is accepted and passes checks 1 to 4 of R382. -/
abbrev ObjAccepted (s : State) (src : Src) (code : Nat) : Prop :=
  Accepted s src eObjCommand (srcFn src) code ∧ objCheck s (srcFn src) code (objKindOf s src) (objIndexOf s src) = none

/-- A write of len bytes, v, to record n of entry e by src passes every check of R600. -/
abbrev AcceptedLen (s : State) (src : Src) (e : Ent) (n len v : Nat) : Prop :=
  srcLive s src = true ∧ odEarly s src e n = none ∧ odLate s e n len v = none

/-- t is the module held in reset from s: counted, with the fuses, host memory and waiting commands of s and no dictionary
entry, key or memory left. -/
abbrev HeldInReset (s t : State) : Prop :=
  t.pwr.inReset = true ∧ t.mram.moduleResets = satAdd 0xFFFFFFFF s.mram.moduleResets 1 ∧ t.fuses = s.fuses ∧ t.host = s.host ∧
    t.pending = s.pending ∧ t.od = [] ∧ t.keys = [] ∧ t.vault = [] ∧ t.vm = [] ∧ t.boot.st = 0

/-- A reset of the unit, or of its die, runs. -/
abbrev ResetRuns (s : State) (unit : Nat) : Prop := ∃ r ∈ s.resets, if r.die then r.id = unit / 32 else r.id = unit

/-- DIE_HEALTH of a die. -/
def dieHealth (s : State) (die : Nat) : Nat := bits (rdE s eDieHealth 0) (2 * die + 1) (2 * die)

/-- The RNG has failed with a cause (R477): output halted and empty, counted, with a fault record. -/
abbrev RngFailed (s t : State) (cause : Nat) : Prop :=
  t.rng.st = rngHalted ∧ t.rng.failCause = cause ∧ t.rng.queue = [] ∧ t.rng.seeds = [] ∧ t.rng.instantiated = false ∧
    CountedB s t rFailures 4 ∧ t.faultSeq = s.faultSeq + 1

/-- The RNG takes part: the module is neither frozen nor held in reset. -/
abbrev RngLive (s : State) : Prop := s.pwr.frozen = false ∧ s.pwr.inReset = false
/-- Die d is on its way to Idle: a wake runs, or follows the entry in progress. -/
abbrev WakeComing (s : State) (d : Nat) : Prop := tget s.pwr.entering 0 d = 1 ∨ 4 ≤ tget s.pwr.entering 0 d

/-- Every die in service that sleeps in s is on its way to Idle in t, and WAKE_CAUSE shows the cause. -/
abbrev WakesAll (s t : State) (cause : Nat) : Prop :=
  rdE t eWakeCause 0 = cause ∧ ∀ d, d ≤ 8 → inService s d = true → 2 ≤ dieState s d → WakeComing t d

/-- No die in service refuses to go to Sleep (2) or Deep sleep (3). -/
abbrev MaySleep (s : State) (kind : Nat) : Prop :=
  ∀ d, d < 8 → inService s d = true → dieState s d ≠ kind → sleepRefused s d = false

/-- Every die in service is in a kind of sleep, or entering it. -/
abbrev AllSleep (s : State) (kind : Nat) : Prop := dieState s 8 = kind ∧ ∀ d, d < 8 → inService s d = true → dieState s d = kind

/-- t is the module with its logic at reset: fuses, MRAM, host memory and waiting commands of s stay, and no dictionary entry, key or
memory is left. -/
abbrev LogicLost (s t : State) : Prop :=
  t.pwr.inReset = true ∧ t.fuses = s.fuses ∧ t.mram = s.mram ∧ t.host = s.host ∧ t.pending = s.pending ∧ t.od = [] ∧ t.keys = [] ∧
    t.vault = [] ∧ t.vm = [] ∧ t.loft = [] ∧ t.tiles = [] ∧ t.boot.st = 0

/-- DIE_TEMP of a sample reads at least t °C for die d (°C plus 64, R573). -/
abbrev Reads (temps : List Nat) (d t : Nat) : Prop := d < 9 ∧ t + 64 ≤ temps.getD d 0

/-- A debug command is issued: its instruction is loaded and its checks pass (R587). -/
abbrev DbgAccepted (s : State) (w : DbgWord) : Prop := dbgIssued s w = true ∧ dbgCheck w = none

/-- The write of a dictionary entry that a command is, where it is one: source, entry, record, length and value. -/
def writeOf : Instr → Option (Src × Ent × Nat × Nat × Nat)
  | .create src n => some (src, eCtxCommand, n, tyLen eCtxCommand.ty, 1)
  | .destroy src n _ => some (src, eCtxCommand, n, tyLen eCtxCommand.ty, 2)
  | .policyLock src n => some (src, ePolicyLock, n, tyLen ePolicyLock.ty, 1)
  | .roundOpen src n => some (src, eRoundCommand, n, tyLen eRoundCommand.ty, 1)
  | .roundClose src n => some (src, eRoundCommand, n, tyLen eRoundCommand.ty, 2)
  | .roundAbandon src n => some (src, eRoundCommand, n, tyLen eRoundCommand.ty, 3)
  | .roundRelease src n => some (src, eRoundCommand, n, tyLen eRoundCommand.ty, 4)
  | .cohortOpen src n => some (src, eCohortCommand, n, tyLen eCohortCommand.ty, 1)
  | .cohortShut src n => some (src, eCohortCommand, n, tyLen eCohortCommand.ty, 2)
  | .basisLoad src n v => some (src, eBasisLoad, n, tyLen eBasisLoad.ty, v)
  | .objCreate src => some (src, eObjCommand, srcFn src, tyLen eObjCommand.ty, 1)
  | .objModify src => some (src, eObjCommand, srcFn src, tyLen eObjCommand.ty, 2)
  | .objDestroy src => some (src, eObjCommand, srcFn src, tyLen eObjCommand.ty, 3)
  | .advance src => some (src, eObjCommand, srcFn src, tyLen eObjCommand.ty, 4)
  | .query src => some (src, eObjCommand, srcFn src, tyLen eObjCommand.ty, 5)
  | .retire src => some (src, eObjCommand, srcFn src, tyLen eObjCommand.ty, 6)
  | .advanceCtxKey src => some (src, eObjCommand, srcFn src, tyLen eObjCommand.ty, 7)
  | .svnCommit src v => some (src, eSvnCommit, 0, tyLen eSvnCommit.ty, v)
  | .fabricLock src => some (src, eFabricLock, 0, tyLen eFabricLock.ty, 1)
  | .provision src _ _ len => some (src, eLcCommand, 0, len, 1)
  | .produce src _ len => some (src, eLcCommand, 0, len, 2)
  | .lcRetire src _ => some (src, eLcCommand, 0, 1, 3)
  | .debugResponse src _ _ _ => some (src, eDebugResponse, 0, 4096, 0)
  | .policyBundle src _ => some (src, ePolicyBundle, 0, 16384, 0)
  | .flash src f _ => some (src, eFnCommand, f, tyLen eFnCommand.ty, 1)
  | .resetRequestEngine src u => some (src, eResetRequest, 0, tyLen eResetRequest.ty, 4096 + u % 4096)
  | .resetRequestDie src u => some (src, eResetRequest, 0, tyLen eResetRequest.ty, 8192 + u % 4096)
  | .resetRequestModule src u => some (src, eResetRequest, 0, tyLen eResetRequest.ty, 12288 + u % 4096)
  | .moduleRequestWake src => some (src, eModuleRequest, 0, tyLen eModuleRequest.ty, 1)
  | .moduleRequestSleep src => some (src, eModuleRequest, 0, tyLen eModuleRequest.ty, 2)
  | .moduleRequestDeepSleep src => some (src, eModuleRequest, 0, tyLen eModuleRequest.ty, 3)
  | .dieRequestWake src d => some (src, eDieRequest, 0, tyLen eDieRequest.ty, 256 + d % 16)
  | .dieRequestSleep src d => some (src, eDieRequest, 0, tyLen eDieRequest.ty, 512 + d % 16)
  | .dieRequestDeepSleep src d => some (src, eDieRequest, 0, tyLen eDieRequest.ty, 768 + d % 16)
  | .peerWake src m => some (src, ePeerWake, 0, tyLen ePeerWake.ty, m)
  | .locateWrite src v => some (src, eLocate, 0, tyLen eLocate.ty, v)
  | .snapshotTake (some src) => some (src, eSnapTake, 0, tyLen eSnapTake.ty, 1)
  | .rngRestart (some src) => some (src, eRngRestart, 0, tyLen eRngRestart.ty, 1)
  | _ => none

/-- No bit of the fuse block that was burnt in s is clear in t, and what package assembly burnt stays (R432). -/
def FusesKept (s t : State) : Prop :=
  (∀ i, i < 4 → bit s.fuses.lifecycle i = true → bit t.fuses.lifecycle i = true) ∧ s.fuses.svnFloor ≤ t.fuses.svnFloor ∧
    t.fuses.serial = s.fuses.serial ∧ t.fuses.manifest = s.fuses.manifest ∧ t.fuses.vendor0 = s.fuses.vendor0 ∧
    t.fuses.vendor1 = s.fuses.vendor1 ∧ t.fuses.vendorRevoke = s.fuses.vendorRevoke ∧ t.fuses.debugKey = s.fuses.debugKey ∧
    t.fuses.macBase = s.fuses.macBase

/-- A command that acts on registers, the dictionary, pins or links alone. -/
def registerOnly : Instr → Bool
  | .locateWrite _ _ => true
  | .odRead _ _ _ _ _ _ => true
  | .odReadCopyLapse _ _ => true
  | .odStagingTimeout _ _ => true
  | .mbDoorbell _ _ => true
  | .engineGate _ => true
  | .enginePowerUp _ => true
  | .wakeN => true
  | .wakeTimer => true
  | .managementWakePacket => true
  | .calliopePattern _ => true
  | .peerWake _ _ => true
  | .moduleRequestWake _ => true
  | .dieRequestWake _ _ => true
  | .wakeComplete _ => true
  | .pwrGoodAssert => true
  | .auxiliaryRailValid => true
  | .auxiliaryRailLoss => true
  | .refclkStable => true
  | .refclkLoss => true
  | .alwaysOnTrim => true
  | .overTemperatureComparator _ => true
  | .presencePress _ => true
  | .locateAcknowledgementEnd => true
  | .ledActTimeout => true
  | .tapReset => true
  | .tapInstructionLoad _ _ => true
  | .dbgNop _ => true
  | .dbgRead32 _ => true
  | .dbgHalt _ => true
  | .dbgResume _ => true
  | .dbgStep _ => true
  | .dbgStatus _ => true
  | .dbgSetBp _ => true
  | .dbgClearBp _ => true
  | .linkWidthReduction => true
  | .aspmL1Entry => true
  | .lockInterface _ => true
  | .startInterface _ => true
  | .getDeviceInterfaceReport _ => true
  | .spdmRequest _ _ => true
  | .kSetGo _ => true
  | .ideStreamTlp _ _ => true
  | .snapshotTake _ => true
  | .registerRead _ => true
  | .fabricLock _ => true
  | .svnCommit _ _ => true
  | .mrExtend _ _ _ => true
  | .basisLoad _ _ _ => true
  | _ => false


end Sys2Proof
end

