-- ==== Sys2Proof/Certificates/Slice0/Obligations.lean ====
section
/-!
DEFINITION. The statements for the provers: each is a proposition about the model, whose docstring cites the rules of spec/
that it formalises.
-/

open Sys2Proof Sys2Proof.Machine

/-- A step takes the command at the front of the queue and runs it on the state with the queue's rest. -/
def Obligations.StepRunsFrontCommand : Prop :=
  ∀ (c : Instr) (s : State) (rest : List Instr),
    step { s with pending := c :: rest } = exec c { s with pending := rest }

/-- No command of the table stops the block, in any state and with any operands. -/
def Obligations.NoCommandStops : Prop :=
  ∀ (c : Instr) (s : State), ∃ t, exec c s = .next t

/-- The waiting commands stay as they are while a command runs (DESIGN CHOICE, log 1). -/
def Obligations.WaitingCommandsStay : Prop :=
  ∀ (c : Instr) (s t : State), exec c s = .next t → t.pending = s.pending

/-- Every step keeps the canonical form of every memory. The form is the model's own (DESIGN CHOICE, log 6); the bytes of a memory read the
same whatever form lists them. -/
def Obligations.MemoryFormKept : Prop :=
  ∀ (s t : State), MemoryOk s → step s = .next t → MemoryOk t

/-- Memory has its canonical form at reset.
The model's own choice, no rule of the spec: the form itself (DESIGN CHOICE, log 6). -/
def Obligations.MemoryFormAtReset : Prop := MemoryOk State.reset

/-- The context commands take effect (R33, R34, R38, R56, R57, R129, R280). -/
def Obligations.ContextCommandsTakeEffect : Prop :=
  (∀ (src : Src) (n : Nat) (s : State), Accepted s src eCtxCommand n 1 → createCheck s (srcFn src) n = none →
    (∃ u, exec (.create src n) s = .next (answer u src stOk) ∧ rdE u eCtxState n = cxConfigured ∧ (cx u n).owner = srcFn src ∧
      (∀ e m j, entKey e m j ≠ entKey eCtxState n 0 → rdEj u e m j = rdEj s e m j) ∧
      (∀ m, m ≠ n → cx u m = cx s m ∧ vmOf u m = vmOf s m))) ∧
  (∀ (src : Src) (n : Nat) (s : State), Accepted s src ePolicyLock n 1 →
    (∃ u, exec (.policyLock src n) s = .next (answer u src stOk) ∧ rdE u ePolicyLock n = 1 ∧ rdE u ePolicyDigest n = policyDigest s n ∧
      u = { s with od := u.od })) ∧
  (∀ (src : Src) (n v : Nat) (s : State), Accepted s src eBasisLoad n v → bits v 6 0 < 80 → bit v 7 = false →
    (∃ u, exec (.basisLoad src n v) s = .next (answer u src stOk) ∧ rdEj u eBasisK n (bits v 6 0) = basisWord (romPrime (bits v 14 8)) (romRoot (bits v 14 8)) ∧
      u = { s with od := u.od })) ∧
  (∀ (src : Src) (k v : Nat) (s : State), k < 256 → Accepted s src (if k < 128 then eSynBlockLo else eSynBlockHi) 0 v →
    blockInUse s (synOwnerOf s k) k = false →
    (∃ u, exec (.synBlockWrite src k v) s = .next (answer u src stOk) ∧ synOwnerOf u k = v ∧
      ∀ c, synGet u c = if c / 64 = k then 0 else synGet s c))

/-- The teardown of a context (R34, R38, R303, R497, R502). -/
def Obligations.DestroyFreesTheContext : Prop :=
  (∀ (src : Src) (n : Nat) (s : State), Accepted s src eCtxCommand n 2 →
    (rdE s eCtxState n = cxConfigured ∨ rdE s eCtxState n = cxActive) → (cx s n).teardown = 0 →
    (∃ u, exec (.destroy src n []) s = .next (answer u src stOk) ∧ rdE u eCtxState n = cxQuarantine ∧ (cx u n).cohorts = [] ∧
      ∀ key d, ctxOfIndex (key / 256) = some n → key ≠ entKey eCtxState n 0 → tget u.od d key = d)) ∧
  (∀ (n : Nat) (s : State), (cx s n).teardown = 3 → s.pwr.frozen = false →
    (∃ t, exec (.teardownEngineTimeout n) s = .next t ∧ t = { s with resets := t.resets } ∧
      ∀ u ∈ (cx s n).stuck, unitExists u = true → u < 256 → inService s (u / 32) = true →
        ∃ r ∈ t.resets, if r.die then r.id = u / 32 else r.id = u)) ∧
  (∀ (n : Nat) (s : State), rdE s eCtxState n = cxQuarantine → s.pwr.frozen = false →
    (∃ t, exec (.contextQuarantineExpiry n) s = .next t ∧ rdE t eCtxState n = cxFree ∧ cx t n = {} ∧
      ∀ key d, ctxOfIndex (key / 256) = some n → key ≠ entKey eCtxState n 0 → tget t.od d key = d))

/-- OPEN, CLOSE, ABANDON and RELEASE move the round through its states (R39 to R43, R79). -/
def Obligations.RoundCommandsMoveTheRound : Prop :=
  (∀ (src : Src) (n : Nat) (s : State), Accepted s src eRoundCommand n 1 → roundSt s n = rsNone →
    rdE s eCtxState n = cxConfigured → (cx s n).opening = false → openCheck s n = none → s.descs.any (tableWriter s n) = false →
    (∃ u, exec (.roundOpen src n) s = .next (answer u src stOk) ∧ roundSt u n = rsOpen ∧ rdE u eCtxState n = cxActive ∧
      rdE u eRoundNumber n = rdE s eRoundNumber n + 1 ∧ (cx u n).cohorts = [] ∧ (cx u n).owner = (cx s n).owner ∧
      rdE u eCommitted n = 0 ∧ rdE u eMerged n = 0 ∧ rdE u eSaturation n = 0)) ∧
  (∀ (src : Src) (n : Nat) (s : State), Accepted s src eRoundCommand n 1 → roundSt s n = rsNone →
    rdE s eCtxState n = cxConfigured → (cx s n).opening = false → openCheck s n = none → s.descs.any (tableWriter s n) = true →
    (∃ u, exec (.roundOpen src n) s = .next (answer u src stOk) ∧ roundSt u n = rsNone ∧ (cx u n).opening = true ∧ u.od = s.od ∧ u.descs = s.descs)) ∧
  (∀ (src : Src) (n : Nat) (s : State), Accepted s src eRoundCommand n 2 → roundSt s n = rsOpen →
    (∃ u, exec (.roundClose src n) s = .next (answer u src stOk) ∧ roundSt u n = rsClosing ∧ ∀ k, (cohortOf u n k).st ≠ .opened)) ∧
  (∀ (src : Src) (n : Nat) (s : State), Accepted s src eRoundCommand n 3 → abandonable s n = true →
    (∃ u, exec (.roundAbandon src n) s = .next (answer u src stOk) ∧ roundSt u n = rsAbandoned ∧ (cx u n).cohorts = [] ∧
      (cx u n).bufs = [] ∧ (cx u n).imports = [])) ∧
  (∀ (src : Src) (n : Nat) (s : State), Accepted s src eRoundCommand n 4 → roundSt s n = rsReady →
    (∃ u, exec (.roundRelease src n) s = .next (answer u src stOk) ∧ roundSt u n = rsExported ∧ (cx u n).cohorts = [] ∧
      (cx u n).bufs = [] ∧ (cx u n).imports = []))

/-- The time-driven steps of a round (R39, R41, R42, R66, R219, R254, R335). -/
def Obligations.TimeMovesTheRound : Prop :=
  (∀ (n : Nat) (s : State), roundSt s n = rsClosing → s.pwr.frozen = false →
    ∃ u, exec (.closeGraceExpiry n) s = .next (settleAll (ridgeStep u n) n) ∧ roundSt u n = rsCombining ∧
      ∀ x ∈ u.rxs, ∀ c, x.con = some c → c.ctx ≠ n) ∧
  (∀ (n : Nat) (s : State), roundSt s n = rsClosing → s.pwr.frozen = false → (cx s n).imports = [] →
    (∃ t, exec (.closeGraceExpiry n) s = .next t ∧ roundSt t n = rsCombining ∧
      ∀ x ∈ t.rxs, ∀ c, x.con = some c → c.ctx ≠ n)) ∧
  (∀ (n : Nat) (s : State), roundSt s n = rsClosing → anyUncommitted s n = false → s.pwr.frozen = false →
    ∃ u, exec (.roundEnterCombining n) s = .next (ridgeStep u n) ∧ roundSt u n = rsCombining ∧ u.rxs = s.rxs ∧ u.vm = s.vm) ∧
  (∀ (n : Nat) (s : State), roundSt s n = rsClosing → anyUncommitted s n = false → s.pwr.frozen = false → (cx s n).imports = [] →
    (∃ t, exec (.roundEnterCombining n) s = .next t ∧ roundSt t n = rsCombining ∧ t.rxs = s.rxs ∧ t.vm = s.vm)) ∧
  (∀ (n : Nat) (s : State), readyAllowed s n = true → isRootCopy s n = false → s.pwr.frozen = false →
    (∃ t, exec (.roundEnterReady n) s = .next t ∧ roundSt t n = rsReady)) ∧
  (∀ (n : Nat) (s : State), (roundSt s n = rsExported ∨ roundSt s n = rsAbandoned) → s.pwr.frozen = false →
    (∃ t, exec (.areaScrubComplete n) s = .next t ∧ roundSt t n = rsNone ∧ rdE t eCtxState n = cxConfigured ∧
      ∀ e i, entKey e i 0 ≠ entKey eRoundState n 0 → entKey e i 0 ≠ entKey eCtxState n 0 → rdE t e i = rdE s e i)) ∧
  (∀ (n : Nat) (s : State), roundSt s n ≠ rsReady → s.pwr.frozen = false →
    (∃ t, exec (.provTileZero n) s = .next t ∧ t = { s with tiles := t.tiles } ∧
      (∀ x ∈ t.tiles, x ∈ s.tiles) ∧
      ∀ x ∈ t.tiles, x.2.prov = true → tileIn (diesE s n) (rdE s eTileFirst n) (rdE s eTileCount n) x.1 = true →
        ∃ d ∈ s.descs, d.started ≠ [] ∧ tileOfD d = some x.1)) ∧
  (∀ (n : Nat) (s : State), s.pwr.frozen = false →
    ∃ u, exec (.tileRangeRemoval n) s = .next ((if rangeWaits u n then [] else (cx s n).rangeSrc).foldl (answer · · stOk) u) ∧
      u = { s with tiles := u.tiles, ctxs := u.ctxs } ∧
      ∀ k ∈ (cx s n).tileGone, tileLatched s n k = false → (∀ d, d < 6 → stagingTile s n (d * 96 + k) = false) →
        k ∉ (cx u n).tileGone ∧
        ∀ x ∈ u.tiles, x.1 % 48 = k → x.1 / 96 ∉ diesE s n) ∧
  (∀ (n die : Nat) (s : State), subReady s n die = true → s.rng.queue = [] → s.pwr.frozen = false →
    (∃ t, exec (.clearSubtotalEncrypt n die) s = .next t ∧ rdB t rUnavail 0 = satAdd (2 ^ 32 - 1) (rdB s rUnavail 0) 1 ∧
      subReady t n die = true ∧ t.vm = s.vm)) ∧
  (∀ (n : Nat) (s : State), roundSt s n = rsCombining → s.pwr.frozen = false →
    ((childList s n).filter (fun m => !delivered s n (nodeOf s n m))).isEmpty = false →
    (∃ t, exec (.childWaitExpiry n) s = .next t ∧ roundSt t n = rsAbandoned ∧ (cx t n).cohorts = []))

/-- The commands and times of cohorts and contributions (R45, R50 to R52, R125, R417, R418). -/
def Obligations.CohortsOpenShutMerge : Prop :=
  (∀ (src : Src) (n : Nat) (s : State), Accepted s src eCohortCommand n 1 → rdE s eCohortCount n ≠ 0 →
    cohortOpenCheck s n = none →
    (∃ u, exec (.cohortOpen src n) s = .next (answer u src stOk) ∧ ∀ k, cohortOf u n k =
      if (rdE s eCohortFirst n ≤ k ∧ k < rdE s eCohortFirst n + rdE s eCohortCount n) then
        { st := .opened, mode := rdE s eCohortMode n } else cohortOf s n k)) ∧
  (∀ (src : Src) (n : Nat) (s : State), Accepted s src eCohortCommand n 2 → rdE s eCohortCount n ≠ 0 →
    rdE s eCohortFirst n + rdE s eCohortCount n ≤ cohortsOf s n →
    (∀ k ∈ namedCohorts s n, (cohortOf s n k).st = .opened) →
    (∃ u, exec (.cohortShut src n) s = .next (answer u src stOk) ∧ ∀ k, if k ∈ namedCohorts s n then (cohortOf u n k).st = .shut
      else cohortOf u n k = cohortOf s n k)) ∧
  (∀ (n k : Nat) (s : State), s.pwr.frozen = false → (cohortOf s n k).st = .shut → (cohortOf s n k).fixedSet = true →
    (cohortOf s n k).mode ≠ mdMasked → survivors s n k ≠ 0 → rdE s eMinSurvivors n ≤ survivors s n k →
    mergeTypeOk s n (cohortOf s n k).mode = true → accBad s n k = false → (mergeWords s n k (survivors s n k)).isSome = true →
    (∃ u, exec (.cohortMerge n k .none) s = .next (ridgeStep u n) ∧ (cohortOf u n k).st = .merged) ∧
    ((cx s n).imports = [] → (∃ t, exec (.cohortMerge n k .none) s = .next t ∧ (cohortOf t n k).st = .merged))) ∧
  (∀ (n k : Nat) (s : State), s.pwr.frozen = false → (cohortOf s n k).st = .shut → (cohortOf s n k).graceDone = false →
    (∃ t, exec (.cohortCloseGraceExpiry n k) s = .next t ∧ (cohortOf t n k).graceDone = true ∧
      ∀ x ∈ t.rxs, ∀ c, x.con = some c → c.ctx = n → c.cohort ≠ k)) ∧
  (∀ (m : Nat) (x : RxMsg) (c : Contrib) (s : State), s.pwr.frozen = false → rxOf s m = some x → x.con = some c →
    x.verified = true →
    (∃ t, exec (.contributionCommit m .none) s = .next t ∧ rdE t eCommitted c.ctx = satAdd (2 ^ (8 * tyLen eCommitted.ty) - 1) (rdE s eCommitted c.ctx) 1 ∧
      (∀ y ∈ t.rxs, y.id ≠ m) ∧
      .ack x.hdr.keyId x.hdr.srcEp x.hdr.dstEp (keyOf s x.hdr.keyId).ctlNext x.hdr.msgSeq x.hdr.msgPkts x.hdr.msgPkts 0 x.echo
        x.ceSinceAck true ∈ t.sent)) ∧
  (∀ (m : Nat) (x : RxMsg) (s : State), s.pwr.frozen = false → rxOf s m = some x → isAdmission (epOf s x.hdr.dstEp) = true →
    x.verified = false →
    (∃ t, exec (.msgIdleLimitExpiry m) s = .next t ∧ (∀ y ∈ t.rxs, y.id ≠ m) ∧ t.sent = s.sent))

/-- The Masked descriptors, the binding of share buffers and the shares (R98 to R122). -/
def Obligations.MaskedCommandsUnmask : Prop :=
  (∀ (i : Nat) (s : State) (d : Desc), Runs s i 0x20 d → df d 32 1 ≠ 1 →
    (∃ u, exec (.prgExpandDerive i .none) s = .next (completeDesc u d stOk (df d 44 4)) ∧ (∀ x, x ∈ (cx u (dCtx d)).derived ↔ x ∈ (cx s (dCtx d)).derived ∨ x ∈ prgElems s d) ∧
      rdE u eDerived (dCtx d) = (cx u (dCtx d)).derived.length)) ∧
  (∀ (i : Nat) (s : State) (d : Desc) (b : Nat × ShareBuf), Runs s i 0x20 d → df d 32 1 = 1 →
    bufOf s (dCtx d) (df d 36 4) = some b →
    (∃ u, exec (.prgExpandMask i .none) s = .next (completeDesc u d stOk (df d 44 4)) ∧ ∃ x, tfind (cx u (dCtx d)).bufs b.1 = some x ∧
      x.cohort = b.2.cohort ∧ x.seedSum = b.2.seedSum ∧
      ∀ y, y ∈ x.expanded ↔ y ∈ b.2.expanded ∨ y ∈ maskNames s d)) ∧
  (∀ (i : Nat) (s : State) (d : Desc) (b : Nat × ShareBuf), Runs s i 0x21 d → bufOf s (dCtx d) (df d 36 4) = some b →
    (bit (df d 32 1) 0 = false ∨ disagreeing (d.taken.take (latE d eCommitteeThreshold 0)) d.taken = []) →
    (∃ u, exec (.seedRecon i .none) s = .next (completeDesc u d stOk 1) ∧ tfind (cx u (dCtx d)).bufs b.1 = some { b.2 with
      seedSum := seedSumOf (d.taken.take (latE d eCommitteeThreshold 0)), seedDone := true })) ∧
  (∀ (i : Nat) (s : State) (d : Desc), Runs s i 0x22 d → (cohortOf s (dCtx d) (df d 36 4)).st = .shut →
    (bufOf s (dCtx d) (df d 36 4)).isSome = true →
    (∀ h, h < df d 44 4 → maskedRowOk s d (unmaskSum s d) (h + df d 40 4) = true) →
    ∃ st, (st = stOk ∨ st = stSaturated) ∧ (∃ u, exec (.unmask i .none) s = .next (completeDesc u d st (df d 44 4)) ∧ ∀ h, h < df d 44 4 → df d 32 1 * 2 ^ 24 + (h + df d 40 4) ∈ (cohortOf u (dCtx d) (df d 36 4)).rowsDone)) ∧
  (∀ (n k b : Nat) (rest : List Nat) (s : State), s.pwr.frozen = false → (cx s n).bindWait = k :: rest →
    rdE s eMinSurvivors n ≤ survivors s n k →
    (List.range (cfgE s eShareBuffers n)).find? (fun b => (tfind (cx s n).bufs b).isNone) = some b →
    (∃ t, exec (.shareBufferBind n) s = .next t ∧ k ∉ (cx t n).bindWait ∧ tfind (cx t n).bufs b = some {
      cohort := k, survivors := survivors s n k, digest := survivorDigest s n k })) ∧
  (∀ (key : Nat) (m : ShareMsg) (b : Nat × ShareBuf) (s : State), s.pwr.frozen = false → (keyOf s key).st = 1 →
    (keyOf s key).kind = 2 → shareCheck s key m = none → bufOf s (keyOf s key).ctx m.cohort = some b →
    (∃ t, exec (.seedSumShareMessage key m) s = .next t ∧ (∃ x, tfind (cx t (keyOf s key).ctx).bufs b.1 = some x ∧ tfind x.stored m.member = some m.coeffs ∧
        tfind x.storedBy m.member = some (keyOf s key).peerHash) ∧
      t.sent = s.sent ++ [.ack key (keyOf s key).dstEp (keyOf s key).localEp (keyOf s key).ctlNext 0 0 0 0 0 0 true]))

/-- The Montgomery product (R132): the steps, and what they amount to. -/
def Obligations.MontgomeryProduct : Prop :=
  ∀ p mont x y : Nat, 2 ^ 30 < p → p < 2 ^ 31 → p % 2 = 1 → p * mont % 2 ^ 32 = 2 ^ 32 - 1 → x < 2 ^ 31 → y < p →
    montMul p mont x y < p ∧ montMul p mont x y * 2 ^ 32 % p = x * y % p ∧
      montMul p mont x y = (let t := x * y
        let m := t % 2 ^ 32 * mont % 2 ^ 32
        let u := (t + m * p) / 2 ^ 32
        if p ≤ u then u - p else u)

/-- VMUL's OP 4 and OP 5 undo each other on a usable entry (R130, R133). -/
def Obligations.MontgomeryFormRoundTrip : Prop :=
  ∀ w a : Nat, basisOk w = true → a < fld w 0 4 →
    montMul (fld w 0 4) (fld w 4 4) a (fld w 8 4) = a * 2 ^ 32 % fld w 0 4 ∧
      montMul (fld w 0 4) (fld w 4 4) (montMul (fld w 0 4) (fld w 4 4) a (fld w 8 4)) 1 = a

/-- The element-wise descriptors write their results (R132 to R134, R143). -/
def Obligations.ElementWiseResults : Prop :=
  (∀ (i : Nat) (s : State) (d : Desc), Runs s i 0x32 d → mOp d = 0 → modCheck s d = none → modEmpty d = false → WordsInRange s d →
    ∃ u, exec (.vmulProduct i .none) s = .next (completeDesc u d stOk (df d 35 1)) ∧ LimbsWritten s u d (df d 35 1) (fun j t =>
      montMul (limbPrime d j) (limbMont d j) (limbA s d j t) (limbB s d j t))) ∧
  (∀ (i : Nat) (s : State) (d : Desc), Runs s i 0x32 d → mOp d = 1 → modCheck s d = none → modEmpty d = false → WordsInRange s d →
    ∃ u, exec (.vmulScalar i .none) s = .next (completeDesc u d stOk (df d 35 1)) ∧ LimbsWritten s u d (df d 35 1) (fun j t =>
      montMul (limbPrime d j) (limbMont d j) (limbA s d j t) (scalarB s d j))) ∧
  (∀ (i : Nat) (s : State) (d : Desc), Runs s i 0x32 d → mOp d = 2 → modCheck s d = none → modEmpty d = false → WordsInRange s d →
    ∃ u, exec (.vmulAdd i .none) s = .next (completeDesc u d stOk (df d 35 1)) ∧ LimbsWritten s u d (df d 35 1) (fun j t =>
      (limbA s d j t + limbB s d j t) % limbPrime d j)) ∧
  (∀ (i : Nat) (s : State) (d : Desc), Runs s i 0x32 d → mOp d = 3 → modCheck s d = none → modEmpty d = false → WordsInRange s d →
    ∃ u, exec (.vmulSubtract i .none) s = .next (completeDesc u d stOk (df d 35 1)) ∧ LimbsWritten s u d (df d 35 1) (fun j t =>
      (limbA s d j t + limbPrime d j - limbB s d j t) % limbPrime d j)) ∧
  (∀ (i : Nat) (s : State) (d : Desc), Runs s i 0x32 d → mOp d = 4 → modCheck s d = none → modEmpty d = false → WordsInRange s d →
    ∃ u, exec (.vmulToMontgomery i .none) s = .next (completeDesc u d stOk (df d 35 1)) ∧ LimbsWritten s u d (df d 35 1) (fun j t =>
      montMul (limbPrime d j) (limbMont d j) (limbA s d j t) (fld (limbBasis d j) 8 4))) ∧
  (∀ (i : Nat) (s : State) (d : Desc), Runs s i 0x32 d → mOp d = 5 → modCheck s d = none → modEmpty d = false → WordsInRange s d →
    ∃ u, exec (.vmulToStandard i .none) s = .next (completeDesc u d stOk (df d 35 1)) ∧ LimbsWritten s u d (df d 35 1) (fun j t =>
      montMul (limbPrime d j) (limbMont d j) (limbA s d j t) 1)) ∧
  (∀ (i : Nat) (s : State) (d : Desc), Runs s i 0x33 d → mOp d = 0 → modCheck s d = none → modEmpty d = false → WordsInRange s d →
    ∃ u, exec (.vmacAddProduct i .none) s = .next (completeDesc u d stOk (df d 35 1)) ∧ LimbsWritten s u d (df d 35 1) (fun j t =>
      (limbD s d j t + montMul (limbPrime d j) (limbMont d j) (limbA s d j t) (limbB s d j t)) % limbPrime d j)) ∧
  (∀ (i : Nat) (s : State) (d : Desc), Runs s i 0x33 d → mOp d = 1 → modCheck s d = none → modEmpty d = false → WordsInRange s d →
    ∃ u, exec (.vmacAddScalar i .none) s = .next (completeDesc u d stOk (df d 35 1)) ∧ LimbsWritten s u d (df d 35 1) (fun j t =>
      (limbD s d j t + montMul (limbPrime d j) (limbMont d j) (limbA s d j t) (scalarB s d j)) % limbPrime d j)) ∧
  (∀ (i : Nat) (s : State) (d : Desc), Runs s i 0x33 d → mOp d = 2 → modCheck s d = none → modEmpty d = false → WordsInRange s d →
    ∃ u, exec (.vmacSubProduct i .none) s = .next (completeDesc u d stOk (df d 35 1)) ∧ LimbsWritten s u d (df d 35 1) (fun j t =>
      (limbD s d j t + limbPrime d j - montMul (limbPrime d j) (limbMont d j) (limbA s d j t) (limbB s d j t)) % limbPrime d j)) ∧
  (∀ (i : Nat) (s : State) (d : Desc), Runs s i 0x33 d → mOp d = 3 → modCheck s d = none → modEmpty d = false → WordsInRange s d →
    ∃ u, exec (.vmacSubScalar i .none) s = .next (completeDesc u d stOk (df d 35 1)) ∧ LimbsWritten s u d (df d 35 1) (fun j t =>
      (limbD s d j t + limbPrime d j - montMul (limbPrime d j) (limbMont d j) (limbA s d j t) (scalarB s d j)) % limbPrime d j))

/-- The transforms, conversions and automorphisms write their results (R138 to R140, R144, R145).
The model's own choice, no rule of the spec: the words of a conversion whose table or moduli R144 gives no value (log 144). -/
def Obligations.TransformResults : Prop :=
  (∀ (i : Nat) (s : State) (d : Desc), Runs s i 0x30 d → modCheck s d = none → modEmpty d = false → WordsInRange s d →
    (∃ u, exec (.ntt i .none) s = .next (completeDesc u d stOk (df d 35 1)) ∧ LimbsWritten s u d (df d 35 1) (fun j x =>
      ((List.range (2 ^ df d 33 1)).map (fun t => limbA s d j t *
        psiN (limbPrime d j) (fld (limbBasis d j) 12 4) (df d 33 1) ^ ((2 * brv (df d 33 1) x + 1) * t))).sum % limbPrime d j))) ∧
  (∀ (i : Nat) (s : State) (d : Desc), Runs s i 0x31 d → modCheck s d = none → modEmpty d = false → WordsInRange s d →
    (∃ u, exec (.intt i .none) s = .next (completeDesc u d stOk (df d 35 1)) ∧ LimbsWritten s u d (df d 35 1) (fun j =>
      inttAt (limbPrime d j) (psiN (limbPrime d j) (fld (limbBasis d j) 12 4) (df d 33 1)) (df d 33 1) (limbA s d j)))) ∧
  (∀ (i : Nat) (s : State) (d : Desc), Runs s i 0x34 d → mOp d = 0 → modCheck s d = none → modEmpty d = false → WordsInRange s d →
    ∃ u, exec (.baseconvFast i .none) s = .next (completeDesc u d stOk (df d 59 1)) ∧ LimbsWritten s u d (df d 59 1) (fun j t =>
      convOut s d false j t)) ∧
  (∀ (i : Nat) (s : State) (d : Desc), Runs s i 0x34 d → mOp d = 1 → modCheck s d = none → modEmpty d = false → WordsInRange s d →
    ∃ u, exec (.baseconvExact i .none) s = .next (completeDesc u d stOk (df d 59 1)) ∧ LimbsWritten s u d (df d 59 1) (fun j t =>
      convOut s d true j t)) ∧
  (∀ (i : Nat) (s : State) (d : Desc), Runs s i 0x34 d → mOp d = 2 → modCheck s d = none → modEmpty d = false →
    (∃ u, exec (.baseconvPrepare i .none) s = .next (completeDesc u d stOk 1) ∧ ∃ m, u = { setOpMem s d (df d 32 1) (bit (df d 36 1) 2) m with free := u.free } ∧
        (∀ k, k < convSize (df d 35 1) (df d 59 1) →
          mget m (df d 52 6 + k) = BitVec.ofNat 8 ((convTable s.free (df d 34 1)
            ((List.range (df d 35 1)).map (fun x => latPrime d (df d 34 1 + x))) (df d 58 1)
            ((List.range (df d 59 1)).map (fun x => latPrime d (df d 58 1 + x)))).getD k 0)) ∧
        ∀ a, (a < df d 52 6 ∨ df d 52 6 + convSize (df d 35 1) (df d 59 1) ≤ a) →
          mget m a = mget (opMem s d (df d 32 1) (bit (df d 36 1) 2)) a)) ∧
  (∀ (i : Nat) (s : State) (d : Desc), Runs s i 0x35 d → mOp d = 0 → modCheck s d = none → modEmpty d = false → WordsInRange s d →
    ∃ u, exec (.automorphCoefficient i .none) s = .next (completeDesc u d stOk (df d 35 1)) ∧ LimbsWritten s u d (df d 35 1) (fun j x =>
      if (autoCoef (df d 33 1) (mAux d) x).2 then
      (limbPrime d j - limbA s d j (autoCoef (df d 33 1) (mAux d) x).1) % limbPrime d j
    else limbA s d j (autoCoef (df d 33 1) (mAux d) x).1)) ∧
  (∀ (i : Nat) (s : State) (d : Desc), Runs s i 0x35 d → mOp d = 1 → modCheck s d = none → modEmpty d = false → WordsInRange s d →
    ∃ u, exec (.automorphNtt i .none) s = .next (completeDesc u d stOk (df d 35 1)) ∧ LimbsWritten s u d (df d 35 1) (fun j x =>
      limbA s d j (autoSlot (df d 33 1) (mAux d) x)))

/-- The source positions of AUTOMORPH are those of the map X → X^k (R140). -/
def Obligations.AutomorphIsGaloisMap : Prop :=
  ∀ n k u : Nat, 1 ≤ n → n ≤ 17 → k % 2 = 1 → u < 2 ^ n →
    (autoCoef n k u).1 < 2 ^ n ∧
      (autoCoef n k u).1 * k % 2 ^ (n + 1) = (if (autoCoef n k u).2 then u + 2 ^ n else u) ∧
      autoSlot n k u < 2 ^ n ∧ 2 * brv n (autoSlot n k u) + 1 = (2 * brv n u + 1) * k % 2 ^ (n + 1)

/-- INTT(NTT(a)) = a (R139), for every entry that passes R130's checks with ROOT ≠ 0. -/
def Obligations.InttUndoesNtt : Prop :=
  ∀ (w n : Nat) (a : Nat → Nat), basisOk w = true → fld w 12 4 ≠ 0 → 12 ≤ n → n ≤ 17 →
    (∀ t, t < 2 ^ n → a t < fld w 0 4) → ∀ t, t < 2 ^ n →
      inttAt (fld w 0 4) (psiN (fld w 0 4) (fld w 12 4) n) n (nttAt (fld w 0 4) (psiN (fld w 0 4) (fld w 12 4) n) n a) t = a t

/-- The ciphertext descriptors write their result (R175, R178, R179).
The model's own choice, no rule of the spec: COUNT of a result (DEDUCED, log 30). -/
def Obligations.CiphertextResults : Prop :=
  (∀ (i : Nat) (s : State) (d : Desc), SealedReady s i 0x40 d → ctHigh s d (levelA s d) 2 (ctOperandB s d) = false →
    (∃ u, exec (.ctAdd i .none) s = .next (completeDesc u d stOk 1) ∧ ObjectWritten s u d 2 (fun part k t =>
      (ctOperandA s d part k t + ctOperandB s d part k t) % wPrime (limbWord s (dCtx d) (latBasis d) k)))) ∧
  (∀ (i : Nat) (s : State) (d : Desc), SealedReady s i 0x41 d → ctHigh s d (levelA s d) 1 (ctOperandB s d) = false →
    (∃ u, exec (.ctPmul i .none) s = .next (completeDesc u d stOk 1) ∧ ObjectWritten s u d 2 (fun part k t =>
      wMul (limbWord s (dCtx d) (latBasis d) k) (ctOperandA s d part k t) (ctOperandB s d 0 k t)))) ∧
  (∀ (i : Nat) (s : State) (d : Desc), SealedReady s i 0x44 d →
    (∃ u, exec (.moddrop i .none) s = .next (completeDesc u d stOk 1) ∧ ObjectWritten s u d 2
      (dropTo s (dCtx d) (latBasis d) (levelA s d) (df d 34 1) (ctOperandA s d)))) ∧
  (∀ (i : Nat) (s : State) (d : Desc), SealedReady s i 0x42 d → (switchChunks s (dCtx d) (df d 54 2) (levelA s d)).all (labelOk s (dCtx d) (posOf s (dCtx d) (df d 32 1))) = true →
    (∀ k ∈ switchLimbs s (dCtx d) (levelA s d), ∀ j t part, j < digitsUsed s (dCtx d) (levelA s d) →
      t < 2 ^ ksLogN s (dCtx d) → part < 2 →
      keyWord s (dCtx d) (df d 32 1) (df d 54 2) j part k t < wPrime (limbWord s (dCtx d) (latBasis d) k)) →
    (∃ u, exec (.keyswitch i .none) s = .next (completeDesc u d stOk 1) ∧ ∀ part k t, part < 2 → k ≤ levelA s d → t < 2 ^ ksLogN s (dCtx d) →
      objPoly (opMem u d (df d 32 1) (sLoftD d)) (df d 48 6) (levelA s d) (ksLogN s (dCtx d)) part k t =
        switchCt s (dCtx d) (df d 32 1) (df d 54 2) (latBasis d) (levelA s d) (ctOperandA s d) part k t % 2 ^ 32)) ∧
  (∀ (i : Nat) (s : State) (d : Desc), SealedReady s i 0x43 d → (switchChunks s (dCtx d) (df d 54 2) (levelA s d)).all (labelOk s (dCtx d) (posOf s (dCtx d) (df d 32 1))) = true →
    (∀ k ∈ switchLimbs s (dCtx d) (levelA s d), ∀ j t part, j < digitsUsed s (dCtx d) (levelA s d) →
      t < 2 ^ ksLogN s (dCtx d) → part < 2 →
      keyWord s (dCtx d) (df d 32 1) (df d 54 2) j part k t < wPrime (limbWord s (dCtx d) (latBasis d) k)) →
    (∃ u, exec (.rotate i .none) s = .next (completeDesc u d stOk 1) ∧ ∀ part k t, part < 2 → k ≤ levelA s d → t < 2 ^ ksLogN s (dCtx d) →
      objPoly (opMem u d (df d 32 1) (sLoftD d)) (df d 48 6) (levelA s d) (ksLogN s (dCtx d)) part k t =
        switchCt s (dCtx d) (df d 32 1) (df d 54 2) (latBasis d) (levelA s d)
          (fun part k t => ctOperandA s d part k (autoSlot (ksLogN s (dCtx d)) (df d 56 8) t)) part k t % 2 ^ 32))

/-- ENCRYPT_CLEAR, DECRYPT_SHARE and the key-share message (R180 to R182).
The model's own choice, no rule of the spec: how much a draw takes from the queue (DEDUCED, log 23). -/
def Obligations.EncryptionAndShares : Prop :=
  (∀ (i : Nat) (s : State) (d : Desc), Runs s i 0x45 d → df d 35 1 ≠ 1 → sealedCheck s d = none → sReload s d = s →
    sEmpty d = false → s.rng.queue ≠ [] → (publicChunks s (dCtx d) (df d 34 1)).all (labelOk s (dCtx d) (posOf s (dCtx d) (df d 32 1))) = true →
    ∃ st, (st = stOk ∨ st = stInexact ∨ st = stSaturated) ∧ (∃ u, exec (.encryptClearInt32 i .none) s = .next (completeDesc u d st 1) ∧ mrd (opMem u d (df d 32 1) (sLoftD d)) (df d 48 6) 1 = 0x43 ∧ u.rng.queue.length < s.rng.queue.length)) ∧
  (∀ (i : Nat) (s : State) (d : Desc), Runs s i 0x45 d → df d 35 1 = 1 → sealedCheck s d = none → sReload s d = s →
    sEmpty d = false → s.rng.queue ≠ [] → (publicChunks s (dCtx d) (df d 34 1)).all (labelOk s (dCtx d) (posOf s (dCtx d) (df d 32 1))) = true →
    ∃ st, (st = stOk ∨ st = stInexact ∨ st = stSaturated) ∧ (∃ u, exec (.encryptClearFp32Pair i .none) s = .next (completeDesc u d st 1) ∧ mrd (opMem u d (df d 32 1) (sLoftD d)) (df d 48 6) 1 = 0x43 ∧ u.rng.queue.length < s.rng.queue.length)) ∧
  (∀ (i : Nat) (s : State) (d : Desc), Runs s i 0x45 d → df d 35 1 ≠ 1 → sealedCheck s d = none → sEmpty d = true →
    (∃ u, exec (.encryptClearInt32 i .none) s = .next (completeDesc u d stOk 0) ∧ u = s)) ∧
  (∀ (i : Nat) (s : State) (d : Desc), SealedReady s i 0x46 d → s.rng.queue ≠ [] →
    (∃ u, exec (.decryptShare i .none) s = .next (completeDesc u d stOk 1) ∧ mrd (opMem u d (df d 32 1) (sLoftD d)) (df d 48 6) 1 = 0x44 ∧ u.rng.queue.length < s.rng.queue.length)) ∧
  (∀ (key : Nat) (m : KeyShareMsg) (s : State), s.pwr.frozen = false → (keyOf s key).st = 1 → (keyOf s key).kind = 2 →
    keyShareCheck s key m = none →
    (∃ t, exec (.keyShareMessage key m) s = .next t ∧ rdE t eKeyshareState (keyOf s key).ctx = 1 ∧
      t.sent = s.sent ++ [.ack key (keyOf s key).dstEp (keyOf s key).localEp (keyOf s key).ctlNext 0 0 0 0 0 0 true]))

/-- The local Shared descriptors write their rows (R200 to R202). -/
def Obligations.SharedLocalResults : Prop :=
  (∀ (i : Nat) (s : State) (d : Desc), Runs s i 0x50 d → df d 32 1 = 0 → sharedCheck s d = none →
    (∃ u, exec (.shAdd i .none) s = .next (completeDesc u d stOk (shCount d)) ∧ ShareRowsWritten s u d (fun r j =>
      shareWord s (dCtx d) (df d 42 6) r j + shareWord s (dCtx d) (df d 48 6) r j))) ∧
  (∀ (i : Nat) (s : State) (d : Desc), Runs s i 0x50 d → df d 32 1 = 1 → sharedCheck s d = none →
    (∃ u, exec (.shAddPublic i .none) s = .next (completeDesc u d stOk (shCount d)) ∧ ShareRowsWritten s u d (fun r j =>
      if party s (dCtx d) = 0 then shareWord s (dCtx d) (df d 42 6) r j + shareWord s (dCtx d) (df d 48 6) r j
      else shareWord s (dCtx d) (df d 42 6) r j))) ∧
  (∀ (i : Nat) (s : State) (d : Desc), Runs s i 0x50 d → df d 32 1 = 2 → sharedCheck s d = none →
    (∃ u, exec (.shSubtract i .none) s = .next (completeDesc u d stOk (shCount d)) ∧ ShareRowsWritten s u d (fun r j =>
      shareWord s (dCtx d) (df d 42 6) r j + 2 ^ 32 - shareWord s (dCtx d) (df d 48 6) r j))) ∧
  (∀ (i : Nat) (s : State) (d : Desc), Runs s i 0x51 d → sharedCheck s d = none →
    (∃ u, exec (.shScale i .none) s = .next (completeDesc u d stOk (shCount d)) ∧ ShareRowsWritten s u d (fun r j =>
      shAux d * shareWord s (dCtx d) (df d 42 6) r j)))

/-- Exchanges, triples and partner quotes (R203 to R211, R458).
The model's own choice, no rule of the spec: which stored message an exchange takes (DEDUCED, log 31). -/
def Obligations.ExchangesBeginAndStore : Prop :=
  (∀ (i p : Nat) (s : State) (d : Desc), Runs s i 0x52 d → sharedCheck s d = none → shCount d ≠ 0 →
    p ∈ peerList s (dCtx d) → handOf s d p = none →
    (∀ q ∈ peerList s (dCtx d), (handOf s d q).all (handAgrees (xMsg s d xHand [])) = true) →
    (∃ t, exec (.shBeaver i .none) s = .next t ∧ descOf t i = some { d with phase := .waiting 1 } ∧
      ∀ q k, q ∈ peerList s (dCtx d) → bit (rdE s ePeerState (dCtx d)) (peerNo s (dCtx d) q - 1) = true →
        partySession s (dCtx d) q = some k → .exchange k (xMsg s d xHand []) ∈ t.sent)) ∧
  (∀ (i p : Nat) (s : State) (d : Desc), Runs s i 0x53 d → sharedCheck s d = none → shCount d ≠ 0 →
    p ∈ peerList s (dCtx d) → handOf s d p = none →
    (∀ q ∈ peerList s (dCtx d), (handOf s d q).all (handAgrees (xMsg s d xHand [])) = true) →
    (∃ t, exec (.shOpen i .none) s = .next t ∧ descOf t i = some { d with phase := .waiting 1 } ∧
      ∀ q k, q ∈ peerList s (dCtx d) → bit (rdE s ePeerState (dCtx d)) (peerNo s (dCtx d) q - 1) = true →
        partySession s (dCtx d) q = some k → .exchange k (xMsg s d xHand []) ∈ t.sent)) ∧
  (∀ (i : Nat) (s : State) (d : Desc), Runs s i 0x52 d → sharedCheck s d = none → shCount d = 0 →
    (∃ u, exec (.shBeaver i .none) s = .next (completeDesc u d stOk 0) ∧ u = s)) ∧
  (∀ (i : Nat) (s : State) (d : Desc), Runs s i 0x53 d → sharedCheck s d = none → shCount d = 0 →
    (∃ u, exec (.shOpen i .none) s = .next (completeDesc u d stOk 0) ∧ u = s)) ∧
  (∀ (i : Nat) (s : State) (d : Desc), s.pwr.frozen = false → descOf s i = some d →
    (d.phase = .waiting 1 ∨ d.phase = .waiting 2) → dOp d = 0x53 →
    (∃ u, exec (.exchangeTimeoutExpiry i) s = .next (completeDesc u d stTimeout (openedOf s d)) ∧ u.vm = s.vm ∧ u.od = s.od)) ∧
  (∀ (i : Nat) (s : State) (d : Desc), s.pwr.frozen = false → descOf s i = some d →
    (d.phase = .waiting 1 ∨ d.phase = .waiting 2) → dOp d = 0x52 →
    (∃ u, exec (.exchangeTimeoutExpiry i) s = .next (completeDesc u d stTimeout d.units) ∧ u.descs = s.descs ∧
      rdE u eTripleMark (dCtx d) = max (rdE s eTripleMark (dCtx d)) (shAux d + shCount d))) ∧
  (∀ (key : Nat) (m : ExchangeMsg) (s : State), s.pwr.frozen = false → (keyOf s key).st = 1 → exchangeCheck s key m = none →
    (∀ d ∈ s.descs, dOp d ≠ 0x52 ∧ dOp d ≠ 0x53) →
    (∃ t, exec (.exchangeMessage key m) s = .next t ∧ m ∈ (cx t (keyOf s key).ctx).xmsgs ∧
      t.sent = s.sent ++ [.ack key (keyOf s key).dstEp (keyOf s key).localEp (keyOf s key).ctlNext 0 0 0 0 0 0 true])) ∧
  (∀ (key : Nat) (m : TripleMsg) (s : State), s.pwr.frozen = false → (keyOf s key).st = 1 → tripleCheck s key m = none →
    (∃ t, exec (.tripleBatch key m) s = .next t ∧ (cx t (keyOf s key).ctx).triples = (cx s (keyOf s key).ctx).triples ++ [{ batch := m.batch, words := m.words }] ∧
      rdE t eTriplesHeld (keyOf s key).ctx =
        satAdd (2 ^ (8 * tyLen eTriplesHeld.ty) - 1) (rdE s eTriplesHeld (keyOf s key).ctx) 1 ∧
      t.sent = s.sent ++ [.ack key (keyOf s key).dstEp (keyOf s key).localEp (keyOf s key).ctlNext 0 0 0 0 0 0 true])) ∧
  (∀ (key p : Nat) (q : PeerQuote) (s : State), s.pwr.frozen = false → (keyOf s key).st = 1 → (keyOf s key).kind = 3 →
    (peerList s (keyOf s key).ctx).find? (fun p => partyKey s (keyOf s key).ctx p == (keyOf s key).peerHash) = some p →
    q.sigOk = true → fld q.body 32 32 = (keyOf s key).confirm → fld q.body 1 1 = effLc s → bit (fld q.body 2 1) 0 = true →
    fld q.body 418 1 = 1 → fld q.body 448 32 = rdE s ePolicyDigest (keyOf s key).ctx →
    (∃ t, exec (.partnerQuoteCheck key q) s = .next t ∧ ∀ k,
      bit (rdE t ePeerState (keyOf s key).ctx) k =
        (decide (k = peerNo s (keyOf s key).ctx p - 1) || bit (rdE s ePeerState (keyOf s key).ctx) k)))

/-- ACC_INT, ACC_FLOAT, ACC_MASKED, ACC_SHARED and PRELOAD (R240, R241).
The model's own choice, no rule of the spec: the flags of a tile that PRELOAD retypes (DEDUCED, log 34). -/
def Obligations.AccumulationsWriteTheirRows : Prop :=
  (∀ (i : Nat) (s : State) (d : Desc), Runs s i 0x10 d → aOp d ≠ 1 → accCheck s d = none →
    (∃ u, exec (.accIntAdd i .none) s = .next (completeDesc u d (if (aRows d).any (fun x => accIntClamps s d false (tileNow s d) x) then stSaturated else stOk) (aCount d)) ∧ TileWritten s u d (tileNow s d)
        (fun x j => ofS 40 (clampI lo40 hi40 (ti (tileNow s d) x j + srcInt s d x j))) (te (tileNow s d)))) ∧
  (∀ (i : Nat) (s : State) (d : Desc), Runs s i 0x10 d → aOp d = 1 → accCheck s d = none →
    (∃ u, exec (.accIntSubtract i .none) s = .next (completeDesc u d (if (aRows d).any (fun x => accIntClamps s d true (tileNow s d) x) then stSaturated else stOk) (aCount d)) ∧ TileWritten s u d (tileNow s d)
        (fun x j => ofS 40 (clampI lo40 hi40 (ti (tileNow s d) x j - srcInt s d x j))) (te (tileNow s d)))) ∧
  (∀ (i : Nat) (s : State) (d : Desc), Runs s i 0x11 d → accCheck s d = none →
    (∃ u, exec (.accFloat i .none) s = .next (completeDesc u d stOk (aCount d)) ∧ TileWritten s u d (tileNow s d)
      (fun x j => (fNode (tw (tileNow s d) x j, te (tileNow s d) x j) (srcPair s d x j)).1)
      (fun x j => (fNode (tw (tileNow s d) x j, te (tileNow s d) x j) (srcPair s d x j)).2))) ∧
  (∀ (i : Nat) (s : State) (d : Desc), Runs s i 0x12 d → aOp d ≠ 1 → accCheck s d = none →
    (∃ u, exec (.accMaskedAdd i .none) s = .next (completeDesc u d stOk (aCount d)) ∧ TileWritten s u d (tileNow s d)
      (fun x j => (tw (tileNow s d) x j + srcWord s d x j) % 2 ^ aParam d) (te (tileNow s d)))) ∧
  (∀ (i : Nat) (s : State) (d : Desc), Runs s i 0x12 d → aOp d = 1 → accCheck s d = none →
    (∃ u, exec (.accMaskedSubtract i .none) s = .next (completeDesc u d stOk (aCount d)) ∧ TileWritten s u d (tileNow s d)
      (fun x j => (tw (tileNow s d) x j + 2 ^ aParam d - srcWord s d x j) % 2 ^ aParam d) (te (tileNow s d)))) ∧
  (∀ (i : Nat) (s : State) (d : Desc), Runs s i 0x13 d → aOp d ≠ 1 → accCheck s d = none →
    (∃ u, exec (.accSharedAdd i .none) s = .next (completeDesc u d stOk (aCount d)) ∧ TileWritten s u d (tileNow s d)
      (fun x j => (tw (tileNow s d) x j + srcWord s d x j) % 2 ^ 32) (te (tileNow s d)))) ∧
  (∀ (i : Nat) (s : State) (d : Desc), Runs s i 0x13 d → aOp d = 1 → accCheck s d = none →
    (∃ u, exec (.accSharedSubtract i .none) s = .next (completeDesc u d stOk (aCount d)) ∧ TileWritten s u d (tileNow s d)
      (fun x j => (tw (tileNow s d) x j + 2 ^ 32 - srcWord s d x j) % 2 ^ 32) (te (tileNow s d)))) ∧
  (∀ (i : Nat) (s : State) (d : Desc), Runs s i 0x14 d → aOp d ≠ 1 → accCheck s d = none → aCount d ≠ 0 →
    (∃ u, exec (.preloadZero i .none) s = .next (completeDesc u d stOk (aCount d)) ∧ TileWritten s u d
      (retype (tileNow s d) (aCount d) (wantTy d) (wantW d)) (fun _ _ => 0) (fun _ _ => 0))) ∧
  (∀ (i : Nat) (s : State) (d : Desc), Runs s i 0x14 d → aOp d = 1 → accCheck s d = none → aCount d ≠ 0 →
    (∃ u, exec (.preloadLoad i .none) s = .next (completeDesc u d stOk (aCount d)) ∧ TileWritten s u d
      (retype (tileNow s d) (aCount d) (wantTy d) (wantW d))
      (fun x j => if wantTy d = 1 then ofS 40 (toS 32 (srcWord s d x j)) else if wantTy d = 2 then srcWord s d x j % 2 ^ 32
        else srcWord s d x j)
      (fun x j => if wantTy d = 2 then srcWord s d x j / 2 ^ 32
        else te (retype (tileNow s d) (aCount d) (wantTy d) (wantW d)) x j)))

/-- The four DRAIN forms, SAVE and RESTORE (R244 to R253).
The model's own choice, no rule of the spec: a padding element that is not exported clamps and rounds nothing (DESIGN
CHOICE, log 148). -/
def Obligations.TileRowsLeaveAndReturn : Prop :=
  (∀ (c : Instr) (i : Nat) (s : State) (d : Desc), Runs s i 0x15 d → accCheck s d = none →
    ((c = .drainNative i .none ∧ aOp d = 0) ∨ (c = .drainDequant i .none ∧ aOp d = 1) ∨
      (c = .drainMean i .none ∧ aOp d = 2) ∨ (c = .drainFused i .none ∧ aOp d = 3)) →
    (∃ u, exec c s = .next (completeDesc u d (drainStatus s d) (aCount d)) ∧ (aX d = 0 → ∀ x j, Named d x → j < 1024 →
        ((tileNow s d).prov = false ∨ 1024 * drainGlobal s d x + j < cfgE s eVectorLength (dCtx d)) →
        mrd (opMem u d (df d 32 1) (aLoft d)) (aAddr d + (x - aFirst d) * aRowBytes d + j * drainSize (aFmt d)) (drainSize (aFmt d))
          = (drainOut s d x (safetyExp s d x) j).1 % 2 ^ (8 * drainSize (aFmt d))) ∧
      (aLoft d = true → aOp d ≠ 3 → ocb s d 16 8 ≠ 0 → ∀ x, Named d x →
        mrd (vmOf u (dCtx d)) (ocb s d 16 8 + 32 * (x - aFirst d)) 32 = drainStat s d x 0 % 2 ^ 256) ∧
      ∀ n, n ≠ dCtx d → vmOf u n = vmOf s n)) ∧
  (∀ (i : Nat) (s : State) (d : Desc), Runs s i 0x16 d → accCheck s d = none →
    (∃ u, exec (.save i .none) s = .next (completeDesc u d stOk (aCount d)) ∧ ∃ m, u = setOpMem s d (df d 32 1) (aLoft d) m ∧
      ∀ x, Named d x →
        mrd m (recAt d x) 4 = (tileNow s d).ty % 256 + 256 * ((tileNow s d).laneW % 256) +
          65536 * (b2n ((tileNow s d).sat.contains x) + 2 * b2n ((tileNow s d).rangeF.contains x)) ∧
        mrd m (recAt d x + 4) 4 = crc32c (rowBytes (tileNow s d) x) % 2 ^ 32 ∧
        ∀ j, j < 1024 → mrd m (recAt d x + 64 + 8 * j) 8 = tRaw (tileNow s d) x j % 2 ^ 64)) ∧
  (∀ (i : Nat) (s : State) (d : Desc), Runs s i 0x17 d → accCheck s d = none → aCount d ≠ 0 →
    restoreOk (srcMem s d (df d 32 1) (aLoft d) (aAddr d) (aBytes d)) d (tileNow s d) = true →
    (∃ u, exec (.restore i .none) s = .next (completeDesc u d stOk (aCount d)) ∧ ∃ t, u = putTile s d t ∧ ∀ x, Named d x →
      (∀ j, j < 1024 → tRaw t x j =
        if t.ty = 1 then ofS 64 (toS 40 (mrd (srcMem s d (df d 32 1) (aLoft d) (aAddr d) (aBytes d)) (recAt d x + 64 + 8 * j) 8 % 2 ^ 40))
        else mrd (srcMem s d (df d 32 1) (aLoft d) (aAddr d) (aBytes d)) (recAt d x + 64 + 8 * j) 8) ∧
      (x ∈ t.sat ↔ bit (mrd (srcMem s d (df d 32 1) (aLoft d) (aAddr d) (aBytes d)) (recAt d x + 2) 1) 0 = true) ∧
      (x ∈ t.rangeF ↔ bit (mrd (srcMem s d (df d 32 1) (aLoft d) (aAddr d) (aBytes d)) (recAt d x + 2) 1) 1 = true))) ∧
  (∀ (i : Nat) (s : State) (d : Desc), Runs s i 0x17 d → accCheck s d = none → aCount d ≠ 0 →
    restoreOk (srcMem s d (df d 32 1) (aLoft d) (aAddr d) (aBytes d)) d (tileNow s d) = false →
    (∃ u, exec (.restore i .none) s = .next (completeDesc u d stIntegrity 0) ∧ u = putTile s d {}))

/-- REDUCE_MAX and REDUCE_MIN (R255 to R257). -/
def Obligations.ReductionsFindTheFirstWinner : Prop :=
  (∀ (i p : Nat) (s : State) (d : Desc), Runs s i 0x60 d → accCheck s d = none → Counts s d p →
    (∀ q, Counts s d q → ¬ Before s d p q) → (∀ q, q < p → Counts s d q → Before s d q p) →
    (∃ u, exec (.reduceMax i .none) s = .next (completeDesc u d stOk (rCount d)) ∧ ResultWritten s u d (redValue (aFmt d) (redElem s d p)) (rBase d + p))) ∧
  (∀ (i p : Nat) (s : State) (d : Desc), Runs s i 0x61 d → accCheck s d = none → Counts s d p →
    (∀ q, Counts s d q → ¬ Before s d q p) → (∀ q, q < p → Counts s d q → Before s d p q) →
    (∃ u, exec (.reduceMin i .none) s = .next (completeDesc u d stOk (rCount d)) ∧ ResultWritten s u d (redValue (aFmt d) (redElem s d p)) (rBase d + p))) ∧
  (∀ (i : Nat) (s : State) (d : Desc), Runs s i 0x60 d → accCheck s d = none → (∀ q, ¬ Counts s d q) →
    (∃ u, exec (.reduceMax i .none) s = .next (completeDesc u d stEmpty (rCount d)) ∧ ResultWritten s u d (redNeutral (aFmt d) true) 0xFFFFFFFF)) ∧
  (∀ (i : Nat) (s : State) (d : Desc), Runs s i 0x61 d → accCheck s d = none → (∀ q, ¬ Counts s d q) →
    (∃ u, exec (.reduceMin i .none) s = .next (completeDesc u d stEmpty (rCount d)) ∧ ResultWritten s u d (redNeutral (aFmt d) false) 0xFFFFFFFF))

/-- CQ_CONFIG, CQ_DOORBELL, the fetcher and the Carousel (R266 to R273, R290, R291).
The model's own choices, no rule of the spec: SOURCE is any one of the engines (DESIGN CHOICE, log 84), what a pointer fault of a
lane flushes and records (DESIGN CHOICE, log 149), and when a FENCE has started (DEDUCED, log 85). -/
def Obligations.QueuesTakeWork : Prop :=
  (∀ (f q v : Nat) (s : State), bar0Up s f = true → q < 64 → bit v 31 = true → bit v 30 = false → (cq s f q).enable = false →
    (∃ t, exec (.cqEnable f q v) s = .next t ∧ t = { s with cqs := t.cqs } ∧ (cq t f q).enable = true ∧
      (cq t f q).head = 0 ∧ (cq t f q).prod = 0 ∧ (cq t f q).ctx = bits v 23 16 ∧ (cq t f q).evq = bits v 25 24 ∧
      (cq t f q).cls = bits v 27 26 ∧ (cq t f q).space = bits v 29 29 ∧ (cq t f q).depth = (cq s f q).depth ∧
      (cq t f q).base = (cq s f q).base ∧ ∀ k, k ≠ f * 64 + q → tget t.cqs {} k = tget s.cqs {} k)) ∧
  (∀ (f q v : Nat) (s : State), bar0Up s f = true → q < 64 → bit v 31 = false → (cq s f q).enable = true →
    (∃ t, exec (.cqDisable f q v) s = .next t ∧ (cq t f q).enable = false ∧ (cq t f q).fetchErr = false ∧
      (cq t f q).laneFull = false ∧ ∀ d ∈ t.descs, ∃ x ∈ s.descs, d = { x with aux := d.aux } ∧
        (x.fn = f → x.queue = q → x.started ≠ [] ∨ fenceStarted s x = true))) ∧
  (∀ (f q v : Nat) (s : State), bar0Up s f = true → q < 64 → bit v 30 = true →
    (∃ t, exec (.cqFlush f q v) s = .next t ∧ (cq t f q).enable = false ∧
      ∀ d ∈ t.descs, ∃ x ∈ s.descs, d = { x with aux := d.aux } ∧
        (x.fn = f → x.queue = q → x.started ≠ [] ∨ fenceStarted s x = true))) ∧
  (∀ (f q v : Nat) (s : State), bar0Up s f = true → q < 64 → doorbellBad (cq s f q) (v % 2 ^ 32) = false →
    (∃ t, exec (.cqDoorbell f q v) s = .next t ∧ t = { s with cqs := t.cqs } ∧
      cq t f q = { cq s f q with prod := v % 2 ^ 32 } ∧ ∀ k, k ≠ f * 64 + q → tget t.cqs {} k = tget s.cqs {} k)) ∧
  (∀ (f q v : Nat) (s : State), bar0Up s f = true → q < 64 → doorbellBad (cq s f q) (v % 2 ^ 32) = true →
    (∃ t, exec (.cqDoorbell f q v) s = .next t ∧ t = { s with cqs := t.cqs } ∧
      cq t f q = { cq s f q with overruns := satAdd 0xFFFFFFFF (cq s f q).overruns 1 })) ∧
  (∀ (f q : Nat) (s : State), q < 64 → (cq s f q).enable = true → (cq s f q).depth ≠ 0 → (cq s f q).fetchErr = false →
    (cq s f q).head ≠ (cq s f q).prod → running s = true → fnBlocked s f = false → s.pwr.frozen = false →
    fetchCheck s f (cq s f q) ((cq s f q).base + 64 * ((cq s f q).head % (cq s f q).depth)) = none →
    (∃ t, exec (.descriptorFetch f q .none) s = .next t ∧ (cq t f q).head = ((cq s f q).head + 1) % 2 ^ 32 ∧
      ∃ d, t.descs = s.descs ++ [d] ∧ d.id = s.nextDesc ∧ t.nextDesc = s.nextDesc + 1 ∧ d.fn = f ∧ d.queue = q ∧
        d.seq = (cq s f q).head ∧ d.phase = .held ∧
        d.raw = mrd (if (cq s f q).space = 1 then vmOf s (cq s f q).ctx else s.host)
          ((cq s f q).base + 64 * ((cq s f q).head % (cq s f q).depth)) 64)) ∧
  (∀ (f q : Nat) (s : State) (d : Desc), s.pwr.frozen = false → oldestHeld s f q = some d → isControl (dOp d) = false →
    (∀ x ∈ execDies s d, laneCount s f q x < 8) →
    (∃ t, exec (.descriptorForward f ⟨q, none⟩) s = .next t ∧ descOf t d.id = some { d with phase := .lanes, lanes := execDies s d } ∧
      (q < 64 → (cq t f q).laneFull = false))) ∧
  (∀ (f q x : Nat) (s : State) (d : Desc), s.pwr.frozen = false → oldestHeld s f q = some d → isControl (dOp d) = false →
    x ∈ execDies s d → 8 ≤ laneCount s f q x → q < 64 →
    (∃ t, exec (.descriptorForward f ⟨q, none⟩) s = .next t ∧ t = { s with cqs := t.cqs } ∧
      cq t f q = { cq s f q with laneFull := true })) ∧
  (∀ (f q x : Nat) (s : State), s.pwr.frozen = false → (q ≠ 64 ∨ x ≠ 9) →
    (∃ t, exec (.descriptorForward f ⟨q, some x⟩) s = .next t ∧ (∀ d ∈ t.descs, ∃ y ∈ s.descs, d = { y with aux := d.aux } ∧
        ¬ (y.fn = f ∧ y.queue = q ∧ x ∈ y.lanes)) ∧
      rdE t eHsPtrFaults 0 = satAdd (2 ^ (8 * tyLen eHsPtrFaults.ty) - 1) (rdE s eHsPtrFaults 0) 1)) ∧
  (∀ (die unit : Nat) (s : State) (d : Desc), die < 8 → s.pwr.frozen = false → unitStopped s die unit = false →
    pickHead s die unit = some d → dieState s die < 2 →
    (d.started = [] → (startChecks (freshNext (takeHead s die d)) (startedOn s die unit (copyAtStart s d))).2 = none) →
    (∃ t, exec (.carouselDispatch die unit) s = .next t ∧ ∃ x, descOf t d.id = some x ∧ x.raw = d.raw ∧
      x.unit ∈ x.engs ∧ x.started = d.started ++ [die] ∧ x.lanes = d.lanes.filter (· != die) ∧
      x.engs = d.engs ++ ((engTake s die unit d).getD []).map (die * 32 + ·) ∧ (x.phase = .running ↔ x.lanes = []) ∧
      queueKey die d.fn d.queue ∉ t.promoted)) ∧
  (∀ (f q die : Nat) (s : State) (d : Desc), s.pwr.frozen = false →
    s.descs.find? (fun d => d.fn == f && d.queue == q && eligible s d die) = some d → classOf s d ≠ 0 →
    queueKey die f q ∉ s.promoted →
    (∃ t, exec (.urgentPromotion f q die) s = .next t ∧ t.promoted = s.promoted ++ [queueKey die f q] ∧
      rdE t eStarvePromotions 0 = satAdd (2 ^ (8 * tyLen eStarvePromotions.ty) - 1) (rdE s eStarvePromotions 0) 1 ∧
      t.descs = s.descs))

/-- EVQ_CONFIG, EVQ_DEPTH and event-queue reads (R294 to R303). -/
def Obligations.EventQueuesFillAndDrain : Prop :=
  (∀ (f q v : Nat) (s : State), bar0Up s f = true → q < 4 → bit v 30 = false →
    (∃ t, exec (.evqEnable f q v) s = .next t ∧ t = { s with evqs := t.evqs } ∧ evq t f q = { evq s f q with
      enable := bit v 31,
      vector := bits v 15 8,
      lost := (if bit v 31 = true ∧ (evq s f q).enable = false then 0 else (evq s f q).lost) })) ∧
  (∀ (f q v : Nat) (s : State), bar0Up s f = true → q < 4 → bit v 30 = true →
    (∃ t, exec (.evqFlush f q v) s = .next t ∧ t = { s with evqs := t.evqs } ∧ evq t f q = { evq s f q with
      entries := [],
      lost := satAdd 0xFFFFFFFF (evq s f q).lost (evq s f q).entries.length,
      lostBefore := true,
      vector := bits v 15 8 })) ∧
  (∀ (f q v : Nat) (s : State), bar0Up s f = true → q < 4 →
    (∃ t, exec (.evqDepthWrite f q v) s = .next t ∧ t = { s with evqs := t.evqs } ∧
      (evq t f q).depth = evqDepthOf (v % 2 ^ 32) ∧ (evq t f q).enable = (evq s f q).enable ∧
      (evq t f q).entries.length = min (evq s f q).entries.length (evqDepthOf (v % 2 ^ 32)) ∧
      (evq t f q).entries.drop 1 = ((evq s f q).entries.drop ((evq s f q).entries.length - evqDepthOf (v % 2 ^ 32))).drop 1 ∧
      (evq t f q).lost = (if (evq s f q).entries.length ≤ evqDepthOf (v % 2 ^ 32) then (evq s f q).lost
        else satAdd 0xFFFFFFFF (evq s f q).lost ((evq s f q).entries.length - evqDepthOf (v % 2 ^ 32))))) ∧
  (∀ (f q h : Nat) (r : List Nat) (s : State), bar0Up s f = true → q < 4 → (evq s f q).entries = h :: r →
    (∃ t, exec (.eventQueueRead f q 16 false) s = .next t ∧ t = { s with evqs := t.evqs, sent := s.sent ++ [.regData h] } ∧
      evq t f q = { evq s f q with entries := r })) ∧
  (∀ (f q z : Nat) (p : Bool) (s : State), (bar0Up s f = false ∨ 4 ≤ q ∨ z ≠ 16 ∨ ((evq s f q).entries = [] ∧ p = false)) →
    (∃ t, exec (.eventQueueRead f q z p) s = .next t ∧ t = { s with sent := s.sent ++ [.regData 0] }))

/-- SYN_VALUE_WRITE, SYN_ADD, TRIGGER_POST and the firing of triggers (R277, R278, R288, R289).
The model's own choice, no rule of the spec: the origin of firing numbers (DEDUCED, log 16). -/
def Obligations.CountersAndTriggers : Prop :=
  (∀ (f c v : Nat) (s : State), bar0Up s f = true → c < 16384 → ownsCounter s f c = true →
    (∃ t, exec (.synValueWrite f c v) s = .next t ∧ synGet t c = v % 2 ^ 32 ∧ (∀ k, k ≠ c → synGet t k = synGet s k) ∧
      (∀ p, tfind t.trigs (p) = none ↔ tfind s.trigs p = none) ∧
      ∀ p x, tfind t.trigs p = some x → x.counter = c → x.threshold ≤ v % 2 ^ 32 → keysRise s.trigs = true → x.fired = true)) ∧
  (∀ (f c v : Nat) (s : State), bar0Up s f = true → c < 16384 → ownsCounter s f c = true →
    (∃ t, exec (.synAdd f c v) s = .next t ∧ synGet t c = satAdd 0xFFFFFFFF (synGet s c) (v % 2 ^ 32) ∧
      (∀ k, k ≠ c → synGet t k = synGet s k) ∧
      ∀ p x, tfind t.trigs p = some x → x.counter = c → x.threshold ≤ synGet t c → keysRise s.trigs = true → x.fired = true)) ∧
  (∀ (f c v : Nat) (s : State), bar0Up s f = true → c < 16384 → ownsCounter s f c = false →
    ((∃ t, exec (.synValueWrite f c v) s = .next t ∧ t.syn = s.syn ∧ t.trigs = s.trigs ∧
      rdE t eSynForeign 0 = satAdd (2 ^ (8 * tyLen eSynForeign.ty) - 1) (rdE s eSynForeign 0) 1)) ∧
    (∃ t, exec (.synAdd f c v) s = .next t ∧ t.syn = s.syn ∧ t.trigs = s.trigs ∧
      rdE t eSynForeign 0 = satAdd (2 ^ (8 * tyLen eSynForeign.ty) - 1) (rdE s eSynForeign 0) 1)) ∧
  (∀ (i : Nat) (s : State) (d : Desc), Holds s i 0x74 d → condMet s d = true → df d 32 1 ≠ 1 → triggerCheck s d = none →
    (∃ u, exec (.triggerArm i) s = .next (completeDesc u d stOk 0) ∧ ∃ x, tfind u.trigs (d.fn * 256 + df d 34 2) = some x ∧
      x.raw = mrd (vmOf s (dCtx d)) (df d 44 6) 64 ∧ x.addr = df d 44 6 ∧ x.cls = df d 33 1 ∧ x.counter = df d 36 4 ∧
      x.threshold = df d 40 4 ∧ (x.fired = true ↔ df d 40 4 ≤ synGet s (df d 36 4)))) ∧
  (∀ (i : Nat) (s : State) (d : Desc), Holds s i 0x74 d → condMet s d = true → df d 32 1 = 1 →
    (∃ u, exec (.triggerCancel i) s = .next (completeDesc u d stOk 0) ∧ ∀ p, tfind u.trigs p =
      if p = d.fn * 256 + df d 34 2 ∧ (tfind s.trigs p).all (fun x => !x.fired) = true then none else tfind s.trigs p)) ∧
  (∀ (c : Instr) (f slot : Nat) (x : Trig) (s : State), (c = .triggerFire f slot ∨ c = .triggerStreamEntry f slot) →
    s.pwr.frozen = false → tfind s.trigs (f * 256 + slot) = some x → x.fired = true →
    (tget s.firedWait [] f).head? = some slot → (streamHeld s f).length < 256 →
    (∃ t, exec c s = .next t ∧ tfind t.trigs (f * 256 + slot) = none ∧
      tget t.stream [] f = streamHeld s f ++ [s.nextDesc] ∧
      tget t.firings 0 f = (tget s.firings 0 f + 1) % 2 ^ 32 ∧
      ∃ d, t.descs = s.descs ++ [d] ∧ d.id = s.nextDesc ∧ d.raw = x.raw ∧ d.queue = 64 ∧ d.fn = f ∧
        d.seq = tget s.firings 0 f ∧ d.addr = x.addr))

/-- WAIT, SIGNAL, FENCE and NOP (R287).
The model's own choice, no rule of the spec: WAIT without WAIT_EN (DEDUCED, log 80), and when its checks and those of FENCE are made (DEDUCED, log 85). -/
def Obligations.ControlDescriptorsComplete : Prop :=
  (∀ (i : Nat) (s : State) (d : Desc), Holds s i 0x70 d → df d 32 4 ≤ 10000000 → (condMet s d = true ∨ d.aux = 1) →
    (∃ u, exec (.wait i) s = .next (completeDesc u d stOk 0) ∧ u = s)) ∧
  (∀ (i : Nat) (s : State) (d : Desc), Holds s i 0x70 d → df d 32 4 ≤ 10000000 → df d 32 4 ≠ 0 → condMet s d = false →
    (∃ u, exec (.waitTimeout i) s = .next (completeDesc u d (if d.aux = 1 then stOk else stTimeout) 0) ∧ u = s) ∧
      (d.aux ≠ 1 → exec (.wait i) s = .next s)) ∧
  (∀ (i : Nat) (s : State) (d : Desc), Holds s i 0x71 d → condMet s d = true → df d 32 1 ≠ 1 → dSignalEn d = true →
    (∃ u, exec (.signalAdd i) s = .next (completeDesc u d stOk 0) ∧ u = s)) ∧
  (∀ (i : Nat) (s : State) (d : Desc), Holds s i 0x71 d → condMet s d = true → df d 32 1 = 1 → dSignalEn d = true →
    (∃ t, exec (.signalSet i) s = .next t ∧ synGet t (dSigCtr d) = dSigInc d ∧
      (∀ k, k ≠ dSigCtr d → synGet t k = synGet s k) ∧ descOf t i = none)) ∧
  (∀ (c : Instr) (i : Nat) (s : State) (d : Desc), Holds s i 0x72 d → condMet s d = true → scopeClear s d = true →
    ((c = .fenceQueue i ∧ df d 32 1 = 0) ∨ (c = .fenceContext i ∧ df d 32 1 = 1) ∨ (c = .fenceFunction i ∧ df d 32 1 = 2)) →
    (∃ u, exec c s = .next (completeDesc u d stOk 0) ∧ u = s)) ∧
  (∀ (c : Instr) (i : Nat) (s : State) (d : Desc), Holds s i 0x72 d → scopeClear s d = false →
    (c = .fenceQueue i ∨ c = .fenceContext i ∨ c = .fenceFunction i) → exec c s = .next s) ∧
  (∀ (i : Nat) (s : State) (d : Desc), Holds s i 0x73 d → condMet s d = true → (∃ u, exec (.nop i) s = .next (completeDesc u d stOk 0) ∧ u = s))

/-- COPY, FILL and SCRUB (R283, R498).
The model's own choice, no rule of the spec: the free bytes that a COPY of round-total rows leaves where padding stands
(DESIGN CHOICE, log 148). -/
def Obligations.MoversWriteTheirDestination : Prop :=
  (∀ (i : Nat) (s : State) (d : Desc), Runs s i 0x00 d → moveCheck s d = none →
    (mvSrcLoft d = true ∨ inTotal s (dCtx d) (mvSrc d) (mvLen d) = false) →
    memWf (srcMem s d (df d 32 1) (mvSrcLoft d) (mvSrc d) (mvLen d)) = true →
    (∃ u, exec (.copy i .none) s = .next (completeDesc u d stOk (mvLen d)) ∧ BytesMoved s u d (fun k =>
      mget (srcMem s d (df d 32 1) (mvSrcLoft d) (mvSrc d) (mvLen d)) (mvSrc d + k)))) ∧
  (∀ (i : Nat) (s : State) (d : Desc), Runs s i 0x00 d → moveCheck s d = none →
    mvSrcLoft d = false → inTotal s (dCtx d) (mvSrc d) (mvLen d) = true →
    memWf (srcMem s d (df d 32 1) false (mvSrc d) (mvLen d)) = true →
    (∃ u, exec (.copy i .none) s = .next (completeDesc u d stOk (mvLen d)) ∧ BytesMoved (exportTake s (dCtx d) (mvSrc d) (mvLen d)) u d (fun k =>
      mget (exportView s (dCtx d) (srcMem s d (df d 32 1) false (mvSrc d) (mvLen d))) (mvSrc d + k)))) ∧
  (∀ (i : Nat) (s : State) (d : Desc), Runs s i 0x01 d → moveCheck s d = none →
    (∃ u, exec (.fill i .none) s = .next (completeDesc u d stOk (mvLen d)) ∧ BytesMoved s u d (fun k =>
      BitVec.ofNat 8 (fld (df d 56 8) (k % 8) 1)))) ∧
  (∀ (i : Nat) (s : State) (d : Desc), Runs s i 0x02 d → moveCheck s d = none →
    (∃ u, exec (.scrub i .none) s = .next (completeDesc u d stOk (mvLen d)) ∧ BytesMoved s u d (fun k =>
      BitVec.ofNat 8 (fld (scrubWord (mvDst d + 64 * (k / 64)) (k / 8 % 8)) (k % 8) 1))))

/-- The steps of training and the loss of a cable (R308 to R313, R331). -/
def Obligations.PortTrainingSteps : Prop :=
  (∀ (p : Nat) (s : State), (portOf s p).cable = false → pinsUp s = true →
    (∃ t, exec (.cableInsertion p) s = .next t ∧ PortBecomes s t p { portOf s p with cable := true, debounced := false })) ∧
  (∀ (p : Nat) (s : State), (portOf s p).cable = true → (portOf s p).debounced = false → pinsUp s = true →
    (∃ t, exec (.cableDebounceDone p) s = .next t ∧ t = { s with ports := t.ports } ∧ (portOf t p).debounced = true ∧
      (portOf t p).st = (if (portOf s p).enable = true ∧ coreUp s p = true then 1 else (portOf s p).st))) ∧
  (∀ (p lanes : Nat) (s : State), (portOf s p).st = 1 → coreUp s p = true →
    (∃ t, exec (.laneSignalDetected p lanes) s = .next t ∧ t = { s with ports := t.ports } ∧
      (portOf t p).lanesGood = putBit (lanes % (if sparePowered s (portOf s p) = true then 512 else 256)) (portOf s p).outLane false ∧
      ((portOf t p).st = 2 ↔ 4 ≤ popCount 9 (portOf t p).lanesGood) ∧ ((portOf t p).st = 1 ∨ (portOf t p).st = 2))) ∧
  (∀ (p : Nat) (s : State), (portOf s p).st = 2 → (portOf s p).trainStep = 2 → coreUp s p = true →
    (∃ t, exec (.laneEqualisationDone p) s = .next t ∧ PortBecomes s t p { portOf s p with trainStep := 3 })) ∧
  (∀ (p : Nat) (s : State), (portOf s p).st = 2 → (portOf s p).trainStep = 3 → coreUp s p = true →
    (∃ t, exec (.laneDeskewDone p) s = .next t ∧ t = { s with ports := t.ports } ∧
      (portOf t p).st = if (portOf s p).verified = true then 4 else 3)) ∧
  (∀ (p : Nat) (s : State), 1 ≤ (portOf s p).st → (portOf s p).st ≤ 2 → (portOf s p).hold = false → coreUp s p = true →
    (∃ t, exec (.trainingTimeout p) s = .next t ∧ (portOf t p).failsInRow = (portOf s p).failsInRow + 1 ∧
      (portOf t p).st = (if 2 ≤ (portOf s p).failsInRow then 6 else 1) ∧ CountedB s t (portBase p + 0x24) 4)) ∧
  (∀ (p : Nat) (s : State), (portOf s p).cable = true → pinsUp s = true → s.pwr.inReset = false →
    (∃ t, exec (.cableRemoval p false) s = .next t ∧ (portOf t p).cable = false ∧ (portOf t p).st = 0 ∧
      (portOf t p).verified = false ∧ t.faultSeq = s.faultSeq + 1)) ∧
  (∀ (p : Nat) (s : State), (portOf s p).cable = true → coreUp s p = true → (portOf s p).hold = false →
    2 ≤ (portOf s p).st → (portOf s p).st ≤ 4 →
    (∃ t, exec (.cableRemoval p true) s = .next t ∧ (portOf t p).cable = true ∧ (portOf t p).st = 1 ∧
      (portOf t p).verified = false ∧ t.faultSeq = s.faultSeq + 1))

/-- Port verification, link keys, link frames, SHL_PORT_CTRL and faulty lanes (R309 to R317).
The model's own choice, no rule of the spec: FORCE_HALF on a port that is UP (DEDUCED, log 60), the order of lane repair (DEDUCED, log 117), and which packet a frame's tag
speaks for (DESIGN CHOICE, log 155). -/
def Obligations.PortsAreVerifiedAndControlled : Prop :=
  (∀ (p : Nat) (h : LinkCert) (s : State), (portOf s p).st = 3 → coreUp s p = true → vaultUp s = true → aliasReady s = true →
    s.rng.queue ≠ [] → linkAdmitted s h = true →
    (linkKeys (emit (useAlias (rngTake s 1)) (.linkHand p (linkOwn s ++ aliasSig s (bytesOf (linkT s h) 32)))) p h).isSome = true →
    (∃ t, exec (.linkPeerHandshake p h) s = .next t ∧ (portOf t p).st = 4 ∧ (portOf t p).peer = certModule h ∧
      (portOf t p).peerValid = true ∧ (portOf t p).verified = true ∧ (portOf t p).width = widthOf (portOf s p) ∧
      t.sent = s.sent ++ [.linkHand p (linkOwn s ++ aliasSig s (bytesOf (linkT s h) 32))])) ∧
  (∀ (p : Nat) (h : LinkCert) (s : State), (portOf s p).st = 3 → coreUp s p = true → vaultUp s = true → aliasReady s = true →
    s.rng.queue ≠ [] → linkAdmitted s h = false →
    (∃ t, exec (.linkPeerHandshake p h) s = .next t ∧ (portOf t p).st = 6 ∧ (portOf t p).verified = false ∧
      CountedB s t (portBase p + 0x2C) 4 ∧ t.faultSeq = s.faultSeq + 1)) ∧
  (∀ (p dir frame i : Nat) (s : State), (portOf s p).st = 4 → coreUp s p = true → vaultUp s = true → aliasReady s = true →
    s.rng.queue ≠ [] → dirAt (portOf s p) dir = none → emptySlot s = some i → dirN (portOf s p) dir < frame →
    (∃ t, exec (.linkRekey p dir frame) s = .next t ∧ t.sent = s.sent ++ [.linkKey p dir frame] ∧
      (vslot t i).st = 1 ∧ (vslot t i).purpose = dirPurpose dir ∧ (vslot t i).port = p ∧ (∀ k, k ≠ i → vslot t k = vslot s k) ∧
      dirAt (portOf t p) dir = some frame ∧ (portOf t p).st = 4 ∧ (∀ q, q ≠ p → portOf t q = portOf s q) ∧
      t.rng.queue = s.rng.queue.drop 1)) ∧
  (∀ (p notice c u : Nat) (s : State) (w : Bool), (portOf s p).st = 4 → coreUp s p = true →
    (∃ t, exec (.linkFrameReceive p false ⟨notice, c, u⟩ w) s = .next t ∧ CountedB s t (portBase p + 0x20) 4 ∧
      (portOf t p).st = (if w = true ∧ 15 ≤ (portOf s p).tagRun then 3 else 4) ∧ t.sent = s.sent)) ∧
  (∀ (p c u : Nat) (s : State) (w : Bool), (portOf s p).st = 4 → coreUp s p = true →
    (∃ t, exec (.linkFrameReceive p true ⟨0, c, u⟩ w) s = .next t ∧ (portOf t p).st = 4 ∧ t.sent = s.sent ∧
      heldOn t (portDie p) = tagFirst (p % 13) true (heldOn s (portDie p))) ∧
    (∃ t, exec (.linkFrameReceive p true ⟨1, c, u⟩ w) s = .next t ∧ (portOf t p).st = 5 ∧ (portOf t p).width = 0 ∧
      t.switchq = s.switchq ∧ ∀ q, q ≠ p → portOf t q = portOf s q) ∧
    (∃ t, exec (.linkFrameReceive p true ⟨2, c, u⟩ w) s = .next t ∧ (portOf t p).st = 1 ∧ (portOf t p).hold = true ∧
      (portOf t p).verified = false ∧ t.switchq = s.switchq ∧ ∀ q, q ≠ p → portOf t q = portOf s q)) ∧
  (∀ (p : Nat) (s : State), bar2Up s = true → (portOf s p).enable = true → (portOf s p).st ≠ 6 →
    (∃ t, exec (.portEnable p false) s = .next t ∧ t = { s with ports := t.ports } ∧ (portOf t p).enable = false ∧
      (portOf t p).st = 0 ∧ (portOf t p).verified = false)) ∧
  (∀ (p : Nat) (on : Bool) (s : State), bar2Up s = true → (portOf s p).st = 6 →
    (∃ t, exec (.portEnable p on) s = .next t ∧ t = { s with ports := t.ports } ∧ (portOf t p).enable = on ∧ (portOf t p).st = 6)) ∧
  (∀ (p : Nat) (s : State), bar2Up s = true → (portOf s p).enable = false → (portOf s p).cable = true →
    (portOf s p).debounced = true → coreUp s p = true → (portOf s p).st ≠ 6 →
    (∃ t, exec (.portEnable p true) s = .next t ∧ t = { s with ports := t.ports } ∧ (portOf t p).enable = true ∧ (portOf t p).st = 1)) ∧
  (∀ (p : Nat) (s : State), bar2Up s = true → (portOf s p).enable = true → (portOf s p).cable = true →
    (portOf s p).debounced = true → coreUp s p = true →
    (∃ t, exec (.portRetrain p) s = .next t ∧ t = { s with ports := t.ports } ∧ (portOf t p).st = 1 ∧ (portOf t p).failsInRow = 0)) ∧
  (∀ (p : Nat) (on : Bool) (s : State), bar2Up s = true →
    (∃ t, exec (.portForceHalf p on) s = .next t ∧ t = { s with ports := t.ports } ∧ (portOf t p).forceHalf = on ∧
      (portOf t p).st = (portOf s p).st ∧
      ((portOf s p).st = 4 → (portOf t p).width = widthOf { portOf s p with forceHalf := on }))) ∧
  (∀ (p lane c u : Nat) (s : State), coreUp s p = true → bit (portOf s p).lanesGood lane = true →
    spareTakes s (portOf s p) lane = true →
    (∃ t, exec (.laneFault p ⟨lane, c, u⟩) s = .next t ∧ (portOf t p).st = 4 ∧ (portOf t p).spareInUse = true ∧
      (portOf t p).spareHot = false ∧ bit (portOf t p).lanesGood lane = false ∧ CountedB s t (portBase p + 0x28) 4)) ∧
  (∀ (p lane c u : Nat) (s : State), coreUp s p = true → 2 ≤ (portOf s p).st → (portOf s p).st ≤ 4 → guardLevel s = 0 → lane < 8 →
    bit (portOf s p).lanesGood lane = true → (portOf s p).spareInUse = false →
    ((portOf s p).st = 4 → carries (portOf s p) lane = true) →
    (∃ t, exec (.laneFault p ⟨lane, c, u⟩) s = .next t ∧ (portOf t p).st = 1 ∧ (portOf t p).spareInUse = true ∧
      CountedB s t (portBase p + 0x28) 4))

/-- SWITCH_FORWARD and PACKET_RESIDENCE_EXPIRY (R322 to R328).
The model's own choice, no rule of the spec: an egress sends at a tick (DESIGN CHOICE, log 61), and what a fence drops (DEDUCED, log 114). -/
def Obligations.SwitchForwardsAndDrops : Prop :=
  (∀ (die inPort c : Nat) (k : Pkt) (s : State), portDieUp s die = true → unitStopped s die 1 = false → fnBlocked s k.tclass = false →
    swEgress s die k = some c → (13 ≤ c ∨ k.hops < 64) →
    (∃ t, exec (.switchForward die inPort k) s = .next t ∧ ∃ l h, heldOn t die = l ++ [h] ∧ l.length = (heldOn s die).length ∧
      ((∀ x ∈ heldOn s die, x.egress = c → x.waits = false) → l = heldOn s die ∧
        (h.waits = true ↔ c < 13 ∧ 262144 < egressBytes s die c + pktBytes h.pkt)) ∧ h.inPort = inPort ∧ h.egress = c ∧
      h.pkt.dstModule = k.dstModule ∧ h.pkt.hops = (if c < 13 then k.hops + 1 else k.hops) ∧ h.vl / 2 = k.service ∧
      h.vl % 2 = b2n h.pkt.dateline ∧ (k.cm = true → h.pkt.cm = true) ∧ t.bar2 = s.bar2)) ∧
  (∀ (die inPort c : Nat) (k : Pkt) (s : State), portDieUp s die = true → unitStopped s die 1 = false → fnBlocked s k.tclass = false →
    swEgress s die k = some c → c < 13 → 64 ≤ k.hops →
    (∃ t, exec (.switchForward die inPort k) s = .next t ∧ t.switchq = s.switchq ∧ CountedB s t (swBase die + 0x12018) 8)) ∧
  (∀ (die inPort : Nat) (k : Pkt) (s : State), portDieUp s die = true → unitStopped s die 1 = false → fnBlocked s k.tclass = false →
    swEgress s die k = none →
    (∃ t, exec (.switchForward die inPort k) s = .next t ∧ t.switchq = s.switchq ∧ CountedB s t (swBase die + 0x12020) 8)) ∧
  (∀ (die inPort : Nat) (k : Pkt) (s : State), portDieUp s die = true → unitStopped s die 1 = false → fnBlocked s k.tclass = true →
    (∃ t, exec (.switchForward die inPort k) s = .next t ∧ t.switchq = s.switchq ∧ t.sent = s.sent)) ∧
  (∀ (die pos : Nat) (s : State), portDieUp s die = true → pos < (heldOn s die).length →
    (∃ t, exec (.packetResidenceExpiry die pos) s = .next t ∧ heldOn t die = (heldOn s die).eraseIdx pos ∧
      (∀ x, x ≠ die → heldOn t x = heldOn s x) ∧ CountedB s t (swBase die + 0x12010) 8 ∧ t.sent = s.sent))

/-- The Ethernet ports (R319 to R321).
The model's own choice, no rule of the spec: the packet is handed on (DEDUCED, log 56). -/
def Obligations.EthernetPortsTakeFrames : Prop :=
  (∀ (src : Src) (p v : Nat) (s : State), anyRoundOpen s = false →
    (Accepted s src eEthMode p v → (∃ u, exec (.ethModeWrite src p 1 v) s = .next (answer u src stOk) ∧ rdE u eEthMode p = v ∧ rdE u eLinkUp p = 0)) ∧
    (Accepted s src eEthInterface p v → (∃ u, exec (.ethModeWrite src p 2 v) s = .next (answer u src stOk) ∧ rdE u eEthInterface p = v ∧ rdE u eLinkUp p = 0))) ∧
  (∀ (p lp : Nat) (s : State), macUp s p = true → lp < ethLps s p →
    (∃ t, exec (.ethLinkUp p lp) s = .next t ∧ bit (rdE t eLinkUp p) lp = true ∧ (∀ k, k ≠ lp → bit (rdE t eLinkUp p) k = bit (rdE s eLinkUp p) k) ∧
      t = { s with od := t.od })) ∧
  (∀ (p lp : Nat) (s : State), s.pwr.frozen = false →
    (∃ t, exec (.ethLinkDown p lp) s = .next t ∧ bit (rdE t eLinkUp p) lp = false ∧ (∀ k, k ≠ lp → bit (rdE t eLinkUp p) k = bit (rdE s eLinkUp p) k) ∧
      t = { s with od := t.od })) ∧
  (∀ (p lp : Nat) (g : EthFrame) (s : State), macUp s p = true → bit (rdE s eLinkUp p) lp = true → frameOk s p g = true →
    frUdp g.data = true → frSumOk g.data = true → frPort g.data = rdE s eStUdpPort 0 →
    (∃ t, exec (.ethFrameReceive p lp g) s = .next t ∧ t = { s with sent := s.sent ++ [.forward (ethDie p) 13 { frPkt g.data with tagOk := g.tagOk }] })) ∧
  (∀ (p lp : Nat) (g : EthFrame) (s : State), macUp s p = true → bit (rdE s eLinkUp p) lp = true → frameOk s p g = true →
    frUdp g.data = false → frAnswered g.data = true → g.rateOk = true →
    (∃ t, exec (.ethFrameReceive p lp g) s = .next t ∧ t = { s with sent := s.sent ++ [.arp p lp] })) ∧
  (∀ (p lp : Nat) (g : EthFrame) (s : State), macUp s p = true → bit (rdE s eLinkUp p) lp = true →
    (frameOk s p g = false ∨ ((frUdp g.data = false ∨ frSumOk g.data = false ∨ frPort g.data ≠ rdE s eStUdpPort 0) ∧ frAnswered g.data = false)) →
    (∃ t, exec (.ethFrameReceive p lp g) s = .next t ∧ t = { s with od := t.od } ∧ Counted s t eRxDiscard p))

/-- Imports, their comparison, root digests, dead paths and job aborts (R332 to R339, R425 to R429).
The model's own choice, no rule of the spec: when copies are compared (DEDUCED, log 42), and which modules are copies (DESIGN CHOICE, log 37). -/
def Obligations.ImportsAndAborts : Prop :=
  (∀ (key : Nat) (m : ImportMsg) (s : State), s.pwr.frozen = false → (keyOf s key).st = 1 → (keyOf s key).kind = 5 →
    importCheck s (keyOf s key).ctx (keyOf s key).peer m = none → roundSt s (keyOf s key).ctx ≠ rsCombining →
    (∃ t, exec (.importReceive key m) s = .next t ∧ { m with child := (keyOf s key).peer } ∈ (cx t (keyOf s key).ctx).imports ∧
      (∃ l, t.sent = s.sent ++ .ack key (keyOf s key).dstEp (keyOf s key).localEp (keyOf s key).ctlNext 0 0 0 0 0 0 true :: l) ∧
      t.vm = s.vm)) ∧
  (∀ (key : Nat) (m : ImportMsg) (s : State), s.pwr.frozen = false → (keyOf s key).st = 1 → (keyOf s key).kind = 5 →
    importCheck s (keyOf s key).ctx (keyOf s key).peer m = none → roundSt s (keyOf s key).ctx = rsCombining →
    (cx s (keyOf s key).ctx).imports = [] → m.ty = ttInt32 → m.tagP = 255 →
    segOf s (keyOf s key).ctx m.rowFirst ∉ addedOf s (keyOf s key).ctx (nodeOf s (keyOf s key).ctx (keyOf s key).peer) → importValid m = true →
    (copiesOf s (keyOf s key).ctx (nodeOf s (keyOf s key).ctx (keyOf s key).peer)).length = 1 →
    (∃ t, exec (.importReceive key m) s = .next t ∧ { m with child := (keyOf s key).peer } ∈ (cx t (keyOf s key).ctx).accepted)) ∧
  (∀ (key : Nat) (m : RidgeMsg) (s : State), s.pwr.frozen = false → (keyOf s key).st = 1 → (keyOf s key).kind = 5 →
    ridgeCheck s (keyOf s key).ctx (keyOf s key).peer (parentsOf s (keyOf s key).ctx) m = none →
    roundSt s (keyOf s key).ctx = rsReady → segOf s (keyOf s key).ctx m.rowFirst < segsOf s (keyOf s key).ctx →
    maySend s (keyOf s key).ctx (keyOf s key).peer = true →
    (∃ t, exec (.recombine key m) s = .next t ∧ t = { s with keys := t.keys, txs := t.txs, nextMsg := t.nextMsg, sent := t.sent } ∧
      t.sent = s.sent ++ [.ack key (keyOf s key).dstEp (keyOf s key).localEp (keyOf s key).ctlNext 0 0 0 0 0 0 true,
        .importSeg (keyOf s key).peer (segMsg s (keyOf s key).ctx (segOf s (keyOf s key).ctx m.rowFirst) 1)])) ∧
  (∀ (key : Nat) (m : RidgeMsg) (s : State), s.pwr.frozen = false → (keyOf s key).st = 1 → (keyOf s key).kind = 5 →
    ridgeCheck s (keyOf s key).ctx (keyOf s key).peer (peersOf s (keyOf s key).ctx) m = none →
    roundSt s (keyOf s key).ctx ≠ rsCombining →
    (∃ t, exec (.rootDigest key m) s = .next t ∧ { m with moduleId := (keyOf s key).peer } ∈ (cx t (keyOf s key).ctx).rootDigests ∧
      t.sent = s.sent ++ [.ack key (keyOf s key).dstEp (keyOf s key).localEp (keyOf s key).ctlNext 0 0 0 0 0 0 true])) ∧
  (∀ (key : Nat) (m : RidgeMsg) (s : State), s.pwr.frozen = false → (keyOf s key).st = 1 → (keyOf s key).kind = 5 →
    ridgeCheck s (keyOf s key).ctx (keyOf s key).peer (peersOf s (keyOf s key).ctx) m = none →
    roundSt s (keyOf s key).ctx = rsCombining → isRootCopy s (keyOf s key).ctx = true → (cx s (keyOf s key).ctx).totalFormed = true →
    peersOf s (keyOf s key).ctx = [(keyOf s key).peer] → segsOf s (keyOf s key).ctx = 1 → segOf s (keyOf s key).ctx m.rowFirst = 0 →
    addedOf s (keyOf s key).ctx rootKey = [] → m.digest = segDigest s (keyOf s key).ctx 0 → m.merged = rdE s eMerged (keyOf s key).ctx →
    (∃ t, exec (.rootDigest key m) s = .next t ∧ roundSt t (keyOf s key).ctx = rsReady)) ∧
  (∀ (n child g : Nat) (s : State), s.pwr.frozen = false → roundSt s n = rsCombining → child ≠ rdE s eModuleId 0 →
    (copiesOf s n (nodeOf s n child)).length = 2 → (segCopies s n (nodeOf s n child) g).length = 1 →
    (∀ m ∈ segCopies s n (nodeOf s n child) g, m.tagP = 255) →
    g ∉ addedOf s n (nodeOf s n child) → g ∉ tget (cx s n).retried [] (nodeOf s n child) →
    (∃ t, exec (.importWaitExpiry n child g) s = .next t ∧ roundSt t n = rsCombining ∧ ∀ c ∈ copiesOf s n (nodeOf s n child),
      .recombine c (cfgE s eJobId n) (rdE s eRoundNumber n) (segFirst s n g) ∈ t.sent)) ∧
  (∀ (sender job round cause origin : Nat) (s : State), rtUp s = true → 1 ≤ cause → cause ≤ 5 → job ≠ 0 →
    jobCtxs s (fun n => abandonable s n && cfgE s eJobId n == job && rdE s eRoundNumber n == round) ≠ [] → (job, round) ∉ s.abortsSeen →
    (∃ t, exec (.jobAbortReceive sender job round cause origin true) s = .next t ∧ Counted s t eAbortsReceived 0 ∧
      (∀ n ∈ jobCtxs s (fun n => abandonable s n && cfgE s eJobId n == job && rdE s eRoundNumber n == round), roundSt t n = rsAbandoned) ∧
      (job, round) ∈ t.abortsSeen)) ∧
  (∀ (die dst : Nat) (s : State), portDieUp s die = true → outstanding s die dst = true →
    (∃ t, exec (.pathDeadExpiry die dst) s = .next t ∧ Counted s t eUnreachable 0 ∧
      ∀ e x, tfind s.eps e = some x → cfgE s eJobId x.ctx = 0 → (∃ m ∈ s.txs, m.die = die ∧ m.dst = dst ∧ m.ep = e) →
        (epOf t e).st ≠ 1))

/-- Reception, parking and delivery (R349 to R357, R391, R399).
The model's own choice, no rule of the spec: what counts against the parking buffer (DEDUCED, log 89), and what a failed fetch leaves (DEDUCED, log 92). -/
def Obligations.PacketsArePlacedAndDelivered : Prop :=
  (∀ (die : Nat) (k : Pkt) (x : RxMsg) (s : State), PacketFits s die k → k.ty = 1 → rxFind s k = some x → agrees x.hdr k = true →
    x.hdr.ty = 1 → k.pktIndex ∉ x.held → seqFar s k = false → (strmOf s k.dstEp k.keyId k.srcEp).isSome = true →
    regionCheck s k = none → sendCheck s k (needsRec s k) = none → x.held.length + 1 < x.hdr.msgPkts → memWf k.payload = true →
    (∃ t, exec (.dataPacketReceive die k) s = .next t ∧ (∃ y, rxOf t x.id = some y ∧ y.held = x.held ++ [k.pktIndex]) ∧
      ∀ a, mget (vmOf t (epOf s k.dstEp).ctx) a =
        if k.addr + 4096 * k.pktIndex ≤ a ∧ a < k.addr + 4096 * k.pktIndex + k.payloadLen
        then mget k.payload (a - (k.addr + 4096 * k.pktIndex)) else mget (vmOf s (epOf s k.dstEp).ctx) a)) ∧
  (∀ (die : Nat) (k : Pkt) (s : State), portDieUp s die = true → headerOk k = true → isData k.ty = true → fnBlocked s k.tclass = false →
    rxFind s k = none → epLive (epOf s k.dstEp) = true → (epOf s k.dstEp).resident = false → parkFull s (homeDie k.dstEp) = false →
    (∃ t, exec (.dataPacketReceive die k) s = .next t ∧ parkedOn t (homeDie k.dstEp) = parkedOn s (homeDie k.dstEp) ++ [k] ∧
      Counted s t ePrkParked 0 ∧ (epOf t k.dstEp).fetching = true ∧ t.vm = s.vm)) ∧
  (∀ (die : Nat) (k : Pkt) (s : State), portDieUp s die = true → (headerOk k = false ∨ isData k.ty = false) →
    (∃ t, exec (.dataPacketReceive die k) s = .next t ∧ Counted s t eRxDropHeader 0 ∧ t.rxs = s.rxs ∧ t.vm = s.vm ∧ t.sent = s.sent)) ∧
  (∀ (die : Nat) (k : Pkt) (s : State), portDieUp s die = true → headerOk k = true → isData k.ty = true → fnBlocked s k.tclass = false →
    rxFind s k = none → epLive (epOf s k.dstEp) = true → (epOf s k.dstEp).resident = true → isAdmission (epOf s k.dstEp) = false →
    keyPasses s k.keyId k.keyGen k.dstEp = false →
    (∃ t, exec (.dataPacketReceive die k) s = .next t ∧ Counted s t eRxDropKey 0 ∧ t.rxs = s.rxs ∧ t.vm = s.vm ∧ t.sent = s.sent)) ∧
  (∀ (m : Nat) (x : RxMsg) (s : State), s.pwr.frozen = false → rxOf s m = some x → x.ackArmed = true →
    (∃ t, exec (.ackTimerExpiry m) s = .next t ∧ t.sent = s.sent ++ [.ack x.hdr.keyId x.hdr.srcEp x.hdr.dstEp
      (keyOf s x.hdr.keyId).ctlNext x.hdr.msgSeq (cumIndex x) x.held.length
      (sackOf x (cumIndex x)) x.echo x.ceSinceAck false] ∧ ∃ y, rxOf t m = some y ∧ y.ackArmed = false ∧ y.newSinceAck = 0)) ∧
  (∀ (m : Nat) (x : RxMsg) (s : State), s.pwr.frozen = false → rxOf s m = some x → x.verified = true → x.con = none →
    x.hdr.ty ≠ 4 → nextSeqOf s x.hdr = x.hdr.msgSeq →
    (∃ t, exec (.messageDelivery m) s = .next t ∧ (∀ y ∈ t.rxs, y.id ≠ m) ∧
      .ack x.hdr.keyId x.hdr.srcEp x.hdr.dstEp (keyOf s x.hdr.keyId).ctlNext x.hdr.msgSeq (cumIndex x) x.held.length (sackOf x (cumIndex x)) x.echo x.ceSinceAck true ∈ t.sent ∧
      (x.hasRec = false → t.vm = s.vm) ∧
      (x.hasRec = true → mrd (vmOf t (epOf s x.hdr.dstEp).ctx) ((regionOf s (epOf s x.hdr.dstEp).rxqRegion).base +
        32 * ((epOf s x.hdr.dstEp).recWritten % (epOf s x.hdr.dstEp).rxqDepth)) 32 = rxRecord x % 2 ^ 256))) ∧
  (∀ (e : Nat) (s : State), s.pwr.frozen = false → epLive (epOf s e) = true → (epOf s e).fetching = true →
    cacheRoom s (homeDie e) = true → (∀ k ∈ parkedOn s (homeDie e), k.dstEp ≠ e) →
    (∃ t, exec (.endpointFetch e true) s = .next t ∧ (epOf t e).resident = true ∧ (epOf t e).fetching = false ∧ Counted s t eEpcFetches 0)) ∧
  (∀ (e : Nat) (s : State), s.pwr.frozen = false → epLive (epOf s e) = true → (epOf s e).fetching = true →
    cacheRoom s (homeDie e) = true →
    (∃ t, exec (.endpointFetch e false) s = .next t ∧ (epOf t e).st = 2 ∧ Counted s t eEpcFetchIntegrity 0 ∧ t.faultSeq = s.faultSeq + 1 ∧
      ∀ k ∈ parkedOn t (homeDie e), k.dstEp ≠ e)) ∧
  (∀ (die pos : Nat) (s : State), s.pwr.frozen = false → pos < (parkedOn s die).length →
    (∃ t, exec (.parkingTimeout die pos) s = .next t ∧ parkedOn t die = (parkedOn s die).eraseIdx pos ∧ Counted s t ePrkDropTimeout 0))

/-- Sending (R345 to R364, R385 to R389).
The model's own choice, no rule of the spec: the payload is that of the message's beginning (DEDUCED, log 90). -/
def Obligations.MessagesAreSentAndAcknowledged : Prop :=
  (∀ (c : Instr) (i op : Nat) (s : State) (d : Desc), ((c = .stWrite i ∧ op = 0x80) ∨ (c = .stSend i ∧ op = 0x81) ∨ (c = .stRead i ∧ op = 0x82)) →
    Runs s i op d → (epOf s (localEp d)).resident = true → stCheck s d = none →
    (∃ t, exec c s = .next t ∧ descOf t i = some { d with phase := .waiting 1 } ∧ ∃ x, t.txs = s.txs ++ [x] ∧ x.desc = d.id ∧
      x.hdr.ty = op - 0x7F ∧ x.ep = localEp d ∧ x.hdr.dstEp = stDstEp d ∧ x.hdr.keyId = stKeyId d ∧ x.data = stPayload s d ∧
      x.len = (if op = 0x82 then 32 else stLen d) ∧ x.hdr.msgPkts = msgPkts x.len)) ∧
  (∀ (m now i : Nat) (x : TxMsg) (s : State), s.txs.find? (fun t => t.id == m) = some x → portDieUp s x.die = true →
    txInWindow s x = true → nextNew x = some i → (rateEnsure s x.die x.dst).isSome = true →
    (∃ t, exec (.packetTransmit m now) s = .next t ∧ Counted s t eTxPackets 0 ∧ ∃ k l, t.sent = s.sent ++ .packet x.die k :: l ∧ (∀ o ∈ l, ∃ p lp fr, o = .eth p lp fr) ∧
      k.pktIndex = i ∧ k.retx = false ∧ k.payloadLen = pktLen x.len i ∧ k.dstEp = x.hdr.dstEp ∧ k.echo = now % 2 ^ 32)) ∧
  (∀ (m i : Nat) (x : TxMsg) (p : TxPkt) (s : State), s.txs.find? (fun t => t.id == m) = some x → tfind x.pkts i = some p →
    p.held = false → portDieUp s x.die = true → (rateOf s x.die x.dst).isSome = true →
    (∃ t, exec (.retransmitTimerExpiry m i) s = .next t ∧ Counted s t eRetxTimeout 0 ∧ ∃ k l, t.sent = s.sent ++ .packet x.die k :: l ∧ (∀ o ∈ l, ∃ p lp fr, o = .eth p lp fr) ∧
      k.pktIndex = i ∧ k.retx = true ∧ k.payloadLen = pktLen x.len i)) ∧
  (∀ (die now : Nat) (k : Pkt) (x : TxMsg) (s : State), (ctlAccept s die 8 k).2 = true → txFind (ctlAccept s die 8 k).1 k = some x →
    bit (mrd k.payload 46 1) 0 = false →
    (∃ t, exec (.ackReceive die now k) s = .next t ∧ ∃ y ∈ t.txs, y.id = x.id ∧ x.cum ≤ y.cum ∧ mrd k.payload 0 4 ≤ y.cum ∧
      ∀ i ∈ newlyHeld x k, (tget y.pkts {} i).held = true)) ∧
  (∀ (die now : Nat) (k : Pkt) (x : TxMsg) (s : State), (ctlAccept s die 8 k).2 = true → txFind (ctlAccept s die 8 k).1 k = some x →
    bit (mrd k.payload 46 1) 0 = true → x.hdr.ty ≠ 3 → x.desc ≠ 0 →
    (∃ t, exec (.ackReceive die now k) s = .next t ∧ descOf t x.desc = none)) ∧
  (∀ (die : Nat) (k : Pkt) (x : TxMsg) (s : State), (ctlAccept s die 9 k).2 = true → txFind (ctlAccept s die 9 k).1 k = some x →
    mrd k.payload 0 1 ∈ statusCodes → x.desc ≠ 0 →
    (∃ t, exec (.statusReceive die k) s = .next t ∧ descOf t x.desc = none)) ∧
  (∀ (die dst : Nat) (r : Rate) (s : State), rateOf s die dst = some r →
    (∃ t, exec (.rateIntervalUpdate die dst) s = .next t ∧ rateOf t die dst = some (rateStep r) ∧ t = { s with rates := t.rates })) ∧
  (∀ (die dst path : Nat) (r : Rate) (s : State), s.pwr.frozen = false → rateOf s die dst = some r →
    (∃ t, exec (.pathMaskRestore die dst path) s = .next t ∧ ∃ q, rateOf t die dst = some q ∧ bit q.mask (path % 256) = true ∧
      (∀ p, p ≠ path % 256 → bit q.mask p = bit r.mask p) ∧ t = { s with rates := t.rates })) ∧
  (∀ (die : Nat) (k : Pkt) (s : State), portDieUp s die = true → headerOk k = true → k.ty = 12 → (keyOf s k.keyId).st = 1 →
    (keyOf s k.keyId).gen = k.keyGen → (keyOf s k.keyId).kind = 7 → ctlFresh (keyOf s k.keyId) k.imm = true →
    (k.tagOk = true → (∃ t, exec (.odPacketReceive die k) s = .next t ∧ t = { s with keys := t.keys } ∧
      ctlFresh (keyOf t k.keyId) k.imm = false)) ∧
    (k.tagOk = false → (∃ t, exec (.odPacketReceive die k) s = .next t ∧ t = { s with od := t.od } ∧ Counted s t eTagFails 0)))

/-- Endpoint doorbells (R384, R393 to R400) and quarantines (R372 to R381).
The model's own choice, no rule of the spec: the generation of a region goes on over its quarantine (DEDUCED, log 48). -/
def Obligations.EndpointCommandsTakeEffect : Prop :=
  (∀ (f e : Nat) (s : State), Doorbell s f e → (epOf s e).st = 2 →
    (∃ t, exec (.resume f e) s = .next t ∧ t = { s with eps := t.eps } ∧ epOf t e = { epOf s e with st := 1 })) ∧
  (∀ (f e : Nat) (s : State), Doorbell s f e → (epOf s e).st = 1 →
    (∃ t, exec (.error f e) s = .next t ∧ (epOf t e).st = 2 ∧ (∀ x ∈ t.txs, x.ep ≠ e) ∧
      (∀ d ∈ t.descs, isTransport (dOp d) = true → localEp d = e → d.fn ≠ f))) ∧
  (∀ (f e : Nat) (s : State), Doorbell s f e → evictable s e = true →
    (∃ t, exec (.evict f e) s = .next t ∧ (epOf t e).resident = false ∧ (epOf t e).evictions = (epOf s e).evictions + 1 ∧
      (epOf t e).st = (epOf s e).st ∧ e ∉ residents t (homeDie e) ∧ Counted s t eEpcEvictions 0)) ∧
  (∀ (f e slot : Nat) (s : State), Doorbell s f e → tget (epOf s e).slots 0 slot = 2 →
    (∃ t, exec (.recycle f e slot) s = .next t ∧ t = { s with eps := t.eps } ∧ tget (epOf t e).slots 0 slot = 0 ∧
      ∀ k, k ≠ slot → tget (epOf t e).slots 0 k = tget (epOf s e).slots 0 k)) ∧
  (∀ (f e count : Nat) (s : State), Doorbell s f e →
    (∃ t, exec (.recordFree f e count) s = .next t ∧ t = { s with eps := t.eps } ∧
      (epOf t e).recFree = (epOf s e).recFree + min count (epOf s e).recOut ∧
      (epOf t e).recOut = (epOf s e).recOut - min count (epOf s e).recOut)) ∧
  (∀ (c : Instr) (f e k : Nat) (s : State),
    (c = .resume f e ∨ c = .error f e ∨ c = .evict f e ∨ c = .recycle f e k ∨ c = .recordFree f e k) → bar0Up s f = true →
    e < 262144 → (epLive (epOf s e) = false ∨ (epOf s e).owner ≠ f) →
    (∃ t, exec c s = .next t ∧ t = { s with od := t.od } ∧ Counted s t eEpForeign f)) ∧
  (∀ (die e : Nat) (s : State), s.pwr.frozen = false → (residents s die).find? (evictable s) = some e →
    (∃ t, exec (.endpointEviction die) s = .next t ∧ (epOf t e).resident = false ∧
      (epOf t e).evictions = (epOf s e).evictions + 1 ∧ Counted s t eEpcEvictions 0)) ∧
  (∀ (e : Nat) (s : State), s.pwr.frozen = false → (epOf s e).st = 3 →
    (∃ t, exec (.endpointQuarantineExpiry e) s = .next t ∧ t = { s with eps := t.eps } ∧ (epOf t e).st = 0 ∧
      (epOf t e).evictions = (epOf s e).evictions ∧ ∀ k, k ≠ e → epOf t k = epOf s k)) ∧
  (∀ (k : Nat) (s : State), s.pwr.frozen = false → (keyOf s k).st = 2 →
    (∃ t, exec (.keyQuarantineExpiry k) s = .next t ∧ t = { s with keys := t.keys } ∧ keyOf t k = { gen := (keyOf s k).gen } ∧
      ∀ j, j ≠ k → keyOf t j = keyOf s j)) ∧
  (∀ (i : Nat) (s : State), s.pwr.frozen = false → (tget s.pds {} i).st = 2 →
    (∃ t, exec (.objectQuarantineExpiry 1 i) s = .next t ∧ t = { s with pds := t.pds } ∧ tget t.pds {} i = {})) ∧
  (∀ (i : Nat) (s : State), s.pwr.frozen = false → (regionOf s i).st = 2 →
    (∃ t, exec (.objectQuarantineExpiry 2 i) s = .next t ∧ t = { s with regions := t.regions } ∧
      regionOf t i = { gen := ((regionOf s i).gen + 1) % 65536 }))

/-- The commands of the object record (R382).
The model's own choice, no rule of the spec: OBJ_STATE and GEN after a QUERY of an object in quarantine (DEDUCED, log 88). -/
def Obligations.ObjectCommandsTakeEffect : Prop :=
  (∀ (src : Src) (s : State), ObjAccepted s src 1 → objCreateCheck s (srcFn src) (objKindOf s src) (objIndexOf s src) = none →
    (∃ u, exec (.objCreate src) s = .next (answer u src stOk) ∧ objSt u (objKindOf s src) (objIndexOf s src) = 1 ∧
      objOwner u (objKindOf s src) (objIndexOf s src) = srcFn src ∧ rdE u eObjResult (srcFn src) = stOk)) ∧
  (∀ (src : Src) (s : State), ObjAccepted s src 2 → (objModify s (srcFn src) (objKindOf s src) (objIndexOf s src)).1 = stOk →
    (∃ u, exec (.objModify src) s = .next (answer u src stOk) ∧ rdE u eObjResult (srcFn src) = stOk ∧
      (objKindOf s src = 2 → regionOf u (objIndexOf s src) = stagedRegion s (srcFn src) (regionOf s (objIndexOf s src))) ∧
      (objKindOf s src = 3 → (epOf u (objIndexOf s src)).rxqDepth = rdE s eRxqDepth (srcFn src) ∧
        (epOf u (objIndexOf s src)).ctx = (epOf s (objIndexOf s src)).ctx ∧
        isAdmission (epOf u (objIndexOf s src)) = isAdmission (epOf s (objIndexOf s src))))) ∧
  (∀ (src : Src) (s : State), ObjAccepted s src 3 → (objKindOf s src = 1 → pdNamed s (objIndexOf s src) = false) →
    (∃ u, exec (.objDestroy src) s = .next (answer u src stOk) ∧ objSt u (objKindOf s src) (objIndexOf s src) ≠ 1 ∧ rdE u eObjResult (srcFn src) = stOk)) ∧
  (∀ (src : Src) (s : State), ObjAccepted s src 4 →
    (∃ u, exec (.advance src) s = .next (answer u src stOk) ∧ (regionOf u (objIndexOf s src)).gen = ((regionOf s (objIndexOf s src)).gen + 1) % 65536 ∧
      rdE u eObjGen (srcFn src) = ((regionOf s (objIndexOf s src)).gen + 1) % 65536 ∧
      (∀ x ∈ u.rxs, x ∈ s.rxs))) ∧
  (∀ (src : Src) (s : State), ObjAccepted s src 5 →
    (∃ u, exec (.query src) s = .next (answer u src stOk) ∧ u = { s with od := u.od } ∧
      (objKindOf s src = 2 → rdE u eObjGen (srcFn src) = (regionOf s (objIndexOf s src)).gen) ∧
      (objKindOf s src = 3 → rdE u eObjState (srcFn src) = (epOf s (objIndexOf s src)).st) ∧
      (objKindOf s src = 4 → rdE u eObjGen (srcFn src) = (keyOf s (objIndexOf s src)).gen ∧
        rdE u eObjState (srcFn src) = (keyOf s (objIndexOf s src)).st ∧
        rdE u eKeyPeer (srcFn src) = keyPeer (keyOf s (objIndexOf s src))))) ∧
  (∀ (src : Src) (s : State), ObjAccepted s src 6 → (keyOf s (objIndexOf s src)).st = 1 →
    (∃ u, exec (.retire src) s = .next (answer u src stOk) ∧ (keyOf u (objIndexOf s src)).st = 2 ∧ (keyOf u (objIndexOf s src)).quar = true ∧
      ∀ e x, x ∈ (epOf u e).streams → x.key ≠ objIndexOf s src)) ∧
  (∀ (src : Src) (n : Nat) (s : State), Accepted s src eObjCommand (srcFn src) 7 → rdE s eObjContext (srcFn src) = n →
    ctxLive s (srcFn src) n = true →
    (∃ u, exec (.advanceCtxKey src) s = .next (answer u src stOk) ∧ ctxKeyGenOf u n = (ctxKeyGenOf s n + 1) % 65536 ∧
      ∀ k, (keyOf u k).st = 1 → (keyOf u k).ctx = n → (keyOf u k).kind = 7))

/-- Session establishment (R403 to R407).
The model's own choice, no rule of the spec: when a module starts a session (DESIGN CHOICE, log 59). -/
def Obligations.SessionsOpenAndClose : Prop :=
  (∀ (die : Nat) (h : HelloMsg) (s : State), sessionDieUp s die = true → (die = dieRt → h.kind = 7) →
    (moduleKind h.kind && initiates s h) = false → h.rngOk = true → h.secretOk = true → helloOk s die h = true →
    (s.hss.filter (fun x => x.step == 2)).length < 1024 →
    (∃ t, exec (.hello die h) s = .next t ∧ ∃ x ∈ t.hss, x.id = s.nextHs ∧ x.step = 2 ∧ x.hello = h ∧ freeKeyId s = some x.keyId ∧
      helloEp s die h = some x.localEp ∧ ∃ l b, (∀ o ∈ l, ∃ p c, o = .credential x.id p c) ∧
      t.sent = s.sent ++ l ++ [.reply x.id x.keyId (((keyOf s x.keyId).gen + 1) % 65536) x.localEp b])) ∧
  (∀ (die e : Nat) (h : HelloMsg) (s : State), sessionDieUp s die = true → (die = dieRt → h.kind = 7) →
    moduleKind h.kind = true → initiates s h = true → aliasReady s = true → h.rngOk = true → helloEp s die h = some e →
    (∃ t, exec (.hello die h) s = .next t ∧ (∃ x ∈ t.hss, x.id = s.nextHs ∧ x.initiator = true ∧ x.step = 1 ∧ x.localEp = e) ∧
      ∃ l b, (∀ o ∈ l, ∃ p c, o = .credential s.nextHs p c) ∧ t.sent = s.sent ++ l ++ [.hello h.peerModule h.kind h.context e b])) ∧
  (∀ (die : Nat) (h : HelloMsg) (s : State), sessionDieUp s die = true → (die = dieRt → h.kind = 7) →
    (moduleKind h.kind && initiates s h) = false → h.rngOk = true → (helloOk s die h = false ∨ h.secretOk = false) →
    (∃ t, exec (.hello die h) s = .next t ∧ t = { s with od := t.od } ∧ Counted s t eSessionFails 0)) ∧
  (∀ (i part : Nat) (c : Credential) (x : Hs) (s : State), running s = true → s.pwr.frozen = false → part < 3 → hsOf s i = some x →
    ((part = 2 ∧ c.aliasOk = true ∧ c.lifecycle = effLc s) ∨ x.credParts.length < 2) →
    (∃ t, exec (.credential i part c) s = .next t ∧ ∃ y, hsOf t i = some y ∧ part ∈ y.credParts ∧ (part = 2 → y.cred = c) ∧
      t.keys = s.keys)) ∧
  (∀ (i pub : Nat) (x : Hs) (s : State), hsOf s i = some x → x.step = 2 → x.initiator = false → sessionDieUp s x.die = true →
    finishOk s x (peerHashOf x pub) true true = true →
    (∃ t, exec (.finish i true true pub) s = .next t ∧ (keyOf t x.keyId).st = 1 ∧ (keyOf t x.keyId).kind = x.hello.kind ∧
      (keyOf t x.keyId).gen = ((keyOf s x.keyId).gen + 1) % 65536 ∧ (keyOf t x.keyId).ctx = x.hello.context ∧
      (keyOf t x.keyId).peerHash = peerHashOf x pub ∧ hsOf t i = none ∧
      t.sent = s.sent ++ [.accept x.keyId (((keyOf s x.keyId).gen + 1) % 65536) stOk
        (acceptBytes stOk x.keyId (((keyOf s x.keyId).gen + 1) % 65536))])) ∧
  (∀ (i pub : Nat) (a b : Bool) (x : Hs) (s : State), hsOf s i = some x → x.step = 2 → x.initiator = false → sessionDieUp s x.die = true →
    finishOk s x (peerHashOf x pub) a b = false →
    (∃ t, exec (.finish i a b pub) s = .next t ∧ t.keys = s.keys ∧ hsOf t i = none ∧ t.sent = s.sent ∧ Counted s t eSessionFails 0)) ∧
  (∀ (i keyId keyGen dstEp : Nat) (x : Hs) (s : State), hsOf s i = some x → x.step = 1 → x.initiator = true →
    sessionDieUp s x.die = true → aliasReady s = true → x.credParts.length = 3 → credOk s x.hello.kind x.cred = true →
    identityOk s x.hello x.cred.identity x.cred = true → keyQuotaOk s x.localEp x.hello.kind = true → keyId < 65535 →
    (keyOf s keyId).st = 0 → (keyOf s keyId).quar = false →
    (∃ t, exec (.reply i keyId keyGen dstEp true true) s = .next t ∧ (∃ b, t.sent = s.sent ++ [.finish i keyId b]) ∧
      ∃ y, hsOf t i = some y ∧ y.step = 3 ∧ y.keyId = keyId ∧ y.keyGen = keyGen ∧ y.peerEp = dstEp)) ∧
  (∀ (i : Nat) (x : Hs) (s : State), hsOf s i = some x → x.step = 3 → x.initiator = true → sessionDieUp s x.die = true →
    (epOf s x.localEp).st = 1 → (keyOf s x.keyId).st = 0 →
    (∃ t, exec (.accept i stOk true) s = .next t ∧ (keyOf t x.keyId).st = 1 ∧ (keyOf t x.keyId).gen = x.keyGen ∧
      (keyOf t x.keyId).dstEp = x.peerEp ∧ hsOf t i = none)) ∧
  (∀ (k : Nat) (s : State), running s = true → s.pwr.frozen = false → (keyOf s k).st = 1 →
    (∃ t, exec (.close k true) s = .next t ∧ (keyOf t k).st = 2) ∧
    (∃ t, exec (.close k false) s = .next t ∧ t = { s with od := t.od } ∧ Counted s t eTagFails 0)) ∧
  (∀ (i : Nat) (x : Hs) (s : State), hsOf s i = some x → x.step = 2 →
    (∃ t, exec (.handshakeTimeout i) s = .next t ∧ hsOf t i = none ∧ t = { s with hss := t.hss }))

/-- RESET_N_DEASSERT, BOOT_COMMIT and IMAGE_COMMIT (R434 to R437, R530).
The model's own choice, no rule of the spec: the queue is empty after the draws of the boot (DEDUCED, log 96), and BOOT_ERROR clears with a good image (DESIGN CHOICE, log 94). -/
def Obligations.BootRunsAndTakesAnImage : Prop :=
  (∀ (b : BootEnv) (s : State), s.pwr.inReset = true → s.pwr.tripped = false → s.pwr.aux = true → s.pwr.v48 = true →
    s.pwr.pwrGood = true → s.pwr.refclk = true → b.fusesOk = true → b.linksOk = true →
    Config.sha256 (bytesOf (b.dieIds % 2 ^ 576) 72) = s.fuses.manifest → b.mramOk = true → s.mram.bootCount ≠ 0xFFFFFFFF →
    b.rngCause = 0 → s.mram.tamperLatch = false →
    (∃ t, exec (.resetNDeassert b) s = .next t ∧ t.boot.st = 1 ∧ t.pwr.inReset = false ∧ t.mram.bootCount = s.mram.bootCount + 1 ∧
      t.boot.lc = fusedLc s.fuses.lifecycle ∧ t.boot.salt = b.salt % 2 ^ 256 ∧ t.rng.st = rngReady ∧ t.rng.queue = [])) ∧
  (∀ (b : BootEnv) (s : State), s.pwr.inReset = true → s.pwr.tripped = false → s.pwr.aux = true → s.pwr.v48 = true →
    s.pwr.pwrGood = true → s.pwr.refclk = true → b.fusesOk = true → b.linksOk = false →
    (∃ t, exec (.resetNDeassert b) s = .next t ∧ t.boot.st = 4 ∧ t.boot.error = 7 ∧ t.mram.bootCount = s.mram.bootCount)) ∧
  (∀ (b : BootEnv) (s : State), s.pwr.inReset = true → s.pwr.tripped = false → s.pwr.aux = true → s.pwr.v48 = true →
    s.pwr.pwrGood = true → s.pwr.refclk = true → b.fusesOk = true → b.linksOk = true →
    Config.sha256 (bytesOf (b.dieIds % 2 ^ 576) 72) = s.fuses.manifest → b.mramOk = true → s.mram.bootCount ≠ 0xFFFFFFFF →
    b.rngCause ≠ 0 →
    (∃ t, exec (.resetNDeassert b) s = .next t ∧ t.boot.st = 4 ∧ t.boot.error = 6 ∧ t.rng.st = rngHalted ∧ t.rng.failCause = b.rngCause)) ∧
  (∀ (len : Nat) (a b : Bool) (s : State), s.boot.st = 1 → s.boot.claim ≠ 2 → s.pwr.frozen = false → memUp s 0 = true →
    imageErr s len (imageOf s.boot.win a b) = none →
    (∃ t, exec (.bootCommit len ⟨a, b⟩) s = .next t ∧ t.boot.st = 3 ∧ t.boot.error = 0 ∧ t.boot.svn = mrd s.boot.win 12 4 ∧
      t.boot.build = mrd s.boot.win 16 4 ∧ t.boot.win = [] ∧ t.boot.claim = 0 ∧
      rdEj t eMrK 0 1 = Config.sha256 (bytesOf (rdEj s eMrK 0 1) 32 ++ mbytes s.boot.win 0 256))) ∧
  (∀ (len e : Nat) (a b : Bool) (s : State), s.boot.st = 1 → s.boot.claim ≠ 2 → s.pwr.frozen = false → memUp s 0 = true →
    imageErr s len (imageOf s.boot.win a b) = some e →
    (∃ t, exec (.bootCommit len ⟨a, b⟩) s = .next t ∧ t.boot.st = 1 ∧ t.boot.error = e ∧ t.boot.win = [] ∧ t.boot.claim = 0 ∧
      t.boot.refusals = satAdd 255 s.boot.refusals 1 ∧ t.od = s.od)) ∧
  (∀ (len : Nat) (a b : Bool) (s : State), Accepted s .port eImageCommit 0 len → s.boot.claim ≠ 1 →
    imageErr s len (imageOf s.boot.win a b) = none →
    (∃ u, exec (.imageCommit len ⟨a, b⟩) s = .next (answer u .port stOk) ∧ u.boot.st = 3 ∧ u.boot.svn = mrd s.boot.win 12 4 ∧
      u.boot.build = mrd s.boot.win 16 4))

/-- The signing keys, the version floor and the measurement registers (R437 to R454). -/
def Obligations.IdentityCommandsTakeEffect : Prop :=
  (∀ (s : State), s.pwr.frozen = false → vaultUp s = true → idReady s = true → s.boot.keysReady = false →
    (∃ t, exec (.aliasTreeGenerated s.boot.aliasIdx) s = .next t ∧ t.boot.keysReady = true ∧ t.boot.aliasPub = aliasPubOf s s.boot.aliasIdx ∧
      t.boot.aliasLeaf = 0 ∧ rdE t eAliasCert 0 = aliasCert s s.boot.aliasIdx (aliasPubOf s s.boot.aliasIdx))) ∧
  (∀ (s : State), s.pwr.frozen = false → vaultUp s = true → idReady s = true → s.boot.keysReady = true →
    768 < s.boot.aliasLeaf → s.boot.aliasLeaf < 1024 → s.boot.nextReady = false →
    (∃ t, exec (.aliasRotation s.mram.aliasNext) s = .next t ∧ t.boot.nextReady = true ∧ t.boot.nextPub = aliasPubOf s s.mram.aliasNext ∧ t.boot.nextIdx = s.mram.aliasNext ∧
      t.mram.aliasNext = s.mram.aliasNext + 1 ∧ t.boot.aliasIdx = s.boot.aliasIdx ∧
      rdE t eAliasNextCert 0 = aliasCert s s.mram.aliasNext (aliasPubOf s s.mram.aliasNext))) ∧
  (∀ (s : State), s.pwr.frozen = false → vaultUp s = true → (effLc s = 1 ∨ effLc s = 2) → 24576 ≤ s.boot.idLeaf →
    s.boot.idLeaf < 32768 → s.mram.nextNodes = none → s.mram.idTree + 1 < 2 ^ 20 →
    (∃ t, exec (.identityTreeGeneration (s.mram.idTree + 1)) s = .next t ∧ t = { s with mram := { s.mram with
      nextNodes := some (idNodesOf s.fuses.dus (effLc s) (s.mram.idTree + 1)).2 } })) ∧
  (∀ (src : Src) (v : Nat) (s : State), Accepted s src eSvnCommit 0 v → s.fuses.svnFloor < v → v ≤ s.boot.svn →
    (∃ u, exec (.svnCommit src v) s = .next (answer u src stOk) ∧ u = { s with fuses := { s.fuses with svnFloor := v } })) ∧
  (∀ (src : Src) (r data : Nat) (s : State), AcceptedLen s src eMrExtend 0 33 (r + 256 * data) → 5 ≤ r → r ≤ 7 → data < 2 ^ 256 →
    (∃ u, exec (.mrExtend src r data) s = .next (answer u src stOk) ∧ u = { s with od := u.od } ∧
      rdEj u eMrK 0 r = Config.sha256 (bytesOf (rdEj s eMrK 0 r) 32 ++ bytesOf data 32) ∧
      ∀ k, k ≠ r → rdEj u eMrK 0 k = rdEj s eMrK 0 k)) ∧
  (∀ (src : Src) (s : State), Accepted s src eFabricLock 0 1 →
    (∃ u, exec (.fabricLock src) s = .next (answer u src stOk) ∧ rdE u eFabricLock 0 = 1 ∧ rdEj u eMrK 0 4 = Config.sha256 (bytesOf (rdEj s eMrK 0 4) 32 ++
      (bytesOf (rdE s eModuleId 0) 2 ++ bytesOf (rdE s eFabricId 0) 4 ++ bytesOf (rdE s eFabricAuthority 0) 60))))

/-- The vault's slots, quotes and policy bundles (R441 to R460).
The model's own choice, no rule of the spec: how much a remask takes from the queue (DEDUCED, log 23), and that QUOTE_SEQ counts the quote itself (DEDUCED, log 97). -/
def Obligations.VaultAndQuotes : Prop :=
  (∀ (slot purpose owner port rights : Nat) (s : State), s.pwr.frozen = false → vaultUp s = true → slot < 256 →
    purposeAllowed s purpose = true → (vslot s slot).st = 0 → (purpose = pWrap → s.rng.queue ≠ []) →
    (∃ t, exec (.vaultInstall slot purpose owner port rights false) s = .next t ∧ (vslot t slot).st = 1 ∧ (vslot t slot).purpose = purpose ∧
      (vslot t slot).owner = owner ∧ (vslot t slot).port = port ∧ (vslot t slot).rights = rights % 2048 ∧
      (vslot t slot).gen = ((vslot s slot).gen + 1) % 65536 ∧ (∀ k, k ≠ slot → vslot t k = vslot s k) ∧
      t.rng.queue = s.rng.queue.drop (if purpose = pWrap then 1 else 0))) ∧
  (∀ (slot : Nat) (s : State), s.pwr.frozen = false → vaultUp s = true → (vslot s slot).st = 1 → (vslot s slot).purpose ≠ pIde →
    (∃ t, exec (.vaultActivate slot) s = .next t ∧ (vslot t slot).st = 2 ∧ (vslot t slot).key = (vslot s slot).key ∧
      ∀ k, k ≠ slot → ((vslot t k).st = (vslot s k).st ∨ ((vslot s k).st = 2 ∧ (vslot t k).st = 3)) ∧ (vslot t k).gen = (vslot s k).gen)) ∧
  (∀ (slot : Nat) (s : State), s.pwr.frozen = false → (vslot s slot).st = 3 →
    (∃ t, exec (.vaultSlotQuarantineExpiry slot) s = .next t ∧ t = { s with vault := t.vault } ∧ vslot t slot = { gen := (vslot s slot).gen })) ∧
  (∀ (s : State), s.pwr.frozen = false → vaultUp s = true → s.rng.st ≠ rngStopped → s.rng.queue ≠ [] →
    (∃ t, exec .remaskPass s = .next t ∧ t.rng.queue = s.rng.queue.drop 128 ∧
      ∀ k, { vslot t k with mask := (vslot s k).mask } = vslot s k)) ∧
  (∀ (s : State), s.pwr.frozen = false → vaultUp s = true → s.rng.st ≠ rngStopped → s.rng.queue = [] →
    (∃ t, exec .remaskPass s = .next t ∧ t.vault = s.vault ∧ Counted s t eRemaskSkipped 0 ∧ CountedB s t rUnavail 4)) ∧
  (∀ (f nonce n : Nat) (s : State), AcceptedLen s (.mailbox f) eQuoteRequest f 34 (nonce + 2 ^ 256 * n) → f < 64 → n < 256 →
    nonce < 2 ^ 256 → rdE s eCtxState n ≠ cxFree → (cx s n).owner = f → (effLc s = 1 ∨ effLc s = 2) →
    (∃ u, exec (.quoteRequest (.mailbox f) nonce n) s = .next (answer u (.mailbox f) stOk) ∧ tfind u.boot.quotes f = some (nonce, n) ∧ rdE u eQuoteStatus f = 1)) ∧
  (∀ (f nonce n : Nat) (s : State), s.pwr.frozen = false → f < 64 → s.boot.quotes.find? (fun q => q.1 == f) = some (f, nonce, n) →
    vaultUp s = true → idReady s = true →
    (∃ t, exec (.quoteSign f) s = .next t ∧ rdE t eQuote f = quoteOf s f nonce n ∧ rdE t eQuoteStatus f = 2 ∧
      t.boot.quoteSeq = s.boot.quoteSeq + 1 ∧ tfind t.boot.quotes f = none)) ∧
  (∀ (src : Src) (m : Mem) (ok : Bool) (b : Bundle) (s : State), AcceptedLen s src ePolicyBundle 0 16384 0 → b = bundleOf m ok →
    bundleStatus s (srcFn src) b = stOk →
    (∃ u, exec (.policyBundle src ⟨m, ok⟩) s = .next (answer u src stOk) ∧ rdE u ePolicyLock b.context = 1 ∧ rdE u eBundleStatus 0 = stOk ∧
      rdE u ePolicyDigest b.context = policyDigest (b.entries.foldl bundleWrite s) b.context))

/-- The lifecycle commands, the debug challenge and the tamper response (R455 to R465, R579).
The model's own choice, no rule of the spec: the nonce of a challenge is free (DESIGN CHOICE, log 102), and device memory reads as nothing written after a tamper (DEDUCED, log 98). -/
def Obligations.LifecycleCommandsTakeEffect : Prop :=
  (∀ (src : Src) (now dus : Nat) (s : State), Accepted s src eLcCommand 0 1 → effLc s = 0 → pressed s now = true → vaultUp s = true →
    s.rng.queue ≠ [] →
    (∃ u, exec (.provision src now dus 1) s = .next (answer u src stOk) ∧ u.fuses.dus = dus % 2 ^ 256 ∧ bit u.fuses.lifecycle 0 = true ∧ u.boot.lc = 1 ∧
      u.boot.idPub = idPubOf (dus % 2 ^ 256) 1 ∧
      u.mram.idPub = idPubOf (dus % 2 ^ 256) 1 ∧ u.rng.queue = s.rng.queue.drop 1 ∧ rdE u eLcStatus 0 = stOk)) ∧
  (∀ (src : Src) (now : Nat) (s : State), src ≠ .port → Accepted s src eLcCommand 0 2 → effLc s = 1 → bit s.fuses.lifecycle 1 = false →
    pressed s now = true → vaultUp s = true →
    (∃ u, exec (.produce src now 1) s = .next (answer u src stOk) ∧ bit u.fuses.lifecycle 1 = true ∧ u.mram.nextIdPub = some (idPubOf s.fuses.dus 2) ∧
      u.boot = s.boot ∧ u.fuses.dus = s.fuses.dus)) ∧
  (∀ (src : Src) (now : Nat) (s : State), src ≠ .port → Accepted s src eLcCommand 0 3 → (effLc s = 1 ∨ effLc s = 2) → pressed s now = true →
    s.lcWait = 0 →
    (∃ t, exec (.lcRetire src now) s = .next t ∧ t.lcWait = 1 ∧ t.lcSrc = some src ∧
      ∀ f, f < 64 → (fnSt s f).stage = 0 → rdE t eFnState f = fnFenced)) ∧
  (∀ (f now : Nat) (s : State), srcLive s (.mailbox f) = true → s.boot.challenge = none →
    (∃ t, exec (.debugChallenge (.mailbox f) now) s = .next t ∧ t.boot.challengeAt = now ∧ ∃ c, t.boot.challenge = some c ∧
      bits c 319 256 = s.fuses.serial % 2 ^ 64 ∧ bits c 351 320 = s.mram.bootCount % 2 ^ 32 ∧
      .odResp (.mailbox f) stOk c 48 false ∈ t.sent)) ∧
  (∀ (src : Src) (now pub : Nat) (s : State), AcceptedLen s src eDebugResponse 0 4096 0 → effLc s = 2 → s.lcWait = 0 →
    rdE s eUnlockFails 0 < 3 → unlockOk s now pub true = true →
    (∃ t, exec (.debugResponse src now pub true) s = .next t ∧ t.lcWait = 2 ∧ t.lcSrc = some src ∧
      ∀ f, f < 64 → (fnSt s f).stage = 0 → rdE t eFnState f = fnFenced)) ∧
  (∀ (f : Nat) (s : State), s.pwr.frozen = false → s.lcWait = 1 → f < 64 → (fnSt s f).stage = 5 → (fnSt s f).step = 5 →
    rdE s eFnState f = fnFenced → (∀ g, g < 64 → g ≠ f → (fnSt s g).stage = 0 ∧ (fnSt s g).scrubDone = true) →
    (∃ t, exec (.scrubDone f) s = .next t ∧ t.lcWait = 0 ∧ t.boot.lc = 4 ∧ bit t.fuses.lifecycle 2 = true ∧ bit t.fuses.lifecycle 3 = true ∧
      t.vault = [] ∧ t.boot.zeroized = true ∧ t.boot.idPub = 0)) ∧
  (∀ (s : State), s.pwr.aux = true → s.pwr.inReset = false → s.boot.tampered = false → effLc s ≠ 4 →
    (∃ t, exec .tamper s = .next t ∧ t.boot.tampered = true ∧ t.vault = [] ∧ t.vm = [] ∧ t.hss = [] ∧ t.rng.st = rngHalted ∧ t.rng.queue = [] ∧
      (∀ k, (keyOf t k).st ≠ 1) ∧ t.mram.tamperCount = satAdd 0xFFFFFFFF s.mram.tamperCount 1 ∧ t.faultSeq = s.faultSeq + 1)) ∧
  (∀ (s : State), s.pwr.aux = true → s.pwr.inReset = true →
    (∃ t, exec .tamper s = .next t ∧ t = { s with mram := { s.mram with tamperLatch := true } }))

/-- The health tests (R472 to R477).
The model's own choice, no rule of the spec: a full window takes no sample (DEDUCED, log 57). -/
def Obligations.RngHealthTests : Prop :=
  (∀ (x : Byte) (s : State), RngLive s → s.rng.st < rngHalted → rctRun s.rng x.toNat < 81 → (aptStep s.rng x.toNat).2.1 < 441 →
    (∃ t, exec (.rngSample x) s = .next t ∧ t = { s with rng := t.rng } ∧ t.rng.last = x.toNat ∧ t.rng.run = rctRun s.rng x.toNat ∧
      t.rng.st = s.rng.st ∧ t.rng.queue = s.rng.queue ∧
      (t.rng.aptFirst, t.rng.aptCount, t.rng.aptIdx) = aptStep s.rng x.toNat ∧
      t.rng.win = (if s.rng.win.length < (if s.rng.st = rngStartup then 1024 else 4096) then s.rng.win ++ [x.toNat] else s.rng.win))) ∧
  (∀ (x : Byte) (s : State), RngLive s → s.rng.st < rngHalted → 81 ≤ rctRun s.rng x.toNat →
    (∃ t, exec (.rngSample x) s = .next t ∧ RngFailed s t 1)) ∧
  (∀ (x : Byte) (s : State), RngLive s → s.rng.st < rngHalted → rctRun s.rng x.toNat < 81 → 441 ≤ (aptStep s.rng x.toNat).2.1 →
    (∃ t, exec (.rngSample x) s = .next t ∧ RngFailed s t 2)) ∧
  (∀ (s : State), RngLive s → (s.rng.st = rngReady ∨ s.rng.st = rngBlocked) → s.rng.win.length = 4096 →
    (∃ t, exec .rngEstimateWindow s = .next t ∧ rdB t rBias 0x8000 = rngBias s.rng.win ∧ rdB t rAutocorr 0 = ofS 16 (rngAutocorr s.rng.win) ∧
      match estimateFail s.rng.win with
      | some c => RngFailed s t c
      | none => t.rng = { s.rng with win := [] })) ∧
  (∀ (s : State), RngLive s → s.rng.st = rngStartup → s.rng.win.length = 1024 →
    (∃ t, exec (.rngStartupComplete false) s = .next t ∧ RngFailed s t 5) ∧
    (∃ t, exec (.rngStartupComplete true) s = .next t ∧ match estimateFail s.rng.win with
      | some c => RngFailed s t c
      | none => t.rng.st = rngReady ∧ t.rng.instantiated = true ∧ t.rng.queue.length = 1 ∧ t.rng.ri = 16384 ∧ t.rng.served = 1))

/-- The DRBG, its consumers and RNG_CTRL (R478 to R486).
The model's own choice, no rule of the spec: the count of requests after a stretch (DEDUCED, log 57). -/
def Obligations.DrbgServesAndReseeds : Prop :=
  (∀ (s : State), RngLive s → s.rng.st = rngReady → s.rng.instantiated = true → s.rng.tail = 0 → s.rng.queue.length < 64 → s.rng.served < s.rng.ri →
    (∃ t, exec .drbgGenerate s = .next t ∧ (∃ w k, Config.drbgOut s.rng.drbg = (w, k) ∧
        t.rng = { s.rng with queue := s.rng.queue ++ [w], drbg := k, served := s.rng.served + 1 }) ∧
      rdB t rBytesOut 0 = satAdd (2 ^ 64 - 1) (rdB s rBytesOut 0) 64)) ∧
  (∀ (s : State), RngLive s → s.rng.st = rngReady → s.rng.ri ≤ s.rng.served → s.rng.seeds ≠ [] →
    (∃ t, exec .reseedIntervalExpiry s = .next t ∧ t.rng.seeds = s.rng.seeds.drop 1 ∧ t.rng.served = 0 ∧ t.rng.st = rngReady ∧
      t.rng.ri = (if 3 ≤ s.rng.seeds.length then max 16384 (s.rng.ri / 2) else s.rng.ri) ∧ CountedB s t rReseeds 4)) ∧
  (∀ (s : State), RngLive s → s.rng.st = rngReady → s.rng.ri ≤ s.rng.served → s.rng.seeds = [] →
    (∃ t, exec .reseedIntervalExpiry s = .next t ∧ if s.rng.ri < 1048576 then t.rng = { s.rng with ri := 2 * s.rng.ri } ∧ CountedB s t rStretches 4
      else t = { s with rng := { s.rng with st := rngBlocked } })) ∧
  (∀ (s : State), RngLive s → s.rng.st = rngBlocked → s.rng.seeds ≠ [] →
    (∃ t, exec .seedBlockArrivalReseed s = .next t ∧ t.rng.st = rngReady ∧ t.rng.seeds = s.rng.seeds.drop 1 ∧ t.rng.served = 0 ∧
      t.rng.ri = s.rng.ri ∧ CountedB s t rReseeds 4)) ∧
  (∀ (c : Nat) (s : State), RngLive s → s.rng.queue ≠ [] → (s.rng.waiting = [] ∨ s.rng.waiting.head? = some c) →
    (∃ t, exec (.rngQueueRead ⟨c, none⟩) s = .next t ∧ t = { s with rng := t.rng, sent := t.sent } ∧ t.rng.queue = s.rng.queue.drop 1 ∧
      c ∉ t.rng.waiting ∧ t.sent = s.sent ++ [.rngEntry c fullTag (s.rng.queue.headD 0)])) ∧
  (∀ (c : Nat) (s : State), RngLive s → s.rng.queue = [] →
    (∃ t, exec (.rngQueueRead ⟨c, none⟩) s = .next t ∧ t = { s with rng := t.rng, sent := t.sent } ∧ t.rng.queue = [] ∧ c ∈ t.rng.waiting ∧
      t.sent = s.sent ++ [.rngEntry c 0 0])) ∧
  (∀ (c x : Nat) (s : State), RngLive s →
    (∃ t, exec (.rngQueueRead ⟨c, some x⟩) s = .next t ∧ t.rng.queue = [] ∧ Counted s t eHsPtrFaults 0 ∧ t.faultSeq = s.faultSeq + 1 ∧
      .rngEntry c 0 0 ∈ t.sent)) ∧
  (∀ (c : Nat) (s : State), RngLive s → c ∈ s.rng.waiting →
    (∃ t, exec (.rngWaitLimitExpiry c) s = .next t ∧ c ∉ t.rng.waiting ∧ t.rng.queue = s.rng.queue ∧ CountedB s t rUnavail 4)) ∧
  (∀ (s : State), bar2Up s = true → s.rng.st = rngHalted → s.boot.tampered = false →
    (∃ t, exec (.rngRestart none) s = .next t ∧ t.rng.st = rngStartup ∧ t.rng.failCause = 0 ∧ t.rng.win = [] ∧ CountedB s t rRestarts 4)) ∧
  (∀ (src : Src) (s : State), Accepted s src eRngRestart 0 1 → s.rng.st = rngHalted → s.boot.tampered = false →
    (∃ u, exec (.rngRestart (some src)) s = .next (answer u src stOk) ∧ u.rng.st = rngStartup ∧ CountedB s u rRestarts 4)) ∧
  (∀ (s : State), bar2Up s = true → effLc s = 1 →
    (∃ t, exec .rawCaptureSet s = .next t ∧ t = { s with rng := { s.rng with capture := true } })) ∧
  (∀ (s : State), bar2Up s = true → s.rng.capture = true →
    (∃ t, exec .rawCaptureClear s = .next t ∧ t.rng.capture = false ∧ t.rng.raw = [] ∧ t.rng.st = rngStartup ∧ t.rng.queue = [] ∧
      t.rng.instantiated = false))

/-- Whatever a step does, the RNG's queue keeps its depth and ends with its tail stage empty (R293, R299, R480). -/
def Obligations.RngQueueStaysWhole : Prop :=
  (∀ (s t : State), s.rng.queue.length ≤ 64 → s.rng.tail = 0 → step s = .next t → t.rng.queue.length ≤ 64 ∧ t.rng.tail = 0) ∧
  State.reset.rng.queue = [] ∧ State.reset.rng.tail = 0

/-- The fence of a function and its release (R494 to R497).
The model's own choice, no rule of the spec: memory after a scrub (DESIGN CHOICE, log 62), SCRUB_DONE after a RELEASE (DEDUCED, log 99). -/
def Obligations.FencesRunAndFunctionsRelease : Prop :=
  (∀ (src : Src) (f : Nat) (s : State), Accepted s src eFnCommand f 1 → (fnSt s f).stage = 0 →
    (∃ u, exec (.flash src f []) s = .next (answer u src stOk) ∧ rdE u eFnState f = fnFenced ∧ rdE u eFenceCause f = 1 ∧ Counted s u eFenceCount f ∧
      (fnSt u f).stage = 5 ∧ (fnSt u f).step = 4 ∧ ∀ d ∈ u.descs, d.fn ≠ f)) ∧
  (∀ (f : Nat) (stuck : List Nat) (s : State), rtUp s = true → fnExists s f = true → (fnSt s f).stage = 0 →
    (∃ t, exec (.functionLevelReset f stuck) s = .next t ∧ rdE t eFnState f = fnFenced ∧ rdE t eFenceCause f = 2 ∧ Counted s t eFenceCount f ∧
      (fnSt t f).stage ≠ 0 ∧ ∀ d ∈ t.descs, d.fn = f → d.started ≠ [] ∧ onUnits stuck d = true)) ∧
  (∀ (f : Nat) (s : State), (fnSt s f).stage = 3 → s.pwr.frozen = false →
    (∃ t, exec (.fenceEngineTimeout f) s = .next t ∧ t = { s with resets := t.resets } ∧
      ∀ u ∈ (fnSt s f).stuck, unitExists u = true → u < 256 → inService s (u / 32) = true → ResetRuns t u)) ∧
  (∀ (f : Nat) (bad : List (Nat × Nat)) (s : State), (fnSt s f).stage = 5 → (fnSt s f).step = 4 → s.pwr.frozen = false → sleepingDies s = [] →
    (∃ t, exec (.fenceScrub f bad) s = .next t ∧ (fnSt t f).step = 5 ∧ bit (rdE t eScrubActive 0) f = false ∧
      (∀ n ∈ fnCtxs s f, rdE t eCtxState n = cxQuarantine ∧ (cx t n).cohorts = []) ∧
      (∀ n, tget s.vmFn 0 n = f + 1 → vmOf t n = []) ∧ (∀ q, q < 64 → cq t f q = {}) ∧
      ∀ c, synOwnerOf s (c / 64) = f → synGet t c = 0)) ∧
  (∀ (f : Nat) (s : State), (fnSt s f).stage = 5 → (fnSt s f).step = 5 → s.pwr.frozen = false → s.lcWait = 0 →
    (∃ t, exec (.scrubDone f) s = .next t ∧ (fnSt t f).stage = 0 ∧ (fnSt t f).step = 6 ∧ t.faultSeq = s.faultSeq + 1 ∧
      ((fnSt t f).scrubDone = true ↔ rdE s eFnState f = fnFenced))) ∧
  (∀ (src : Src) (f : Nat) (s : State), Accepted s src eFnCommand f 2 → (fnSt s f).scrubDone = true → vaultUp s = true →
    (releaseKeys s f).isSome = true →
    (∃ u, exec (.release src f) s = .next (answer u src stOk) ∧ rdE u eFnState f = fnOpen ∧ (fnSt u f).scrubDone = false ∧ u.descs = s.descs ∧ u.vm = s.vm))

/-- Grants, quotas, VF_ENABLE and VF_REMOVAL (R490, R491, R527).
The model's own choice, no rule of the spec: which writes return a function to UNCLEAN, the sum of quotas (DEDUCED, log 100) and the refusal beyond unit 239 (DEDUCED, log 63). -/
def Obligations.GrantsAndVirtualFunctions : Prop :=
  (∀ (src : Src) (f v : Nat) (s : State), Accepted s src eDramFirst f v → rdE s eFnState f ≠ fnOpen → v + rdE s eDramCount f ≤ 240 →
    grantFree s f v (rdE s eDramCount f) = true →
    (∃ u, exec (.grantWrite src f 3 v) s = .next (answer u src stOk) ∧ rdE u eDramFirst f = v ∧
      rdE u eFnState f = (if rdE s eFnState f = fnFenced then fnUnclean else rdE s eFnState f))) ∧
  (∀ (src : Src) (f v : Nat) (s : State), Accepted s src eDramCount f v → rdE s eFnState f ≠ fnOpen → rdE s eDramFirst f + v ≤ 240 →
    grantFree s f (rdE s eDramFirst f) v = true →
    (∃ u, exec (.grantWrite src f 4 v) s = .next (answer u src stOk) ∧ rdE u eDramCount f = v ∧
      rdE u eFnState f = (if rdE s eFnState f = fnFenced then fnUnclean else rdE s eFnState f))) ∧
  (∀ (src : Src) (f sub v : Nat) (e : Ent) (s : State), 5 ≤ sub → grantEnt sub = some e → Accepted s src e f v → rdE s eFnState f ≠ fnOpen →
    objHeld s f (quotaKind e) ≤ v → quotaSum s e f v ≤ objCount (quotaKind e) →
    (∃ u, exec (.grantWrite src f sub v) s = .next (answer u src stOk) ∧ u = wrE s e f v)) ∧
  (∀ (num : Nat) (s : State), rtUp s = true → s.pcie.vfEnable = false → num ≠ 0 →
    (∃ t, exec (.vfEnable num) s = .next t ∧ t.pcie.vfEnable = true ∧ t.pcie.numVfs = num ∧
      ∀ f, 1 ≤ f → f ≤ num → rdE t eFnState f = fnUnclean ∧ (fnSt t f).scrubDone = false)) ∧
  (∀ (num : Nat) (s : State), rtUp s = true → s.pcie.vfEnable = true → num < s.pcie.numVfs → s.pcie.numVfs < 64 →
    (∃ t, exec (.vfRemoval num) s = .next t ∧ t.pcie.numVfs = num ∧ (t.pcie.vfEnable = true ↔ num ≠ 0) ∧
      ∀ f, num < f → f ≤ s.pcie.numVfs → (f ∉ t.pcie.memOn) ∧ ((fnSt s f).stage = 0 → rdE t eFnState f = fnFenced)))

/-- Watchdogs, the three levels of reset and patrol reads (R424, R505 to R524).
The model's own choice, no rule of the spec: a module reset leaves the module held in reset (DESIGN CHOICE, log 58), and the time of the DIE_RESET record (DEDUCED, log 65). -/
def Obligations.ResetsAndDieHealth : Prop :=
  (∀ (unit : Nat) (s : State), rtUp s = true → unit < 256 → unitExists unit = true → unitWorks s unit = true →
    unitStopped s (unit / 32) (unit % 32) = false →
    (∃ t, exec (.watchdogExpiry unit) s = .next t ∧ Counted s t eWatchdogExpiries 0 ∧ t.faultSeq = s.faultSeq + 1 ∧ ResetRuns t unit)) ∧
  (∀ (unit : Nat) (s : State), rtUp s = true → 256 ≤ unit → unitExists unit = true → unit ∉ s.dbg.halted →
    (∃ t, exec (.heartbeatLoss unit) s = .next t ∧ HeldInReset s t)) ∧
  (∀ (unit us : Nat) (r : ResetRun) (s : State), s.resets.find? (fun r => !r.die && r.id == unit) = some r → s.pwr.frozen = false →
    (∃ t, exec (.engineResetComplete unit us) s = .next t ∧ (∀ x ∈ t.resets, x.die = false → x.id ≠ unit) ∧ unit ∉ t.dbg.halted ∧
      Counted s t eEngineResets 0 ∧ s.faultSeq < t.faultSeq ∧ ∀ d ∈ t.descs, isTransport (dOp d) = false → onUnits [unit] d = false)) ∧
  (∀ (unit : Nat) (r : ResetRun) (s : State), s.resets.find? (fun r => !r.die && r.id == unit) = some r → s.pwr.frozen = false →
    inService s (unit / 32) = true → (∀ x ∈ s.resets, x.die = true → x.id ≠ unit / 32) → tget s.dieResetCount 0 (unit / 32) < 2 →
    (∃ t, exec (.engineResetOverrun unit) s = .next t ∧ (∃ x ∈ t.resets, x.die = true ∧ x.id = unit / 32 ∧ x.escalated = true) ∧
      dieHealth t (unit / 32) = 1)) ∧
  (∀ (die us : Nat) (r : ResetRun) (s : State), s.resets.find? (fun r => r.die && r.id == die) = some r → s.pwr.frozen = false →
    (∃ t, exec (.dieResetComplete die us) s = .next t ∧ (∀ x ∈ t.resets, x.die = true → x.id ≠ die) ∧ dieHealth t die = 0 ∧
      tget t.dieResetCount 0 die = tget s.dieResetCount 0 die + 1 ∧ Counted s t eDieResets 0 ∧ (die < 6 → loftOf t die = []))) ∧
  (∀ (die : Nat) (r : ResetRun) (s : State), s.resets.find? (fun r => r.die && r.id == die) = some r → s.pwr.frozen = false →
    (∃ t, exec (.dieResetOverrun die) s = .next t ∧ HeldInReset s t)) ∧
  (∀ (cause : Nat) (s : State), rtUp s = true → 1 ≤ cause → cause ≤ 4 → (∃ t, exec (.moduleReset cause) s = .next t ∧ HeldInReset s t)) ∧
  (∀ (src : Src) (unit : Nat) (s : State), Accepted s src eResetRequest 0 (4096 + unit % 4096) → unit < 256 → unitExists unit = true →
    inService s (unit / 32) = true →
    (∃ u, exec (.resetRequestEngine src unit) s = .next (answer u src stOk) ∧ u = { s with resets := u.resets } ∧ ResetRuns u unit)) ∧
  (∀ (src : Src) (die : Nat) (s : State), Accepted s src eResetRequest 0 (8192 + die % 4096) → die < 8 → inService s die = true →
    tget s.dieResetCount 0 die < 2 →
    (∃ u, exec (.resetRequestDie src die) s = .next (answer u src stOk) ∧ ∃ r ∈ u.resets, r.die = true ∧ r.id = die)) ∧
  (∀ (src : Src) (unit : Nat) (s : State), Accepted s src eResetRequest 0 (12288 + unit % 4096) →
    (∃ u, exec (.resetRequestModule src unit) s = .next (answer u src stOk) ∧ HeldInReset s u)) ∧
  (∀ (link die : Nat) (s : State), rtUp s = true → ((linkEnds link).1 = die ∨ (linkEnds link).2 = die) → inService s die = true →
    mayRetire s die = true →
    (∃ t, exec (.inPackageLinkError link die) s = .next t ∧ inService t die = false ∧ s.faultSeq < t.faultSeq ∧
      t.mram.moduleResets = s.mram.moduleResets)) ∧
  (∀ (die c u : Nat) (s : State), s.pwr.frozen = false →
    (∃ t, exec (.patrolRead die c u .other) s = .next t ∧ rdE t eEccCorrected 0 = satAdd (2 ^ (8 * tyLen eEccCorrected.ty) - 1) (rdE s eEccCorrected 0) c ∧
      rdE t eEccUncorrected 0 = satAdd (2 ^ (8 * tyLen eEccUncorrected.ty) - 1) (rdE s eEccUncorrected 0) u ∧
      t.faultSeq = s.faultSeq + (if u = 0 then 0 else 1))) ∧
  (∀ (die c u n k : Nat) (s : State), s.pwr.frozen = false → u ≠ 0 → coLive (cohortOf s n k) = true →
    (∃ t, exec (.patrolRead die c u (.cohort n k)) s = .next t ∧ (cohortOf t n k).st = .failed ∧ (cohortOf t n k).acc = [] ∧
      rdE t eLastRefusal n = stIntegrity ∧ t.faultSeq = s.faultSeq + 1))

/-- MODULE_REQUEST, DIE_REQUEST, PEER_WAKE, the ends of entries and wakes, and engine gating (R555 to R566). -/
def Obligations.PowerRequestsActOnDies : Prop :=
  (∀ (src : Src) (s : State), Accepted s src eModuleRequest 0 2 → MaySleep s 2 →
    (∃ u, exec (.moduleRequestSleep src) s = .next (answer u src stOk) ∧ AllSleep u 2 ∧ u.pwr.timer = rdE s eWakeTimer 0)) ∧
  (∀ (src : Src) (s : State), Accepted s src eModuleRequest 0 3 → MaySleep s 3 →
    (∃ u, exec (.moduleRequestDeepSleep src) s = .next (answer u src stOk) ∧ AllSleep u 3 ∧ u.pwr.timer = rdE s eWakeTimer 0)) ∧
  (∀ (src : Src) (s : State), Accepted s src eModuleRequest 0 2 → ¬ MaySleep s 2 →
    exec (.moduleRequestSleep src) s = .next (answer s src stPolicy)) ∧
  (∀ (src : Src) (s : State), Accepted s src eModuleRequest 0 1 →
    (∃ u, exec (.moduleRequestWake src) s = .next (answer u src stOk) ∧ (∀ d, d ≤ 8 → inService s d = true → 2 ≤ dieState s d → WakeComing u d) ∧
      rdE u eWakeCause 0 = (if moduleAsleep s = true then 6 else rdE s eWakeCause 0))) ∧
  (∀ (src : Src) (die : Nat) (s : State), Accepted s src eDieRequest 0 (512 + die % 16) → die < 8 → inService s die = true →
    dieState s die ≠ 2 → sleepRefused s die = false →
    (∃ u, exec (.dieRequestSleep src die) s = .next (answer u src stOk) ∧ dieState u die = 2 ∧ (∀ d, d ≠ die → dieState u d = dieState s d) ∧
      ∀ p, 6 ≤ die → p ∈ portsOf die → (portOf s p).st = 4 → (portOf u p).st = 5 ∧ .sleepNotice p 2 ∈ u.sent)) ∧
  (∀ (src : Src) (die : Nat) (s : State), Accepted s src eDieRequest 0 (768 + die % 16) → die < 8 → inService s die = true →
    dieState s die ≠ 3 → sleepRefused s die = false →
    (∃ u, exec (.dieRequestDeepSleep src die) s = .next (answer u src stOk) ∧ dieState u die = 3 ∧ (∀ d, d ≠ die → dieState u d = dieState s d) ∧
      ∀ p, 6 ≤ die → p ∈ portsOf die → (portOf u p).st = (if (portOf s p).st = 6 then 6 else 0))) ∧
  (∀ (src : Src) (die : Nat) (s : State), Accepted s src eDieRequest 0 (256 + die % 16) → die < 8 → inService s die = true →
    (∃ u, exec (.dieRequestWake src die) s = .next (answer u src stOk) ∧ 2 ≤ dieState s die → WakeComing u die)) ∧
  (∀ (die : Nat) (s : State), s.pwr.frozen = false → 2 ≤ tget s.pwr.entering 0 die % 4 →
    (die = 8 → ∀ x ∈ s.pwr.entering, x.1 ≠ 8 → x.2 % 4 < 2) →
    (∃ t, exec (.sleepEntryComplete die) s = .next t ∧ tget t.pwr.die 1 die = tget s.pwr.entering 0 die % 4 ∧
      tget t.pwr.entering 0 die = (if 4 ≤ tget s.pwr.entering 0 die then 1 else 0) ∧ (∀ u ∈ t.pwr.powered, u / 32 ≠ die) ∧
      (die < 6 → tget s.pwr.entering 0 die % 4 = 3 → loftOf t die = []) ∧ (die = 8 → t.rng.st = rngStopped ∧ t.rng.queue = []))) ∧
  (∀ (die : Nat) (s : State), s.pwr.frozen = false → tget s.pwr.entering 0 die = 1 → (tget s.pwr.die 1 die = 3 → s.pwr.refclk = true) →
    (∃ t, exec (.wakeComplete die) s = .next t ∧ tget t.pwr.die 1 die = 1 ∧ tget t.pwr.entering 0 die = 0 ∧
      (die = 8 → s.rng.st = rngStopped → t.rng.st = rngStartup) ∧
      ∀ p, 6 ≤ die → die < 8 → p ∈ portsOf die → (portOf s p).st = 5 → (portOf t p).st = 2 ∧ (portOf t p).trainStep = 3 ∧
        (portOf t p).verified = (portOf s p).verified ∧ .calliope p ∈ t.sent)) ∧
  (∀ (unit : Nat) (s : State), s.pwr.frozen = false → unitBusy s unit = false →
    (∃ t, exec (.engineGate unit) s = .next t ∧ t = { s with pwr := { s.pwr with powered := t.pwr.powered } } ∧
      ∀ u, u ∈ t.pwr.powered ↔ u ∈ s.pwr.powered ∧ u ≠ unit)) ∧
  (∀ (unit : Nat) (s : State), s.pwr.frozen = false → unitBusy s unit = true →
    (∃ t, exec (.enginePowerUp unit) s = .next t ∧ t = { s with pwr := { s.pwr with powered := t.pwr.powered } } ∧
      ∀ u, u ∈ t.pwr.powered ↔ u ∈ s.pwr.powered ∨ u = unit)) ∧
  (∀ (src : Src) (mask : Nat) (s : State), Accepted s src ePeerWake 0 mask →
    (∃ u, exec (.peerWake src mask) s = .next (answer u src stOk) ∧ u = { s with sent := u.sent } ∧
      ∀ p, p < 26 → bit mask p = true → (portOf s p).st = 5 → .calliope p ∈ u.sent))

/-- The wake sources of R562 and the D-states of R535. -/
def Obligations.WakeSourcesWakeTheModule : Prop :=
  (∀ (s : State), s.pwr.aux = true → alive s = true → moduleAsleep s = true → bit (rdE s eWakeEnable 0) 0 = true →
    (∃ t, exec .wakeN s = .next t ∧ WakesAll s t 1)) ∧
  (∀ (s : State), bit (rdE s eWakeEnable 0) 0 = false → exec .wakeN s = .next s) ∧
  (∀ (s : State), alive s = true → moduleAsleep s = true → bit (rdE s eWakeEnable 0) 2 = true →
    (∃ t, exec .managementWakePacket s = .next t ∧ WakesAll s t 3)) ∧
  (∀ (s : State), s.pwr.timer ≠ 0 → alive s = true → moduleAsleep s = true → bit (rdE s eWakeEnable 0) 4 = true →
    (∃ t, exec .wakeTimer s = .next t ∧ WakesAll s t 5 ∧ t.pwr.timer = 0)) ∧
  (∀ (s : State), s.pcie.dstate ≠ 0 → alive s = true → moduleAsleep s = true → bit (rdE s eWakeEnable 0) 1 = true →
    (∃ t, exec (.pcieWake false) s = .next t ∧ WakesAll s t 2 ∧ t.pcie.dstate = 0 ∧ t.pcie.wakePin = false ∧ t.pcie.l1 = false)) ∧
  (∀ (s : State), s.pcie.dstate = 2 → alive s = true →
    (∃ t, exec (.pcieWake true) s = .next t ∧ t.pcie.dstate = 0 ∧ t.pcie.wakePin = false ∧ t.pcie.memOn = [] ∧
      (s.pcie.vfEnable = true → t.pcie.vfEnable = false ∨ s.pcie.numVfs = 0))) ∧
  (∀ (p : Nat) (s : State), alive s = true → (portOf s p).st = 5 → dieState s (portDie p) < 2 →
    (∃ t, exec (.calliopePattern p) s = .next t ∧ PortBecomes s t p { portOf s p with st := 2, trainStep := 3 })) ∧
  (∀ (p : Nat) (s : State), alive s = true → (portOf s p).st = 5 → 2 ≤ dieState s (portDie p) → bit (rdE s eWakeEnable 0) 3 = true →
    (∃ t, exec (.calliopePattern p) s = .next t ∧ if moduleAsleep s = true then WakesAll s t 4 else WakeComing t (portDie p))) ∧
  (∀ (p : Nat) (s : State), 2 ≤ dieState s (portDie p) → bit (rdE s eWakeEnable 0) 3 = false → exec (.calliopePattern p) s = .next s) ∧
  (∀ (s : State), alive s = true → s.pcie.dstate = 0 →
    (∃ t, exec .d3hot s = .next t ∧ t.pcie.dstate = 1 ∧ t.pcie.l1 = true ∧ (MaySleep s 2 → AllSleep t 2))) ∧
  (∀ (s : State), alive s = true → s.pcie.dstate ≠ 2 →
    (∃ t, exec .d3cold s = .next t ∧ t.pcie.dstate = 2 ∧ t.pcie.l1 = true ∧ (MaySleep s 3 → AllSleep t 3)))

/-- Pins, supplies and sensors (R559, R567 to R583, R593, R594). -/
def Obligations.SuppliesAndPanel : Prop :=
  (∀ (s : State), (∃ t, exec .inputPowerLoss s = .next t ∧ LogicLost s t ∧ t.pwr.v48 = false ∧ t.pwr.pwrGood = false ∧ t.ports = [] ∧
    t.pwr.aux = s.pwr.aux)) ∧
  (∀ (s : State), s.pwr.aux = true → (∃ t, exec .resetNAssert s = .next t ∧ LogicLost s t ∧ t.pwr.frozen = false ∧ t.pwr.v48 = s.pwr.v48)) ∧
  (∀ (s : State), s.pwr.aux = false → exec .resetNAssert s = .next s ∧ exec .wakeN s = .next s ∧ exec .pwrGoodAssert s = .next s) ∧
  (∀ (s : State), s.pwr.aux = true →
    exec .pwrGoodAssert s = .next { s with pwr := { s.pwr with v48 := true, pwrGood := true } }) ∧
  (∀ (s : State), exec .auxiliaryRailValid s = .next { s with pwr := { s.pwr with aux := true } }) ∧
  (∀ (s : State), exec .auxiliaryRailLoss s = .next { s with pwr := { s.pwr with aux := false } }) ∧
  (∀ (s : State), exec .refclkStable s = .next { s with pwr := { s.pwr with refclk := true } }) ∧
  (∀ (s : State), (∃ t, exec .refclkLoss s = .next t ∧ t.pwr.refclk = false ∧ t.pwr.trimmed = false)) ∧
  (∀ (s : State), s.pwr.refclk = true → s.pwr.frozen = false →
    exec .alwaysOnTrim s = .next { s with pwr := { s.pwr with trimmed := true } }) ∧
  (∀ (temps : List Nat) (s : State), temps.length = 9 → s.pwr.frozen = false → s.pwr.inReset = false → s.pwr.v48 = true →
    (∀ d ∈ s.pwr.hot, ¬ Reads temps d 115) →
    (∃ t, exec (.thermalSample temps) s = .next t ∧ t.pwr.temps = temps ∧ (∀ d, d ∈ t.pwr.hot ↔ Reads temps d 115) ∧
      ((∃ d, Reads temps d 100) → t.pwr.thermAlert = true) ∧ ((∀ d, ¬ Reads temps d 95) → t.pwr.thermAlert = false) ∧
      t.faultSeq = s.faultSeq + (if t.pwr.thermAlert = true ∧ s.pwr.thermAlert = false then 1 else 0))) ∧
  (∀ (temps : List Nat) (d : Nat) (s : State), temps.length = 9 → s.pwr.frozen = false → s.pwr.inReset = false → s.pwr.v48 = true →
    d ∈ s.pwr.hot → Reads temps d 115 →
    (∃ t, exec (.thermalSample temps) s = .next t ∧ t.pwr.tripped = true ∧ t.pwr.inReset = true ∧ t.boot.st = 0 ∧ t.vm = [] ∧ t.keys = [] ∧
      Counted s t eThermTrips 0 ∧ t.fuses = s.fuses)) ∧
  (∀ (temps : List Nat) (s : State), s.pwr.tripped = true → temps.length = 9 → (∀ d, ¬ Reads temps d 95) →
    (∃ t, exec (.thermalRecovery temps) s = .next t ∧ t.pwr.tripped = false ∧ t.pwr.thermAlert = false ∧ t.od = s.od)) ∧
  (∀ (die : Nat) (s : State), s.pwr.frozen = true →
    (∃ t, exec (.overTemperatureComparator die) s = .next t ∧ t.pwr.thermAlert = true ∧ ∀ d, d ∈ t.pwr.logicOff ↔ d ∈ s.pwr.logicOff ∨ d = die)) ∧
  (∀ (die : Nat) (s : State), s.pwr.frozen = false → exec (.overTemperatureComparator die) s = .next s) ∧
  (∀ (s : State), pinsUp s = true → portOpen s = true → s.pwr.inReset = false →
    (∃ t, exec .freezeN s = .next t ∧ t.pwr.frozen = true ∧ (s.pwr.frozen = false → t.vm = []) ∧ t.descs = s.descs ∧ t.loft = s.loft)) ∧
  (∀ (s : State), portOpen s = false → exec .freezeN s = .next s) ∧
  (∀ (now : Nat) (s : State), pinsUp s = true → s.pwr.inReset = false → s.pwr.frozen = false →
    (∃ t, exec (.presencePress now) s = .next t ∧ t.boot.press = some now ∧ t.panel.locateAck = true ∧ t.od = s.od)) ∧
  (∀ (s : State), s.pwr.frozen = false →
    exec .locateAcknowledgementEnd s = .next { s with panel := { s.panel with locateAck := false } } ∧
    exec .ledActTimeout s = .next { s with panel := { s.panel with ledAct := false } }) ∧
  (∀ (src : Src) (v : Nat) (s : State), Accepted s src eLocate 0 v →
    (∃ u, exec (.locateWrite src v) s = .next (answer u src stOk) ∧ u = wrE s eLocate 0 v))

/-- The endpoint beyond its BARs (R526, R534 to R538, R544).
The model's own choice, no rule of the spec: the request codes of SPDM (PRESUMED, log 74), and what a fence does to TDISP (DEDUCED, log 113). -/
def Obligations.PcieEndpointActs : Prop :=
  (∀ (s : State), linkLive s = true → s.pcie.l1 = false → 2 < s.pcie.width →
    exec .linkWidthReduction s = .next { s with pcie := { s.pcie with width := s.pcie.width / 2 } }) ∧
  (∀ (s : State), linkLive s = true → exec .aspmL1Entry s = .next { s with pcie := { s.pcie with l1 := true } }) ∧
  (∀ (i : Nat) (d : Desc) (s : State), descOf s i = some d → d.phase = .running → stalled s d = false → isTransport (dOp d) = false →
    ∃ n, (∃ u, exec (.pcieCompletionTimeout (.desc i)) s = .next (completeDesc u d stTimeout n) ∧ u.descs = s.descs ∧ u.od = s.od)) ∧
  (∀ (f q : Nat) (s : State), q < 64 → (cq s f q).enable = true → (cq s f q).fetchErr = false → (cq s f q).head ≠ (cq s f q).prod →
    (cq s f q).space = 0 → rtUp s = true → fnBlocked s f = false →
    (∃ t, exec (.pcieCompletionTimeout (.ring f q)) s = .next t ∧ cq t f q = { cq s f q with fetchErr := true } ∧ t.descs = s.descs)) ∧
  (∀ (f : Nat) (s : State), tdispUp s f = true → tdispSt s f = 0 → fnBlocked s f = false →
    (∃ t, exec (.lockInterface f) s = .next t ∧ t = { s with pcie := t.pcie } ∧ tdispSt t f = 1 ∧ ∀ g, g ≠ f → tdispSt t g = tdispSt s g)) ∧
  (∀ (f : Nat) (s : State), tdispUp s f = true → (tdispSt s f ≠ 0 ∨ fnBlocked s f = true) →
    exec (.lockInterface f) s = .next (emit s (.tdispError f))) ∧
  (∀ (f : Nat) (s : State), tdispUp s f = true → tdispSt s f = 1 →
    (∃ t, exec (.startInterface f) s = .next t ∧ t = { s with pcie := t.pcie } ∧ tdispSt t f = 2 ∧ ∀ g, g ≠ f → tdispSt t g = tdispSt s g)) ∧
  (∀ (f : Nat) (s : State), tdispUp s f = true → tdispSt s f ≠ 1 → exec (.startInterface f) s = .next (emit s (.tdispError f))) ∧
  (∀ (f : Nat) (s : State), tdispUp s f = true → (fnSt s f).scrubDone = true →
    (∃ t, exec (.stopInterface f) s = .next t ∧ t = { s with pcie := t.pcie } ∧ tdispSt t f = 0)) ∧
  (∀ (f : Nat) (s : State), tdispUp s f = true → (fnSt s f).scrubDone = false → (tdispSt s f = 1 ∨ tdispSt s f = 2) → (fnSt s f).stage = 0 →
    (∃ t, exec (.stopInterface f) s = .next t ∧ tdispSt t f = 3 ∧ rdE t eFnState f = fnFenced)) ∧
  (∀ (f : Nat) (r : Bool) (s : State), tdispUp s f = true → (tdispSt s f = 1 ∨ tdispSt s f = 2) → (fnSt s f).stage = 0 →
    (∃ t, exec (.tdispError f r) s = .next t ∧ tdispSt t f = 3 ∧ rdE t eFnState f = fnFenced ∧ (r = true → .regData 0 ∈ t.sent))) ∧
  (∀ (f : Nat) (s : State), tdispUp s f = true → exec (.getDeviceInterfaceReport f) s = .next (emit s (.tdispReport f))) ∧
  (∀ (k f : Nat) (s : State), rtUp s = true → streamFn s k ≠ some f →
    (∃ t, exec (.ideStreamTlp k f) s = .next t ∧ Counted s t eIdeMisrouted 0)) ∧
  (∀ (k f : Nat) (s : State), streamFn s k = some f → exec (.ideStreamTlp k f) s = .next s) ∧
  (∀ (k f i : Nat) (s : State), vaultUp s = true → s.pwr.frozen = false → streamFn s k = some f → nextIdeSlot s f = some i →
    (∃ t, exec (.kSetGo k) s = .next t ∧ t = { s with vault := t.vault } ∧ vslot t i = { vslot s i with st := 2 } ∧
      ∀ j, j ≠ i → (vslot s j).st = 2 → (vslot s j).purpose = pIde → (vslot s j).owner = f → (vslot s j).moduleOwned = false →
        (vslot s j).port = (vslot s i).port → (vslot s j).rights = (vslot s i).rights → (vslot t j).st = 3)) ∧
  (∀ (code : Nat) (offered : Bool) (s : State), linkLive s = true → (offered = false ∨ (spdmSigned code = true ∧ aliasReady s = false)) →
    exec (.spdmRequest code offered) s = .next (emit s (.spdm code false 0))) ∧
  (∀ (code : Nat) (s : State), linkLive s = true → spdmSigned code = false →
    exec (.spdmRequest code true) s = .next (emit s (.spdm code true (spdmData s code)))) ∧
  (∀ (code : Nat) (s : State), linkLive s = true → spdmSigned code = true → aliasReady s = true → s.boot.aliasLeaf < 1023 →
    (∃ t, exec (.spdmRequest code true) s = .next t ∧ t.sent = s.sent ++ [.spdm code true (spdmData s code)] ∧
      t.boot.aliasLeaf = s.boot.aliasLeaf + 1 ∧ (s.boot.aliasLeaf ≤ s.mram.aliasMark → t.boot.aliasLeaf ≤ t.mram.aliasMark))) ∧
  (∀ (s : State), bar2Up s = true →
    (∃ t, exec (.snapshotTake none) s = .next t ∧ Counted s t eSnapSeq 0 ∧
      ∀ e n, isCounterKey (entKey e n 0) = true → entKey e n 0 ≠ entKey eModuleResets 0 0 → entKey e n 0 ≠ entKey eRngFailuresCopy 0 0 →
        tget t.pcie.snapOd (entDflt e 0) (entKey e n 0) = rdE s e n)) ∧
  (∀ (src : Src) (s : State), Accepted s src eSnapTake 0 1 →
    (∃ u, exec (.snapshotTake (some src)) s = .next (answer u src stOk) ∧ Counted s u eSnapSeq 0 ∧ u.pcie.snapBar2 = s.bar2.filter (fun x => isCounterReg x.1)))

/-- The TAP and the debug commands (R584 to R591, R598).
The model's own choice, no rule of the spec: the memory of cores (DEDUCED, log 76) and the count of steps (DEDUCED, log 77). -/
def Obligations.DebugPortActs : Prop :=
  (∀ (s : State), pinsUp s = true →
    (∃ t, exec .tapReset s = .next t ∧ t = { s with dbg := t.dbg } ∧ t.dbg.ir = 2 ∧ t.dbg.data = 0 ∧ t.dbg.status = 0)) ∧
  (∀ (code now : Nat) (s : State), pinsUp s = true →
    (∃ t, exec (.tapInstructionLoad code now) s = .next t ∧ t.dbg.ir = (if irPermitted s code = true then code else 0xFF) ∧
      (code = 2 → t.sent = s.sent ++ [.tap 0x17208A3D]) ∧ (irPermitted s code = false → t.sent = s.sent ++ [.tap 0]) ∧
      (code = 0x11 → irPermitted s code = true → s.pwr.frozen = false → ∃ c, t.boot.challenge = some c ∧ .tap c ∈ t.sent))) ∧
  (∀ (now pub : Nat) (s : State), rtUp s = true → s.dbg.ir = 0x12 → effLc s = 2 → s.lcWait = 0 → rdE s eUnlockFails 0 < 3 →
    unlockOk s now pub true = true →
    (∃ t, exec (.unlockResponse now pub true) s = .next t ∧ t.lcWait = 2 ∧ t.lcSrc = none ∧
      ∀ f, f < 64 → (fnSt s f).stage = 0 → rdE t eFnState f = fnFenced)) ∧
  (∀ (now pub : Nat) (ok : Bool) (s : State), rtUp s = true → s.dbg.ir = 0x12 → effLc s = 2 → s.lcWait = 0 →
    unlockOk s now pub ok = false →
    (∃ t, exec (.unlockResponse now pub ok) s = .next t ∧ Counted s t eUnlockFails 0 ∧ rdE t eLcStatus 0 = stPolicy ∧ t.boot = s.boot)) ∧
  (∀ (w : DbgWord) (st : Nat) (s : State), dbgIssued s w = true → dbgCheck w = some st →
    exec (.dbgRead32 w) s = .next (dbgDone s st 0) ∧ exec (.dbgStatus w) s = .next (dbgDone s st 0)) ∧
  (∀ (w : DbgWord) (s : State), DbgAccepted s w → w.freeze = false → (∃ t, exec (.dbgNop w) s = .next t ∧ t.dbg.data = 0 % 2 ^ 32 ∧ t.dbg.status = stOk ∧
      t.sent = s.sent ++ [.dbgData (0 % 2 ^ 32) stOk] ∧ t = { s with dbg := t.dbg, sent := t.sent })) ∧
  (∀ (w : DbgWord) (s : State), DbgAccepted s w → dbgAccess s w = none → w.space = 3 → w.target / 32 ∉ s.pwr.logicOff →
    (∃ t, exec (.dbgRead32 w) s = .next t ∧ t.dbg.data = (mrd (loftOf s (w.target / 32)) w.addr 4) % 2 ^ 32 ∧ t.dbg.status = stOk ∧
      t.sent = s.sent ++ [.dbgData ((mrd (loftOf s (w.target / 32)) w.addr 4) % 2 ^ 32) stOk] ∧ t.loft = s.loft)) ∧
  (∀ (w : DbgWord) (s : State), DbgAccepted s w → dbgAccess s w = none → w.space = 1 → w.target / 32 ∉ s.pwr.logicOff → w.target < 264 →
    (∃ t, exec (.dbgRead32 w) s = .next t ∧ t.dbg.data = (mrd s.dbg.coreMem (w.target * 2 ^ 48 + w.addr) 4) % 2 ^ 32 ∧ t.dbg.status = stOk ∧
      t.sent = s.sent ++ [.dbgData ((mrd s.dbg.coreMem (w.target * 2 ^ 48 + w.addr) 4) % 2 ^ 32) stOk] ∧ t.dbg.coreMem = s.dbg.coreMem)) ∧
  (∀ (w : DbgWord) (s : State), DbgAccepted s w → w.freeze = false → dbgAccess s w = none → w.space = 3 →
    (∃ t, exec (.dbgWrite32 w) s = .next t ∧ t.dbg.data = 0 % 2 ^ 32 ∧ t.dbg.status = stOk ∧
      t.sent = s.sent ++ [.dbgData (0 % 2 ^ 32) stOk] ∧ mrd (loftOf t (w.target / 32)) w.addr 4 = w.data % 2 ^ 32 ∧
      (∀ a, (a < w.addr ∨ w.addr + 4 ≤ a) → mget (loftOf t (w.target / 32)) a = mget (loftOf s (w.target / 32)) a) ∧
      ∀ d, d ≠ w.target / 32 → loftOf t d = loftOf s d)) ∧
  (∀ (w : DbgWord) (s : State), DbgAccepted s w → w.freeze = false → w.target < 264 →
    (∃ t, exec (.dbgHalt w) s = .next t ∧ t.dbg.data = 0 % 2 ^ 32 ∧ t.dbg.status = stOk ∧
      t.sent = s.sent ++ [.dbgData (0 % 2 ^ 32) stOk] ∧ (∀ u, u ∈ t.dbg.halted ↔ u ∈ s.dbg.halted ∨ u = w.target) ∧
      (w.target ∉ s.dbg.halted → tget t.dbg.steps 0 w.target = 0))) ∧
  (∀ (w : DbgWord) (s : State), DbgAccepted s w → w.freeze = false → w.target < 264 →
    (∃ t, exec (.dbgResume w) s = .next t ∧ t.dbg.data = 0 % 2 ^ 32 ∧ t.dbg.status = stOk ∧
      t.sent = s.sent ++ [.dbgData (0 % 2 ^ 32) stOk] ∧ ∀ u, u ∈ t.dbg.halted ↔ u ∈ s.dbg.halted ∧ u ≠ w.target)) ∧
  (∀ (w : DbgWord) (d : Desc) (s : State), DbgAccepted s w → w.freeze = false → w.target < 264 → w.slot ≠ 0 → w.target ∈ s.dbg.halted →
    heldDesc s w.target = some d →
    (∃ t, exec (.dbgStep w) s = .next t ∧ t.dbg.data = 0 % 2 ^ 32 ∧ t.dbg.status = stOk ∧
      t.sent = s.sent ++ [.dbgData (0 % 2 ^ 32) stOk] ∧ tget t.dbg.steps 0 w.target = satAdd 65535 (tget s.dbg.steps 0 w.target) (w.slot % 256) ∧
      t.dbg.halted = s.dbg.halted)) ∧
  (∀ (w : DbgWord) (s : State), DbgAccepted s w → w.freeze = false → w.slot = 0 →
    exec (.dbgStep w) s = .next (dbgDone s stParam 0)) ∧
  (∀ (w : DbgWord) (s : State), DbgAccepted s w → w.target < 264 →
    (∃ t, exec (.dbgStatus w) s = .next t ∧ t.dbg.status = stOk ∧ (t.dbg.data % 2 = 1 ↔ w.target ∈ s.dbg.halted) ∧
      (w.target < 256 → (t.dbg.data / 2 % 2 = 1 ↔ (heldDesc s w.target).isSome = true) ∧
        t.dbg.data / 2 ^ 16 = tget s.dbg.steps 0 w.target % 2 ^ 16))) ∧
  (∀ (w : DbgWord) (s : State), DbgAccepted s w → w.freeze = false → (w.target < 256 ∧ w.slot < 4 ∨ 256 ≤ w.target ∧ w.target < 264 ∧ w.slot < 12) →
    (∃ t, exec (.dbgSetBp w) s = .next t ∧ t.dbg.data = 0 % 2 ^ 32 ∧ t.dbg.status = stOk ∧
      t.sent = s.sent ++ [.dbgData (0 % 2 ^ 32) stOk] ∧ tget t.dbg.bps 0 (w.target * 16 + w.slot) = 2 ^ 48 + (if w.target < 256 then w.data % 2 ^ 32 else w.addr) ∧
      ∀ k, k ≠ w.target * 16 + w.slot → tget t.dbg.bps 0 k = tget s.dbg.bps 0 k) ∧
    (∃ t, exec (.dbgClearBp w) s = .next t ∧ t.dbg.data = 0 % 2 ^ 32 ∧ t.dbg.status = stOk ∧
      t.sent = s.sent ++ [.dbgData (0 % 2 ^ 32) stOk] ∧ tget t.dbg.bps 0 (w.target * 16 + w.slot) = 0 ∧
      ∀ k, k ≠ w.target * 16 + w.slot → tget t.dbg.bps 0 k = tget s.dbg.bps 0 k))

/-- The object dictionary and the BARs (R31, R529 to R531, R541 to R549).
The model's own choice, no rule of the spec: TIMEOUT at a later offset without a copy (DEDUCED, log 79). -/
def Obligations.DictionaryReadsAndWrites : Prop :=
  (∀ (src : Src) (index sub len v : Nat) (e : Ent) (s : State), odFind index sub = some e → ownCommand e = false →
    e ≠ eTileFirst → e ≠ eTileCount →
    codeRule src e (recordNo src e index) v = none → (configRule e (recordNo src e index) (sub - e.subLo) v).isNone = true →
    AcceptedLen s src e (recordNo src e index) len v →
    (∃ u, exec (.odWriteEntry (.od src index sub len v)) s = .next (answer u src stOk) ∧ u = { s with od := u.od } ∧
      rdEj u e (recordNo src e index) (sub - e.subLo) = v)) ∧
  (∀ (src : Src) (index sub len v : Nat) (s : State), odFind index sub = none → srcLive s src = true →
    exec (.odWriteEntry (.od src index sub len v)) s =
      .next (answer s src (if sub = 0 ∧ (odHighest index).isSome = true then stAccess else stUnsupported))) ∧
  (∀ (f q v : Nat) (s : State), q < 64 → bar0Answers s f (0x1000 + 64 * q) = true →
    (∃ t, exec (.odWriteEntry (.bar0 f (0x1000 + 64 * q) 8 v)) s = .next t ∧ t = { s with cqs := t.cqs } ∧
      cq t f q = { cq s f q with base := v % 2 ^ 64 } ∧ ∀ p, p < 64 → p ≠ q → cq t f p = cq s f p)) ∧
  (∀ (a size v : Nat) (s : State), s.boot.st = 1 → s.boot.claim ≠ 2 → a + size ≤ 0x400000 → a < 0x400000 → bar0Answers s 0 (0x1000000 + a) = true →
    (∃ t, exec (.odWriteEntry (.bar0 0 (0x1000000 + a) size v)) s = .next t ∧ t.boot.claim = 1 ∧ t.boot.written = max s.boot.written (a + size) ∧
      mrd t.boot.win a size = v % 2 ^ (8 * size))) ∧
  (∀ (f : Nat) (on : Bool) (s : State), fnExists s f = true → s.pwr.frozen = false → s.pwr.inReset = false →
    (∃ t, exec (.odWriteEntry (.memSpace f on)) s = .next t ∧ (f ∈ t.pcie.memOn ↔ on = true) ∧
      ∀ g, g ≠ f → (g ∈ t.pcie.memOn ↔ g ∈ s.pcie.memOn))) ∧
  (∀ (f d : Nat) (s : State), f ≠ 0 → fnExists s f = true → s.pwr.frozen = false → s.pwr.inReset = false →
    (∃ t, exec (.odWriteEntry (.dstate f d)) s = .next t ∧ (f ∈ t.pcie.vfD3 ↔ d ≠ 0) ∧
      ∀ g, g ≠ f → (g ∈ t.pcie.vfD3 ↔ g ∈ s.pcie.vfD3))) ∧
  (∀ (k f : Nat) (s : State), rtUp s = true → f < 64 → tdispLocked s f = false → (∀ g, streamFn s k = some g → tdispLocked s g = false) →
    (∃ t, exec (.odWriteEntry (.ide k f)) s = .next t ∧ streamFn t k = some f ∧ ∀ j, j ≠ k → streamFn t j = streamFn s j)) ∧
  (∀ (w v : Nat) (s : State), bar2Up s = true → (w = 8 ∨ w = 9) →
    (∃ t, exec (.odWriteEntry (.bar2 (w * 0x1000000 + 0x52000) 4 v)) s = .next t ∧ t = { s with bar2 := t.bar2 } ∧
      rdB t (w * 0x1000000 + 0x52000) 0 = v % 2 ^ 13)) ∧
  (∀ (src : Src) (txn index sub len v n : Nat) (s : State), srcLive s src = true → odFind index sub ≠ some eDebugChallenge →
    odLookup s src index sub = (stOk, v, n) →
    ∃ u, exec (.odRead src txn index sub 0 len) s = .next (answerPart u src v n 0 len) ∧ u.od = s.od ∧ u.mboxes = s.mboxes ∧
      u.copies.filter (fun c => c.src == src) = [{ src := src, txn := txn, value := v, len := n }]) ∧
  (∀ (src : Src) (txn index sub len st v n : Nat) (s : State), srcLive s src = true → odFind index sub ≠ some eDebugChallenge →
    odLookup s src index sub = (st, v, n) → st ≠ stOk →
    exec (.odRead src txn index sub 0 len) s = .next (answerWith s src st 0 0 true false)) ∧
  (∀ (src : Src) (txn index sub off len : Nat) (s : State), srcLive s src = true → odFind index sub ≠ some eDebugChallenge → off ≠ 0 →
    exec (.odRead src txn index sub off len) s = .next
      (match s.copies.find? (fun c => c.src == src && c.txn == txn) with
       | some c => answerPart s src c.value c.len off len
       | none => answerWith s src stTimeout 0 0 true false)) ∧
  (∀ (src : Src) (txn : Nat) (s : State), s.pwr.frozen = false →
    (∃ t, exec (.odReadCopyLapse src txn) s = .next t ∧ t = { s with copies := t.copies } ∧
      ∀ c, c ∈ t.copies ↔ c ∈ s.copies ∧ ¬ (c.src = src ∧ c.txn = txn))) ∧
  (∀ (src : Src) (txn index sub off len v : Nat) (s : State), srcLive s src = true → stagingOf s src txn = none → len ≠ 0 →
    len ≤ maxData s src → index ≠ 0x1F00 →
    (∃ u, exec (.odWriteSegment src txn index sub off len v false) s = .next (answer u src stOk) ∧ u = { s with staging := s.staging ++
      [{ src := src, txn := txn, index := index, sub := sub, value := v % 2 ^ (8 * len) * 2 ^ (8 * off), len := off + len, lapsed := false }] })) ∧
  (∀ (src : Src) (txn off len v : Nat) (x : Staging) (s : State), srcLive s src = true → stagingOf s src txn = some x → x.lapsed = false →
    len ≠ 0 → len ≤ maxData s src → x.index ≠ 0x1F00 →
    exec (.odWriteSegment src txn x.index x.sub off len v true) s =
      exec (.odWriteEntry (.od src x.index x.sub (max x.len (off + len)) (putBits x.value (8 * (off + len) - 1) (8 * off) (v % 2 ^ (8 * len)))))
        (dropStaging s src txn)) ∧
  (∀ (src : Src) (txn index sub off len v : Nat) (x : Staging) (s : State), srcLive s src = true → stagingOf s src txn = some x →
    x.lapsed = true → off ≠ 0 →
    exec (.odWriteSegment src txn index sub off len v true) s = .next (answer (dropStaging s src txn) src stTimeout)) ∧
  (∀ (src : Src) (txn : Nat) (s : State), s.pwr.frozen = false →
    (∃ t, exec (.odStagingTimeout src txn) s = .next t ∧ t = { s with staging := t.staging } ∧
      ∀ x ∈ t.staging, x.src = src → x.txn = txn → x.lapsed = true ∧ x.len = 0 ∧ x.value = 0)) ∧
  (∀ (f c : Nat) (s : State), readLive s f = true → bar0Up s f = true → ownsCounter s f c = true →
    (∃ t, exec (.registerRead (.bar0 f (0x200000 + 8 * c) 4)) s = .next t ∧ t.sent = s.sent ++ [.regData (synGet s c % 2 ^ 32)] ∧ t.syn = s.syn)) ∧
  (∀ (f c : Nat) (s : State), readLive s f = true → bar0Up s f = true → c < 16384 → ownsCounter s f c = false →
    (∃ t, exec (.registerRead (.bar0 f (0x200000 + 8 * c) 4)) s = .next t ∧ t.sent = s.sent ++ [.regData 0] ∧ Counted s t eSynForeign 0)) ∧
  (∀ (off size : Nat) (s : State), readLive s 0 = true → running s = false →
    (∃ t, exec (.registerRead (.bar2 off size)) s = .next t ∧ t.sent = s.sent ++ [.regData 0])) ∧
  (∀ (s : State), readLive s 0 = true → running s = true →
    (∃ t, exec (.registerRead (.bar2 0x240000 4)) s = .next t ∧ t.sent = s.sent ++ [.regData (rngStatus s % 2 ^ 32)])) ∧
  (∀ (f len : Nat) (s : State), mboxUp s f = true → fnExists s f = true → mbBad s f len = false →
    (∃ t, exec (.mbDoorbell f len) s = .next t ∧ t = { s with mboxes := t.mboxes } ∧ mboxOf t f = { mboxOf s f with busy := true, respValid := false })) ∧
  (∀ (f len : Nat) (s : State), mboxUp s f = true → fnExists s f = true → mbBad s f len = true →
    (∃ t, exec (.mbDoorbell f len) s = .next t ∧ mboxOf t f = { mboxOf s f with overruns := satAdd 0xFFFFFFFF (mboxOf s f).overruns 1 } ∧
      t.mboxMem = s.mboxMem))

/-- The order of checks of R600 and what a refusal leaves. -/
def Obligations.RefusedWritesChangeNothing : Prop :=
  (∀ (c : Instr) (src : Src) (e : Ent) (n len v : Nat) (s : State), writeOf c = some (src, e, n, len, v) → srcLive s src = false →
    exec c s = .next s) ∧
  (∀ (c : Instr) (src : Src) (e : Ent) (n len v st : Nat) (s : State), writeOf c = some (src, e, n, len, v) → srcLive s src = true →
    odEarly s src e n = some st → exec c s = .next (answer (noteWrite s src e n st false) src st)) ∧
  (∀ (c : Instr) (src : Src) (e : Ent) (n len v st : Nat) (s : State), writeOf c = some (src, e, n, len, v) → srcLive s src = true →
    odEarly s src e n = none → odLate s e n len v = some st → exec c s = .next (answer (noteWrite s src e n st true) src st)) ∧
  (∀ (src : Src) (e : Ent) (n : Nat) (s : State), e.perFn = false → e.count ≤ n → odEarly s src e n = some stUnsupported) ∧
  (∀ (src : Src) (e : Ent) (n : Nat) (s : State), (e.perFn = true ∨ n < e.count) → srcMayWrite s src e n = false →
    odEarly s src e n = some stAccess) ∧
  (∀ (src : Src) (e : Ent) (n : Nat) (s : State), (e.perFn = true ∨ n < e.count) → srcMayWrite s src e n = true → srcFn src < 64 →
    fnBlocked s (srcFn src) = true → fencedEntry s (srcFn src) e n = true → odEarly s src e n = some stFenced) ∧
  (∀ (e : Ent) (n len v : Nat) (s : State), lockedEntry s e n = true → odLate s e n len v = some stPolicy) ∧
  (∀ (e : Ent) (n len v : Nat) (s : State), lockedEntry s e n = false → (lenOk e len = false ∨ valueOk e v = false) →
    odLate s e n len v = some stParam) ∧
  (∀ (src : Src) (e : Ent) (n st : Nat) (late : Bool) (s : State), noteWrite s src e n st late = { s with od := (noteWrite s src e n st late).od } ∧
    ∀ k, k ≠ entKey eLastRefusal n 0 → k ≠ entKey eObjResult (srcFn src) 0 → k ≠ entKey eLcStatus 0 0 →
      ∀ x, tget (noteWrite s src e n st late).od x k = tget s.od x k)

/-- What every completion does (R275 to R277, R287, R302).
The model's own choice, no rule of the spec: SOURCE is a free one of the engines (DESIGN CHOICE, log 84). -/
def Obligations.CompletionDelivers : Prop :=
  ∀ (s t : State) (d : Desc) (st detail : Nat), t = completeDesc s d st detail →
    ((∀ x ∈ t.descs, ∃ y ∈ s.descs, y.id ≠ d.id ∧ x = { y with aux := x.aux }) ∧
      (∀ y ∈ s.descs, y.id ≠ d.id → ∃ x ∈ t.descs, x = { y with aux := x.aux }) ∧ t.loft = s.loft ∧ t.host = s.host ∧ t.tiles = s.tiles ∧ t.ctxs = s.ctxs ∧
      t.od = s.od) ∧
    (recordOk s d = false → t.vm = s.vm) ∧
    (recordOk s d = true → (∀ n, n ≠ dCtx d → vmOf t n = vmOf s n) ∧
      ∀ a, (a < dRecAddr d ∨ dRecAddr d + 32 ≤ a) → mget (vmOf t (dCtx d)) a = mget (vmOf s (dCtx d)) a) ∧
    (recordOk s d = true → st < 256 → dQueue d < 65536 → d.unit < 65536 →
      mrd (vmOf t (dCtx d)) (dRecAddr d) 1 = st ∧ mrd (vmOf t (dCtx d)) (dRecAddr d + 1) 1 = dOp d ∧
      mrd (vmOf t (dCtx d)) (dRecAddr d + 2) 1 = dCtx d ∧ mrd (vmOf t (dCtx d)) (dRecAddr d + 6) 2 = d.unit ∧
      mrd (vmOf t (dCtx d)) (dRecAddr d + 8) 4 = d.seq % 2 ^ 32 ∧ mrd (vmOf t (dCtx d)) (dRecAddr d + 12) 4 = detail % 2 ^ 32) ∧
    (signals d st = false → t.syn = s.syn ∧ ∀ x, x ∈ t.descs ↔ x ∈ s.descs ∧ x.id ≠ d.id) ∧
    (signals d st = true → synGet t (dSigCtr d) = (if dOp d = 0x71 ∧ df d 32 1 = 1 then dSigInc d else satAdd 0xFFFFFFFF (synGet s (dSigCtr d)) (dSigInc d)) ∧
      ∀ c, c ≠ dSigCtr d → synGet t c = synGet s c) ∧
    (dEvent d = true → signals d st = false → fnBlocked s d.fn = false → (evq s d.fn (evqOf s d.fn d.queue)).enable = true →
      (evq s d.fn (evqOf s d.fn d.queue)).entries.length < (evq s d.fn (evqOf s d.fn d.queue)).depth →
      (evq s d.fn (evqOf s d.fn d.queue)).lostBefore = false →
      (evq t d.fn (evqOf s d.fn d.queue)).entries = (evq s d.fn (evqOf s d.fn d.queue)).entries ++
        [evEntry evCompletion (dCtx d) st d.queue d.unit d.seq (dOp d)]) ∧
    (dEvent d = false → signals d st = false → t.evqs = s.evqs)

/-- No step clears a fuse (R432). -/
def Obligations.FusesOnlyBurn : Prop := ∀ (s t : State), step s = .next t → FusesKept s t

/-- The memory frame of the commands that store nothing in memory. -/
def Obligations.RegisterCommandsKeepMemory : Prop :=
  ∀ (c : Instr) (s t : State), registerOnly c = true → exec c s = .next t →
    t.host = s.host ∧ t.vm = s.vm ∧ t.loft = s.loft ∧ t.tiles = s.tiles ∧ t.descs = s.descs ∧ t.fuses = { s.fuses with svnFloor := t.fuses.svnFloor }

/-- The reset values that the spec gives (R34, R443, R466, R488, R573).
The model's own choice, no rule of the spec: sync counters and the boot count are 0 (DESIGN CHOICE, log 5). -/
def Obligations.ResetState : Prop :=
  (∀ f, rdE State.reset eFnState f = fnUnclean) ∧ (∀ n, rdE State.reset eCtxState n = cxFree ∧ roundSt State.reset n = rsNone) ∧
  State.reset.descs = [] ∧ State.reset.trigs = [] ∧ State.reset.pending = [] ∧
  (∀ f q, (cq State.reset f q).enable = false ∧ (evq State.reset f q).enable = false) ∧
  (∀ c, synGet State.reset c = 0) ∧ (∀ k, k < 256 → synOwnerOf State.reset k = k / 4) ∧
  (∀ e, (epOf State.reset e).st = 0 ∧ (regionOf State.reset e).st = 0 ∧ (tget State.reset.pds {} e : Pd).st = 0 ∧ (keyOf State.reset e).st = 0) ∧
  (∀ i, (vslot State.reset i).st = 0) ∧ State.reset.mram.bootCount = 0 ∧ moduleState State.reset = 1 ∧
  diePowers State.reset = 0x15555 ∧ rdE State.reset eGateDelay 0 = 100 ∧ rdE State.reset eWakeEnable 0 = 0x1F ∧
  rdE State.reset eWakeCause 0 = 0
end

