-- ==== Sys2Proof/Laws/Tables.lean ====
section
/-!
SUPPORT. Laws of the sparse tables and byte memories: what a read gives after a write, and that every memory operation
keeps the canonical form.
-/

namespace Sys2Proof.Machine

open Sys2Proof

variable {α : Type}

/-! ### Tables -/

theorem tget_terase (t : Tbl α) (d : α) (k j : Nat) : tget (terase t k) d j = if k = j then d else tget t d j := by
  induction t with
  | nil => simp [terase, tget]
  | cons c r ih =>
    simp only [terase] at ih
    by_cases h : c.1 = k
    · simp [terase, tget, h, ih]
      split <;> rfl
    · simp only [terase, tget, List.filter_cons, bne_iff_ne, ne_eq, h, not_false_eq_true, ite_true]
      by_cases h2 : c.1 = j
      · simp [h2, show ¬ k = j from fun e => h (h2.trans e.symm)]
      · simp [h2, ih]

theorem tget_tput (t : Tbl α) (d : α) (k j : Nat) (v : α) : tget (tput t k v) d j = if k = j then v else tget t d j := by
  induction t with
  | nil => simp [tput, tget]
  | cons c r ih =>
    unfold tput
    split
    · simp [tget]
    · split
      · rename_i h
        simp [tget, h]
        split <;> rfl
      · rename_i h1 h2
        by_cases h3 : c.1 = j
        · simp [tget, h3, show ¬ k = j from fun e => h2 (h3.trans e.symm)]
        · simp [tget, h3, ih]

/-- Reading a table after a write. -/
theorem tget_tset [DecidableEq α] (t : Tbl α) (d : α) (k j : Nat) (v : α) :
    tget (tset t d k v) d j = if k = j then v else tget t d j := by
  unfold tset
  split
  · rename_i h
    rw [tget_terase, h]
  · exact tget_tput t d k j v

@[simp] theorem tget_tset_same [DecidableEq α] (t : Tbl α) (d : α) (k : Nat) (v : α) : tget (tset t d k v) d k = v := by
  simp [tget_tset]

theorem tget_tset_ne [DecidableEq α] (t : Tbl α) (d : α) {k j : Nat} (v : α) (h : k ≠ j) :
    tget (tset t d k v) d j = tget t d j := by simp [tget_tset, h]

@[simp] theorem tget_nil (d : α) (k : Nat) : tget [] d k = d := rfl

/-! ### The canonical form -/

/-- Every key of a table is at least k. -/
def keysFrom (k : Nat) (t : Tbl α) : Prop := ∀ c ∈ t, k ≤ c.1

theorem keysRise_cons (c : Nat × α) (t : Tbl α) : keysRise (c :: t) = true ↔ keysFrom (c.1 + 1) t ∧ keysRise t = true := by
  induction t generalizing c with
  | nil => simp [keysRise, keysFrom]
  | cons b r ih =>
    simp only [keysRise, Bool.and_eq_true, decide_eq_true_eq]
    constructor
    · intro ⟨h1, h2⟩
      refine ⟨?_, h2⟩
      intro x hx
      rcases List.mem_cons.1 hx with rfl | hx
      · exact h1
      · have := ((ih b).1 h2).1 x hx
        omega
    · intro ⟨h1, h2⟩
      exact ⟨h1 b (by simp), h2⟩

theorem keysRise_filter (p : Nat × α → Bool) (t : Tbl α) (h : keysRise t = true) : keysRise (t.filter p) = true := by
  induction t with
  | nil => rfl
  | cons c r ih =>
    rw [keysRise_cons] at h
    rw [List.filter_cons]
    split
    · rw [keysRise_cons]
      exact ⟨fun x hx => h.1 x ((List.mem_filter.1 hx).1), ih h.2⟩
    · exact ih h.2

theorem keysFrom_tput (t : Tbl α) (k j : Nat) (v : α) (h : keysFrom j t) (hk : j ≤ k) : keysFrom j (tput t k v) := by
  induction t with
  | nil => intro x hx; simp [tput] at hx; simp [hx, hk]
  | cons c r ih =>
    have hr : keysFrom j r := fun x hx => h x (by simp [hx])
    have hc := h c (by simp)
    intro x hx
    unfold tput at hx
    split at hx
    · rcases List.mem_cons.1 hx with rfl | hx
      · exact hk
      · exact h x hx
    · split at hx
      · rcases List.mem_cons.1 hx with rfl | hx
        · exact hk
        · exact hr x hx
      · rcases List.mem_cons.1 hx with rfl | hx
        · exact hc
        · exact ih hr x hx

theorem keysRise_tput (t : Tbl α) (k : Nat) (v : α) (h : keysRise t = true) : keysRise (tput t k v) = true := by
  induction t with
  | nil => rfl
  | cons c r ih =>
    have h' := (keysRise_cons c r).1 h
    unfold tput
    split
    · rename_i hlt
      rw [keysRise_cons]
      refine ⟨?_, h⟩
      intro x hx
      rcases List.mem_cons.1 hx with rfl | hx
      · exact hlt
      · have := h'.1 x hx
        simp only at hlt ⊢
        omega
    · split
      · rename_i heq
        rw [keysRise_cons]
        exact ⟨by simpa [heq] using h'.1, h'.2⟩
      · rename_i h1 h2
        rw [keysRise_cons]
        exact ⟨keysFrom_tput r k (c.1 + 1) v h'.1 (by omega), ih h'.2⟩

theorem keysRise_tset [DecidableEq α] (t : Tbl α) (d : α) (k : Nat) (v : α) (h : keysRise t = true) :
    keysRise (tset t d k v) = true := by
  unfold tset
  split
  · exact keysRise_filter _ t h
  · exact keysRise_tput t k v h

/-! ### Memories -/

theorem mem_tput (t : Tbl α) (k : Nat) (v : α) (c : Nat × α) (h : c ∈ tput t k v) : c = (k, v) ∨ c ∈ t := by
  induction t with
  | nil => simp [tput] at h; exact .inl h
  | cons b r ih =>
    unfold tput at h
    split at h
    · rcases List.mem_cons.1 h with rfl | h
      · exact .inl rfl
      · exact .inr h
    · split at h
      · rcases List.mem_cons.1 h with rfl | h
        · exact .inl rfl
        · exact .inr (by simp [h])
      · rcases List.mem_cons.1 h with rfl | h
        · exact .inr (by simp)
        · rcases ih h with h | h
          · exact .inl h
          · exact .inr (by simp [h])

theorem memWf_filter (m : Mem) (p : Host.Cell → Bool) (h : memWf m = true) : memWf (m.filter p) = true := by
  simp only [memWf, Bool.and_eq_true, List.all_eq_true] at *
  exact ⟨keysRise_filter p m h.1, fun c hc => h.2 c ((List.mem_filter.1 hc).1)⟩

/-- Writing one byte keeps the canonical form. -/
theorem memWf_mset (m : Mem) (a : Nat) (b : Byte) (h : memWf m = true) : memWf (mset m a b) = true := by
  unfold mset tset
  split
  · exact memWf_filter m _ h
  · rename_i hb
    simp only [memWf, Bool.and_eq_true, List.all_eq_true] at *
    refine ⟨keysRise_tput m a b h.1, fun c hc => ?_⟩
    rcases mem_tput m a b c hc with rfl | hc
    · simpa using hb
    · exact h.2 c hc

/-- Writing n bytes keeps it. -/
theorem memWf_mwr (m : Mem) (a n v : Nat) (h : memWf m = true) : memWf (mwr m a n v) = true := by
  induction n generalizing m a v with
  | zero => exact h
  | succ n ih => exact ih _ _ _ (memWf_mset m a _ h)

theorem memWf_mclear (m : Mem) (a n : Nat) (h : memWf m = true) : memWf (mclear m a n) = true := memWf_filter m _ h

theorem memWf_mfill (m : Mem) (a p n i : Nat) (h : memWf m = true) : memWf (mfill m a p n i) = true := by
  induction n generalizing m i with
  | zero => exact h
  | succ n ih => exact ih _ _ (memWf_mset m _ _ h)

theorem memWf_foldl_mset (l : List Host.Cell) (f : Host.Cell → Nat) (m : Mem) (h : memWf m = true) :
    memWf (l.foldl (fun acc c => mset acc (f c) c.2) m) = true := by
  induction l generalizing m with
  | nil => exact h
  | cons c r ih => exact ih _ (memWf_mset m _ _ h)

theorem memWf_mpaste (m : Mem) (a n : Nat) (p : Mem) (h : memWf m = true) : memWf (mpaste m a n p) = true :=
  memWf_foldl_mset _ (fun c => a + c.1) _ (memWf_mclear m a n h)

/-- A copy keeps the form of the memory it writes. -/
theorem memWf_mcopy (src dst : Mem) (sa da n : Nat) (h : memWf dst = true) : memWf (mcopy src sa dst da n) = true :=
  memWf_mpaste dst da n _ h

/-- A byte read after a byte written. -/
theorem mget_mset (m : Mem) (a j : Nat) (b : Byte) : mget (mset m a b) j = if a = j then b else mget m j := tget_tset m 0 a j b

/-- A byte outside the n bytes written reads as before. -/
theorem mget_mwr_outside (m : Mem) (a n v j : Nat) (h : j < a ∨ a + n ≤ j) : mget (mwr m a n v) j = mget m j := by
  induction n generalizing m a v with
  | zero => rfl
  | succ n ih =>
    rw [mwr, ih _ _ _ (by omega), mget_mset, if_neg (by omega)]

/-- The value just written reads back. -/
theorem mrd_mwr_same (m : Mem) (a n v : Nat) : mrd (mwr m a n v) a n = v % 2 ^ (8 * n) := by
  induction n generalizing m a v with
  | zero => simp [mrd, Nat.mod_one]
  | succ n ih =>
    have h0 : mget (mwr (mset m a (BitVec.ofNat 8 (v % 256))) (a + 1) n (v / 256)) a = BitVec.ofNat 8 (v % 256) := by
      rw [mget_mwr_outside _ _ _ _ _ (by omega), mget_mset, if_pos rfl]
    have hm : v % 2 ^ (8 * (n + 1)) = v % 256 + 256 * (v / 256 % 2 ^ (8 * n)) := by
      rw [show 8 * (n + 1) = 8 + 8 * n by omega, Nat.pow_add, Nat.mod_mul]
    rw [mwr, mrd, h0, ih, hm]
    simp [BitVec.toNat_ofNat]

theorem mget_mclear (m : Mem) (a n j : Nat) : mget (mclear m a n) j = if a ≤ j ∧ j < a + n then 0 else mget m j := by
  unfold mget mclear
  induction m with
  | nil => simp [tget]
  | cons c r ih =>
    rw [List.filter_cons]
    split
    · rename_i h
      simp only [Bool.or_eq_true, decide_eq_true_eq] at h
      by_cases hc : c.1 = j
      · have : ¬ (a ≤ j ∧ j < a + n) := by omega
        simp [tget, hc, this]
      · simp only [tget, hc, if_false]
        exact ih
    · rename_i h
      simp only [Bool.or_eq_true, decide_eq_true_eq] at h
      by_cases hc : c.1 = j
      · have : a ≤ j ∧ j < a + n := by omega
        rw [ih, if_pos this, if_pos this]
      · rw [ih]
        simp [tget, hc]

end Sys2Proof.Machine
end

