-- ==== Sys2Proof/Laws/Memory.lean ====
section
/-!
SUPPORT. The memory operations of the families keep the canonical form, and what free bytes and exports leave alone.
-/

namespace Sys2Proof.Machine

open Sys2Proof

/-- A fold of operations that keep the form keeps it. -/
theorem memWf_foldl {α : Type} (l : List α) (g : Mem → α → Mem) (hg : ∀ m x, memWf m = true → memWf (g m x) = true)
    (m : Mem) (h : memWf m = true) : memWf (l.foldl g m) = true := by
  induction l generalizing m with
  | nil => exact h
  | cons x r ih => exact ih _ (hg m x h)

theorem memWf_mfree (m : Mem) (a k n : Nat) (h : memWf m = true) : memWf (mfree m a k n) = true := by
  induction n generalizing m with
  | zero => exact h
  | succ n ih => exact ih _ (memWf_mset m _ _ h)

/-- Free bytes touch no byte outside their range. -/
theorem mget_mfree_outside (m : Mem) (a k n j : Nat) (h : j < a ∨ a + n ≤ j) : mget (mfree m a k n) j = mget m j := by
  induction n generalizing m with
  | zero => rfl
  | succ n ih => rw [mfree, ih _ (by omega), mget_mset, if_neg (by omega)]

theorem memWf_hiddenView (s : State) (n a len : Nat) (m : Mem) (h : memWf m = true) :
    memWf (hiddenView s n a len m) = true := by
  unfold hiddenView
  split
  · exact memWf_foldl _ _ (fun m _ h => memWf_mset m _ _ h) m h
  · exact h

theorem memWf_srcMem (s : State) (d : Desc) (die : Nat) (loft : Bool) (a len : Nat)
    (hl : memWf (loftOf s die) = true) (hv : memWf (vmOf s (dCtx d)) = true) : memWf (srcMem s d die loft a len) = true := by
  unfold srcMem
  split
  · exact hl
  · exact memWf_hiddenView _ _ _ _ _ hv

theorem memWf_exportView (s : State) (n : Nat) (m : Mem) (h : memWf m = true) : memWf (exportView s n m) = true :=
  memWf_mfree _ _ _ _ h

/-- An export differs from the memory in the padding of the round total alone (R76). -/
theorem mget_exportView (s : State) (n : Nat) (m : Mem) (j : Nat)
    (h : j < totalBase s n + totalWidth s n * cfgE s eVectorLength n ∨
      totalBase s n + totalWidth s n * cfgE s eVectorLength n + padBytes s n ≤ j) :
    mget (exportView s n m) j = mget m j := mget_mfree_outside _ _ _ _ _ h

/-- An export consumes free values and changes nothing else. -/
theorem exportTake_eq (s : State) (n a len : Nat) :
    exportTake s n a len = { s with free := (exportTake s n a len).free } := by
  unfold exportTake; split <;> rfl

theorem memWf_copySrc (s : State) (d : Desc) (hl : memWf (loftOf s (df d 32 1)) = true)
    (hv : memWf (vmOf s (dCtx d)) = true) : memWf (copySrc s d) = true := by
  unfold copySrc
  split
  · exact memWf_exportView _ _ _ (memWf_srcMem _ _ _ _ _ _ hl hv)
  · exact memWf_srcMem _ _ _ _ _ _ hl hv

theorem memWf_rowWrite (m : Mem) (a b : Nat) (l : List Nat) (h : memWf m = true) : memWf (rowWrite m a b l) = true := by
  induction l generalizing m a with
  | nil => exact h
  | cons w r ih => exact ih _ _ (memWf_mwr m _ _ _ h)

theorem memWf_writeBytes (m : Mem) (a : Nat) (l : List Nat) (h : memWf m = true) : memWf (writeBytes m a l) = true := by
  induction l generalizing m a with
  | nil => exact h
  | cons b r ih => exact ih _ _ (memWf_mset m _ _ h)

theorem memWf_scrubWords (m : Mem) (a k : Nat) (h : memWf m = true) : memWf (scrubWords m a k) = true := by
  induction k with
  | zero => exact h
  | succ k ih => exact memWf_mwr _ _ _ _ ih

theorem memWf_limbWrite (m : Mem) (a : Nat) (f : Nat → Nat) (k : Nat) (h : memWf m = true) :
    memWf (limbWrite m a f k) = true := by
  induction k with
  | zero => exact h
  | succ k ih => exact memWf_mwr _ _ _ _ ih

theorem memWf_objWrite (m : Mem) (a k hdr parts l n : Nat) (c : CtPoly) (h : memWf m = true) :
    memWf (objWrite m a k hdr parts l n c) = true :=
  memWf_foldl _ _ (fun m _ h => memWf_limbWrite m _ _ _ h) _ (memWf_mwr _ _ _ _ (memWf_mfree _ _ _ _ h))

end Sys2Proof.Machine
end

