-- ==== Sys2Proof/Laws/State.lean ====
section
/-!
SUPPORT. What each plain update of the state leaves alone: for every setter one lemma, whose conjuncts are one equation per
field it does not change; and what each accessor reads after its own setter.
-/

namespace Sys2Proof.Machine

open Sys2Proof

variable (s : State)

/-- wrEj changes od only. -/
@[simp] theorem wrEj_frame (e : Ent) (n j v : Nat) :
    (wrEj s e n j v).pending = s.pending ∧ (wrEj s e n j v).bar2 = s.bar2 ∧ (wrEj s e n j v).msix = s.msix ∧
    (wrEj s e n j v).msixPend = s.msixPend ∧ (wrEj s e n j v).host = s.host ∧ (wrEj s e n j v).vm = s.vm ∧
    (wrEj s e n j v).vmFn = s.vmFn ∧ (wrEj s e n j v).loft = s.loft ∧ (wrEj s e n j v).tiles = s.tiles ∧
    (wrEj s e n j v).ctxs = s.ctxs ∧ (wrEj s e n j v).cqs = s.cqs ∧ (wrEj s e n j v).evqs = s.evqs ∧
    (wrEj s e n j v).descs = s.descs ∧ (wrEj s e n j v).nextDesc = s.nextDesc ∧ (wrEj s e n j v).trigs = s.trigs ∧
    (wrEj s e n j v).firedWait = s.firedWait ∧ (wrEj s e n j v).stream = s.stream ∧
    (wrEj s e n j v).firings = s.firings ∧ (wrEj s e n j v).promoted = s.promoted ∧ (wrEj s e n j v).served = s.served ∧
    (wrEj s e n j v).syn = s.syn ∧ (wrEj s e n j v).mboxes = s.mboxes ∧ (wrEj s e n j v).mboxMem = s.mboxMem ∧
    (wrEj s e n j v).staging = s.staging ∧ (wrEj s e n j v).copies = s.copies ∧ (wrEj s e n j v).fns = s.fns ∧
    (wrEj s e n j v).lcWait = s.lcWait ∧ (wrEj s e n j v).lcSrc = s.lcSrc ∧ (wrEj s e n j v).faults = s.faults ∧
    (wrEj s e n j v).faultSeq = s.faultSeq ∧ (wrEj s e n j v).resets = s.resets ∧
    (wrEj s e n j v).dieResetCount = s.dieResetCount ∧ (wrEj s e n j v).ports = s.ports ∧
    (wrEj s e n j v).switchq = s.switchq ∧ (wrEj s e n j v).swShare = s.swShare ∧
    (wrEj s e n j v).abortsSeen = s.abortsSeen ∧ (wrEj s e n j v).rates = s.rates ∧ (wrEj s e n j v).txs = s.txs ∧
    (wrEj s e n j v).rxs = s.rxs ∧ (wrEj s e n j v).nextMsg = s.nextMsg ∧ (wrEj s e n j v).txCount = s.txCount ∧
    (wrEj s e n j v).eps = s.eps ∧ (wrEj s e n j v).pds = s.pds ∧ (wrEj s e n j v).regions = s.regions ∧
    (wrEj s e n j v).keys = s.keys ∧ (wrEj s e n j v).ctxKeyGen = s.ctxKeyGen ∧ (wrEj s e n j v).parked = s.parked ∧
    (wrEj s e n j v).lru = s.lru ∧ (wrEj s e n j v).hss = s.hss ∧ (wrEj s e n j v).nextHs = s.nextHs ∧
    (wrEj s e n j v).fuses = s.fuses ∧ (wrEj s e n j v).mram = s.mram ∧ (wrEj s e n j v).boot = s.boot ∧
    (wrEj s e n j v).vault = s.vault ∧ (wrEj s e n j v).rng = s.rng ∧ (wrEj s e n j v).pwr = s.pwr ∧
    (wrEj s e n j v).panel = s.panel ∧ (wrEj s e n j v).dbg = s.dbg ∧ (wrEj s e n j v).pcie = s.pcie ∧
    (wrEj s e n j v).sent = s.sent ∧ (wrEj s e n j v).free = s.free ∧ (∀ i j, rdB (wrEj s e n j v) i j = rdB s i j) ∧
    (∀ i, cx (wrEj s e n j v) i = cx s i) ∧ (∀ i j, cohortOf (wrEj s e n j v) i j = cohortOf s i j) ∧
    (∀ i j, cq (wrEj s e n j v) i j = cq s i j) ∧ (∀ i j, evq (wrEj s e n j v) i j = evq s i j) ∧
    (∀ i, fnSt (wrEj s e n j v) i = fnSt s i) ∧ (∀ i, epOf (wrEj s e n j v) i = epOf s i) ∧
    (∀ i, regionOf (wrEj s e n j v) i = regionOf s i) ∧ (∀ i, keyOf (wrEj s e n j v) i = keyOf s i) ∧
    (∀ i, portOf (wrEj s e n j v) i = portOf s i) ∧ (∀ i j l, tileOf (wrEj s e n j v) i j l = tileOf s i j l) ∧
    (∀ i, vmOf (wrEj s e n j v) i = vmOf s i) ∧ (∀ i, loftOf (wrEj s e n j v) i = loftOf s i) ∧
    (∀ i, mboxOf (wrEj s e n j v) i = mboxOf s i) ∧ (∀ i, mboxBytes (wrEj s e n j v) i = mboxBytes s i) :=
  by and_intros <;> intros <;> rfl

/-- wrE changes od only. -/
@[simp] theorem wrE_frame (e : Ent) (n v : Nat) :
    (wrE s e n v).pending = s.pending ∧ (wrE s e n v).bar2 = s.bar2 ∧ (wrE s e n v).msix = s.msix ∧
    (wrE s e n v).msixPend = s.msixPend ∧ (wrE s e n v).host = s.host ∧ (wrE s e n v).vm = s.vm ∧
    (wrE s e n v).vmFn = s.vmFn ∧ (wrE s e n v).loft = s.loft ∧ (wrE s e n v).tiles = s.tiles ∧
    (wrE s e n v).ctxs = s.ctxs ∧ (wrE s e n v).cqs = s.cqs ∧ (wrE s e n v).evqs = s.evqs ∧
    (wrE s e n v).descs = s.descs ∧ (wrE s e n v).nextDesc = s.nextDesc ∧ (wrE s e n v).trigs = s.trigs ∧
    (wrE s e n v).firedWait = s.firedWait ∧ (wrE s e n v).stream = s.stream ∧ (wrE s e n v).firings = s.firings ∧
    (wrE s e n v).promoted = s.promoted ∧ (wrE s e n v).served = s.served ∧ (wrE s e n v).syn = s.syn ∧
    (wrE s e n v).mboxes = s.mboxes ∧ (wrE s e n v).mboxMem = s.mboxMem ∧ (wrE s e n v).staging = s.staging ∧
    (wrE s e n v).copies = s.copies ∧ (wrE s e n v).fns = s.fns ∧ (wrE s e n v).lcWait = s.lcWait ∧
    (wrE s e n v).lcSrc = s.lcSrc ∧ (wrE s e n v).faults = s.faults ∧ (wrE s e n v).faultSeq = s.faultSeq ∧
    (wrE s e n v).resets = s.resets ∧ (wrE s e n v).dieResetCount = s.dieResetCount ∧ (wrE s e n v).ports = s.ports ∧
    (wrE s e n v).switchq = s.switchq ∧ (wrE s e n v).swShare = s.swShare ∧ (wrE s e n v).abortsSeen = s.abortsSeen ∧
    (wrE s e n v).rates = s.rates ∧ (wrE s e n v).txs = s.txs ∧ (wrE s e n v).rxs = s.rxs ∧
    (wrE s e n v).nextMsg = s.nextMsg ∧ (wrE s e n v).txCount = s.txCount ∧ (wrE s e n v).eps = s.eps ∧
    (wrE s e n v).pds = s.pds ∧ (wrE s e n v).regions = s.regions ∧ (wrE s e n v).keys = s.keys ∧
    (wrE s e n v).ctxKeyGen = s.ctxKeyGen ∧ (wrE s e n v).parked = s.parked ∧ (wrE s e n v).lru = s.lru ∧
    (wrE s e n v).hss = s.hss ∧ (wrE s e n v).nextHs = s.nextHs ∧ (wrE s e n v).fuses = s.fuses ∧
    (wrE s e n v).mram = s.mram ∧ (wrE s e n v).boot = s.boot ∧ (wrE s e n v).vault = s.vault ∧
    (wrE s e n v).rng = s.rng ∧ (wrE s e n v).pwr = s.pwr ∧ (wrE s e n v).panel = s.panel ∧ (wrE s e n v).dbg = s.dbg ∧
    (wrE s e n v).pcie = s.pcie ∧ (wrE s e n v).sent = s.sent ∧ (wrE s e n v).free = s.free ∧
    (∀ i j, rdB (wrE s e n v) i j = rdB s i j) ∧ (∀ i, cx (wrE s e n v) i = cx s i) ∧
    (∀ i j, cohortOf (wrE s e n v) i j = cohortOf s i j) ∧ (∀ i j, cq (wrE s e n v) i j = cq s i j) ∧
    (∀ i j, evq (wrE s e n v) i j = evq s i j) ∧ (∀ i, fnSt (wrE s e n v) i = fnSt s i) ∧
    (∀ i, epOf (wrE s e n v) i = epOf s i) ∧ (∀ i, regionOf (wrE s e n v) i = regionOf s i) ∧
    (∀ i, keyOf (wrE s e n v) i = keyOf s i) ∧ (∀ i, portOf (wrE s e n v) i = portOf s i) ∧
    (∀ i j l, tileOf (wrE s e n v) i j l = tileOf s i j l) ∧ (∀ i, vmOf (wrE s e n v) i = vmOf s i) ∧
    (∀ i, loftOf (wrE s e n v) i = loftOf s i) ∧ (∀ i, mboxOf (wrE s e n v) i = mboxOf s i) ∧
    (∀ i, mboxBytes (wrE s e n v) i = mboxBytes s i) :=
  by and_intros <;> intros <;> rfl

/-- addE changes od only. -/
@[simp] theorem addE_frame (e : Ent) (n x : Nat) :
    (addE s e n x).pending = s.pending ∧ (addE s e n x).bar2 = s.bar2 ∧ (addE s e n x).msix = s.msix ∧
    (addE s e n x).msixPend = s.msixPend ∧ (addE s e n x).host = s.host ∧ (addE s e n x).vm = s.vm ∧
    (addE s e n x).vmFn = s.vmFn ∧ (addE s e n x).loft = s.loft ∧ (addE s e n x).tiles = s.tiles ∧
    (addE s e n x).ctxs = s.ctxs ∧ (addE s e n x).cqs = s.cqs ∧ (addE s e n x).evqs = s.evqs ∧
    (addE s e n x).descs = s.descs ∧ (addE s e n x).nextDesc = s.nextDesc ∧ (addE s e n x).trigs = s.trigs ∧
    (addE s e n x).firedWait = s.firedWait ∧ (addE s e n x).stream = s.stream ∧ (addE s e n x).firings = s.firings ∧
    (addE s e n x).promoted = s.promoted ∧ (addE s e n x).served = s.served ∧ (addE s e n x).syn = s.syn ∧
    (addE s e n x).mboxes = s.mboxes ∧ (addE s e n x).mboxMem = s.mboxMem ∧ (addE s e n x).staging = s.staging ∧
    (addE s e n x).copies = s.copies ∧ (addE s e n x).fns = s.fns ∧ (addE s e n x).lcWait = s.lcWait ∧
    (addE s e n x).lcSrc = s.lcSrc ∧ (addE s e n x).faults = s.faults ∧ (addE s e n x).faultSeq = s.faultSeq ∧
    (addE s e n x).resets = s.resets ∧ (addE s e n x).dieResetCount = s.dieResetCount ∧ (addE s e n x).ports = s.ports ∧
    (addE s e n x).switchq = s.switchq ∧ (addE s e n x).swShare = s.swShare ∧ (addE s e n x).abortsSeen = s.abortsSeen ∧
    (addE s e n x).rates = s.rates ∧ (addE s e n x).txs = s.txs ∧ (addE s e n x).rxs = s.rxs ∧
    (addE s e n x).nextMsg = s.nextMsg ∧ (addE s e n x).txCount = s.txCount ∧ (addE s e n x).eps = s.eps ∧
    (addE s e n x).pds = s.pds ∧ (addE s e n x).regions = s.regions ∧ (addE s e n x).keys = s.keys ∧
    (addE s e n x).ctxKeyGen = s.ctxKeyGen ∧ (addE s e n x).parked = s.parked ∧ (addE s e n x).lru = s.lru ∧
    (addE s e n x).hss = s.hss ∧ (addE s e n x).nextHs = s.nextHs ∧ (addE s e n x).fuses = s.fuses ∧
    (addE s e n x).mram = s.mram ∧ (addE s e n x).boot = s.boot ∧ (addE s e n x).vault = s.vault ∧
    (addE s e n x).rng = s.rng ∧ (addE s e n x).pwr = s.pwr ∧ (addE s e n x).panel = s.panel ∧
    (addE s e n x).dbg = s.dbg ∧ (addE s e n x).pcie = s.pcie ∧ (addE s e n x).sent = s.sent ∧
    (addE s e n x).free = s.free ∧ (∀ i j, rdB (addE s e n x) i j = rdB s i j) ∧ (∀ i, cx (addE s e n x) i = cx s i) ∧
    (∀ i j, cohortOf (addE s e n x) i j = cohortOf s i j) ∧ (∀ i j, cq (addE s e n x) i j = cq s i j) ∧
    (∀ i j, evq (addE s e n x) i j = evq s i j) ∧ (∀ i, fnSt (addE s e n x) i = fnSt s i) ∧
    (∀ i, epOf (addE s e n x) i = epOf s i) ∧ (∀ i, regionOf (addE s e n x) i = regionOf s i) ∧
    (∀ i, keyOf (addE s e n x) i = keyOf s i) ∧ (∀ i, portOf (addE s e n x) i = portOf s i) ∧
    (∀ i j l, tileOf (addE s e n x) i j l = tileOf s i j l) ∧ (∀ i, vmOf (addE s e n x) i = vmOf s i) ∧
    (∀ i, loftOf (addE s e n x) i = loftOf s i) ∧ (∀ i, mboxOf (addE s e n x) i = mboxOf s i) ∧
    (∀ i, mboxBytes (addE s e n x) i = mboxBytes s i) :=
  by and_intros <;> intros <;> rfl

/-- bumpE changes od only. -/
@[simp] theorem bumpE_frame (e : Ent) (n : Nat) :
    (bumpE s e n).pending = s.pending ∧ (bumpE s e n).bar2 = s.bar2 ∧ (bumpE s e n).msix = s.msix ∧
    (bumpE s e n).msixPend = s.msixPend ∧ (bumpE s e n).host = s.host ∧ (bumpE s e n).vm = s.vm ∧
    (bumpE s e n).vmFn = s.vmFn ∧ (bumpE s e n).loft = s.loft ∧ (bumpE s e n).tiles = s.tiles ∧
    (bumpE s e n).ctxs = s.ctxs ∧ (bumpE s e n).cqs = s.cqs ∧ (bumpE s e n).evqs = s.evqs ∧
    (bumpE s e n).descs = s.descs ∧ (bumpE s e n).nextDesc = s.nextDesc ∧ (bumpE s e n).trigs = s.trigs ∧
    (bumpE s e n).firedWait = s.firedWait ∧ (bumpE s e n).stream = s.stream ∧ (bumpE s e n).firings = s.firings ∧
    (bumpE s e n).promoted = s.promoted ∧ (bumpE s e n).served = s.served ∧ (bumpE s e n).syn = s.syn ∧
    (bumpE s e n).mboxes = s.mboxes ∧ (bumpE s e n).mboxMem = s.mboxMem ∧ (bumpE s e n).staging = s.staging ∧
    (bumpE s e n).copies = s.copies ∧ (bumpE s e n).fns = s.fns ∧ (bumpE s e n).lcWait = s.lcWait ∧
    (bumpE s e n).lcSrc = s.lcSrc ∧ (bumpE s e n).faults = s.faults ∧ (bumpE s e n).faultSeq = s.faultSeq ∧
    (bumpE s e n).resets = s.resets ∧ (bumpE s e n).dieResetCount = s.dieResetCount ∧ (bumpE s e n).ports = s.ports ∧
    (bumpE s e n).switchq = s.switchq ∧ (bumpE s e n).swShare = s.swShare ∧ (bumpE s e n).abortsSeen = s.abortsSeen ∧
    (bumpE s e n).rates = s.rates ∧ (bumpE s e n).txs = s.txs ∧ (bumpE s e n).rxs = s.rxs ∧
    (bumpE s e n).nextMsg = s.nextMsg ∧ (bumpE s e n).txCount = s.txCount ∧ (bumpE s e n).eps = s.eps ∧
    (bumpE s e n).pds = s.pds ∧ (bumpE s e n).regions = s.regions ∧ (bumpE s e n).keys = s.keys ∧
    (bumpE s e n).ctxKeyGen = s.ctxKeyGen ∧ (bumpE s e n).parked = s.parked ∧ (bumpE s e n).lru = s.lru ∧
    (bumpE s e n).hss = s.hss ∧ (bumpE s e n).nextHs = s.nextHs ∧ (bumpE s e n).fuses = s.fuses ∧
    (bumpE s e n).mram = s.mram ∧ (bumpE s e n).boot = s.boot ∧ (bumpE s e n).vault = s.vault ∧
    (bumpE s e n).rng = s.rng ∧ (bumpE s e n).pwr = s.pwr ∧ (bumpE s e n).panel = s.panel ∧ (bumpE s e n).dbg = s.dbg ∧
    (bumpE s e n).pcie = s.pcie ∧ (bumpE s e n).sent = s.sent ∧ (bumpE s e n).free = s.free ∧
    (∀ i j, rdB (bumpE s e n) i j = rdB s i j) ∧ (∀ i, cx (bumpE s e n) i = cx s i) ∧
    (∀ i j, cohortOf (bumpE s e n) i j = cohortOf s i j) ∧ (∀ i j, cq (bumpE s e n) i j = cq s i j) ∧
    (∀ i j, evq (bumpE s e n) i j = evq s i j) ∧ (∀ i, fnSt (bumpE s e n) i = fnSt s i) ∧
    (∀ i, epOf (bumpE s e n) i = epOf s i) ∧ (∀ i, regionOf (bumpE s e n) i = regionOf s i) ∧
    (∀ i, keyOf (bumpE s e n) i = keyOf s i) ∧ (∀ i, portOf (bumpE s e n) i = portOf s i) ∧
    (∀ i j l, tileOf (bumpE s e n) i j l = tileOf s i j l) ∧ (∀ i, vmOf (bumpE s e n) i = vmOf s i) ∧
    (∀ i, loftOf (bumpE s e n) i = loftOf s i) ∧ (∀ i, mboxOf (bumpE s e n) i = mboxOf s i) ∧
    (∀ i, mboxBytes (bumpE s e n) i = mboxBytes s i) :=
  by and_intros <;> intros <;> rfl

/-- decE changes od only. -/
@[simp] theorem decE_frame (e : Ent) (n : Nat) :
    (decE s e n).pending = s.pending ∧ (decE s e n).bar2 = s.bar2 ∧ (decE s e n).msix = s.msix ∧
    (decE s e n).msixPend = s.msixPend ∧ (decE s e n).host = s.host ∧ (decE s e n).vm = s.vm ∧
    (decE s e n).vmFn = s.vmFn ∧ (decE s e n).loft = s.loft ∧ (decE s e n).tiles = s.tiles ∧ (decE s e n).ctxs = s.ctxs ∧
    (decE s e n).cqs = s.cqs ∧ (decE s e n).evqs = s.evqs ∧ (decE s e n).descs = s.descs ∧
    (decE s e n).nextDesc = s.nextDesc ∧ (decE s e n).trigs = s.trigs ∧ (decE s e n).firedWait = s.firedWait ∧
    (decE s e n).stream = s.stream ∧ (decE s e n).firings = s.firings ∧ (decE s e n).promoted = s.promoted ∧
    (decE s e n).served = s.served ∧ (decE s e n).syn = s.syn ∧ (decE s e n).mboxes = s.mboxes ∧
    (decE s e n).mboxMem = s.mboxMem ∧ (decE s e n).staging = s.staging ∧ (decE s e n).copies = s.copies ∧
    (decE s e n).fns = s.fns ∧ (decE s e n).lcWait = s.lcWait ∧ (decE s e n).lcSrc = s.lcSrc ∧
    (decE s e n).faults = s.faults ∧ (decE s e n).faultSeq = s.faultSeq ∧ (decE s e n).resets = s.resets ∧
    (decE s e n).dieResetCount = s.dieResetCount ∧ (decE s e n).ports = s.ports ∧ (decE s e n).switchq = s.switchq ∧
    (decE s e n).swShare = s.swShare ∧ (decE s e n).abortsSeen = s.abortsSeen ∧ (decE s e n).rates = s.rates ∧
    (decE s e n).txs = s.txs ∧ (decE s e n).rxs = s.rxs ∧ (decE s e n).nextMsg = s.nextMsg ∧
    (decE s e n).txCount = s.txCount ∧ (decE s e n).eps = s.eps ∧ (decE s e n).pds = s.pds ∧
    (decE s e n).regions = s.regions ∧ (decE s e n).keys = s.keys ∧ (decE s e n).ctxKeyGen = s.ctxKeyGen ∧
    (decE s e n).parked = s.parked ∧ (decE s e n).lru = s.lru ∧ (decE s e n).hss = s.hss ∧
    (decE s e n).nextHs = s.nextHs ∧ (decE s e n).fuses = s.fuses ∧ (decE s e n).mram = s.mram ∧
    (decE s e n).boot = s.boot ∧ (decE s e n).vault = s.vault ∧ (decE s e n).rng = s.rng ∧ (decE s e n).pwr = s.pwr ∧
    (decE s e n).panel = s.panel ∧ (decE s e n).dbg = s.dbg ∧ (decE s e n).pcie = s.pcie ∧ (decE s e n).sent = s.sent ∧
    (decE s e n).free = s.free ∧ (∀ i j, rdB (decE s e n) i j = rdB s i j) ∧ (∀ i, cx (decE s e n) i = cx s i) ∧
    (∀ i j, cohortOf (decE s e n) i j = cohortOf s i j) ∧ (∀ i j, cq (decE s e n) i j = cq s i j) ∧
    (∀ i j, evq (decE s e n) i j = evq s i j) ∧ (∀ i, fnSt (decE s e n) i = fnSt s i) ∧
    (∀ i, epOf (decE s e n) i = epOf s i) ∧ (∀ i, regionOf (decE s e n) i = regionOf s i) ∧
    (∀ i, keyOf (decE s e n) i = keyOf s i) ∧ (∀ i, portOf (decE s e n) i = portOf s i) ∧
    (∀ i j l, tileOf (decE s e n) i j l = tileOf s i j l) ∧ (∀ i, vmOf (decE s e n) i = vmOf s i) ∧
    (∀ i, loftOf (decE s e n) i = loftOf s i) ∧ (∀ i, mboxOf (decE s e n) i = mboxOf s i) ∧
    (∀ i, mboxBytes (decE s e n) i = mboxBytes s i) :=
  by and_intros <;> intros <;> rfl

/-- wrB changes bar2 only. -/
@[simp] theorem wrB_frame (off dflt v : Nat) :
    (wrB s off dflt v).pending = s.pending ∧ (wrB s off dflt v).od = s.od ∧ (wrB s off dflt v).msix = s.msix ∧
    (wrB s off dflt v).msixPend = s.msixPend ∧ (wrB s off dflt v).host = s.host ∧ (wrB s off dflt v).vm = s.vm ∧
    (wrB s off dflt v).vmFn = s.vmFn ∧ (wrB s off dflt v).loft = s.loft ∧ (wrB s off dflt v).tiles = s.tiles ∧
    (wrB s off dflt v).ctxs = s.ctxs ∧ (wrB s off dflt v).cqs = s.cqs ∧ (wrB s off dflt v).evqs = s.evqs ∧
    (wrB s off dflt v).descs = s.descs ∧ (wrB s off dflt v).nextDesc = s.nextDesc ∧ (wrB s off dflt v).trigs = s.trigs ∧
    (wrB s off dflt v).firedWait = s.firedWait ∧ (wrB s off dflt v).stream = s.stream ∧
    (wrB s off dflt v).firings = s.firings ∧ (wrB s off dflt v).promoted = s.promoted ∧
    (wrB s off dflt v).served = s.served ∧ (wrB s off dflt v).syn = s.syn ∧ (wrB s off dflt v).mboxes = s.mboxes ∧
    (wrB s off dflt v).mboxMem = s.mboxMem ∧ (wrB s off dflt v).staging = s.staging ∧
    (wrB s off dflt v).copies = s.copies ∧ (wrB s off dflt v).fns = s.fns ∧ (wrB s off dflt v).lcWait = s.lcWait ∧
    (wrB s off dflt v).lcSrc = s.lcSrc ∧ (wrB s off dflt v).faults = s.faults ∧
    (wrB s off dflt v).faultSeq = s.faultSeq ∧ (wrB s off dflt v).resets = s.resets ∧
    (wrB s off dflt v).dieResetCount = s.dieResetCount ∧ (wrB s off dflt v).ports = s.ports ∧
    (wrB s off dflt v).switchq = s.switchq ∧ (wrB s off dflt v).swShare = s.swShare ∧
    (wrB s off dflt v).abortsSeen = s.abortsSeen ∧ (wrB s off dflt v).rates = s.rates ∧ (wrB s off dflt v).txs = s.txs ∧
    (wrB s off dflt v).rxs = s.rxs ∧ (wrB s off dflt v).nextMsg = s.nextMsg ∧ (wrB s off dflt v).txCount = s.txCount ∧
    (wrB s off dflt v).eps = s.eps ∧ (wrB s off dflt v).pds = s.pds ∧ (wrB s off dflt v).regions = s.regions ∧
    (wrB s off dflt v).keys = s.keys ∧ (wrB s off dflt v).ctxKeyGen = s.ctxKeyGen ∧
    (wrB s off dflt v).parked = s.parked ∧ (wrB s off dflt v).lru = s.lru ∧ (wrB s off dflt v).hss = s.hss ∧
    (wrB s off dflt v).nextHs = s.nextHs ∧ (wrB s off dflt v).fuses = s.fuses ∧ (wrB s off dflt v).mram = s.mram ∧
    (wrB s off dflt v).boot = s.boot ∧ (wrB s off dflt v).vault = s.vault ∧ (wrB s off dflt v).rng = s.rng ∧
    (wrB s off dflt v).pwr = s.pwr ∧ (wrB s off dflt v).panel = s.panel ∧ (wrB s off dflt v).dbg = s.dbg ∧
    (wrB s off dflt v).pcie = s.pcie ∧ (wrB s off dflt v).sent = s.sent ∧ (wrB s off dflt v).free = s.free ∧
    (∀ i j l, rdEj (wrB s off dflt v) i j l = rdEj s i j l) ∧ (∀ i j, rdE (wrB s off dflt v) i j = rdE s i j) ∧
    (∀ i, cx (wrB s off dflt v) i = cx s i) ∧ (∀ i j, cohortOf (wrB s off dflt v) i j = cohortOf s i j) ∧
    (∀ i j, cq (wrB s off dflt v) i j = cq s i j) ∧ (∀ i j, evq (wrB s off dflt v) i j = evq s i j) ∧
    (∀ i, fnSt (wrB s off dflt v) i = fnSt s i) ∧ (∀ i, epOf (wrB s off dflt v) i = epOf s i) ∧
    (∀ i, regionOf (wrB s off dflt v) i = regionOf s i) ∧ (∀ i, keyOf (wrB s off dflt v) i = keyOf s i) ∧
    (∀ i, portOf (wrB s off dflt v) i = portOf s i) ∧ (∀ i j l, tileOf (wrB s off dflt v) i j l = tileOf s i j l) ∧
    (∀ i, vmOf (wrB s off dflt v) i = vmOf s i) ∧ (∀ i, loftOf (wrB s off dflt v) i = loftOf s i) ∧
    (∀ i, mboxOf (wrB s off dflt v) i = mboxOf s i) ∧ (∀ i, mboxBytes (wrB s off dflt v) i = mboxBytes s i) :=
  by and_intros <;> intros <;> rfl

/-- bumpB changes bar2 only. -/
@[simp] theorem bumpB_frame (off k x : Nat) :
    (bumpB s off k x).pending = s.pending ∧ (bumpB s off k x).od = s.od ∧ (bumpB s off k x).msix = s.msix ∧
    (bumpB s off k x).msixPend = s.msixPend ∧ (bumpB s off k x).host = s.host ∧ (bumpB s off k x).vm = s.vm ∧
    (bumpB s off k x).vmFn = s.vmFn ∧ (bumpB s off k x).loft = s.loft ∧ (bumpB s off k x).tiles = s.tiles ∧
    (bumpB s off k x).ctxs = s.ctxs ∧ (bumpB s off k x).cqs = s.cqs ∧ (bumpB s off k x).evqs = s.evqs ∧
    (bumpB s off k x).descs = s.descs ∧ (bumpB s off k x).nextDesc = s.nextDesc ∧ (bumpB s off k x).trigs = s.trigs ∧
    (bumpB s off k x).firedWait = s.firedWait ∧ (bumpB s off k x).stream = s.stream ∧
    (bumpB s off k x).firings = s.firings ∧ (bumpB s off k x).promoted = s.promoted ∧
    (bumpB s off k x).served = s.served ∧ (bumpB s off k x).syn = s.syn ∧ (bumpB s off k x).mboxes = s.mboxes ∧
    (bumpB s off k x).mboxMem = s.mboxMem ∧ (bumpB s off k x).staging = s.staging ∧ (bumpB s off k x).copies = s.copies ∧
    (bumpB s off k x).fns = s.fns ∧ (bumpB s off k x).lcWait = s.lcWait ∧ (bumpB s off k x).lcSrc = s.lcSrc ∧
    (bumpB s off k x).faults = s.faults ∧ (bumpB s off k x).faultSeq = s.faultSeq ∧ (bumpB s off k x).resets = s.resets ∧
    (bumpB s off k x).dieResetCount = s.dieResetCount ∧ (bumpB s off k x).ports = s.ports ∧
    (bumpB s off k x).switchq = s.switchq ∧ (bumpB s off k x).swShare = s.swShare ∧
    (bumpB s off k x).abortsSeen = s.abortsSeen ∧ (bumpB s off k x).rates = s.rates ∧ (bumpB s off k x).txs = s.txs ∧
    (bumpB s off k x).rxs = s.rxs ∧ (bumpB s off k x).nextMsg = s.nextMsg ∧ (bumpB s off k x).txCount = s.txCount ∧
    (bumpB s off k x).eps = s.eps ∧ (bumpB s off k x).pds = s.pds ∧ (bumpB s off k x).regions = s.regions ∧
    (bumpB s off k x).keys = s.keys ∧ (bumpB s off k x).ctxKeyGen = s.ctxKeyGen ∧ (bumpB s off k x).parked = s.parked ∧
    (bumpB s off k x).lru = s.lru ∧ (bumpB s off k x).hss = s.hss ∧ (bumpB s off k x).nextHs = s.nextHs ∧
    (bumpB s off k x).fuses = s.fuses ∧ (bumpB s off k x).mram = s.mram ∧ (bumpB s off k x).boot = s.boot ∧
    (bumpB s off k x).vault = s.vault ∧ (bumpB s off k x).rng = s.rng ∧ (bumpB s off k x).pwr = s.pwr ∧
    (bumpB s off k x).panel = s.panel ∧ (bumpB s off k x).dbg = s.dbg ∧ (bumpB s off k x).pcie = s.pcie ∧
    (bumpB s off k x).sent = s.sent ∧ (bumpB s off k x).free = s.free ∧
    (∀ i j l, rdEj (bumpB s off k x) i j l = rdEj s i j l) ∧ (∀ i j, rdE (bumpB s off k x) i j = rdE s i j) ∧
    (∀ i, cx (bumpB s off k x) i = cx s i) ∧ (∀ i j, cohortOf (bumpB s off k x) i j = cohortOf s i j) ∧
    (∀ i j, cq (bumpB s off k x) i j = cq s i j) ∧ (∀ i j, evq (bumpB s off k x) i j = evq s i j) ∧
    (∀ i, fnSt (bumpB s off k x) i = fnSt s i) ∧ (∀ i, epOf (bumpB s off k x) i = epOf s i) ∧
    (∀ i, regionOf (bumpB s off k x) i = regionOf s i) ∧ (∀ i, keyOf (bumpB s off k x) i = keyOf s i) ∧
    (∀ i, portOf (bumpB s off k x) i = portOf s i) ∧ (∀ i j l, tileOf (bumpB s off k x) i j l = tileOf s i j l) ∧
    (∀ i, vmOf (bumpB s off k x) i = vmOf s i) ∧ (∀ i, loftOf (bumpB s off k x) i = loftOf s i) ∧
    (∀ i, mboxOf (bumpB s off k x) i = mboxOf s i) ∧ (∀ i, mboxBytes (bumpB s off k x) i = mboxBytes s i) :=
  by and_intros <;> intros <;> rfl

/-- emit changes sent only. -/
@[simp] theorem emit_frame (o : Out) :
    (emit s o).pending = s.pending ∧ (emit s o).od = s.od ∧ (emit s o).bar2 = s.bar2 ∧ (emit s o).msix = s.msix ∧
    (emit s o).msixPend = s.msixPend ∧ (emit s o).host = s.host ∧ (emit s o).vm = s.vm ∧ (emit s o).vmFn = s.vmFn ∧
    (emit s o).loft = s.loft ∧ (emit s o).tiles = s.tiles ∧ (emit s o).ctxs = s.ctxs ∧ (emit s o).cqs = s.cqs ∧
    (emit s o).evqs = s.evqs ∧ (emit s o).descs = s.descs ∧ (emit s o).nextDesc = s.nextDesc ∧
    (emit s o).trigs = s.trigs ∧ (emit s o).firedWait = s.firedWait ∧ (emit s o).stream = s.stream ∧
    (emit s o).firings = s.firings ∧ (emit s o).promoted = s.promoted ∧ (emit s o).served = s.served ∧
    (emit s o).syn = s.syn ∧ (emit s o).mboxes = s.mboxes ∧ (emit s o).mboxMem = s.mboxMem ∧
    (emit s o).staging = s.staging ∧ (emit s o).copies = s.copies ∧ (emit s o).fns = s.fns ∧
    (emit s o).lcWait = s.lcWait ∧ (emit s o).lcSrc = s.lcSrc ∧ (emit s o).faults = s.faults ∧
    (emit s o).faultSeq = s.faultSeq ∧ (emit s o).resets = s.resets ∧ (emit s o).dieResetCount = s.dieResetCount ∧
    (emit s o).ports = s.ports ∧ (emit s o).switchq = s.switchq ∧ (emit s o).swShare = s.swShare ∧
    (emit s o).abortsSeen = s.abortsSeen ∧ (emit s o).rates = s.rates ∧ (emit s o).txs = s.txs ∧ (emit s o).rxs = s.rxs ∧
    (emit s o).nextMsg = s.nextMsg ∧ (emit s o).txCount = s.txCount ∧ (emit s o).eps = s.eps ∧ (emit s o).pds = s.pds ∧
    (emit s o).regions = s.regions ∧ (emit s o).keys = s.keys ∧ (emit s o).ctxKeyGen = s.ctxKeyGen ∧
    (emit s o).parked = s.parked ∧ (emit s o).lru = s.lru ∧ (emit s o).hss = s.hss ∧ (emit s o).nextHs = s.nextHs ∧
    (emit s o).fuses = s.fuses ∧ (emit s o).mram = s.mram ∧ (emit s o).boot = s.boot ∧ (emit s o).vault = s.vault ∧
    (emit s o).rng = s.rng ∧ (emit s o).pwr = s.pwr ∧ (emit s o).panel = s.panel ∧ (emit s o).dbg = s.dbg ∧
    (emit s o).pcie = s.pcie ∧ (emit s o).free = s.free ∧ (∀ i j l, rdEj (emit s o) i j l = rdEj s i j l) ∧
    (∀ i j, rdE (emit s o) i j = rdE s i j) ∧ (∀ i j, rdB (emit s o) i j = rdB s i j) ∧ (∀ i, cx (emit s o) i = cx s i) ∧
    (∀ i j, cohortOf (emit s o) i j = cohortOf s i j) ∧ (∀ i j, cq (emit s o) i j = cq s i j) ∧
    (∀ i j, evq (emit s o) i j = evq s i j) ∧ (∀ i, fnSt (emit s o) i = fnSt s i) ∧ (∀ i, epOf (emit s o) i = epOf s i) ∧
    (∀ i, regionOf (emit s o) i = regionOf s i) ∧ (∀ i, keyOf (emit s o) i = keyOf s i) ∧
    (∀ i, portOf (emit s o) i = portOf s i) ∧ (∀ i j l, tileOf (emit s o) i j l = tileOf s i j l) ∧
    (∀ i, vmOf (emit s o) i = vmOf s i) ∧ (∀ i, loftOf (emit s o) i = loftOf s i) ∧
    (∀ i, mboxOf (emit s o) i = mboxOf s i) ∧ (∀ i, mboxBytes (emit s o) i = mboxBytes s i) :=
  by and_intros <;> intros <;> rfl

/-- freshNext changes free only. -/
@[simp] theorem freshNext_frame :
    (freshNext s).pending = s.pending ∧ (freshNext s).od = s.od ∧ (freshNext s).bar2 = s.bar2 ∧
    (freshNext s).msix = s.msix ∧ (freshNext s).msixPend = s.msixPend ∧ (freshNext s).host = s.host ∧
    (freshNext s).vm = s.vm ∧ (freshNext s).vmFn = s.vmFn ∧ (freshNext s).loft = s.loft ∧ (freshNext s).tiles = s.tiles ∧
    (freshNext s).ctxs = s.ctxs ∧ (freshNext s).cqs = s.cqs ∧ (freshNext s).evqs = s.evqs ∧
    (freshNext s).descs = s.descs ∧ (freshNext s).nextDesc = s.nextDesc ∧ (freshNext s).trigs = s.trigs ∧
    (freshNext s).firedWait = s.firedWait ∧ (freshNext s).stream = s.stream ∧ (freshNext s).firings = s.firings ∧
    (freshNext s).promoted = s.promoted ∧ (freshNext s).served = s.served ∧ (freshNext s).syn = s.syn ∧
    (freshNext s).mboxes = s.mboxes ∧ (freshNext s).mboxMem = s.mboxMem ∧ (freshNext s).staging = s.staging ∧
    (freshNext s).copies = s.copies ∧ (freshNext s).fns = s.fns ∧ (freshNext s).lcWait = s.lcWait ∧
    (freshNext s).lcSrc = s.lcSrc ∧ (freshNext s).faults = s.faults ∧ (freshNext s).faultSeq = s.faultSeq ∧
    (freshNext s).resets = s.resets ∧ (freshNext s).dieResetCount = s.dieResetCount ∧ (freshNext s).ports = s.ports ∧
    (freshNext s).switchq = s.switchq ∧ (freshNext s).swShare = s.swShare ∧ (freshNext s).abortsSeen = s.abortsSeen ∧
    (freshNext s).rates = s.rates ∧ (freshNext s).txs = s.txs ∧ (freshNext s).rxs = s.rxs ∧
    (freshNext s).nextMsg = s.nextMsg ∧ (freshNext s).txCount = s.txCount ∧ (freshNext s).eps = s.eps ∧
    (freshNext s).pds = s.pds ∧ (freshNext s).regions = s.regions ∧ (freshNext s).keys = s.keys ∧
    (freshNext s).ctxKeyGen = s.ctxKeyGen ∧ (freshNext s).parked = s.parked ∧ (freshNext s).lru = s.lru ∧
    (freshNext s).hss = s.hss ∧ (freshNext s).nextHs = s.nextHs ∧ (freshNext s).fuses = s.fuses ∧
    (freshNext s).mram = s.mram ∧ (freshNext s).boot = s.boot ∧ (freshNext s).vault = s.vault ∧
    (freshNext s).rng = s.rng ∧ (freshNext s).pwr = s.pwr ∧ (freshNext s).panel = s.panel ∧ (freshNext s).dbg = s.dbg ∧
    (freshNext s).pcie = s.pcie ∧ (freshNext s).sent = s.sent ∧ (∀ i j l, rdEj (freshNext s) i j l = rdEj s i j l) ∧
    (∀ i j, rdE (freshNext s) i j = rdE s i j) ∧ (∀ i j, rdB (freshNext s) i j = rdB s i j) ∧
    (∀ i, cx (freshNext s) i = cx s i) ∧ (∀ i j, cohortOf (freshNext s) i j = cohortOf s i j) ∧
    (∀ i j, cq (freshNext s) i j = cq s i j) ∧ (∀ i j, evq (freshNext s) i j = evq s i j) ∧
    (∀ i, fnSt (freshNext s) i = fnSt s i) ∧ (∀ i, epOf (freshNext s) i = epOf s i) ∧
    (∀ i, regionOf (freshNext s) i = regionOf s i) ∧ (∀ i, keyOf (freshNext s) i = keyOf s i) ∧
    (∀ i, portOf (freshNext s) i = portOf s i) ∧ (∀ i j l, tileOf (freshNext s) i j l = tileOf s i j l) ∧
    (∀ i, vmOf (freshNext s) i = vmOf s i) ∧ (∀ i, loftOf (freshNext s) i = loftOf s i) ∧
    (∀ i, mboxOf (freshNext s) i = mboxOf s i) ∧ (∀ i, mboxBytes (freshNext s) i = mboxBytes s i) :=
  by and_intros <;> intros <;> rfl

/-- setCx changes ctxs only. -/
@[simp] theorem setCx_frame (n : Nat) (c : Ctx) :
    (setCx s n c).pending = s.pending ∧ (setCx s n c).od = s.od ∧ (setCx s n c).bar2 = s.bar2 ∧
    (setCx s n c).msix = s.msix ∧ (setCx s n c).msixPend = s.msixPend ∧ (setCx s n c).host = s.host ∧
    (setCx s n c).vm = s.vm ∧ (setCx s n c).vmFn = s.vmFn ∧ (setCx s n c).loft = s.loft ∧ (setCx s n c).tiles = s.tiles ∧
    (setCx s n c).cqs = s.cqs ∧ (setCx s n c).evqs = s.evqs ∧ (setCx s n c).descs = s.descs ∧
    (setCx s n c).nextDesc = s.nextDesc ∧ (setCx s n c).trigs = s.trigs ∧ (setCx s n c).firedWait = s.firedWait ∧
    (setCx s n c).stream = s.stream ∧ (setCx s n c).firings = s.firings ∧ (setCx s n c).promoted = s.promoted ∧
    (setCx s n c).served = s.served ∧ (setCx s n c).syn = s.syn ∧ (setCx s n c).mboxes = s.mboxes ∧
    (setCx s n c).mboxMem = s.mboxMem ∧ (setCx s n c).staging = s.staging ∧ (setCx s n c).copies = s.copies ∧
    (setCx s n c).fns = s.fns ∧ (setCx s n c).lcWait = s.lcWait ∧ (setCx s n c).lcSrc = s.lcSrc ∧
    (setCx s n c).faults = s.faults ∧ (setCx s n c).faultSeq = s.faultSeq ∧ (setCx s n c).resets = s.resets ∧
    (setCx s n c).dieResetCount = s.dieResetCount ∧ (setCx s n c).ports = s.ports ∧ (setCx s n c).switchq = s.switchq ∧
    (setCx s n c).swShare = s.swShare ∧ (setCx s n c).abortsSeen = s.abortsSeen ∧ (setCx s n c).rates = s.rates ∧
    (setCx s n c).txs = s.txs ∧ (setCx s n c).rxs = s.rxs ∧ (setCx s n c).nextMsg = s.nextMsg ∧
    (setCx s n c).txCount = s.txCount ∧ (setCx s n c).eps = s.eps ∧ (setCx s n c).pds = s.pds ∧
    (setCx s n c).regions = s.regions ∧ (setCx s n c).keys = s.keys ∧ (setCx s n c).ctxKeyGen = s.ctxKeyGen ∧
    (setCx s n c).parked = s.parked ∧ (setCx s n c).lru = s.lru ∧ (setCx s n c).hss = s.hss ∧
    (setCx s n c).nextHs = s.nextHs ∧ (setCx s n c).fuses = s.fuses ∧ (setCx s n c).mram = s.mram ∧
    (setCx s n c).boot = s.boot ∧ (setCx s n c).vault = s.vault ∧ (setCx s n c).rng = s.rng ∧ (setCx s n c).pwr = s.pwr ∧
    (setCx s n c).panel = s.panel ∧ (setCx s n c).dbg = s.dbg ∧ (setCx s n c).pcie = s.pcie ∧
    (setCx s n c).sent = s.sent ∧ (setCx s n c).free = s.free ∧ (∀ i j l, rdEj (setCx s n c) i j l = rdEj s i j l) ∧
    (∀ i j, rdE (setCx s n c) i j = rdE s i j) ∧ (∀ i j, rdB (setCx s n c) i j = rdB s i j) ∧
    (∀ i j, cq (setCx s n c) i j = cq s i j) ∧ (∀ i j, evq (setCx s n c) i j = evq s i j) ∧
    (∀ i, fnSt (setCx s n c) i = fnSt s i) ∧ (∀ i, epOf (setCx s n c) i = epOf s i) ∧
    (∀ i, regionOf (setCx s n c) i = regionOf s i) ∧ (∀ i, keyOf (setCx s n c) i = keyOf s i) ∧
    (∀ i, portOf (setCx s n c) i = portOf s i) ∧ (∀ i j l, tileOf (setCx s n c) i j l = tileOf s i j l) ∧
    (∀ i, vmOf (setCx s n c) i = vmOf s i) ∧ (∀ i, loftOf (setCx s n c) i = loftOf s i) ∧
    (∀ i, mboxOf (setCx s n c) i = mboxOf s i) ∧ (∀ i, mboxBytes (setCx s n c) i = mboxBytes s i) :=
  by and_intros <;> intros <;> rfl

/-- setCohort changes ctxs only. -/
@[simp] theorem setCohort_frame (n k : Nat) (c : Cohort) :
    (setCohort s n k c).pending = s.pending ∧ (setCohort s n k c).od = s.od ∧ (setCohort s n k c).bar2 = s.bar2 ∧
    (setCohort s n k c).msix = s.msix ∧ (setCohort s n k c).msixPend = s.msixPend ∧ (setCohort s n k c).host = s.host ∧
    (setCohort s n k c).vm = s.vm ∧ (setCohort s n k c).vmFn = s.vmFn ∧ (setCohort s n k c).loft = s.loft ∧
    (setCohort s n k c).tiles = s.tiles ∧ (setCohort s n k c).cqs = s.cqs ∧ (setCohort s n k c).evqs = s.evqs ∧
    (setCohort s n k c).descs = s.descs ∧ (setCohort s n k c).nextDesc = s.nextDesc ∧
    (setCohort s n k c).trigs = s.trigs ∧ (setCohort s n k c).firedWait = s.firedWait ∧
    (setCohort s n k c).stream = s.stream ∧ (setCohort s n k c).firings = s.firings ∧
    (setCohort s n k c).promoted = s.promoted ∧ (setCohort s n k c).served = s.served ∧ (setCohort s n k c).syn = s.syn ∧
    (setCohort s n k c).mboxes = s.mboxes ∧ (setCohort s n k c).mboxMem = s.mboxMem ∧
    (setCohort s n k c).staging = s.staging ∧ (setCohort s n k c).copies = s.copies ∧ (setCohort s n k c).fns = s.fns ∧
    (setCohort s n k c).lcWait = s.lcWait ∧ (setCohort s n k c).lcSrc = s.lcSrc ∧ (setCohort s n k c).faults = s.faults ∧
    (setCohort s n k c).faultSeq = s.faultSeq ∧ (setCohort s n k c).resets = s.resets ∧
    (setCohort s n k c).dieResetCount = s.dieResetCount ∧ (setCohort s n k c).ports = s.ports ∧
    (setCohort s n k c).switchq = s.switchq ∧ (setCohort s n k c).swShare = s.swShare ∧
    (setCohort s n k c).abortsSeen = s.abortsSeen ∧ (setCohort s n k c).rates = s.rates ∧
    (setCohort s n k c).txs = s.txs ∧ (setCohort s n k c).rxs = s.rxs ∧ (setCohort s n k c).nextMsg = s.nextMsg ∧
    (setCohort s n k c).txCount = s.txCount ∧ (setCohort s n k c).eps = s.eps ∧ (setCohort s n k c).pds = s.pds ∧
    (setCohort s n k c).regions = s.regions ∧ (setCohort s n k c).keys = s.keys ∧
    (setCohort s n k c).ctxKeyGen = s.ctxKeyGen ∧ (setCohort s n k c).parked = s.parked ∧
    (setCohort s n k c).lru = s.lru ∧ (setCohort s n k c).hss = s.hss ∧ (setCohort s n k c).nextHs = s.nextHs ∧
    (setCohort s n k c).fuses = s.fuses ∧ (setCohort s n k c).mram = s.mram ∧ (setCohort s n k c).boot = s.boot ∧
    (setCohort s n k c).vault = s.vault ∧ (setCohort s n k c).rng = s.rng ∧ (setCohort s n k c).pwr = s.pwr ∧
    (setCohort s n k c).panel = s.panel ∧ (setCohort s n k c).dbg = s.dbg ∧ (setCohort s n k c).pcie = s.pcie ∧
    (setCohort s n k c).sent = s.sent ∧ (setCohort s n k c).free = s.free ∧
    (∀ i j l, rdEj (setCohort s n k c) i j l = rdEj s i j l) ∧ (∀ i j, rdE (setCohort s n k c) i j = rdE s i j) ∧
    (∀ i j, rdB (setCohort s n k c) i j = rdB s i j) ∧ (∀ i j, cq (setCohort s n k c) i j = cq s i j) ∧
    (∀ i j, evq (setCohort s n k c) i j = evq s i j) ∧ (∀ i, fnSt (setCohort s n k c) i = fnSt s i) ∧
    (∀ i, epOf (setCohort s n k c) i = epOf s i) ∧ (∀ i, regionOf (setCohort s n k c) i = regionOf s i) ∧
    (∀ i, keyOf (setCohort s n k c) i = keyOf s i) ∧ (∀ i, portOf (setCohort s n k c) i = portOf s i) ∧
    (∀ i j l, tileOf (setCohort s n k c) i j l = tileOf s i j l) ∧ (∀ i, vmOf (setCohort s n k c) i = vmOf s i) ∧
    (∀ i, loftOf (setCohort s n k c) i = loftOf s i) ∧ (∀ i, mboxOf (setCohort s n k c) i = mboxOf s i) ∧
    (∀ i, mboxBytes (setCohort s n k c) i = mboxBytes s i) :=
  by and_intros <;> intros <;> rfl

/-- setCq changes cqs only. -/
@[simp] theorem setCq_frame (f q : Nat) (c : Cq) :
    (setCq s f q c).pending = s.pending ∧ (setCq s f q c).od = s.od ∧ (setCq s f q c).bar2 = s.bar2 ∧
    (setCq s f q c).msix = s.msix ∧ (setCq s f q c).msixPend = s.msixPend ∧ (setCq s f q c).host = s.host ∧
    (setCq s f q c).vm = s.vm ∧ (setCq s f q c).vmFn = s.vmFn ∧ (setCq s f q c).loft = s.loft ∧
    (setCq s f q c).tiles = s.tiles ∧ (setCq s f q c).ctxs = s.ctxs ∧ (setCq s f q c).evqs = s.evqs ∧
    (setCq s f q c).descs = s.descs ∧ (setCq s f q c).nextDesc = s.nextDesc ∧ (setCq s f q c).trigs = s.trigs ∧
    (setCq s f q c).firedWait = s.firedWait ∧ (setCq s f q c).stream = s.stream ∧ (setCq s f q c).firings = s.firings ∧
    (setCq s f q c).promoted = s.promoted ∧ (setCq s f q c).served = s.served ∧ (setCq s f q c).syn = s.syn ∧
    (setCq s f q c).mboxes = s.mboxes ∧ (setCq s f q c).mboxMem = s.mboxMem ∧ (setCq s f q c).staging = s.staging ∧
    (setCq s f q c).copies = s.copies ∧ (setCq s f q c).fns = s.fns ∧ (setCq s f q c).lcWait = s.lcWait ∧
    (setCq s f q c).lcSrc = s.lcSrc ∧ (setCq s f q c).faults = s.faults ∧ (setCq s f q c).faultSeq = s.faultSeq ∧
    (setCq s f q c).resets = s.resets ∧ (setCq s f q c).dieResetCount = s.dieResetCount ∧
    (setCq s f q c).ports = s.ports ∧ (setCq s f q c).switchq = s.switchq ∧ (setCq s f q c).swShare = s.swShare ∧
    (setCq s f q c).abortsSeen = s.abortsSeen ∧ (setCq s f q c).rates = s.rates ∧ (setCq s f q c).txs = s.txs ∧
    (setCq s f q c).rxs = s.rxs ∧ (setCq s f q c).nextMsg = s.nextMsg ∧ (setCq s f q c).txCount = s.txCount ∧
    (setCq s f q c).eps = s.eps ∧ (setCq s f q c).pds = s.pds ∧ (setCq s f q c).regions = s.regions ∧
    (setCq s f q c).keys = s.keys ∧ (setCq s f q c).ctxKeyGen = s.ctxKeyGen ∧ (setCq s f q c).parked = s.parked ∧
    (setCq s f q c).lru = s.lru ∧ (setCq s f q c).hss = s.hss ∧ (setCq s f q c).nextHs = s.nextHs ∧
    (setCq s f q c).fuses = s.fuses ∧ (setCq s f q c).mram = s.mram ∧ (setCq s f q c).boot = s.boot ∧
    (setCq s f q c).vault = s.vault ∧ (setCq s f q c).rng = s.rng ∧ (setCq s f q c).pwr = s.pwr ∧
    (setCq s f q c).panel = s.panel ∧ (setCq s f q c).dbg = s.dbg ∧ (setCq s f q c).pcie = s.pcie ∧
    (setCq s f q c).sent = s.sent ∧ (setCq s f q c).free = s.free ∧
    (∀ i j l, rdEj (setCq s f q c) i j l = rdEj s i j l) ∧ (∀ i j, rdE (setCq s f q c) i j = rdE s i j) ∧
    (∀ i j, rdB (setCq s f q c) i j = rdB s i j) ∧ (∀ i, cx (setCq s f q c) i = cx s i) ∧
    (∀ i j, cohortOf (setCq s f q c) i j = cohortOf s i j) ∧ (∀ i j, evq (setCq s f q c) i j = evq s i j) ∧
    (∀ i, fnSt (setCq s f q c) i = fnSt s i) ∧ (∀ i, epOf (setCq s f q c) i = epOf s i) ∧
    (∀ i, regionOf (setCq s f q c) i = regionOf s i) ∧ (∀ i, keyOf (setCq s f q c) i = keyOf s i) ∧
    (∀ i, portOf (setCq s f q c) i = portOf s i) ∧ (∀ i j l, tileOf (setCq s f q c) i j l = tileOf s i j l) ∧
    (∀ i, vmOf (setCq s f q c) i = vmOf s i) ∧ (∀ i, loftOf (setCq s f q c) i = loftOf s i) ∧
    (∀ i, mboxOf (setCq s f q c) i = mboxOf s i) ∧ (∀ i, mboxBytes (setCq s f q c) i = mboxBytes s i) :=
  by and_intros <;> intros <;> rfl

/-- setEvq changes evqs only. -/
@[simp] theorem setEvq_frame (f q : Nat) (v : Evq) :
    (setEvq s f q v).pending = s.pending ∧ (setEvq s f q v).od = s.od ∧ (setEvq s f q v).bar2 = s.bar2 ∧
    (setEvq s f q v).msix = s.msix ∧ (setEvq s f q v).msixPend = s.msixPend ∧ (setEvq s f q v).host = s.host ∧
    (setEvq s f q v).vm = s.vm ∧ (setEvq s f q v).vmFn = s.vmFn ∧ (setEvq s f q v).loft = s.loft ∧
    (setEvq s f q v).tiles = s.tiles ∧ (setEvq s f q v).ctxs = s.ctxs ∧ (setEvq s f q v).cqs = s.cqs ∧
    (setEvq s f q v).descs = s.descs ∧ (setEvq s f q v).nextDesc = s.nextDesc ∧ (setEvq s f q v).trigs = s.trigs ∧
    (setEvq s f q v).firedWait = s.firedWait ∧ (setEvq s f q v).stream = s.stream ∧
    (setEvq s f q v).firings = s.firings ∧ (setEvq s f q v).promoted = s.promoted ∧ (setEvq s f q v).served = s.served ∧
    (setEvq s f q v).syn = s.syn ∧ (setEvq s f q v).mboxes = s.mboxes ∧ (setEvq s f q v).mboxMem = s.mboxMem ∧
    (setEvq s f q v).staging = s.staging ∧ (setEvq s f q v).copies = s.copies ∧ (setEvq s f q v).fns = s.fns ∧
    (setEvq s f q v).lcWait = s.lcWait ∧ (setEvq s f q v).lcSrc = s.lcSrc ∧ (setEvq s f q v).faults = s.faults ∧
    (setEvq s f q v).faultSeq = s.faultSeq ∧ (setEvq s f q v).resets = s.resets ∧
    (setEvq s f q v).dieResetCount = s.dieResetCount ∧ (setEvq s f q v).ports = s.ports ∧
    (setEvq s f q v).switchq = s.switchq ∧ (setEvq s f q v).swShare = s.swShare ∧
    (setEvq s f q v).abortsSeen = s.abortsSeen ∧ (setEvq s f q v).rates = s.rates ∧ (setEvq s f q v).txs = s.txs ∧
    (setEvq s f q v).rxs = s.rxs ∧ (setEvq s f q v).nextMsg = s.nextMsg ∧ (setEvq s f q v).txCount = s.txCount ∧
    (setEvq s f q v).eps = s.eps ∧ (setEvq s f q v).pds = s.pds ∧ (setEvq s f q v).regions = s.regions ∧
    (setEvq s f q v).keys = s.keys ∧ (setEvq s f q v).ctxKeyGen = s.ctxKeyGen ∧ (setEvq s f q v).parked = s.parked ∧
    (setEvq s f q v).lru = s.lru ∧ (setEvq s f q v).hss = s.hss ∧ (setEvq s f q v).nextHs = s.nextHs ∧
    (setEvq s f q v).fuses = s.fuses ∧ (setEvq s f q v).mram = s.mram ∧ (setEvq s f q v).boot = s.boot ∧
    (setEvq s f q v).vault = s.vault ∧ (setEvq s f q v).rng = s.rng ∧ (setEvq s f q v).pwr = s.pwr ∧
    (setEvq s f q v).panel = s.panel ∧ (setEvq s f q v).dbg = s.dbg ∧ (setEvq s f q v).pcie = s.pcie ∧
    (setEvq s f q v).sent = s.sent ∧ (setEvq s f q v).free = s.free ∧
    (∀ i j l, rdEj (setEvq s f q v) i j l = rdEj s i j l) ∧ (∀ i j, rdE (setEvq s f q v) i j = rdE s i j) ∧
    (∀ i j, rdB (setEvq s f q v) i j = rdB s i j) ∧ (∀ i, cx (setEvq s f q v) i = cx s i) ∧
    (∀ i j, cohortOf (setEvq s f q v) i j = cohortOf s i j) ∧ (∀ i j, cq (setEvq s f q v) i j = cq s i j) ∧
    (∀ i, fnSt (setEvq s f q v) i = fnSt s i) ∧ (∀ i, epOf (setEvq s f q v) i = epOf s i) ∧
    (∀ i, regionOf (setEvq s f q v) i = regionOf s i) ∧ (∀ i, keyOf (setEvq s f q v) i = keyOf s i) ∧
    (∀ i, portOf (setEvq s f q v) i = portOf s i) ∧ (∀ i j l, tileOf (setEvq s f q v) i j l = tileOf s i j l) ∧
    (∀ i, vmOf (setEvq s f q v) i = vmOf s i) ∧ (∀ i, loftOf (setEvq s f q v) i = loftOf s i) ∧
    (∀ i, mboxOf (setEvq s f q v) i = mboxOf s i) ∧ (∀ i, mboxBytes (setEvq s f q v) i = mboxBytes s i) :=
  by and_intros <;> intros <;> rfl

/-- setFn changes fns only. -/
@[simp] theorem setFn_frame (f : Nat) (x : FnSt) :
    (setFn s f x).pending = s.pending ∧ (setFn s f x).od = s.od ∧ (setFn s f x).bar2 = s.bar2 ∧
    (setFn s f x).msix = s.msix ∧ (setFn s f x).msixPend = s.msixPend ∧ (setFn s f x).host = s.host ∧
    (setFn s f x).vm = s.vm ∧ (setFn s f x).vmFn = s.vmFn ∧ (setFn s f x).loft = s.loft ∧ (setFn s f x).tiles = s.tiles ∧
    (setFn s f x).ctxs = s.ctxs ∧ (setFn s f x).cqs = s.cqs ∧ (setFn s f x).evqs = s.evqs ∧
    (setFn s f x).descs = s.descs ∧ (setFn s f x).nextDesc = s.nextDesc ∧ (setFn s f x).trigs = s.trigs ∧
    (setFn s f x).firedWait = s.firedWait ∧ (setFn s f x).stream = s.stream ∧ (setFn s f x).firings = s.firings ∧
    (setFn s f x).promoted = s.promoted ∧ (setFn s f x).served = s.served ∧ (setFn s f x).syn = s.syn ∧
    (setFn s f x).mboxes = s.mboxes ∧ (setFn s f x).mboxMem = s.mboxMem ∧ (setFn s f x).staging = s.staging ∧
    (setFn s f x).copies = s.copies ∧ (setFn s f x).lcWait = s.lcWait ∧ (setFn s f x).lcSrc = s.lcSrc ∧
    (setFn s f x).faults = s.faults ∧ (setFn s f x).faultSeq = s.faultSeq ∧ (setFn s f x).resets = s.resets ∧
    (setFn s f x).dieResetCount = s.dieResetCount ∧ (setFn s f x).ports = s.ports ∧ (setFn s f x).switchq = s.switchq ∧
    (setFn s f x).swShare = s.swShare ∧ (setFn s f x).abortsSeen = s.abortsSeen ∧ (setFn s f x).rates = s.rates ∧
    (setFn s f x).txs = s.txs ∧ (setFn s f x).rxs = s.rxs ∧ (setFn s f x).nextMsg = s.nextMsg ∧
    (setFn s f x).txCount = s.txCount ∧ (setFn s f x).eps = s.eps ∧ (setFn s f x).pds = s.pds ∧
    (setFn s f x).regions = s.regions ∧ (setFn s f x).keys = s.keys ∧ (setFn s f x).ctxKeyGen = s.ctxKeyGen ∧
    (setFn s f x).parked = s.parked ∧ (setFn s f x).lru = s.lru ∧ (setFn s f x).hss = s.hss ∧
    (setFn s f x).nextHs = s.nextHs ∧ (setFn s f x).fuses = s.fuses ∧ (setFn s f x).mram = s.mram ∧
    (setFn s f x).boot = s.boot ∧ (setFn s f x).vault = s.vault ∧ (setFn s f x).rng = s.rng ∧ (setFn s f x).pwr = s.pwr ∧
    (setFn s f x).panel = s.panel ∧ (setFn s f x).dbg = s.dbg ∧ (setFn s f x).pcie = s.pcie ∧
    (setFn s f x).sent = s.sent ∧ (setFn s f x).free = s.free ∧ (∀ i j l, rdEj (setFn s f x) i j l = rdEj s i j l) ∧
    (∀ i j, rdE (setFn s f x) i j = rdE s i j) ∧ (∀ i j, rdB (setFn s f x) i j = rdB s i j) ∧
    (∀ i, cx (setFn s f x) i = cx s i) ∧ (∀ i j, cohortOf (setFn s f x) i j = cohortOf s i j) ∧
    (∀ i j, cq (setFn s f x) i j = cq s i j) ∧ (∀ i j, evq (setFn s f x) i j = evq s i j) ∧
    (∀ i, epOf (setFn s f x) i = epOf s i) ∧ (∀ i, regionOf (setFn s f x) i = regionOf s i) ∧
    (∀ i, keyOf (setFn s f x) i = keyOf s i) ∧ (∀ i, portOf (setFn s f x) i = portOf s i) ∧
    (∀ i j l, tileOf (setFn s f x) i j l = tileOf s i j l) ∧ (∀ i, vmOf (setFn s f x) i = vmOf s i) ∧
    (∀ i, loftOf (setFn s f x) i = loftOf s i) ∧ (∀ i, mboxOf (setFn s f x) i = mboxOf s i) ∧
    (∀ i, mboxBytes (setFn s f x) i = mboxBytes s i) :=
  by and_intros <;> intros <;> rfl

/-- setEp changes eps only. -/
@[simp] theorem setEp_frame (k : Nat) (x : Ep) :
    (setEp s k x).pending = s.pending ∧ (setEp s k x).od = s.od ∧ (setEp s k x).bar2 = s.bar2 ∧
    (setEp s k x).msix = s.msix ∧ (setEp s k x).msixPend = s.msixPend ∧ (setEp s k x).host = s.host ∧
    (setEp s k x).vm = s.vm ∧ (setEp s k x).vmFn = s.vmFn ∧ (setEp s k x).loft = s.loft ∧ (setEp s k x).tiles = s.tiles ∧
    (setEp s k x).ctxs = s.ctxs ∧ (setEp s k x).cqs = s.cqs ∧ (setEp s k x).evqs = s.evqs ∧
    (setEp s k x).descs = s.descs ∧ (setEp s k x).nextDesc = s.nextDesc ∧ (setEp s k x).trigs = s.trigs ∧
    (setEp s k x).firedWait = s.firedWait ∧ (setEp s k x).stream = s.stream ∧ (setEp s k x).firings = s.firings ∧
    (setEp s k x).promoted = s.promoted ∧ (setEp s k x).served = s.served ∧ (setEp s k x).syn = s.syn ∧
    (setEp s k x).mboxes = s.mboxes ∧ (setEp s k x).mboxMem = s.mboxMem ∧ (setEp s k x).staging = s.staging ∧
    (setEp s k x).copies = s.copies ∧ (setEp s k x).fns = s.fns ∧ (setEp s k x).lcWait = s.lcWait ∧
    (setEp s k x).lcSrc = s.lcSrc ∧ (setEp s k x).faults = s.faults ∧ (setEp s k x).faultSeq = s.faultSeq ∧
    (setEp s k x).resets = s.resets ∧ (setEp s k x).dieResetCount = s.dieResetCount ∧ (setEp s k x).ports = s.ports ∧
    (setEp s k x).switchq = s.switchq ∧ (setEp s k x).swShare = s.swShare ∧ (setEp s k x).abortsSeen = s.abortsSeen ∧
    (setEp s k x).rates = s.rates ∧ (setEp s k x).txs = s.txs ∧ (setEp s k x).rxs = s.rxs ∧
    (setEp s k x).nextMsg = s.nextMsg ∧ (setEp s k x).txCount = s.txCount ∧ (setEp s k x).pds = s.pds ∧
    (setEp s k x).regions = s.regions ∧ (setEp s k x).keys = s.keys ∧ (setEp s k x).ctxKeyGen = s.ctxKeyGen ∧
    (setEp s k x).parked = s.parked ∧ (setEp s k x).lru = s.lru ∧ (setEp s k x).hss = s.hss ∧
    (setEp s k x).nextHs = s.nextHs ∧ (setEp s k x).fuses = s.fuses ∧ (setEp s k x).mram = s.mram ∧
    (setEp s k x).boot = s.boot ∧ (setEp s k x).vault = s.vault ∧ (setEp s k x).rng = s.rng ∧ (setEp s k x).pwr = s.pwr ∧
    (setEp s k x).panel = s.panel ∧ (setEp s k x).dbg = s.dbg ∧ (setEp s k x).pcie = s.pcie ∧
    (setEp s k x).sent = s.sent ∧ (setEp s k x).free = s.free ∧ (∀ i j l, rdEj (setEp s k x) i j l = rdEj s i j l) ∧
    (∀ i j, rdE (setEp s k x) i j = rdE s i j) ∧ (∀ i j, rdB (setEp s k x) i j = rdB s i j) ∧
    (∀ i, cx (setEp s k x) i = cx s i) ∧ (∀ i j, cohortOf (setEp s k x) i j = cohortOf s i j) ∧
    (∀ i j, cq (setEp s k x) i j = cq s i j) ∧ (∀ i j, evq (setEp s k x) i j = evq s i j) ∧
    (∀ i, fnSt (setEp s k x) i = fnSt s i) ∧ (∀ i, regionOf (setEp s k x) i = regionOf s i) ∧
    (∀ i, keyOf (setEp s k x) i = keyOf s i) ∧ (∀ i, portOf (setEp s k x) i = portOf s i) ∧
    (∀ i j l, tileOf (setEp s k x) i j l = tileOf s i j l) ∧ (∀ i, vmOf (setEp s k x) i = vmOf s i) ∧
    (∀ i, loftOf (setEp s k x) i = loftOf s i) ∧ (∀ i, mboxOf (setEp s k x) i = mboxOf s i) ∧
    (∀ i, mboxBytes (setEp s k x) i = mboxBytes s i) :=
  by and_intros <;> intros <;> rfl

/-- setRegion changes regions only. -/
@[simp] theorem setRegion_frame (r : Nat) (x : Region) :
    (setRegion s r x).pending = s.pending ∧ (setRegion s r x).od = s.od ∧ (setRegion s r x).bar2 = s.bar2 ∧
    (setRegion s r x).msix = s.msix ∧ (setRegion s r x).msixPend = s.msixPend ∧ (setRegion s r x).host = s.host ∧
    (setRegion s r x).vm = s.vm ∧ (setRegion s r x).vmFn = s.vmFn ∧ (setRegion s r x).loft = s.loft ∧
    (setRegion s r x).tiles = s.tiles ∧ (setRegion s r x).ctxs = s.ctxs ∧ (setRegion s r x).cqs = s.cqs ∧
    (setRegion s r x).evqs = s.evqs ∧ (setRegion s r x).descs = s.descs ∧ (setRegion s r x).nextDesc = s.nextDesc ∧
    (setRegion s r x).trigs = s.trigs ∧ (setRegion s r x).firedWait = s.firedWait ∧ (setRegion s r x).stream = s.stream ∧
    (setRegion s r x).firings = s.firings ∧ (setRegion s r x).promoted = s.promoted ∧
    (setRegion s r x).served = s.served ∧ (setRegion s r x).syn = s.syn ∧ (setRegion s r x).mboxes = s.mboxes ∧
    (setRegion s r x).mboxMem = s.mboxMem ∧ (setRegion s r x).staging = s.staging ∧ (setRegion s r x).copies = s.copies ∧
    (setRegion s r x).fns = s.fns ∧ (setRegion s r x).lcWait = s.lcWait ∧ (setRegion s r x).lcSrc = s.lcSrc ∧
    (setRegion s r x).faults = s.faults ∧ (setRegion s r x).faultSeq = s.faultSeq ∧ (setRegion s r x).resets = s.resets ∧
    (setRegion s r x).dieResetCount = s.dieResetCount ∧ (setRegion s r x).ports = s.ports ∧
    (setRegion s r x).switchq = s.switchq ∧ (setRegion s r x).swShare = s.swShare ∧
    (setRegion s r x).abortsSeen = s.abortsSeen ∧ (setRegion s r x).rates = s.rates ∧ (setRegion s r x).txs = s.txs ∧
    (setRegion s r x).rxs = s.rxs ∧ (setRegion s r x).nextMsg = s.nextMsg ∧ (setRegion s r x).txCount = s.txCount ∧
    (setRegion s r x).eps = s.eps ∧ (setRegion s r x).pds = s.pds ∧ (setRegion s r x).keys = s.keys ∧
    (setRegion s r x).ctxKeyGen = s.ctxKeyGen ∧ (setRegion s r x).parked = s.parked ∧ (setRegion s r x).lru = s.lru ∧
    (setRegion s r x).hss = s.hss ∧ (setRegion s r x).nextHs = s.nextHs ∧ (setRegion s r x).fuses = s.fuses ∧
    (setRegion s r x).mram = s.mram ∧ (setRegion s r x).boot = s.boot ∧ (setRegion s r x).vault = s.vault ∧
    (setRegion s r x).rng = s.rng ∧ (setRegion s r x).pwr = s.pwr ∧ (setRegion s r x).panel = s.panel ∧
    (setRegion s r x).dbg = s.dbg ∧ (setRegion s r x).pcie = s.pcie ∧ (setRegion s r x).sent = s.sent ∧
    (setRegion s r x).free = s.free ∧ (∀ i j l, rdEj (setRegion s r x) i j l = rdEj s i j l) ∧
    (∀ i j, rdE (setRegion s r x) i j = rdE s i j) ∧ (∀ i j, rdB (setRegion s r x) i j = rdB s i j) ∧
    (∀ i, cx (setRegion s r x) i = cx s i) ∧ (∀ i j, cohortOf (setRegion s r x) i j = cohortOf s i j) ∧
    (∀ i j, cq (setRegion s r x) i j = cq s i j) ∧ (∀ i j, evq (setRegion s r x) i j = evq s i j) ∧
    (∀ i, fnSt (setRegion s r x) i = fnSt s i) ∧ (∀ i, epOf (setRegion s r x) i = epOf s i) ∧
    (∀ i, keyOf (setRegion s r x) i = keyOf s i) ∧ (∀ i, portOf (setRegion s r x) i = portOf s i) ∧
    (∀ i j l, tileOf (setRegion s r x) i j l = tileOf s i j l) ∧ (∀ i, vmOf (setRegion s r x) i = vmOf s i) ∧
    (∀ i, loftOf (setRegion s r x) i = loftOf s i) ∧ (∀ i, mboxOf (setRegion s r x) i = mboxOf s i) ∧
    (∀ i, mboxBytes (setRegion s r x) i = mboxBytes s i) :=
  by and_intros <;> intros <;> rfl

/-- setKey changes keys only. -/
@[simp] theorem setKey_frame (k : Nat) (x : Key) :
    (setKey s k x).pending = s.pending ∧ (setKey s k x).od = s.od ∧ (setKey s k x).bar2 = s.bar2 ∧
    (setKey s k x).msix = s.msix ∧ (setKey s k x).msixPend = s.msixPend ∧ (setKey s k x).host = s.host ∧
    (setKey s k x).vm = s.vm ∧ (setKey s k x).vmFn = s.vmFn ∧ (setKey s k x).loft = s.loft ∧
    (setKey s k x).tiles = s.tiles ∧ (setKey s k x).ctxs = s.ctxs ∧ (setKey s k x).cqs = s.cqs ∧
    (setKey s k x).evqs = s.evqs ∧ (setKey s k x).descs = s.descs ∧ (setKey s k x).nextDesc = s.nextDesc ∧
    (setKey s k x).trigs = s.trigs ∧ (setKey s k x).firedWait = s.firedWait ∧ (setKey s k x).stream = s.stream ∧
    (setKey s k x).firings = s.firings ∧ (setKey s k x).promoted = s.promoted ∧ (setKey s k x).served = s.served ∧
    (setKey s k x).syn = s.syn ∧ (setKey s k x).mboxes = s.mboxes ∧ (setKey s k x).mboxMem = s.mboxMem ∧
    (setKey s k x).staging = s.staging ∧ (setKey s k x).copies = s.copies ∧ (setKey s k x).fns = s.fns ∧
    (setKey s k x).lcWait = s.lcWait ∧ (setKey s k x).lcSrc = s.lcSrc ∧ (setKey s k x).faults = s.faults ∧
    (setKey s k x).faultSeq = s.faultSeq ∧ (setKey s k x).resets = s.resets ∧
    (setKey s k x).dieResetCount = s.dieResetCount ∧ (setKey s k x).ports = s.ports ∧
    (setKey s k x).switchq = s.switchq ∧ (setKey s k x).swShare = s.swShare ∧ (setKey s k x).abortsSeen = s.abortsSeen ∧
    (setKey s k x).rates = s.rates ∧ (setKey s k x).txs = s.txs ∧ (setKey s k x).rxs = s.rxs ∧
    (setKey s k x).nextMsg = s.nextMsg ∧ (setKey s k x).txCount = s.txCount ∧ (setKey s k x).eps = s.eps ∧
    (setKey s k x).pds = s.pds ∧ (setKey s k x).regions = s.regions ∧ (setKey s k x).ctxKeyGen = s.ctxKeyGen ∧
    (setKey s k x).parked = s.parked ∧ (setKey s k x).lru = s.lru ∧ (setKey s k x).hss = s.hss ∧
    (setKey s k x).nextHs = s.nextHs ∧ (setKey s k x).fuses = s.fuses ∧ (setKey s k x).mram = s.mram ∧
    (setKey s k x).boot = s.boot ∧ (setKey s k x).vault = s.vault ∧ (setKey s k x).rng = s.rng ∧
    (setKey s k x).pwr = s.pwr ∧ (setKey s k x).panel = s.panel ∧ (setKey s k x).dbg = s.dbg ∧
    (setKey s k x).pcie = s.pcie ∧ (setKey s k x).sent = s.sent ∧ (setKey s k x).free = s.free ∧
    (∀ i j l, rdEj (setKey s k x) i j l = rdEj s i j l) ∧ (∀ i j, rdE (setKey s k x) i j = rdE s i j) ∧
    (∀ i j, rdB (setKey s k x) i j = rdB s i j) ∧ (∀ i, cx (setKey s k x) i = cx s i) ∧
    (∀ i j, cohortOf (setKey s k x) i j = cohortOf s i j) ∧ (∀ i j, cq (setKey s k x) i j = cq s i j) ∧
    (∀ i j, evq (setKey s k x) i j = evq s i j) ∧ (∀ i, fnSt (setKey s k x) i = fnSt s i) ∧
    (∀ i, epOf (setKey s k x) i = epOf s i) ∧ (∀ i, regionOf (setKey s k x) i = regionOf s i) ∧
    (∀ i, portOf (setKey s k x) i = portOf s i) ∧ (∀ i j l, tileOf (setKey s k x) i j l = tileOf s i j l) ∧
    (∀ i, vmOf (setKey s k x) i = vmOf s i) ∧ (∀ i, loftOf (setKey s k x) i = loftOf s i) ∧
    (∀ i, mboxOf (setKey s k x) i = mboxOf s i) ∧ (∀ i, mboxBytes (setKey s k x) i = mboxBytes s i) :=
  by and_intros <;> intros <;> rfl

/-- setPort changes ports only. -/
@[simp] theorem setPort_frame (p : Nat) (x : Port) :
    (setPort s p x).pending = s.pending ∧ (setPort s p x).od = s.od ∧ (setPort s p x).bar2 = s.bar2 ∧
    (setPort s p x).msix = s.msix ∧ (setPort s p x).msixPend = s.msixPend ∧ (setPort s p x).host = s.host ∧
    (setPort s p x).vm = s.vm ∧ (setPort s p x).vmFn = s.vmFn ∧ (setPort s p x).loft = s.loft ∧
    (setPort s p x).tiles = s.tiles ∧ (setPort s p x).ctxs = s.ctxs ∧ (setPort s p x).cqs = s.cqs ∧
    (setPort s p x).evqs = s.evqs ∧ (setPort s p x).descs = s.descs ∧ (setPort s p x).nextDesc = s.nextDesc ∧
    (setPort s p x).trigs = s.trigs ∧ (setPort s p x).firedWait = s.firedWait ∧ (setPort s p x).stream = s.stream ∧
    (setPort s p x).firings = s.firings ∧ (setPort s p x).promoted = s.promoted ∧ (setPort s p x).served = s.served ∧
    (setPort s p x).syn = s.syn ∧ (setPort s p x).mboxes = s.mboxes ∧ (setPort s p x).mboxMem = s.mboxMem ∧
    (setPort s p x).staging = s.staging ∧ (setPort s p x).copies = s.copies ∧ (setPort s p x).fns = s.fns ∧
    (setPort s p x).lcWait = s.lcWait ∧ (setPort s p x).lcSrc = s.lcSrc ∧ (setPort s p x).faults = s.faults ∧
    (setPort s p x).faultSeq = s.faultSeq ∧ (setPort s p x).resets = s.resets ∧
    (setPort s p x).dieResetCount = s.dieResetCount ∧ (setPort s p x).switchq = s.switchq ∧
    (setPort s p x).swShare = s.swShare ∧ (setPort s p x).abortsSeen = s.abortsSeen ∧ (setPort s p x).rates = s.rates ∧
    (setPort s p x).txs = s.txs ∧ (setPort s p x).rxs = s.rxs ∧ (setPort s p x).nextMsg = s.nextMsg ∧
    (setPort s p x).txCount = s.txCount ∧ (setPort s p x).eps = s.eps ∧ (setPort s p x).pds = s.pds ∧
    (setPort s p x).regions = s.regions ∧ (setPort s p x).keys = s.keys ∧ (setPort s p x).ctxKeyGen = s.ctxKeyGen ∧
    (setPort s p x).parked = s.parked ∧ (setPort s p x).lru = s.lru ∧ (setPort s p x).hss = s.hss ∧
    (setPort s p x).nextHs = s.nextHs ∧ (setPort s p x).fuses = s.fuses ∧ (setPort s p x).mram = s.mram ∧
    (setPort s p x).boot = s.boot ∧ (setPort s p x).vault = s.vault ∧ (setPort s p x).rng = s.rng ∧
    (setPort s p x).pwr = s.pwr ∧ (setPort s p x).panel = s.panel ∧ (setPort s p x).dbg = s.dbg ∧
    (setPort s p x).pcie = s.pcie ∧ (setPort s p x).sent = s.sent ∧ (setPort s p x).free = s.free ∧
    (∀ i j l, rdEj (setPort s p x) i j l = rdEj s i j l) ∧ (∀ i j, rdE (setPort s p x) i j = rdE s i j) ∧
    (∀ i j, rdB (setPort s p x) i j = rdB s i j) ∧ (∀ i, cx (setPort s p x) i = cx s i) ∧
    (∀ i j, cohortOf (setPort s p x) i j = cohortOf s i j) ∧ (∀ i j, cq (setPort s p x) i j = cq s i j) ∧
    (∀ i j, evq (setPort s p x) i j = evq s i j) ∧ (∀ i, fnSt (setPort s p x) i = fnSt s i) ∧
    (∀ i, epOf (setPort s p x) i = epOf s i) ∧ (∀ i, regionOf (setPort s p x) i = regionOf s i) ∧
    (∀ i, keyOf (setPort s p x) i = keyOf s i) ∧ (∀ i j l, tileOf (setPort s p x) i j l = tileOf s i j l) ∧
    (∀ i, vmOf (setPort s p x) i = vmOf s i) ∧ (∀ i, loftOf (setPort s p x) i = loftOf s i) ∧
    (∀ i, mboxOf (setPort s p x) i = mboxOf s i) ∧ (∀ i, mboxBytes (setPort s p x) i = mboxBytes s i) :=
  by and_intros <;> intros <;> rfl

/-- setTile changes tiles only. -/
@[simp] theorem setTile_frame (d a k : Nat) (x : Tile) :
    (setTile s d a k x).pending = s.pending ∧ (setTile s d a k x).od = s.od ∧ (setTile s d a k x).bar2 = s.bar2 ∧
    (setTile s d a k x).msix = s.msix ∧ (setTile s d a k x).msixPend = s.msixPend ∧ (setTile s d a k x).host = s.host ∧
    (setTile s d a k x).vm = s.vm ∧ (setTile s d a k x).vmFn = s.vmFn ∧ (setTile s d a k x).loft = s.loft ∧
    (setTile s d a k x).ctxs = s.ctxs ∧ (setTile s d a k x).cqs = s.cqs ∧ (setTile s d a k x).evqs = s.evqs ∧
    (setTile s d a k x).descs = s.descs ∧ (setTile s d a k x).nextDesc = s.nextDesc ∧
    (setTile s d a k x).trigs = s.trigs ∧ (setTile s d a k x).firedWait = s.firedWait ∧
    (setTile s d a k x).stream = s.stream ∧ (setTile s d a k x).firings = s.firings ∧
    (setTile s d a k x).promoted = s.promoted ∧ (setTile s d a k x).served = s.served ∧ (setTile s d a k x).syn = s.syn ∧
    (setTile s d a k x).mboxes = s.mboxes ∧ (setTile s d a k x).mboxMem = s.mboxMem ∧
    (setTile s d a k x).staging = s.staging ∧ (setTile s d a k x).copies = s.copies ∧ (setTile s d a k x).fns = s.fns ∧
    (setTile s d a k x).lcWait = s.lcWait ∧ (setTile s d a k x).lcSrc = s.lcSrc ∧ (setTile s d a k x).faults = s.faults ∧
    (setTile s d a k x).faultSeq = s.faultSeq ∧ (setTile s d a k x).resets = s.resets ∧
    (setTile s d a k x).dieResetCount = s.dieResetCount ∧ (setTile s d a k x).ports = s.ports ∧
    (setTile s d a k x).switchq = s.switchq ∧ (setTile s d a k x).swShare = s.swShare ∧
    (setTile s d a k x).abortsSeen = s.abortsSeen ∧ (setTile s d a k x).rates = s.rates ∧
    (setTile s d a k x).txs = s.txs ∧ (setTile s d a k x).rxs = s.rxs ∧ (setTile s d a k x).nextMsg = s.nextMsg ∧
    (setTile s d a k x).txCount = s.txCount ∧ (setTile s d a k x).eps = s.eps ∧ (setTile s d a k x).pds = s.pds ∧
    (setTile s d a k x).regions = s.regions ∧ (setTile s d a k x).keys = s.keys ∧
    (setTile s d a k x).ctxKeyGen = s.ctxKeyGen ∧ (setTile s d a k x).parked = s.parked ∧
    (setTile s d a k x).lru = s.lru ∧ (setTile s d a k x).hss = s.hss ∧ (setTile s d a k x).nextHs = s.nextHs ∧
    (setTile s d a k x).fuses = s.fuses ∧ (setTile s d a k x).mram = s.mram ∧ (setTile s d a k x).boot = s.boot ∧
    (setTile s d a k x).vault = s.vault ∧ (setTile s d a k x).rng = s.rng ∧ (setTile s d a k x).pwr = s.pwr ∧
    (setTile s d a k x).panel = s.panel ∧ (setTile s d a k x).dbg = s.dbg ∧ (setTile s d a k x).pcie = s.pcie ∧
    (setTile s d a k x).sent = s.sent ∧ (setTile s d a k x).free = s.free ∧
    (∀ i j l, rdEj (setTile s d a k x) i j l = rdEj s i j l) ∧ (∀ i j, rdE (setTile s d a k x) i j = rdE s i j) ∧
    (∀ i j, rdB (setTile s d a k x) i j = rdB s i j) ∧ (∀ i, cx (setTile s d a k x) i = cx s i) ∧
    (∀ i j, cohortOf (setTile s d a k x) i j = cohortOf s i j) ∧ (∀ i j, cq (setTile s d a k x) i j = cq s i j) ∧
    (∀ i j, evq (setTile s d a k x) i j = evq s i j) ∧ (∀ i, fnSt (setTile s d a k x) i = fnSt s i) ∧
    (∀ i, epOf (setTile s d a k x) i = epOf s i) ∧ (∀ i, regionOf (setTile s d a k x) i = regionOf s i) ∧
    (∀ i, keyOf (setTile s d a k x) i = keyOf s i) ∧ (∀ i, portOf (setTile s d a k x) i = portOf s i) ∧
    (∀ i, vmOf (setTile s d a k x) i = vmOf s i) ∧ (∀ i, loftOf (setTile s d a k x) i = loftOf s i) ∧
    (∀ i, mboxOf (setTile s d a k x) i = mboxOf s i) ∧ (∀ i, mboxBytes (setTile s d a k x) i = mboxBytes s i) :=
  by and_intros <;> intros <;> rfl

/-- setVm changes vm only. -/
@[simp] theorem setVm_frame (n : Nat) (m : Mem) :
    (setVm s n m).pending = s.pending ∧ (setVm s n m).od = s.od ∧ (setVm s n m).bar2 = s.bar2 ∧
    (setVm s n m).msix = s.msix ∧ (setVm s n m).msixPend = s.msixPend ∧ (setVm s n m).host = s.host ∧
    (setVm s n m).vmFn = s.vmFn ∧ (setVm s n m).loft = s.loft ∧ (setVm s n m).tiles = s.tiles ∧
    (setVm s n m).ctxs = s.ctxs ∧ (setVm s n m).cqs = s.cqs ∧ (setVm s n m).evqs = s.evqs ∧
    (setVm s n m).descs = s.descs ∧ (setVm s n m).nextDesc = s.nextDesc ∧ (setVm s n m).trigs = s.trigs ∧
    (setVm s n m).firedWait = s.firedWait ∧ (setVm s n m).stream = s.stream ∧ (setVm s n m).firings = s.firings ∧
    (setVm s n m).promoted = s.promoted ∧ (setVm s n m).served = s.served ∧ (setVm s n m).syn = s.syn ∧
    (setVm s n m).mboxes = s.mboxes ∧ (setVm s n m).mboxMem = s.mboxMem ∧ (setVm s n m).staging = s.staging ∧
    (setVm s n m).copies = s.copies ∧ (setVm s n m).fns = s.fns ∧ (setVm s n m).lcWait = s.lcWait ∧
    (setVm s n m).lcSrc = s.lcSrc ∧ (setVm s n m).faults = s.faults ∧ (setVm s n m).faultSeq = s.faultSeq ∧
    (setVm s n m).resets = s.resets ∧ (setVm s n m).dieResetCount = s.dieResetCount ∧ (setVm s n m).ports = s.ports ∧
    (setVm s n m).switchq = s.switchq ∧ (setVm s n m).swShare = s.swShare ∧ (setVm s n m).abortsSeen = s.abortsSeen ∧
    (setVm s n m).rates = s.rates ∧ (setVm s n m).txs = s.txs ∧ (setVm s n m).rxs = s.rxs ∧
    (setVm s n m).nextMsg = s.nextMsg ∧ (setVm s n m).txCount = s.txCount ∧ (setVm s n m).eps = s.eps ∧
    (setVm s n m).pds = s.pds ∧ (setVm s n m).regions = s.regions ∧ (setVm s n m).keys = s.keys ∧
    (setVm s n m).ctxKeyGen = s.ctxKeyGen ∧ (setVm s n m).parked = s.parked ∧ (setVm s n m).lru = s.lru ∧
    (setVm s n m).hss = s.hss ∧ (setVm s n m).nextHs = s.nextHs ∧ (setVm s n m).fuses = s.fuses ∧
    (setVm s n m).mram = s.mram ∧ (setVm s n m).boot = s.boot ∧ (setVm s n m).vault = s.vault ∧
    (setVm s n m).rng = s.rng ∧ (setVm s n m).pwr = s.pwr ∧ (setVm s n m).panel = s.panel ∧ (setVm s n m).dbg = s.dbg ∧
    (setVm s n m).pcie = s.pcie ∧ (setVm s n m).sent = s.sent ∧ (setVm s n m).free = s.free ∧
    (∀ i j l, rdEj (setVm s n m) i j l = rdEj s i j l) ∧ (∀ i j, rdE (setVm s n m) i j = rdE s i j) ∧
    (∀ i j, rdB (setVm s n m) i j = rdB s i j) ∧ (∀ i, cx (setVm s n m) i = cx s i) ∧
    (∀ i j, cohortOf (setVm s n m) i j = cohortOf s i j) ∧ (∀ i j, cq (setVm s n m) i j = cq s i j) ∧
    (∀ i j, evq (setVm s n m) i j = evq s i j) ∧ (∀ i, fnSt (setVm s n m) i = fnSt s i) ∧
    (∀ i, epOf (setVm s n m) i = epOf s i) ∧ (∀ i, regionOf (setVm s n m) i = regionOf s i) ∧
    (∀ i, keyOf (setVm s n m) i = keyOf s i) ∧ (∀ i, portOf (setVm s n m) i = portOf s i) ∧
    (∀ i j l, tileOf (setVm s n m) i j l = tileOf s i j l) ∧ (∀ i, loftOf (setVm s n m) i = loftOf s i) ∧
    (∀ i, mboxOf (setVm s n m) i = mboxOf s i) ∧ (∀ i, mboxBytes (setVm s n m) i = mboxBytes s i) :=
  by and_intros <;> intros <;> rfl

/-- setLoft changes loft only. -/
@[simp] theorem setLoft_frame (d : Nat) (m : Mem) :
    (setLoft s d m).pending = s.pending ∧ (setLoft s d m).od = s.od ∧ (setLoft s d m).bar2 = s.bar2 ∧
    (setLoft s d m).msix = s.msix ∧ (setLoft s d m).msixPend = s.msixPend ∧ (setLoft s d m).host = s.host ∧
    (setLoft s d m).vm = s.vm ∧ (setLoft s d m).vmFn = s.vmFn ∧ (setLoft s d m).tiles = s.tiles ∧
    (setLoft s d m).ctxs = s.ctxs ∧ (setLoft s d m).cqs = s.cqs ∧ (setLoft s d m).evqs = s.evqs ∧
    (setLoft s d m).descs = s.descs ∧ (setLoft s d m).nextDesc = s.nextDesc ∧ (setLoft s d m).trigs = s.trigs ∧
    (setLoft s d m).firedWait = s.firedWait ∧ (setLoft s d m).stream = s.stream ∧ (setLoft s d m).firings = s.firings ∧
    (setLoft s d m).promoted = s.promoted ∧ (setLoft s d m).served = s.served ∧ (setLoft s d m).syn = s.syn ∧
    (setLoft s d m).mboxes = s.mboxes ∧ (setLoft s d m).mboxMem = s.mboxMem ∧ (setLoft s d m).staging = s.staging ∧
    (setLoft s d m).copies = s.copies ∧ (setLoft s d m).fns = s.fns ∧ (setLoft s d m).lcWait = s.lcWait ∧
    (setLoft s d m).lcSrc = s.lcSrc ∧ (setLoft s d m).faults = s.faults ∧ (setLoft s d m).faultSeq = s.faultSeq ∧
    (setLoft s d m).resets = s.resets ∧ (setLoft s d m).dieResetCount = s.dieResetCount ∧
    (setLoft s d m).ports = s.ports ∧ (setLoft s d m).switchq = s.switchq ∧ (setLoft s d m).swShare = s.swShare ∧
    (setLoft s d m).abortsSeen = s.abortsSeen ∧ (setLoft s d m).rates = s.rates ∧ (setLoft s d m).txs = s.txs ∧
    (setLoft s d m).rxs = s.rxs ∧ (setLoft s d m).nextMsg = s.nextMsg ∧ (setLoft s d m).txCount = s.txCount ∧
    (setLoft s d m).eps = s.eps ∧ (setLoft s d m).pds = s.pds ∧ (setLoft s d m).regions = s.regions ∧
    (setLoft s d m).keys = s.keys ∧ (setLoft s d m).ctxKeyGen = s.ctxKeyGen ∧ (setLoft s d m).parked = s.parked ∧
    (setLoft s d m).lru = s.lru ∧ (setLoft s d m).hss = s.hss ∧ (setLoft s d m).nextHs = s.nextHs ∧
    (setLoft s d m).fuses = s.fuses ∧ (setLoft s d m).mram = s.mram ∧ (setLoft s d m).boot = s.boot ∧
    (setLoft s d m).vault = s.vault ∧ (setLoft s d m).rng = s.rng ∧ (setLoft s d m).pwr = s.pwr ∧
    (setLoft s d m).panel = s.panel ∧ (setLoft s d m).dbg = s.dbg ∧ (setLoft s d m).pcie = s.pcie ∧
    (setLoft s d m).sent = s.sent ∧ (setLoft s d m).free = s.free ∧
    (∀ i j l, rdEj (setLoft s d m) i j l = rdEj s i j l) ∧ (∀ i j, rdE (setLoft s d m) i j = rdE s i j) ∧
    (∀ i j, rdB (setLoft s d m) i j = rdB s i j) ∧ (∀ i, cx (setLoft s d m) i = cx s i) ∧
    (∀ i j, cohortOf (setLoft s d m) i j = cohortOf s i j) ∧ (∀ i j, cq (setLoft s d m) i j = cq s i j) ∧
    (∀ i j, evq (setLoft s d m) i j = evq s i j) ∧ (∀ i, fnSt (setLoft s d m) i = fnSt s i) ∧
    (∀ i, epOf (setLoft s d m) i = epOf s i) ∧ (∀ i, regionOf (setLoft s d m) i = regionOf s i) ∧
    (∀ i, keyOf (setLoft s d m) i = keyOf s i) ∧ (∀ i, portOf (setLoft s d m) i = portOf s i) ∧
    (∀ i j l, tileOf (setLoft s d m) i j l = tileOf s i j l) ∧ (∀ i, vmOf (setLoft s d m) i = vmOf s i) ∧
    (∀ i, mboxOf (setLoft s d m) i = mboxOf s i) ∧ (∀ i, mboxBytes (setLoft s d m) i = mboxBytes s i) :=
  by and_intros <;> intros <;> rfl

/-- setMbox changes mboxes only. -/
@[simp] theorem setMbox_frame (f : Nat) (m : Mbox) :
    (setMbox s f m).pending = s.pending ∧ (setMbox s f m).od = s.od ∧ (setMbox s f m).bar2 = s.bar2 ∧
    (setMbox s f m).msix = s.msix ∧ (setMbox s f m).msixPend = s.msixPend ∧ (setMbox s f m).host = s.host ∧
    (setMbox s f m).vm = s.vm ∧ (setMbox s f m).vmFn = s.vmFn ∧ (setMbox s f m).loft = s.loft ∧
    (setMbox s f m).tiles = s.tiles ∧ (setMbox s f m).ctxs = s.ctxs ∧ (setMbox s f m).cqs = s.cqs ∧
    (setMbox s f m).evqs = s.evqs ∧ (setMbox s f m).descs = s.descs ∧ (setMbox s f m).nextDesc = s.nextDesc ∧
    (setMbox s f m).trigs = s.trigs ∧ (setMbox s f m).firedWait = s.firedWait ∧ (setMbox s f m).stream = s.stream ∧
    (setMbox s f m).firings = s.firings ∧ (setMbox s f m).promoted = s.promoted ∧ (setMbox s f m).served = s.served ∧
    (setMbox s f m).syn = s.syn ∧ (setMbox s f m).mboxMem = s.mboxMem ∧ (setMbox s f m).staging = s.staging ∧
    (setMbox s f m).copies = s.copies ∧ (setMbox s f m).fns = s.fns ∧ (setMbox s f m).lcWait = s.lcWait ∧
    (setMbox s f m).lcSrc = s.lcSrc ∧ (setMbox s f m).faults = s.faults ∧ (setMbox s f m).faultSeq = s.faultSeq ∧
    (setMbox s f m).resets = s.resets ∧ (setMbox s f m).dieResetCount = s.dieResetCount ∧
    (setMbox s f m).ports = s.ports ∧ (setMbox s f m).switchq = s.switchq ∧ (setMbox s f m).swShare = s.swShare ∧
    (setMbox s f m).abortsSeen = s.abortsSeen ∧ (setMbox s f m).rates = s.rates ∧ (setMbox s f m).txs = s.txs ∧
    (setMbox s f m).rxs = s.rxs ∧ (setMbox s f m).nextMsg = s.nextMsg ∧ (setMbox s f m).txCount = s.txCount ∧
    (setMbox s f m).eps = s.eps ∧ (setMbox s f m).pds = s.pds ∧ (setMbox s f m).regions = s.regions ∧
    (setMbox s f m).keys = s.keys ∧ (setMbox s f m).ctxKeyGen = s.ctxKeyGen ∧ (setMbox s f m).parked = s.parked ∧
    (setMbox s f m).lru = s.lru ∧ (setMbox s f m).hss = s.hss ∧ (setMbox s f m).nextHs = s.nextHs ∧
    (setMbox s f m).fuses = s.fuses ∧ (setMbox s f m).mram = s.mram ∧ (setMbox s f m).boot = s.boot ∧
    (setMbox s f m).vault = s.vault ∧ (setMbox s f m).rng = s.rng ∧ (setMbox s f m).pwr = s.pwr ∧
    (setMbox s f m).panel = s.panel ∧ (setMbox s f m).dbg = s.dbg ∧ (setMbox s f m).pcie = s.pcie ∧
    (setMbox s f m).sent = s.sent ∧ (setMbox s f m).free = s.free ∧
    (∀ i j l, rdEj (setMbox s f m) i j l = rdEj s i j l) ∧ (∀ i j, rdE (setMbox s f m) i j = rdE s i j) ∧
    (∀ i j, rdB (setMbox s f m) i j = rdB s i j) ∧ (∀ i, cx (setMbox s f m) i = cx s i) ∧
    (∀ i j, cohortOf (setMbox s f m) i j = cohortOf s i j) ∧ (∀ i j, cq (setMbox s f m) i j = cq s i j) ∧
    (∀ i j, evq (setMbox s f m) i j = evq s i j) ∧ (∀ i, fnSt (setMbox s f m) i = fnSt s i) ∧
    (∀ i, epOf (setMbox s f m) i = epOf s i) ∧ (∀ i, regionOf (setMbox s f m) i = regionOf s i) ∧
    (∀ i, keyOf (setMbox s f m) i = keyOf s i) ∧ (∀ i, portOf (setMbox s f m) i = portOf s i) ∧
    (∀ i j l, tileOf (setMbox s f m) i j l = tileOf s i j l) ∧ (∀ i, vmOf (setMbox s f m) i = vmOf s i) ∧
    (∀ i, loftOf (setMbox s f m) i = loftOf s i) ∧ (∀ i, mboxBytes (setMbox s f m) i = mboxBytes s i) :=
  by and_intros <;> intros <;> rfl

/-- setMboxBytes changes mboxMem only. -/
@[simp] theorem setMboxBytes_frame (f : Nat) (m : Mem) :
    (setMboxBytes s f m).pending = s.pending ∧ (setMboxBytes s f m).od = s.od ∧ (setMboxBytes s f m).bar2 = s.bar2 ∧
    (setMboxBytes s f m).msix = s.msix ∧ (setMboxBytes s f m).msixPend = s.msixPend ∧
    (setMboxBytes s f m).host = s.host ∧ (setMboxBytes s f m).vm = s.vm ∧ (setMboxBytes s f m).vmFn = s.vmFn ∧
    (setMboxBytes s f m).loft = s.loft ∧ (setMboxBytes s f m).tiles = s.tiles ∧ (setMboxBytes s f m).ctxs = s.ctxs ∧
    (setMboxBytes s f m).cqs = s.cqs ∧ (setMboxBytes s f m).evqs = s.evqs ∧ (setMboxBytes s f m).descs = s.descs ∧
    (setMboxBytes s f m).nextDesc = s.nextDesc ∧ (setMboxBytes s f m).trigs = s.trigs ∧
    (setMboxBytes s f m).firedWait = s.firedWait ∧ (setMboxBytes s f m).stream = s.stream ∧
    (setMboxBytes s f m).firings = s.firings ∧ (setMboxBytes s f m).promoted = s.promoted ∧
    (setMboxBytes s f m).served = s.served ∧ (setMboxBytes s f m).syn = s.syn ∧ (setMboxBytes s f m).mboxes = s.mboxes ∧
    (setMboxBytes s f m).staging = s.staging ∧ (setMboxBytes s f m).copies = s.copies ∧
    (setMboxBytes s f m).fns = s.fns ∧ (setMboxBytes s f m).lcWait = s.lcWait ∧ (setMboxBytes s f m).lcSrc = s.lcSrc ∧
    (setMboxBytes s f m).faults = s.faults ∧ (setMboxBytes s f m).faultSeq = s.faultSeq ∧
    (setMboxBytes s f m).resets = s.resets ∧ (setMboxBytes s f m).dieResetCount = s.dieResetCount ∧
    (setMboxBytes s f m).ports = s.ports ∧ (setMboxBytes s f m).switchq = s.switchq ∧
    (setMboxBytes s f m).swShare = s.swShare ∧ (setMboxBytes s f m).abortsSeen = s.abortsSeen ∧
    (setMboxBytes s f m).rates = s.rates ∧ (setMboxBytes s f m).txs = s.txs ∧ (setMboxBytes s f m).rxs = s.rxs ∧
    (setMboxBytes s f m).nextMsg = s.nextMsg ∧ (setMboxBytes s f m).txCount = s.txCount ∧
    (setMboxBytes s f m).eps = s.eps ∧ (setMboxBytes s f m).pds = s.pds ∧ (setMboxBytes s f m).regions = s.regions ∧
    (setMboxBytes s f m).keys = s.keys ∧ (setMboxBytes s f m).ctxKeyGen = s.ctxKeyGen ∧
    (setMboxBytes s f m).parked = s.parked ∧ (setMboxBytes s f m).lru = s.lru ∧ (setMboxBytes s f m).hss = s.hss ∧
    (setMboxBytes s f m).nextHs = s.nextHs ∧ (setMboxBytes s f m).fuses = s.fuses ∧ (setMboxBytes s f m).mram = s.mram ∧
    (setMboxBytes s f m).boot = s.boot ∧ (setMboxBytes s f m).vault = s.vault ∧ (setMboxBytes s f m).rng = s.rng ∧
    (setMboxBytes s f m).pwr = s.pwr ∧ (setMboxBytes s f m).panel = s.panel ∧ (setMboxBytes s f m).dbg = s.dbg ∧
    (setMboxBytes s f m).pcie = s.pcie ∧ (setMboxBytes s f m).sent = s.sent ∧ (setMboxBytes s f m).free = s.free ∧
    (∀ i j l, rdEj (setMboxBytes s f m) i j l = rdEj s i j l) ∧ (∀ i j, rdE (setMboxBytes s f m) i j = rdE s i j) ∧
    (∀ i j, rdB (setMboxBytes s f m) i j = rdB s i j) ∧ (∀ i, cx (setMboxBytes s f m) i = cx s i) ∧
    (∀ i j, cohortOf (setMboxBytes s f m) i j = cohortOf s i j) ∧ (∀ i j, cq (setMboxBytes s f m) i j = cq s i j) ∧
    (∀ i j, evq (setMboxBytes s f m) i j = evq s i j) ∧ (∀ i, fnSt (setMboxBytes s f m) i = fnSt s i) ∧
    (∀ i, epOf (setMboxBytes s f m) i = epOf s i) ∧ (∀ i, regionOf (setMboxBytes s f m) i = regionOf s i) ∧
    (∀ i, keyOf (setMboxBytes s f m) i = keyOf s i) ∧ (∀ i, portOf (setMboxBytes s f m) i = portOf s i) ∧
    (∀ i j l, tileOf (setMboxBytes s f m) i j l = tileOf s i j l) ∧ (∀ i, vmOf (setMboxBytes s f m) i = vmOf s i) ∧
    (∀ i, loftOf (setMboxBytes s f m) i = loftOf s i) ∧ (∀ i, mboxOf (setMboxBytes s f m) i = mboxOf s i) :=
  by and_intros <;> intros <;> rfl

/-- actLed changes panel only. -/
@[simp] theorem actLed_frame :
    (actLed s).pending = s.pending ∧ (actLed s).od = s.od ∧ (actLed s).bar2 = s.bar2 ∧ (actLed s).msix = s.msix ∧
    (actLed s).msixPend = s.msixPend ∧ (actLed s).host = s.host ∧ (actLed s).vm = s.vm ∧ (actLed s).vmFn = s.vmFn ∧
    (actLed s).loft = s.loft ∧ (actLed s).tiles = s.tiles ∧ (actLed s).ctxs = s.ctxs ∧ (actLed s).cqs = s.cqs ∧
    (actLed s).evqs = s.evqs ∧ (actLed s).descs = s.descs ∧ (actLed s).nextDesc = s.nextDesc ∧
    (actLed s).trigs = s.trigs ∧ (actLed s).firedWait = s.firedWait ∧ (actLed s).stream = s.stream ∧
    (actLed s).firings = s.firings ∧ (actLed s).promoted = s.promoted ∧ (actLed s).served = s.served ∧
    (actLed s).syn = s.syn ∧ (actLed s).mboxes = s.mboxes ∧ (actLed s).mboxMem = s.mboxMem ∧
    (actLed s).staging = s.staging ∧ (actLed s).copies = s.copies ∧ (actLed s).fns = s.fns ∧
    (actLed s).lcWait = s.lcWait ∧ (actLed s).lcSrc = s.lcSrc ∧ (actLed s).faults = s.faults ∧
    (actLed s).faultSeq = s.faultSeq ∧ (actLed s).resets = s.resets ∧ (actLed s).dieResetCount = s.dieResetCount ∧
    (actLed s).ports = s.ports ∧ (actLed s).switchq = s.switchq ∧ (actLed s).swShare = s.swShare ∧
    (actLed s).abortsSeen = s.abortsSeen ∧ (actLed s).rates = s.rates ∧ (actLed s).txs = s.txs ∧ (actLed s).rxs = s.rxs ∧
    (actLed s).nextMsg = s.nextMsg ∧ (actLed s).txCount = s.txCount ∧ (actLed s).eps = s.eps ∧ (actLed s).pds = s.pds ∧
    (actLed s).regions = s.regions ∧ (actLed s).keys = s.keys ∧ (actLed s).ctxKeyGen = s.ctxKeyGen ∧
    (actLed s).parked = s.parked ∧ (actLed s).lru = s.lru ∧ (actLed s).hss = s.hss ∧ (actLed s).nextHs = s.nextHs ∧
    (actLed s).fuses = s.fuses ∧ (actLed s).mram = s.mram ∧ (actLed s).boot = s.boot ∧ (actLed s).vault = s.vault ∧
    (actLed s).rng = s.rng ∧ (actLed s).pwr = s.pwr ∧ (actLed s).dbg = s.dbg ∧ (actLed s).pcie = s.pcie ∧
    (actLed s).sent = s.sent ∧ (actLed s).free = s.free ∧ (∀ i j l, rdEj (actLed s) i j l = rdEj s i j l) ∧
    (∀ i j, rdE (actLed s) i j = rdE s i j) ∧ (∀ i j, rdB (actLed s) i j = rdB s i j) ∧ (∀ i, cx (actLed s) i = cx s i) ∧
    (∀ i j, cohortOf (actLed s) i j = cohortOf s i j) ∧ (∀ i j, cq (actLed s) i j = cq s i j) ∧
    (∀ i j, evq (actLed s) i j = evq s i j) ∧ (∀ i, fnSt (actLed s) i = fnSt s i) ∧ (∀ i, epOf (actLed s) i = epOf s i) ∧
    (∀ i, regionOf (actLed s) i = regionOf s i) ∧ (∀ i, keyOf (actLed s) i = keyOf s i) ∧
    (∀ i, portOf (actLed s) i = portOf s i) ∧ (∀ i j l, tileOf (actLed s) i j l = tileOf s i j l) ∧
    (∀ i, vmOf (actLed s) i = vmOf s i) ∧ (∀ i, loftOf (actLed s) i = loftOf s i) ∧
    (∀ i, mboxOf (actLed s) i = mboxOf s i) ∧ (∀ i, mboxBytes (actLed s) i = mboxBytes s i) :=
  by and_intros <;> intros <;> rfl

/-- linkWork changes pcie only. -/
@[simp] theorem linkWork_frame :
    (linkWork s).pending = s.pending ∧ (linkWork s).od = s.od ∧ (linkWork s).bar2 = s.bar2 ∧ (linkWork s).msix = s.msix ∧
    (linkWork s).msixPend = s.msixPend ∧ (linkWork s).host = s.host ∧ (linkWork s).vm = s.vm ∧
    (linkWork s).vmFn = s.vmFn ∧ (linkWork s).loft = s.loft ∧ (linkWork s).tiles = s.tiles ∧ (linkWork s).ctxs = s.ctxs ∧
    (linkWork s).cqs = s.cqs ∧ (linkWork s).evqs = s.evqs ∧ (linkWork s).descs = s.descs ∧
    (linkWork s).nextDesc = s.nextDesc ∧ (linkWork s).trigs = s.trigs ∧ (linkWork s).firedWait = s.firedWait ∧
    (linkWork s).stream = s.stream ∧ (linkWork s).firings = s.firings ∧ (linkWork s).promoted = s.promoted ∧
    (linkWork s).served = s.served ∧ (linkWork s).syn = s.syn ∧ (linkWork s).mboxes = s.mboxes ∧
    (linkWork s).mboxMem = s.mboxMem ∧ (linkWork s).staging = s.staging ∧ (linkWork s).copies = s.copies ∧
    (linkWork s).fns = s.fns ∧ (linkWork s).lcWait = s.lcWait ∧ (linkWork s).lcSrc = s.lcSrc ∧
    (linkWork s).faults = s.faults ∧ (linkWork s).faultSeq = s.faultSeq ∧ (linkWork s).resets = s.resets ∧
    (linkWork s).dieResetCount = s.dieResetCount ∧ (linkWork s).ports = s.ports ∧ (linkWork s).switchq = s.switchq ∧
    (linkWork s).swShare = s.swShare ∧ (linkWork s).abortsSeen = s.abortsSeen ∧ (linkWork s).rates = s.rates ∧
    (linkWork s).txs = s.txs ∧ (linkWork s).rxs = s.rxs ∧ (linkWork s).nextMsg = s.nextMsg ∧
    (linkWork s).txCount = s.txCount ∧ (linkWork s).eps = s.eps ∧ (linkWork s).pds = s.pds ∧
    (linkWork s).regions = s.regions ∧ (linkWork s).keys = s.keys ∧ (linkWork s).ctxKeyGen = s.ctxKeyGen ∧
    (linkWork s).parked = s.parked ∧ (linkWork s).lru = s.lru ∧ (linkWork s).hss = s.hss ∧
    (linkWork s).nextHs = s.nextHs ∧ (linkWork s).fuses = s.fuses ∧ (linkWork s).mram = s.mram ∧
    (linkWork s).boot = s.boot ∧ (linkWork s).vault = s.vault ∧ (linkWork s).rng = s.rng ∧ (linkWork s).pwr = s.pwr ∧
    (linkWork s).panel = s.panel ∧ (linkWork s).dbg = s.dbg ∧ (linkWork s).sent = s.sent ∧ (linkWork s).free = s.free ∧
    (∀ i j l, rdEj (linkWork s) i j l = rdEj s i j l) ∧ (∀ i j, rdE (linkWork s) i j = rdE s i j) ∧
    (∀ i j, rdB (linkWork s) i j = rdB s i j) ∧ (∀ i, cx (linkWork s) i = cx s i) ∧
    (∀ i j, cohortOf (linkWork s) i j = cohortOf s i j) ∧ (∀ i j, cq (linkWork s) i j = cq s i j) ∧
    (∀ i j, evq (linkWork s) i j = evq s i j) ∧ (∀ i, fnSt (linkWork s) i = fnSt s i) ∧
    (∀ i, epOf (linkWork s) i = epOf s i) ∧ (∀ i, regionOf (linkWork s) i = regionOf s i) ∧
    (∀ i, keyOf (linkWork s) i = keyOf s i) ∧ (∀ i, portOf (linkWork s) i = portOf s i) ∧
    (∀ i j l, tileOf (linkWork s) i j l = tileOf s i j l) ∧ (∀ i, vmOf (linkWork s) i = vmOf s i) ∧
    (∀ i, loftOf (linkWork s) i = loftOf s i) ∧ (∀ i, mboxOf (linkWork s) i = mboxOf s i) ∧
    (∀ i, mboxBytes (linkWork s) i = mboxBytes s i) :=
  by and_intros <;> intros <;> rfl

/-- noteRefusal changes od only. -/
@[simp] theorem noteRefusal_frame (n x : Nat) :
    (noteRefusal s n x).pending = s.pending ∧ (noteRefusal s n x).bar2 = s.bar2 ∧ (noteRefusal s n x).msix = s.msix ∧
    (noteRefusal s n x).msixPend = s.msixPend ∧ (noteRefusal s n x).host = s.host ∧ (noteRefusal s n x).vm = s.vm ∧
    (noteRefusal s n x).vmFn = s.vmFn ∧ (noteRefusal s n x).loft = s.loft ∧ (noteRefusal s n x).tiles = s.tiles ∧
    (noteRefusal s n x).ctxs = s.ctxs ∧ (noteRefusal s n x).cqs = s.cqs ∧ (noteRefusal s n x).evqs = s.evqs ∧
    (noteRefusal s n x).descs = s.descs ∧ (noteRefusal s n x).nextDesc = s.nextDesc ∧
    (noteRefusal s n x).trigs = s.trigs ∧ (noteRefusal s n x).firedWait = s.firedWait ∧
    (noteRefusal s n x).stream = s.stream ∧ (noteRefusal s n x).firings = s.firings ∧
    (noteRefusal s n x).promoted = s.promoted ∧ (noteRefusal s n x).served = s.served ∧ (noteRefusal s n x).syn = s.syn ∧
    (noteRefusal s n x).mboxes = s.mboxes ∧ (noteRefusal s n x).mboxMem = s.mboxMem ∧
    (noteRefusal s n x).staging = s.staging ∧ (noteRefusal s n x).copies = s.copies ∧ (noteRefusal s n x).fns = s.fns ∧
    (noteRefusal s n x).lcWait = s.lcWait ∧ (noteRefusal s n x).lcSrc = s.lcSrc ∧ (noteRefusal s n x).faults = s.faults ∧
    (noteRefusal s n x).faultSeq = s.faultSeq ∧ (noteRefusal s n x).resets = s.resets ∧
    (noteRefusal s n x).dieResetCount = s.dieResetCount ∧ (noteRefusal s n x).ports = s.ports ∧
    (noteRefusal s n x).switchq = s.switchq ∧ (noteRefusal s n x).swShare = s.swShare ∧
    (noteRefusal s n x).abortsSeen = s.abortsSeen ∧ (noteRefusal s n x).rates = s.rates ∧
    (noteRefusal s n x).txs = s.txs ∧ (noteRefusal s n x).rxs = s.rxs ∧ (noteRefusal s n x).nextMsg = s.nextMsg ∧
    (noteRefusal s n x).txCount = s.txCount ∧ (noteRefusal s n x).eps = s.eps ∧ (noteRefusal s n x).pds = s.pds ∧
    (noteRefusal s n x).regions = s.regions ∧ (noteRefusal s n x).keys = s.keys ∧
    (noteRefusal s n x).ctxKeyGen = s.ctxKeyGen ∧ (noteRefusal s n x).parked = s.parked ∧
    (noteRefusal s n x).lru = s.lru ∧ (noteRefusal s n x).hss = s.hss ∧ (noteRefusal s n x).nextHs = s.nextHs ∧
    (noteRefusal s n x).fuses = s.fuses ∧ (noteRefusal s n x).mram = s.mram ∧ (noteRefusal s n x).boot = s.boot ∧
    (noteRefusal s n x).vault = s.vault ∧ (noteRefusal s n x).rng = s.rng ∧ (noteRefusal s n x).pwr = s.pwr ∧
    (noteRefusal s n x).panel = s.panel ∧ (noteRefusal s n x).dbg = s.dbg ∧ (noteRefusal s n x).pcie = s.pcie ∧
    (noteRefusal s n x).sent = s.sent ∧ (noteRefusal s n x).free = s.free ∧
    (∀ i j, rdB (noteRefusal s n x) i j = rdB s i j) ∧ (∀ i, cx (noteRefusal s n x) i = cx s i) ∧
    (∀ i j, cohortOf (noteRefusal s n x) i j = cohortOf s i j) ∧ (∀ i j, cq (noteRefusal s n x) i j = cq s i j) ∧
    (∀ i j, evq (noteRefusal s n x) i j = evq s i j) ∧ (∀ i, fnSt (noteRefusal s n x) i = fnSt s i) ∧
    (∀ i, epOf (noteRefusal s n x) i = epOf s i) ∧ (∀ i, regionOf (noteRefusal s n x) i = regionOf s i) ∧
    (∀ i, keyOf (noteRefusal s n x) i = keyOf s i) ∧ (∀ i, portOf (noteRefusal s n x) i = portOf s i) ∧
    (∀ i j l, tileOf (noteRefusal s n x) i j l = tileOf s i j l) ∧ (∀ i, vmOf (noteRefusal s n x) i = vmOf s i) ∧
    (∀ i, loftOf (noteRefusal s n x) i = loftOf s i) ∧ (∀ i, mboxOf (noteRefusal s n x) i = mboxOf s i) ∧
    (∀ i, mboxBytes (noteRefusal s n x) i = mboxBytes s i) :=
  by and_intros <;> intros <;> rfl

/-! ### Reads after writes -/

theorem rdEj_wrEj (e e' : Ent) (n n' j j' v : Nat) :
    rdEj (wrEj s e n j v) e' n' j' = if entKey e n j = entKey e' n' j' then
      (if entDflt e j = entDflt e' j' then v else tget (tset s.od (entDflt e j) (entKey e n j) v) (entDflt e' j') (entKey e' n' j'))
      else rdEj s e' n' j' := by
  unfold rdEj wrEj
  by_cases h : entKey e n j = entKey e' n' j'
  · rw [if_pos h]
    by_cases hd : entDflt e j = entDflt e' j'
    · rw [if_pos hd, ← hd, ← h]
      simp
    · rw [if_neg hd]
  · rw [if_neg h]
    unfold tset
    split
    · rw [tget_terase, if_neg h]
    · rw [tget_tput, if_neg h]

/-- A dictionary value reads back. -/
@[simp] theorem rdEj_wrEj_same (e : Ent) (n j v : Nat) : rdEj (wrEj s e n j v) e n j = v := by simp [rdEj_wrEj]

@[simp] theorem rdE_wrE_same (e : Ent) (n v : Nat) : rdE (wrE s e n v) e n = v := rdEj_wrEj_same s e n 0 v

/-- A write under another key leaves a value. -/
theorem rdEj_wrEj_ne {e e' : Ent} {n n' j j' : Nat} (v : Nat) (h : entKey e n j ≠ entKey e' n' j') :
    rdEj (wrEj s e n j v) e' n' j' = rdEj s e' n' j' := by simp [rdEj_wrEj, h]

theorem rdE_wrE_ne {e e' : Ent} {n n' : Nat} (v : Nat) (h : entKey e n 0 ≠ entKey e' n' 0) :
    rdE (wrE s e n v) e' n' = rdE s e' n' := rdEj_wrEj_ne s v h

@[simp] theorem cx_setCx (n : Nat) (c : Ctx) : cx (setCx s n c) n = c := by simp [cx, setCx]
theorem cx_setCx_ne {n m : Nat} (c : Ctx) (h : n ≠ m) : cx (setCx s n c) m = cx s m := by simp [cx, setCx, tget_tset, h]
@[simp] theorem cq_setCq (f q : Nat) (c : Cq) : cq (setCq s f q c) f q = c := by simp [cq, setCq]
@[simp] theorem evq_setEvq (f q : Nat) (v : Evq) : evq (setEvq s f q v) f q = v := by simp [evq, setEvq]
@[simp] theorem fnSt_setFn (f : Nat) (x : FnSt) : fnSt (setFn s f x) f = x := by simp [fnSt, setFn]
@[simp] theorem epOf_setEp (k : Nat) (x : Ep) : epOf (setEp s k x) k = x := by simp [epOf, setEp]
@[simp] theorem regionOf_setRegion (k : Nat) (x : Region) : regionOf (setRegion s k x) k = x := by simp [regionOf, setRegion]
@[simp] theorem keyOf_setKey (k : Nat) (x : Key) : keyOf (setKey s k x) k = x := by simp [keyOf, setKey]
@[simp] theorem portOf_setPort (k : Nat) (x : Port) : portOf (setPort s k x) k = x := by simp [portOf, setPort]
@[simp] theorem tileOf_setTile (d a k : Nat) (x : Tile) : tileOf (setTile s d a k x) d a k = x := by simp [tileOf, setTile]
@[simp] theorem vmOf_setVm (n : Nat) (m : Mem) : vmOf (setVm s n m) n = m := by simp [vmOf, setVm]
@[simp] theorem loftOf_setLoft (d : Nat) (m : Mem) : loftOf (setLoft s d m) d = m := by simp [loftOf, setLoft]
@[simp] theorem mboxOf_setMbox (f : Nat) (m : Mbox) : mboxOf (setMbox s f m) f = m := by simp [mboxOf, setMbox]
@[simp] theorem cohortOf_setCohort (n k : Nat) (c : Cohort) : cohortOf (setCohort s n k c) n k = c := by
  simp [cohortOf, setCohort]

/-- A counter entry after it counted. -/
theorem rdE_addE_same (e : Ent) (n x : Nat) : rdE (addE s e n x) e n = satAdd (2 ^ (8 * tyLen e.ty) - 1) (rdE s e n) x := by
  simp [addE]

end Sys2Proof.Machine
end

