-- ==== Sys2Proof/Laws/Ops.lean ====
section
/-!
SUPPORT. What the shared operations leave alone: for each, one lemma with a conjunct per field that it does not change.
-/

namespace Sys2Proof.Machine

open Sys2Proof

variable (s : State)

/-- raiseMsix changes msixPend, pcie, sent only. -/
@[simp] theorem raiseMsix_frame (f v : Nat) :
    (raiseMsix s f v).pending = s.pending ∧ (raiseMsix s f v).od = s.od ∧ (raiseMsix s f v).bar2 = s.bar2 ∧
    (raiseMsix s f v).msix = s.msix ∧ (raiseMsix s f v).host = s.host ∧ (raiseMsix s f v).vm = s.vm ∧
    (raiseMsix s f v).vmFn = s.vmFn ∧ (raiseMsix s f v).loft = s.loft ∧ (raiseMsix s f v).tiles = s.tiles ∧
    (raiseMsix s f v).ctxs = s.ctxs ∧ (raiseMsix s f v).cqs = s.cqs ∧ (raiseMsix s f v).evqs = s.evqs ∧
    (raiseMsix s f v).descs = s.descs ∧ (raiseMsix s f v).nextDesc = s.nextDesc ∧ (raiseMsix s f v).trigs = s.trigs ∧
    (raiseMsix s f v).firedWait = s.firedWait ∧ (raiseMsix s f v).stream = s.stream ∧
    (raiseMsix s f v).firings = s.firings ∧ (raiseMsix s f v).promoted = s.promoted ∧
    (raiseMsix s f v).served = s.served ∧ (raiseMsix s f v).syn = s.syn ∧ (raiseMsix s f v).mboxes = s.mboxes ∧
    (raiseMsix s f v).mboxMem = s.mboxMem ∧ (raiseMsix s f v).staging = s.staging ∧ (raiseMsix s f v).copies = s.copies ∧
    (raiseMsix s f v).fns = s.fns ∧ (raiseMsix s f v).lcWait = s.lcWait ∧ (raiseMsix s f v).lcSrc = s.lcSrc ∧
    (raiseMsix s f v).faults = s.faults ∧ (raiseMsix s f v).faultSeq = s.faultSeq ∧ (raiseMsix s f v).resets = s.resets ∧
    (raiseMsix s f v).dieResetCount = s.dieResetCount ∧ (raiseMsix s f v).ports = s.ports ∧
    (raiseMsix s f v).switchq = s.switchq ∧ (raiseMsix s f v).swShare = s.swShare ∧
    (raiseMsix s f v).abortsSeen = s.abortsSeen ∧ (raiseMsix s f v).rates = s.rates ∧ (raiseMsix s f v).txs = s.txs ∧
    (raiseMsix s f v).rxs = s.rxs ∧ (raiseMsix s f v).nextMsg = s.nextMsg ∧ (raiseMsix s f v).txCount = s.txCount ∧
    (raiseMsix s f v).eps = s.eps ∧ (raiseMsix s f v).pds = s.pds ∧ (raiseMsix s f v).regions = s.regions ∧
    (raiseMsix s f v).keys = s.keys ∧ (raiseMsix s f v).ctxKeyGen = s.ctxKeyGen ∧ (raiseMsix s f v).parked = s.parked ∧
    (raiseMsix s f v).lru = s.lru ∧ (raiseMsix s f v).hss = s.hss ∧ (raiseMsix s f v).nextHs = s.nextHs ∧
    (raiseMsix s f v).fuses = s.fuses ∧ (raiseMsix s f v).mram = s.mram ∧ (raiseMsix s f v).boot = s.boot ∧
    (raiseMsix s f v).vault = s.vault ∧ (raiseMsix s f v).rng = s.rng ∧ (raiseMsix s f v).pwr = s.pwr ∧
    (raiseMsix s f v).panel = s.panel ∧ (raiseMsix s f v).dbg = s.dbg ∧ (raiseMsix s f v).free = s.free := by
  unfold raiseMsix; split <;> simp

/-- What accessors of other fields read after raiseMsix. -/
@[simp] theorem raiseMsix_reads (f v : Nat) :
    (∀ i j l, rdEj (raiseMsix s f v) i j l = rdEj s i j l) ∧ (∀ i j, rdE (raiseMsix s f v) i j = rdE s i j) ∧
    (∀ i j, rdB (raiseMsix s f v) i j = rdB s i j) ∧ (∀ i, cx (raiseMsix s f v) i = cx s i) ∧
    (∀ i j, cohortOf (raiseMsix s f v) i j = cohortOf s i j) ∧ (∀ i j, cq (raiseMsix s f v) i j = cq s i j) ∧
    (∀ i j, evq (raiseMsix s f v) i j = evq s i j) ∧ (∀ i, fnSt (raiseMsix s f v) i = fnSt s i) ∧
    (∀ i, epOf (raiseMsix s f v) i = epOf s i) ∧ (∀ i, regionOf (raiseMsix s f v) i = regionOf s i) ∧
    (∀ i, keyOf (raiseMsix s f v) i = keyOf s i) ∧ (∀ i, portOf (raiseMsix s f v) i = portOf s i) ∧
    (∀ i j l, tileOf (raiseMsix s f v) i j l = tileOf s i j l) ∧ (∀ i, vmOf (raiseMsix s f v) i = vmOf s i) ∧
    (∀ i, loftOf (raiseMsix s f v) i = loftOf s i) ∧ (∀ i, mboxOf (raiseMsix s f v) i = mboxOf s i) ∧
    (∀ i, mboxBytes (raiseMsix s f v) i = mboxBytes s i) := by
  simp [cohortOf, cq, cx, epOf, evq, fnSt, keyOf, loftOf, mboxBytes, mboxOf, portOf, rdB, rdE, rdEj, regionOf, tileOf, vmOf]

/-- postEvent changes evqs, msixPend, pcie, sent only. -/
@[simp] theorem postEvent_frame (f e ent : Nat) :
    (postEvent s f e ent).pending = s.pending ∧ (postEvent s f e ent).od = s.od ∧ (postEvent s f e ent).bar2 = s.bar2 ∧
    (postEvent s f e ent).msix = s.msix ∧ (postEvent s f e ent).host = s.host ∧ (postEvent s f e ent).vm = s.vm ∧
    (postEvent s f e ent).vmFn = s.vmFn ∧ (postEvent s f e ent).loft = s.loft ∧ (postEvent s f e ent).tiles = s.tiles ∧
    (postEvent s f e ent).ctxs = s.ctxs ∧ (postEvent s f e ent).cqs = s.cqs ∧ (postEvent s f e ent).descs = s.descs ∧
    (postEvent s f e ent).nextDesc = s.nextDesc ∧ (postEvent s f e ent).trigs = s.trigs ∧
    (postEvent s f e ent).firedWait = s.firedWait ∧ (postEvent s f e ent).stream = s.stream ∧
    (postEvent s f e ent).firings = s.firings ∧ (postEvent s f e ent).promoted = s.promoted ∧
    (postEvent s f e ent).served = s.served ∧ (postEvent s f e ent).syn = s.syn ∧
    (postEvent s f e ent).mboxes = s.mboxes ∧ (postEvent s f e ent).mboxMem = s.mboxMem ∧
    (postEvent s f e ent).staging = s.staging ∧ (postEvent s f e ent).copies = s.copies ∧
    (postEvent s f e ent).fns = s.fns ∧ (postEvent s f e ent).lcWait = s.lcWait ∧ (postEvent s f e ent).lcSrc = s.lcSrc ∧
    (postEvent s f e ent).faults = s.faults ∧ (postEvent s f e ent).faultSeq = s.faultSeq ∧
    (postEvent s f e ent).resets = s.resets ∧ (postEvent s f e ent).dieResetCount = s.dieResetCount ∧
    (postEvent s f e ent).ports = s.ports ∧ (postEvent s f e ent).switchq = s.switchq ∧
    (postEvent s f e ent).swShare = s.swShare ∧ (postEvent s f e ent).abortsSeen = s.abortsSeen ∧
    (postEvent s f e ent).rates = s.rates ∧ (postEvent s f e ent).txs = s.txs ∧ (postEvent s f e ent).rxs = s.rxs ∧
    (postEvent s f e ent).nextMsg = s.nextMsg ∧ (postEvent s f e ent).txCount = s.txCount ∧
    (postEvent s f e ent).eps = s.eps ∧ (postEvent s f e ent).pds = s.pds ∧ (postEvent s f e ent).regions = s.regions ∧
    (postEvent s f e ent).keys = s.keys ∧ (postEvent s f e ent).ctxKeyGen = s.ctxKeyGen ∧
    (postEvent s f e ent).parked = s.parked ∧ (postEvent s f e ent).lru = s.lru ∧ (postEvent s f e ent).hss = s.hss ∧
    (postEvent s f e ent).nextHs = s.nextHs ∧ (postEvent s f e ent).fuses = s.fuses ∧
    (postEvent s f e ent).mram = s.mram ∧ (postEvent s f e ent).boot = s.boot ∧ (postEvent s f e ent).vault = s.vault ∧
    (postEvent s f e ent).rng = s.rng ∧ (postEvent s f e ent).pwr = s.pwr ∧ (postEvent s f e ent).panel = s.panel ∧
    (postEvent s f e ent).dbg = s.dbg ∧ (postEvent s f e ent).free = s.free := by
  unfold postEvent; simp only []; (repeat' split) <;> simp

/-- What accessors of other fields read after postEvent. -/
@[simp] theorem postEvent_reads (f e ent : Nat) :
    (∀ i j l, rdEj (postEvent s f e ent) i j l = rdEj s i j l) ∧ (∀ i j, rdE (postEvent s f e ent) i j = rdE s i j) ∧
    (∀ i j, rdB (postEvent s f e ent) i j = rdB s i j) ∧ (∀ i, cx (postEvent s f e ent) i = cx s i) ∧
    (∀ i j, cohortOf (postEvent s f e ent) i j = cohortOf s i j) ∧ (∀ i j, cq (postEvent s f e ent) i j = cq s i j) ∧
    (∀ i, fnSt (postEvent s f e ent) i = fnSt s i) ∧ (∀ i, epOf (postEvent s f e ent) i = epOf s i) ∧
    (∀ i, regionOf (postEvent s f e ent) i = regionOf s i) ∧ (∀ i, keyOf (postEvent s f e ent) i = keyOf s i) ∧
    (∀ i, portOf (postEvent s f e ent) i = portOf s i) ∧ (∀ i j l, tileOf (postEvent s f e ent) i j l = tileOf s i j l) ∧
    (∀ i, vmOf (postEvent s f e ent) i = vmOf s i) ∧ (∀ i, loftOf (postEvent s f e ent) i = loftOf s i) ∧
    (∀ i, mboxOf (postEvent s f e ent) i = mboxOf s i) ∧ (∀ i, mboxBytes (postEvent s f e ent) i = mboxBytes s i) := by
  simp [cohortOf, cq, cx, epOf, fnSt, keyOf, loftOf, mboxBytes, mboxOf, portOf, rdB, rdE, rdEj, regionOf, tileOf, vmOf]

/-- ctxEvent changes evqs, msixPend, pcie, sent only. -/
@[simp] theorem ctxEvent_frame (n ty st x : Nat) :
    (ctxEvent s n ty st x).pending = s.pending ∧ (ctxEvent s n ty st x).od = s.od ∧
    (ctxEvent s n ty st x).bar2 = s.bar2 ∧ (ctxEvent s n ty st x).msix = s.msix ∧ (ctxEvent s n ty st x).host = s.host ∧
    (ctxEvent s n ty st x).vm = s.vm ∧ (ctxEvent s n ty st x).vmFn = s.vmFn ∧ (ctxEvent s n ty st x).loft = s.loft ∧
    (ctxEvent s n ty st x).tiles = s.tiles ∧ (ctxEvent s n ty st x).ctxs = s.ctxs ∧ (ctxEvent s n ty st x).cqs = s.cqs ∧
    (ctxEvent s n ty st x).descs = s.descs ∧ (ctxEvent s n ty st x).nextDesc = s.nextDesc ∧
    (ctxEvent s n ty st x).trigs = s.trigs ∧ (ctxEvent s n ty st x).firedWait = s.firedWait ∧
    (ctxEvent s n ty st x).stream = s.stream ∧ (ctxEvent s n ty st x).firings = s.firings ∧
    (ctxEvent s n ty st x).promoted = s.promoted ∧ (ctxEvent s n ty st x).served = s.served ∧
    (ctxEvent s n ty st x).syn = s.syn ∧ (ctxEvent s n ty st x).mboxes = s.mboxes ∧
    (ctxEvent s n ty st x).mboxMem = s.mboxMem ∧ (ctxEvent s n ty st x).staging = s.staging ∧
    (ctxEvent s n ty st x).copies = s.copies ∧ (ctxEvent s n ty st x).fns = s.fns ∧
    (ctxEvent s n ty st x).lcWait = s.lcWait ∧ (ctxEvent s n ty st x).lcSrc = s.lcSrc ∧
    (ctxEvent s n ty st x).faults = s.faults ∧ (ctxEvent s n ty st x).faultSeq = s.faultSeq ∧
    (ctxEvent s n ty st x).resets = s.resets ∧ (ctxEvent s n ty st x).dieResetCount = s.dieResetCount ∧
    (ctxEvent s n ty st x).ports = s.ports ∧ (ctxEvent s n ty st x).switchq = s.switchq ∧
    (ctxEvent s n ty st x).swShare = s.swShare ∧ (ctxEvent s n ty st x).abortsSeen = s.abortsSeen ∧
    (ctxEvent s n ty st x).rates = s.rates ∧ (ctxEvent s n ty st x).txs = s.txs ∧ (ctxEvent s n ty st x).rxs = s.rxs ∧
    (ctxEvent s n ty st x).nextMsg = s.nextMsg ∧ (ctxEvent s n ty st x).txCount = s.txCount ∧
    (ctxEvent s n ty st x).eps = s.eps ∧ (ctxEvent s n ty st x).pds = s.pds ∧
    (ctxEvent s n ty st x).regions = s.regions ∧ (ctxEvent s n ty st x).keys = s.keys ∧
    (ctxEvent s n ty st x).ctxKeyGen = s.ctxKeyGen ∧ (ctxEvent s n ty st x).parked = s.parked ∧
    (ctxEvent s n ty st x).lru = s.lru ∧ (ctxEvent s n ty st x).hss = s.hss ∧ (ctxEvent s n ty st x).nextHs = s.nextHs ∧
    (ctxEvent s n ty st x).fuses = s.fuses ∧ (ctxEvent s n ty st x).mram = s.mram ∧
    (ctxEvent s n ty st x).boot = s.boot ∧ (ctxEvent s n ty st x).vault = s.vault ∧ (ctxEvent s n ty st x).rng = s.rng ∧
    (ctxEvent s n ty st x).pwr = s.pwr ∧ (ctxEvent s n ty st x).panel = s.panel ∧ (ctxEvent s n ty st x).dbg = s.dbg ∧
    (ctxEvent s n ty st x).free = s.free := by
  unfold ctxEvent; simp

/-- What accessors of other fields read after ctxEvent. -/
@[simp] theorem ctxEvent_reads (n ty st x : Nat) :
    (∀ i j l, rdEj (ctxEvent s n ty st x) i j l = rdEj s i j l) ∧ (∀ i j, rdE (ctxEvent s n ty st x) i j = rdE s i j) ∧
    (∀ i j, rdB (ctxEvent s n ty st x) i j = rdB s i j) ∧ (∀ i, cx (ctxEvent s n ty st x) i = cx s i) ∧
    (∀ i j, cohortOf (ctxEvent s n ty st x) i j = cohortOf s i j) ∧ (∀ i j, cq (ctxEvent s n ty st x) i j = cq s i j) ∧
    (∀ i, fnSt (ctxEvent s n ty st x) i = fnSt s i) ∧ (∀ i, epOf (ctxEvent s n ty st x) i = epOf s i) ∧
    (∀ i, regionOf (ctxEvent s n ty st x) i = regionOf s i) ∧ (∀ i, keyOf (ctxEvent s n ty st x) i = keyOf s i) ∧
    (∀ i, portOf (ctxEvent s n ty st x) i = portOf s i) ∧
    (∀ i j l, tileOf (ctxEvent s n ty st x) i j l = tileOf s i j l) ∧ (∀ i, vmOf (ctxEvent s n ty st x) i = vmOf s i) ∧
    (∀ i, loftOf (ctxEvent s n ty st x) i = loftOf s i) ∧ (∀ i, mboxOf (ctxEvent s n ty st x) i = mboxOf s i) ∧
    (∀ i, mboxBytes (ctxEvent s n ty st x) i = mboxBytes s i) := by
  simp [cohortOf, cq, cx, epOf, fnSt, keyOf, loftOf, mboxBytes, mboxOf, portOf, rdB, rdE, rdEj, regionOf, tileOf, vmOf]

/-- setRound changes evqs, msixPend, pcie, sent, od only. -/
@[simp] theorem setRound_frame (n st x : Nat) :
    (setRound s n st x).pending = s.pending ∧ (setRound s n st x).bar2 = s.bar2 ∧ (setRound s n st x).msix = s.msix ∧
    (setRound s n st x).host = s.host ∧ (setRound s n st x).vm = s.vm ∧ (setRound s n st x).vmFn = s.vmFn ∧
    (setRound s n st x).loft = s.loft ∧ (setRound s n st x).tiles = s.tiles ∧ (setRound s n st x).ctxs = s.ctxs ∧
    (setRound s n st x).cqs = s.cqs ∧ (setRound s n st x).descs = s.descs ∧ (setRound s n st x).nextDesc = s.nextDesc ∧
    (setRound s n st x).trigs = s.trigs ∧ (setRound s n st x).firedWait = s.firedWait ∧
    (setRound s n st x).stream = s.stream ∧ (setRound s n st x).firings = s.firings ∧
    (setRound s n st x).promoted = s.promoted ∧ (setRound s n st x).served = s.served ∧ (setRound s n st x).syn = s.syn ∧
    (setRound s n st x).mboxes = s.mboxes ∧ (setRound s n st x).mboxMem = s.mboxMem ∧
    (setRound s n st x).staging = s.staging ∧ (setRound s n st x).copies = s.copies ∧ (setRound s n st x).fns = s.fns ∧
    (setRound s n st x).lcWait = s.lcWait ∧ (setRound s n st x).lcSrc = s.lcSrc ∧ (setRound s n st x).faults = s.faults ∧
    (setRound s n st x).faultSeq = s.faultSeq ∧ (setRound s n st x).resets = s.resets ∧
    (setRound s n st x).dieResetCount = s.dieResetCount ∧ (setRound s n st x).ports = s.ports ∧
    (setRound s n st x).switchq = s.switchq ∧ (setRound s n st x).swShare = s.swShare ∧
    (setRound s n st x).abortsSeen = s.abortsSeen ∧ (setRound s n st x).rates = s.rates ∧
    (setRound s n st x).txs = s.txs ∧ (setRound s n st x).rxs = s.rxs ∧ (setRound s n st x).nextMsg = s.nextMsg ∧
    (setRound s n st x).txCount = s.txCount ∧ (setRound s n st x).eps = s.eps ∧ (setRound s n st x).pds = s.pds ∧
    (setRound s n st x).regions = s.regions ∧ (setRound s n st x).keys = s.keys ∧
    (setRound s n st x).ctxKeyGen = s.ctxKeyGen ∧ (setRound s n st x).parked = s.parked ∧
    (setRound s n st x).lru = s.lru ∧ (setRound s n st x).hss = s.hss ∧ (setRound s n st x).nextHs = s.nextHs ∧
    (setRound s n st x).fuses = s.fuses ∧ (setRound s n st x).mram = s.mram ∧ (setRound s n st x).boot = s.boot ∧
    (setRound s n st x).vault = s.vault ∧ (setRound s n st x).rng = s.rng ∧ (setRound s n st x).pwr = s.pwr ∧
    (setRound s n st x).panel = s.panel ∧ (setRound s n st x).dbg = s.dbg ∧ (setRound s n st x).free = s.free := by
  unfold setRound; simp

/-- What accessors of other fields read after setRound. -/
@[simp] theorem setRound_reads (n st x : Nat) :
    (∀ i j, rdB (setRound s n st x) i j = rdB s i j) ∧ (∀ i, cx (setRound s n st x) i = cx s i) ∧
    (∀ i j, cohortOf (setRound s n st x) i j = cohortOf s i j) ∧ (∀ i j, cq (setRound s n st x) i j = cq s i j) ∧
    (∀ i, fnSt (setRound s n st x) i = fnSt s i) ∧ (∀ i, epOf (setRound s n st x) i = epOf s i) ∧
    (∀ i, regionOf (setRound s n st x) i = regionOf s i) ∧ (∀ i, keyOf (setRound s n st x) i = keyOf s i) ∧
    (∀ i, portOf (setRound s n st x) i = portOf s i) ∧ (∀ i j l, tileOf (setRound s n st x) i j l = tileOf s i j l) ∧
    (∀ i, vmOf (setRound s n st x) i = vmOf s i) ∧ (∀ i, loftOf (setRound s n st x) i = loftOf s i) ∧
    (∀ i, mboxOf (setRound s n st x) i = mboxOf s i) ∧ (∀ i, mboxBytes (setRound s n st x) i = mboxBytes s i) := by
  simp [cohortOf, cq, cx, epOf, fnSt, keyOf, loftOf, mboxBytes, mboxOf, portOf, rdB, regionOf, tileOf, vmOf]

/-- writeFault changes evqs, msixPend, pcie, sent, od, faults, faultSeq, mram, free only. -/
@[simp] theorem writeFault_frame (r : FaultRec) :
    (writeFault s r).pending = s.pending ∧ (writeFault s r).bar2 = s.bar2 ∧ (writeFault s r).msix = s.msix ∧
    (writeFault s r).host = s.host ∧ (writeFault s r).vm = s.vm ∧ (writeFault s r).vmFn = s.vmFn ∧
    (writeFault s r).loft = s.loft ∧ (writeFault s r).tiles = s.tiles ∧ (writeFault s r).ctxs = s.ctxs ∧
    (writeFault s r).cqs = s.cqs ∧ (writeFault s r).descs = s.descs ∧ (writeFault s r).nextDesc = s.nextDesc ∧
    (writeFault s r).trigs = s.trigs ∧ (writeFault s r).firedWait = s.firedWait ∧ (writeFault s r).stream = s.stream ∧
    (writeFault s r).firings = s.firings ∧ (writeFault s r).promoted = s.promoted ∧ (writeFault s r).served = s.served ∧
    (writeFault s r).syn = s.syn ∧ (writeFault s r).mboxes = s.mboxes ∧ (writeFault s r).mboxMem = s.mboxMem ∧
    (writeFault s r).staging = s.staging ∧ (writeFault s r).copies = s.copies ∧ (writeFault s r).fns = s.fns ∧
    (writeFault s r).lcWait = s.lcWait ∧ (writeFault s r).lcSrc = s.lcSrc ∧ (writeFault s r).resets = s.resets ∧
    (writeFault s r).dieResetCount = s.dieResetCount ∧ (writeFault s r).ports = s.ports ∧
    (writeFault s r).switchq = s.switchq ∧ (writeFault s r).swShare = s.swShare ∧
    (writeFault s r).abortsSeen = s.abortsSeen ∧ (writeFault s r).rates = s.rates ∧ (writeFault s r).txs = s.txs ∧
    (writeFault s r).rxs = s.rxs ∧ (writeFault s r).nextMsg = s.nextMsg ∧ (writeFault s r).txCount = s.txCount ∧
    (writeFault s r).eps = s.eps ∧ (writeFault s r).pds = s.pds ∧ (writeFault s r).regions = s.regions ∧
    (writeFault s r).keys = s.keys ∧ (writeFault s r).ctxKeyGen = s.ctxKeyGen ∧ (writeFault s r).parked = s.parked ∧
    (writeFault s r).lru = s.lru ∧ (writeFault s r).hss = s.hss ∧ (writeFault s r).nextHs = s.nextHs ∧
    (writeFault s r).fuses = s.fuses ∧ (writeFault s r).boot = s.boot ∧ (writeFault s r).vault = s.vault ∧
    (writeFault s r).rng = s.rng ∧ (writeFault s r).pwr = s.pwr ∧ (writeFault s r).panel = s.panel ∧
    (writeFault s r).dbg = s.dbg := by
  unfold writeFault
  simp only []
  repeat' split
  all_goals simp

/-- What accessors of other fields read after writeFault. -/
@[simp] theorem writeFault_reads (r : FaultRec) :
    (∀ i j, rdB (writeFault s r) i j = rdB s i j) ∧ (∀ i, cx (writeFault s r) i = cx s i) ∧
    (∀ i j, cohortOf (writeFault s r) i j = cohortOf s i j) ∧ (∀ i j, cq (writeFault s r) i j = cq s i j) ∧
    (∀ i, fnSt (writeFault s r) i = fnSt s i) ∧ (∀ i, epOf (writeFault s r) i = epOf s i) ∧
    (∀ i, regionOf (writeFault s r) i = regionOf s i) ∧ (∀ i, keyOf (writeFault s r) i = keyOf s i) ∧
    (∀ i, portOf (writeFault s r) i = portOf s i) ∧ (∀ i j l, tileOf (writeFault s r) i j l = tileOf s i j l) ∧
    (∀ i, vmOf (writeFault s r) i = vmOf s i) ∧ (∀ i, loftOf (writeFault s r) i = loftOf s i) ∧
    (∀ i, mboxOf (writeFault s r) i = mboxOf s i) ∧ (∀ i, mboxBytes (writeFault s r) i = mboxBytes s i) := by
  simp [cohortOf, cq, cx, epOf, fnSt, keyOf, loftOf, mboxBytes, mboxOf, portOf, rdB, regionOf, tileOf, vmOf]

/-- markWaits changes descs only. -/
@[simp] theorem markWaits_frame (c : Nat) :
    (markWaits s c).pending = s.pending ∧ (markWaits s c).od = s.od ∧ (markWaits s c).bar2 = s.bar2 ∧
    (markWaits s c).msix = s.msix ∧ (markWaits s c).msixPend = s.msixPend ∧ (markWaits s c).host = s.host ∧
    (markWaits s c).vm = s.vm ∧ (markWaits s c).vmFn = s.vmFn ∧ (markWaits s c).loft = s.loft ∧
    (markWaits s c).tiles = s.tiles ∧ (markWaits s c).ctxs = s.ctxs ∧ (markWaits s c).cqs = s.cqs ∧
    (markWaits s c).evqs = s.evqs ∧ (markWaits s c).nextDesc = s.nextDesc ∧ (markWaits s c).trigs = s.trigs ∧
    (markWaits s c).firedWait = s.firedWait ∧ (markWaits s c).stream = s.stream ∧ (markWaits s c).firings = s.firings ∧
    (markWaits s c).promoted = s.promoted ∧ (markWaits s c).served = s.served ∧ (markWaits s c).syn = s.syn ∧
    (markWaits s c).mboxes = s.mboxes ∧ (markWaits s c).mboxMem = s.mboxMem ∧ (markWaits s c).staging = s.staging ∧
    (markWaits s c).copies = s.copies ∧ (markWaits s c).fns = s.fns ∧ (markWaits s c).lcWait = s.lcWait ∧
    (markWaits s c).lcSrc = s.lcSrc ∧ (markWaits s c).faults = s.faults ∧ (markWaits s c).faultSeq = s.faultSeq ∧
    (markWaits s c).resets = s.resets ∧ (markWaits s c).dieResetCount = s.dieResetCount ∧
    (markWaits s c).ports = s.ports ∧ (markWaits s c).switchq = s.switchq ∧ (markWaits s c).swShare = s.swShare ∧
    (markWaits s c).abortsSeen = s.abortsSeen ∧ (markWaits s c).rates = s.rates ∧ (markWaits s c).txs = s.txs ∧
    (markWaits s c).rxs = s.rxs ∧ (markWaits s c).nextMsg = s.nextMsg ∧ (markWaits s c).txCount = s.txCount ∧
    (markWaits s c).eps = s.eps ∧ (markWaits s c).pds = s.pds ∧ (markWaits s c).regions = s.regions ∧
    (markWaits s c).keys = s.keys ∧ (markWaits s c).ctxKeyGen = s.ctxKeyGen ∧ (markWaits s c).parked = s.parked ∧
    (markWaits s c).lru = s.lru ∧ (markWaits s c).hss = s.hss ∧ (markWaits s c).nextHs = s.nextHs ∧
    (markWaits s c).fuses = s.fuses ∧ (markWaits s c).mram = s.mram ∧ (markWaits s c).boot = s.boot ∧
    (markWaits s c).vault = s.vault ∧ (markWaits s c).rng = s.rng ∧ (markWaits s c).pwr = s.pwr ∧
    (markWaits s c).panel = s.panel ∧ (markWaits s c).dbg = s.dbg ∧ (markWaits s c).pcie = s.pcie ∧
    (markWaits s c).sent = s.sent ∧ (markWaits s c).free = s.free := by
  simp [markWaits]

/-- What accessors of other fields read after markWaits. -/
@[simp] theorem markWaits_reads (c : Nat) :
    (∀ i j l, rdEj (markWaits s c) i j l = rdEj s i j l) ∧ (∀ i j, rdE (markWaits s c) i j = rdE s i j) ∧
    (∀ i j, rdB (markWaits s c) i j = rdB s i j) ∧ (∀ i, cx (markWaits s c) i = cx s i) ∧
    (∀ i j, cohortOf (markWaits s c) i j = cohortOf s i j) ∧ (∀ i j, cq (markWaits s c) i j = cq s i j) ∧
    (∀ i j, evq (markWaits s c) i j = evq s i j) ∧ (∀ i, fnSt (markWaits s c) i = fnSt s i) ∧
    (∀ i, epOf (markWaits s c) i = epOf s i) ∧ (∀ i, regionOf (markWaits s c) i = regionOf s i) ∧
    (∀ i, keyOf (markWaits s c) i = keyOf s i) ∧ (∀ i, portOf (markWaits s c) i = portOf s i) ∧
    (∀ i j l, tileOf (markWaits s c) i j l = tileOf s i j l) ∧ (∀ i, vmOf (markWaits s c) i = vmOf s i) ∧
    (∀ i, loftOf (markWaits s c) i = loftOf s i) ∧ (∀ i, mboxOf (markWaits s c) i = mboxOf s i) ∧
    (∀ i, mboxBytes (markWaits s c) i = mboxBytes s i) := by
  simp [cohortOf, cq, cx, epOf, evq, fnSt, keyOf, loftOf, mboxBytes, mboxOf, portOf, rdB, rdE, rdEj, regionOf, tileOf, vmOf]

/-- markTriggers changes trigs, firedWait only. -/
@[simp] theorem markTriggers_frame (c : Nat) :
    (markTriggers s c).pending = s.pending ∧ (markTriggers s c).od = s.od ∧ (markTriggers s c).bar2 = s.bar2 ∧
    (markTriggers s c).msix = s.msix ∧ (markTriggers s c).msixPend = s.msixPend ∧ (markTriggers s c).host = s.host ∧
    (markTriggers s c).vm = s.vm ∧ (markTriggers s c).vmFn = s.vmFn ∧ (markTriggers s c).loft = s.loft ∧
    (markTriggers s c).tiles = s.tiles ∧ (markTriggers s c).ctxs = s.ctxs ∧ (markTriggers s c).cqs = s.cqs ∧
    (markTriggers s c).evqs = s.evqs ∧ (markTriggers s c).descs = s.descs ∧ (markTriggers s c).nextDesc = s.nextDesc ∧
    (markTriggers s c).stream = s.stream ∧ (markTriggers s c).firings = s.firings ∧
    (markTriggers s c).promoted = s.promoted ∧ (markTriggers s c).served = s.served ∧ (markTriggers s c).syn = s.syn ∧
    (markTriggers s c).mboxes = s.mboxes ∧ (markTriggers s c).mboxMem = s.mboxMem ∧
    (markTriggers s c).staging = s.staging ∧ (markTriggers s c).copies = s.copies ∧ (markTriggers s c).fns = s.fns ∧
    (markTriggers s c).lcWait = s.lcWait ∧ (markTriggers s c).lcSrc = s.lcSrc ∧ (markTriggers s c).faults = s.faults ∧
    (markTriggers s c).faultSeq = s.faultSeq ∧ (markTriggers s c).resets = s.resets ∧
    (markTriggers s c).dieResetCount = s.dieResetCount ∧ (markTriggers s c).ports = s.ports ∧
    (markTriggers s c).switchq = s.switchq ∧ (markTriggers s c).swShare = s.swShare ∧
    (markTriggers s c).abortsSeen = s.abortsSeen ∧ (markTriggers s c).rates = s.rates ∧ (markTriggers s c).txs = s.txs ∧
    (markTriggers s c).rxs = s.rxs ∧ (markTriggers s c).nextMsg = s.nextMsg ∧ (markTriggers s c).txCount = s.txCount ∧
    (markTriggers s c).eps = s.eps ∧ (markTriggers s c).pds = s.pds ∧ (markTriggers s c).regions = s.regions ∧
    (markTriggers s c).keys = s.keys ∧ (markTriggers s c).ctxKeyGen = s.ctxKeyGen ∧
    (markTriggers s c).parked = s.parked ∧ (markTriggers s c).lru = s.lru ∧ (markTriggers s c).hss = s.hss ∧
    (markTriggers s c).nextHs = s.nextHs ∧ (markTriggers s c).fuses = s.fuses ∧ (markTriggers s c).mram = s.mram ∧
    (markTriggers s c).boot = s.boot ∧ (markTriggers s c).vault = s.vault ∧ (markTriggers s c).rng = s.rng ∧
    (markTriggers s c).pwr = s.pwr ∧ (markTriggers s c).panel = s.panel ∧ (markTriggers s c).dbg = s.dbg ∧
    (markTriggers s c).pcie = s.pcie ∧ (markTriggers s c).sent = s.sent ∧ (markTriggers s c).free = s.free := by
  unfold markTriggers
  simp only []
  generalize s.trigs.filter _ = l
  induction l generalizing s with
  | nil => simp
  | cons x r ih => simp only [List.foldl_cons]; simpa using ih _

/-- What accessors of other fields read after markTriggers. -/
@[simp] theorem markTriggers_reads (c : Nat) :
    (∀ i j l, rdEj (markTriggers s c) i j l = rdEj s i j l) ∧ (∀ i j, rdE (markTriggers s c) i j = rdE s i j) ∧
    (∀ i j, rdB (markTriggers s c) i j = rdB s i j) ∧ (∀ i, cx (markTriggers s c) i = cx s i) ∧
    (∀ i j, cohortOf (markTriggers s c) i j = cohortOf s i j) ∧ (∀ i j, cq (markTriggers s c) i j = cq s i j) ∧
    (∀ i j, evq (markTriggers s c) i j = evq s i j) ∧ (∀ i, fnSt (markTriggers s c) i = fnSt s i) ∧
    (∀ i, epOf (markTriggers s c) i = epOf s i) ∧ (∀ i, regionOf (markTriggers s c) i = regionOf s i) ∧
    (∀ i, keyOf (markTriggers s c) i = keyOf s i) ∧ (∀ i, portOf (markTriggers s c) i = portOf s i) ∧
    (∀ i j l, tileOf (markTriggers s c) i j l = tileOf s i j l) ∧ (∀ i, vmOf (markTriggers s c) i = vmOf s i) ∧
    (∀ i, loftOf (markTriggers s c) i = loftOf s i) ∧ (∀ i, mboxOf (markTriggers s c) i = mboxOf s i) ∧
    (∀ i, mboxBytes (markTriggers s c) i = mboxBytes s i) := by
  simp [cohortOf, cq, cx, epOf, evq, fnSt, keyOf, loftOf, mboxBytes, mboxOf, portOf, rdB, rdE, rdEj, regionOf, tileOf, vmOf]

/-- synSet changes descs, syn, trigs, firedWait only. -/
@[simp] theorem synSet_frame (c v : Nat) :
    (synSet s c v).pending = s.pending ∧ (synSet s c v).od = s.od ∧ (synSet s c v).bar2 = s.bar2 ∧
    (synSet s c v).msix = s.msix ∧ (synSet s c v).msixPend = s.msixPend ∧ (synSet s c v).host = s.host ∧
    (synSet s c v).vm = s.vm ∧ (synSet s c v).vmFn = s.vmFn ∧ (synSet s c v).loft = s.loft ∧
    (synSet s c v).tiles = s.tiles ∧ (synSet s c v).ctxs = s.ctxs ∧ (synSet s c v).cqs = s.cqs ∧
    (synSet s c v).evqs = s.evqs ∧ (synSet s c v).nextDesc = s.nextDesc ∧ (synSet s c v).stream = s.stream ∧
    (synSet s c v).firings = s.firings ∧ (synSet s c v).promoted = s.promoted ∧ (synSet s c v).served = s.served ∧
    (synSet s c v).mboxes = s.mboxes ∧ (synSet s c v).mboxMem = s.mboxMem ∧ (synSet s c v).staging = s.staging ∧
    (synSet s c v).copies = s.copies ∧ (synSet s c v).fns = s.fns ∧ (synSet s c v).lcWait = s.lcWait ∧
    (synSet s c v).lcSrc = s.lcSrc ∧ (synSet s c v).faults = s.faults ∧ (synSet s c v).faultSeq = s.faultSeq ∧
    (synSet s c v).resets = s.resets ∧ (synSet s c v).dieResetCount = s.dieResetCount ∧ (synSet s c v).ports = s.ports ∧
    (synSet s c v).switchq = s.switchq ∧ (synSet s c v).swShare = s.swShare ∧ (synSet s c v).abortsSeen = s.abortsSeen ∧
    (synSet s c v).rates = s.rates ∧ (synSet s c v).txs = s.txs ∧ (synSet s c v).rxs = s.rxs ∧
    (synSet s c v).nextMsg = s.nextMsg ∧ (synSet s c v).txCount = s.txCount ∧ (synSet s c v).eps = s.eps ∧
    (synSet s c v).pds = s.pds ∧ (synSet s c v).regions = s.regions ∧ (synSet s c v).keys = s.keys ∧
    (synSet s c v).ctxKeyGen = s.ctxKeyGen ∧ (synSet s c v).parked = s.parked ∧ (synSet s c v).lru = s.lru ∧
    (synSet s c v).hss = s.hss ∧ (synSet s c v).nextHs = s.nextHs ∧ (synSet s c v).fuses = s.fuses ∧
    (synSet s c v).mram = s.mram ∧ (synSet s c v).boot = s.boot ∧ (synSet s c v).vault = s.vault ∧
    (synSet s c v).rng = s.rng ∧ (synSet s c v).pwr = s.pwr ∧ (synSet s c v).panel = s.panel ∧
    (synSet s c v).dbg = s.dbg ∧ (synSet s c v).pcie = s.pcie ∧ (synSet s c v).sent = s.sent ∧
    (synSet s c v).free = s.free := by
  unfold synSet; simp

/-- What accessors of other fields read after synSet. -/
@[simp] theorem synSet_reads (c v : Nat) :
    (∀ i j l, rdEj (synSet s c v) i j l = rdEj s i j l) ∧ (∀ i j, rdE (synSet s c v) i j = rdE s i j) ∧
    (∀ i j, rdB (synSet s c v) i j = rdB s i j) ∧ (∀ i, cx (synSet s c v) i = cx s i) ∧
    (∀ i j, cohortOf (synSet s c v) i j = cohortOf s i j) ∧ (∀ i j, cq (synSet s c v) i j = cq s i j) ∧
    (∀ i j, evq (synSet s c v) i j = evq s i j) ∧ (∀ i, fnSt (synSet s c v) i = fnSt s i) ∧
    (∀ i, epOf (synSet s c v) i = epOf s i) ∧ (∀ i, regionOf (synSet s c v) i = regionOf s i) ∧
    (∀ i, keyOf (synSet s c v) i = keyOf s i) ∧ (∀ i, portOf (synSet s c v) i = portOf s i) ∧
    (∀ i j l, tileOf (synSet s c v) i j l = tileOf s i j l) ∧ (∀ i, vmOf (synSet s c v) i = vmOf s i) ∧
    (∀ i, loftOf (synSet s c v) i = loftOf s i) ∧ (∀ i, mboxOf (synSet s c v) i = mboxOf s i) ∧
    (∀ i, mboxBytes (synSet s c v) i = mboxBytes s i) := by
  simp [cohortOf, cq, cx, epOf, evq, fnSt, keyOf, loftOf, mboxBytes, mboxOf, portOf, rdB, rdE, rdEj, regionOf, tileOf, vmOf]

/-- synAdd changes evqs, msixPend, pcie, sent, descs, syn, trigs, firedWait only. -/
@[simp] theorem synAdd_frame (c x : Nat) :
    (synAdd s c x).pending = s.pending ∧ (synAdd s c x).od = s.od ∧ (synAdd s c x).bar2 = s.bar2 ∧
    (synAdd s c x).msix = s.msix ∧ (synAdd s c x).host = s.host ∧ (synAdd s c x).vm = s.vm ∧
    (synAdd s c x).vmFn = s.vmFn ∧ (synAdd s c x).loft = s.loft ∧ (synAdd s c x).tiles = s.tiles ∧
    (synAdd s c x).ctxs = s.ctxs ∧ (synAdd s c x).cqs = s.cqs ∧ (synAdd s c x).nextDesc = s.nextDesc ∧
    (synAdd s c x).stream = s.stream ∧ (synAdd s c x).firings = s.firings ∧ (synAdd s c x).promoted = s.promoted ∧
    (synAdd s c x).served = s.served ∧ (synAdd s c x).mboxes = s.mboxes ∧ (synAdd s c x).mboxMem = s.mboxMem ∧
    (synAdd s c x).staging = s.staging ∧ (synAdd s c x).copies = s.copies ∧ (synAdd s c x).fns = s.fns ∧
    (synAdd s c x).lcWait = s.lcWait ∧ (synAdd s c x).lcSrc = s.lcSrc ∧ (synAdd s c x).faults = s.faults ∧
    (synAdd s c x).faultSeq = s.faultSeq ∧ (synAdd s c x).resets = s.resets ∧
    (synAdd s c x).dieResetCount = s.dieResetCount ∧ (synAdd s c x).ports = s.ports ∧
    (synAdd s c x).switchq = s.switchq ∧ (synAdd s c x).swShare = s.swShare ∧ (synAdd s c x).abortsSeen = s.abortsSeen ∧
    (synAdd s c x).rates = s.rates ∧ (synAdd s c x).txs = s.txs ∧ (synAdd s c x).rxs = s.rxs ∧
    (synAdd s c x).nextMsg = s.nextMsg ∧ (synAdd s c x).txCount = s.txCount ∧ (synAdd s c x).eps = s.eps ∧
    (synAdd s c x).pds = s.pds ∧ (synAdd s c x).regions = s.regions ∧ (synAdd s c x).keys = s.keys ∧
    (synAdd s c x).ctxKeyGen = s.ctxKeyGen ∧ (synAdd s c x).parked = s.parked ∧ (synAdd s c x).lru = s.lru ∧
    (synAdd s c x).hss = s.hss ∧ (synAdd s c x).nextHs = s.nextHs ∧ (synAdd s c x).fuses = s.fuses ∧
    (synAdd s c x).mram = s.mram ∧ (synAdd s c x).boot = s.boot ∧ (synAdd s c x).vault = s.vault ∧
    (synAdd s c x).rng = s.rng ∧ (synAdd s c x).pwr = s.pwr ∧ (synAdd s c x).panel = s.panel ∧
    (synAdd s c x).dbg = s.dbg ∧ (synAdd s c x).free = s.free := by
  unfold synAdd; simp only []; (repeat' split) <;> simp

/-- What accessors of other fields read after synAdd. -/
@[simp] theorem synAdd_reads (c x : Nat) :
    (∀ i j l, rdEj (synAdd s c x) i j l = rdEj s i j l) ∧ (∀ i j, rdE (synAdd s c x) i j = rdE s i j) ∧
    (∀ i j, rdB (synAdd s c x) i j = rdB s i j) ∧ (∀ i, cx (synAdd s c x) i = cx s i) ∧
    (∀ i j, cohortOf (synAdd s c x) i j = cohortOf s i j) ∧ (∀ i j, cq (synAdd s c x) i j = cq s i j) ∧
    (∀ i, fnSt (synAdd s c x) i = fnSt s i) ∧ (∀ i, epOf (synAdd s c x) i = epOf s i) ∧
    (∀ i, regionOf (synAdd s c x) i = regionOf s i) ∧ (∀ i, keyOf (synAdd s c x) i = keyOf s i) ∧
    (∀ i, portOf (synAdd s c x) i = portOf s i) ∧ (∀ i j l, tileOf (synAdd s c x) i j l = tileOf s i j l) ∧
    (∀ i, vmOf (synAdd s c x) i = vmOf s i) ∧ (∀ i, loftOf (synAdd s c x) i = loftOf s i) ∧
    (∀ i, mboxOf (synAdd s c x) i = mboxOf s i) ∧ (∀ i, mboxBytes (synAdd s c x) i = mboxBytes s i) := by
  simp [cohortOf, cq, cx, epOf, fnSt, keyOf, loftOf, mboxBytes, mboxOf, portOf, rdB, rdE, rdEj, regionOf, tileOf, vmOf]

/-- wakeOnDemand changes pwr only. -/
@[simp] theorem wakeOnDemand_frame (d : Nat) :
    (wakeOnDemand s d).pending = s.pending ∧ (wakeOnDemand s d).od = s.od ∧ (wakeOnDemand s d).bar2 = s.bar2 ∧
    (wakeOnDemand s d).msix = s.msix ∧ (wakeOnDemand s d).msixPend = s.msixPend ∧ (wakeOnDemand s d).host = s.host ∧
    (wakeOnDemand s d).vm = s.vm ∧ (wakeOnDemand s d).vmFn = s.vmFn ∧ (wakeOnDemand s d).loft = s.loft ∧
    (wakeOnDemand s d).tiles = s.tiles ∧ (wakeOnDemand s d).ctxs = s.ctxs ∧ (wakeOnDemand s d).cqs = s.cqs ∧
    (wakeOnDemand s d).evqs = s.evqs ∧ (wakeOnDemand s d).descs = s.descs ∧ (wakeOnDemand s d).nextDesc = s.nextDesc ∧
    (wakeOnDemand s d).trigs = s.trigs ∧ (wakeOnDemand s d).firedWait = s.firedWait ∧
    (wakeOnDemand s d).stream = s.stream ∧ (wakeOnDemand s d).firings = s.firings ∧
    (wakeOnDemand s d).promoted = s.promoted ∧ (wakeOnDemand s d).served = s.served ∧ (wakeOnDemand s d).syn = s.syn ∧
    (wakeOnDemand s d).mboxes = s.mboxes ∧ (wakeOnDemand s d).mboxMem = s.mboxMem ∧
    (wakeOnDemand s d).staging = s.staging ∧ (wakeOnDemand s d).copies = s.copies ∧ (wakeOnDemand s d).fns = s.fns ∧
    (wakeOnDemand s d).lcWait = s.lcWait ∧ (wakeOnDemand s d).lcSrc = s.lcSrc ∧ (wakeOnDemand s d).faults = s.faults ∧
    (wakeOnDemand s d).faultSeq = s.faultSeq ∧ (wakeOnDemand s d).resets = s.resets ∧
    (wakeOnDemand s d).dieResetCount = s.dieResetCount ∧ (wakeOnDemand s d).ports = s.ports ∧
    (wakeOnDemand s d).switchq = s.switchq ∧ (wakeOnDemand s d).swShare = s.swShare ∧
    (wakeOnDemand s d).abortsSeen = s.abortsSeen ∧ (wakeOnDemand s d).rates = s.rates ∧ (wakeOnDemand s d).txs = s.txs ∧
    (wakeOnDemand s d).rxs = s.rxs ∧ (wakeOnDemand s d).nextMsg = s.nextMsg ∧ (wakeOnDemand s d).txCount = s.txCount ∧
    (wakeOnDemand s d).eps = s.eps ∧ (wakeOnDemand s d).pds = s.pds ∧ (wakeOnDemand s d).regions = s.regions ∧
    (wakeOnDemand s d).keys = s.keys ∧ (wakeOnDemand s d).ctxKeyGen = s.ctxKeyGen ∧
    (wakeOnDemand s d).parked = s.parked ∧ (wakeOnDemand s d).lru = s.lru ∧ (wakeOnDemand s d).hss = s.hss ∧
    (wakeOnDemand s d).nextHs = s.nextHs ∧ (wakeOnDemand s d).fuses = s.fuses ∧ (wakeOnDemand s d).mram = s.mram ∧
    (wakeOnDemand s d).boot = s.boot ∧ (wakeOnDemand s d).vault = s.vault ∧ (wakeOnDemand s d).rng = s.rng ∧
    (wakeOnDemand s d).panel = s.panel ∧ (wakeOnDemand s d).dbg = s.dbg ∧ (wakeOnDemand s d).pcie = s.pcie ∧
    (wakeOnDemand s d).sent = s.sent ∧ (wakeOnDemand s d).free = s.free := by
  unfold wakeOnDemand; simp only []; split <;> simp

/-- What accessors of other fields read after wakeOnDemand. -/
@[simp] theorem wakeOnDemand_reads (d : Nat) :
    (∀ i j l, rdEj (wakeOnDemand s d) i j l = rdEj s i j l) ∧ (∀ i j, rdE (wakeOnDemand s d) i j = rdE s i j) ∧
    (∀ i j, rdB (wakeOnDemand s d) i j = rdB s i j) ∧ (∀ i, cx (wakeOnDemand s d) i = cx s i) ∧
    (∀ i j, cohortOf (wakeOnDemand s d) i j = cohortOf s i j) ∧ (∀ i j, cq (wakeOnDemand s d) i j = cq s i j) ∧
    (∀ i j, evq (wakeOnDemand s d) i j = evq s i j) ∧ (∀ i, fnSt (wakeOnDemand s d) i = fnSt s i) ∧
    (∀ i, epOf (wakeOnDemand s d) i = epOf s i) ∧ (∀ i, regionOf (wakeOnDemand s d) i = regionOf s i) ∧
    (∀ i, keyOf (wakeOnDemand s d) i = keyOf s i) ∧ (∀ i, portOf (wakeOnDemand s d) i = portOf s i) ∧
    (∀ i j l, tileOf (wakeOnDemand s d) i j l = tileOf s i j l) ∧ (∀ i, vmOf (wakeOnDemand s d) i = vmOf s i) ∧
    (∀ i, loftOf (wakeOnDemand s d) i = loftOf s i) ∧ (∀ i, mboxOf (wakeOnDemand s d) i = mboxOf s i) ∧
    (∀ i, mboxBytes (wakeOnDemand s d) i = mboxBytes s i) := by
  simp [cohortOf, cq, cx, epOf, evq, fnSt, keyOf, loftOf, mboxBytes, mboxOf, portOf, rdB, rdE, rdEj, regionOf, tileOf, vmOf]

/-- answerWith changes mboxes, mboxMem, sent, msixPend, pcie only. -/
@[simp] theorem answerWith_frame (src : Src) (st value len : Nat) (rd more : Bool) :
    (answerWith s src st value len rd more).pending = s.pending ∧ (answerWith s src st value len rd more).od = s.od ∧
    (answerWith s src st value len rd more).bar2 = s.bar2 ∧ (answerWith s src st value len rd more).msix = s.msix ∧
    (answerWith s src st value len rd more).host = s.host ∧ (answerWith s src st value len rd more).vm = s.vm ∧
    (answerWith s src st value len rd more).vmFn = s.vmFn ∧ (answerWith s src st value len rd more).loft = s.loft ∧
    (answerWith s src st value len rd more).tiles = s.tiles ∧ (answerWith s src st value len rd more).ctxs = s.ctxs ∧
    (answerWith s src st value len rd more).cqs = s.cqs ∧ (answerWith s src st value len rd more).evqs = s.evqs ∧
    (answerWith s src st value len rd more).descs = s.descs ∧
    (answerWith s src st value len rd more).nextDesc = s.nextDesc ∧
    (answerWith s src st value len rd more).trigs = s.trigs ∧
    (answerWith s src st value len rd more).firedWait = s.firedWait ∧
    (answerWith s src st value len rd more).stream = s.stream ∧
    (answerWith s src st value len rd more).firings = s.firings ∧
    (answerWith s src st value len rd more).promoted = s.promoted ∧
    (answerWith s src st value len rd more).served = s.served ∧ (answerWith s src st value len rd more).syn = s.syn ∧
    (answerWith s src st value len rd more).staging = s.staging ∧
    (answerWith s src st value len rd more).copies = s.copies ∧ (answerWith s src st value len rd more).fns = s.fns ∧
    (answerWith s src st value len rd more).lcWait = s.lcWait ∧ (answerWith s src st value len rd more).lcSrc = s.lcSrc ∧
    (answerWith s src st value len rd more).faults = s.faults ∧
    (answerWith s src st value len rd more).faultSeq = s.faultSeq ∧
    (answerWith s src st value len rd more).resets = s.resets ∧
    (answerWith s src st value len rd more).dieResetCount = s.dieResetCount ∧
    (answerWith s src st value len rd more).ports = s.ports ∧
    (answerWith s src st value len rd more).switchq = s.switchq ∧
    (answerWith s src st value len rd more).swShare = s.swShare ∧
    (answerWith s src st value len rd more).abortsSeen = s.abortsSeen ∧
    (answerWith s src st value len rd more).rates = s.rates ∧ (answerWith s src st value len rd more).txs = s.txs ∧
    (answerWith s src st value len rd more).rxs = s.rxs ∧ (answerWith s src st value len rd more).nextMsg = s.nextMsg ∧
    (answerWith s src st value len rd more).txCount = s.txCount ∧ (answerWith s src st value len rd more).eps = s.eps ∧
    (answerWith s src st value len rd more).pds = s.pds ∧ (answerWith s src st value len rd more).regions = s.regions ∧
    (answerWith s src st value len rd more).keys = s.keys ∧
    (answerWith s src st value len rd more).ctxKeyGen = s.ctxKeyGen ∧
    (answerWith s src st value len rd more).parked = s.parked ∧ (answerWith s src st value len rd more).lru = s.lru ∧
    (answerWith s src st value len rd more).hss = s.hss ∧ (answerWith s src st value len rd more).nextHs = s.nextHs ∧
    (answerWith s src st value len rd more).fuses = s.fuses ∧ (answerWith s src st value len rd more).mram = s.mram ∧
    (answerWith s src st value len rd more).boot = s.boot ∧ (answerWith s src st value len rd more).vault = s.vault ∧
    (answerWith s src st value len rd more).rng = s.rng ∧ (answerWith s src st value len rd more).pwr = s.pwr ∧
    (answerWith s src st value len rd more).panel = s.panel ∧ (answerWith s src st value len rd more).dbg = s.dbg ∧
    (answerWith s src st value len rd more).free = s.free := by
  unfold answerWith
  simp only []
  repeat' split
  all_goals simp

/-- What accessors of other fields read after answerWith. -/
@[simp] theorem answerWith_reads (src : Src) (st value len : Nat) (rd more : Bool) :
    (∀ i j l, rdEj (answerWith s src st value len rd more) i j l = rdEj s i j l) ∧
    (∀ i j, rdE (answerWith s src st value len rd more) i j = rdE s i j) ∧
    (∀ i j, rdB (answerWith s src st value len rd more) i j = rdB s i j) ∧
    (∀ i, cx (answerWith s src st value len rd more) i = cx s i) ∧
    (∀ i j, cohortOf (answerWith s src st value len rd more) i j = cohortOf s i j) ∧
    (∀ i j, cq (answerWith s src st value len rd more) i j = cq s i j) ∧
    (∀ i j, evq (answerWith s src st value len rd more) i j = evq s i j) ∧
    (∀ i, fnSt (answerWith s src st value len rd more) i = fnSt s i) ∧
    (∀ i, epOf (answerWith s src st value len rd more) i = epOf s i) ∧
    (∀ i, regionOf (answerWith s src st value len rd more) i = regionOf s i) ∧
    (∀ i, keyOf (answerWith s src st value len rd more) i = keyOf s i) ∧
    (∀ i, portOf (answerWith s src st value len rd more) i = portOf s i) ∧
    (∀ i j l, tileOf (answerWith s src st value len rd more) i j l = tileOf s i j l) ∧
    (∀ i, vmOf (answerWith s src st value len rd more) i = vmOf s i) ∧
    (∀ i, loftOf (answerWith s src st value len rd more) i = loftOf s i) := by
  simp [cohortOf, cq, cx, epOf, evq, fnSt, keyOf, loftOf, portOf, rdB, rdE, rdEj, regionOf, tileOf, vmOf]

/-- answer changes mboxes, mboxMem, sent, msixPend, pcie only. -/
@[simp] theorem answer_frame (src : Src) (st : Nat) :
    (answer s src st).pending = s.pending ∧ (answer s src st).od = s.od ∧ (answer s src st).bar2 = s.bar2 ∧
    (answer s src st).msix = s.msix ∧ (answer s src st).host = s.host ∧ (answer s src st).vm = s.vm ∧
    (answer s src st).vmFn = s.vmFn ∧ (answer s src st).loft = s.loft ∧ (answer s src st).tiles = s.tiles ∧
    (answer s src st).ctxs = s.ctxs ∧ (answer s src st).cqs = s.cqs ∧ (answer s src st).evqs = s.evqs ∧
    (answer s src st).descs = s.descs ∧ (answer s src st).nextDesc = s.nextDesc ∧ (answer s src st).trigs = s.trigs ∧
    (answer s src st).firedWait = s.firedWait ∧ (answer s src st).stream = s.stream ∧
    (answer s src st).firings = s.firings ∧ (answer s src st).promoted = s.promoted ∧
    (answer s src st).served = s.served ∧ (answer s src st).syn = s.syn ∧ (answer s src st).staging = s.staging ∧
    (answer s src st).copies = s.copies ∧ (answer s src st).fns = s.fns ∧ (answer s src st).lcWait = s.lcWait ∧
    (answer s src st).lcSrc = s.lcSrc ∧ (answer s src st).faults = s.faults ∧ (answer s src st).faultSeq = s.faultSeq ∧
    (answer s src st).resets = s.resets ∧ (answer s src st).dieResetCount = s.dieResetCount ∧
    (answer s src st).ports = s.ports ∧ (answer s src st).switchq = s.switchq ∧ (answer s src st).swShare = s.swShare ∧
    (answer s src st).abortsSeen = s.abortsSeen ∧ (answer s src st).rates = s.rates ∧ (answer s src st).txs = s.txs ∧
    (answer s src st).rxs = s.rxs ∧ (answer s src st).nextMsg = s.nextMsg ∧ (answer s src st).txCount = s.txCount ∧
    (answer s src st).eps = s.eps ∧ (answer s src st).pds = s.pds ∧ (answer s src st).regions = s.regions ∧
    (answer s src st).keys = s.keys ∧ (answer s src st).ctxKeyGen = s.ctxKeyGen ∧ (answer s src st).parked = s.parked ∧
    (answer s src st).lru = s.lru ∧ (answer s src st).hss = s.hss ∧ (answer s src st).nextHs = s.nextHs ∧
    (answer s src st).fuses = s.fuses ∧ (answer s src st).mram = s.mram ∧ (answer s src st).boot = s.boot ∧
    (answer s src st).vault = s.vault ∧ (answer s src st).rng = s.rng ∧ (answer s src st).pwr = s.pwr ∧
    (answer s src st).panel = s.panel ∧ (answer s src st).dbg = s.dbg ∧ (answer s src st).free = s.free := by
  unfold answer; simp

/-- What accessors of other fields read after answer. -/
@[simp] theorem answer_reads (src : Src) (st : Nat) :
    (∀ i j l, rdEj (answer s src st) i j l = rdEj s i j l) ∧ (∀ i j, rdE (answer s src st) i j = rdE s i j) ∧
    (∀ i j, rdB (answer s src st) i j = rdB s i j) ∧ (∀ i, cx (answer s src st) i = cx s i) ∧
    (∀ i j, cohortOf (answer s src st) i j = cohortOf s i j) ∧ (∀ i j, cq (answer s src st) i j = cq s i j) ∧
    (∀ i j, evq (answer s src st) i j = evq s i j) ∧ (∀ i, fnSt (answer s src st) i = fnSt s i) ∧
    (∀ i, epOf (answer s src st) i = epOf s i) ∧ (∀ i, regionOf (answer s src st) i = regionOf s i) ∧
    (∀ i, keyOf (answer s src st) i = keyOf s i) ∧ (∀ i, portOf (answer s src st) i = portOf s i) ∧
    (∀ i j l, tileOf (answer s src st) i j l = tileOf s i j l) ∧ (∀ i, vmOf (answer s src st) i = vmOf s i) ∧
    (∀ i, loftOf (answer s src st) i = loftOf s i) := by
  simp [cohortOf, cq, cx, epOf, evq, fnSt, keyOf, loftOf, portOf, rdB, rdE, rdEj, regionOf, tileOf, vmOf]

/-- noteWrite changes od only. -/
@[simp] theorem noteWrite_frame (src : Src) (e : Ent) (n st : Nat) (late : Bool) :
    (noteWrite s src e n st late).pending = s.pending ∧ (noteWrite s src e n st late).bar2 = s.bar2 ∧
    (noteWrite s src e n st late).msix = s.msix ∧ (noteWrite s src e n st late).msixPend = s.msixPend ∧
    (noteWrite s src e n st late).host = s.host ∧ (noteWrite s src e n st late).vm = s.vm ∧
    (noteWrite s src e n st late).vmFn = s.vmFn ∧ (noteWrite s src e n st late).loft = s.loft ∧
    (noteWrite s src e n st late).tiles = s.tiles ∧ (noteWrite s src e n st late).ctxs = s.ctxs ∧
    (noteWrite s src e n st late).cqs = s.cqs ∧ (noteWrite s src e n st late).evqs = s.evqs ∧
    (noteWrite s src e n st late).descs = s.descs ∧ (noteWrite s src e n st late).nextDesc = s.nextDesc ∧
    (noteWrite s src e n st late).trigs = s.trigs ∧ (noteWrite s src e n st late).firedWait = s.firedWait ∧
    (noteWrite s src e n st late).stream = s.stream ∧ (noteWrite s src e n st late).firings = s.firings ∧
    (noteWrite s src e n st late).promoted = s.promoted ∧ (noteWrite s src e n st late).served = s.served ∧
    (noteWrite s src e n st late).syn = s.syn ∧ (noteWrite s src e n st late).mboxes = s.mboxes ∧
    (noteWrite s src e n st late).mboxMem = s.mboxMem ∧ (noteWrite s src e n st late).staging = s.staging ∧
    (noteWrite s src e n st late).copies = s.copies ∧ (noteWrite s src e n st late).fns = s.fns ∧
    (noteWrite s src e n st late).lcWait = s.lcWait ∧ (noteWrite s src e n st late).lcSrc = s.lcSrc ∧
    (noteWrite s src e n st late).faults = s.faults ∧ (noteWrite s src e n st late).faultSeq = s.faultSeq ∧
    (noteWrite s src e n st late).resets = s.resets ∧ (noteWrite s src e n st late).dieResetCount = s.dieResetCount ∧
    (noteWrite s src e n st late).ports = s.ports ∧ (noteWrite s src e n st late).switchq = s.switchq ∧
    (noteWrite s src e n st late).swShare = s.swShare ∧ (noteWrite s src e n st late).abortsSeen = s.abortsSeen ∧
    (noteWrite s src e n st late).rates = s.rates ∧ (noteWrite s src e n st late).txs = s.txs ∧
    (noteWrite s src e n st late).rxs = s.rxs ∧ (noteWrite s src e n st late).nextMsg = s.nextMsg ∧
    (noteWrite s src e n st late).txCount = s.txCount ∧ (noteWrite s src e n st late).eps = s.eps ∧
    (noteWrite s src e n st late).pds = s.pds ∧ (noteWrite s src e n st late).regions = s.regions ∧
    (noteWrite s src e n st late).keys = s.keys ∧ (noteWrite s src e n st late).ctxKeyGen = s.ctxKeyGen ∧
    (noteWrite s src e n st late).parked = s.parked ∧ (noteWrite s src e n st late).lru = s.lru ∧
    (noteWrite s src e n st late).hss = s.hss ∧ (noteWrite s src e n st late).nextHs = s.nextHs ∧
    (noteWrite s src e n st late).fuses = s.fuses ∧ (noteWrite s src e n st late).mram = s.mram ∧
    (noteWrite s src e n st late).boot = s.boot ∧ (noteWrite s src e n st late).vault = s.vault ∧
    (noteWrite s src e n st late).rng = s.rng ∧ (noteWrite s src e n st late).pwr = s.pwr ∧
    (noteWrite s src e n st late).panel = s.panel ∧ (noteWrite s src e n st late).dbg = s.dbg ∧
    (noteWrite s src e n st late).pcie = s.pcie ∧ (noteWrite s src e n st late).sent = s.sent ∧
    (noteWrite s src e n st late).free = s.free := by
  unfold noteWrite; simp only []; (repeat' split) <;> simp

/-- What accessors of other fields read after noteWrite. -/
@[simp] theorem noteWrite_reads (src : Src) (e : Ent) (n st : Nat) (late : Bool) :
    (∀ i j, rdB (noteWrite s src e n st late) i j = rdB s i j) ∧ (∀ i, cx (noteWrite s src e n st late) i = cx s i) ∧
    (∀ i j, cohortOf (noteWrite s src e n st late) i j = cohortOf s i j) ∧
    (∀ i j, cq (noteWrite s src e n st late) i j = cq s i j) ∧
    (∀ i j, evq (noteWrite s src e n st late) i j = evq s i j) ∧ (∀ i, fnSt (noteWrite s src e n st late) i = fnSt s i) ∧
    (∀ i, epOf (noteWrite s src e n st late) i = epOf s i) ∧
    (∀ i, regionOf (noteWrite s src e n st late) i = regionOf s i) ∧
    (∀ i, keyOf (noteWrite s src e n st late) i = keyOf s i) ∧
    (∀ i, portOf (noteWrite s src e n st late) i = portOf s i) ∧
    (∀ i j l, tileOf (noteWrite s src e n st late) i j l = tileOf s i j l) ∧
    (∀ i, vmOf (noteWrite s src e n st late) i = vmOf s i) ∧ (∀ i, loftOf (noteWrite s src e n st late) i = loftOf s i) ∧
    (∀ i, mboxOf (noteWrite s src e n st late) i = mboxOf s i) ∧
    (∀ i, mboxBytes (noteWrite s src e n st late) i = mboxBytes s i) := by
  simp [cohortOf, cq, cx, epOf, evq, fnSt, keyOf, loftOf, mboxBytes, mboxOf, portOf, rdB, regionOf, tileOf, vmOf]

end Sys2Proof.Machine
end

