-- ==== Sys2Proof/WellFormed.lean ====
section
/-!
DEFINITION. Well-formed commands: every operand names something the block has. The numbers come from
the spec's lists: 64 functions (R488), 256 contexts (R32), 64 command queues and 4 event queues per
function (R264, R300), nine dies (R17), 26 module ports (R308), 4 Ethernet ports with 4 logical ports
each (R318), 65,536 keys and 262,144 endpoints (R370, R375), 16,384 sync counters in 256 blocks
(R277, R279). A command that is not well formed names nothing, and its meaning changes nothing
(DEDUCED, log 2).
-/

namespace Sys2Proof

/-- A function number. -/
def fnIn (f : Nat) : Bool := decide (f < 64)
/-- A context number. -/
def ctxIn (n : Nat) : Bool := decide (n < 256)
/-- A command queue of a function. -/
def cqIn (q : Nat) : Bool := decide (q < 64)
/-- An event queue of a function. -/
def evqIn (q : Nat) : Bool := decide (q < 4)
/-- A die. -/
def dieIn (d : Nat) : Bool := decide (d < 9)
/-- A unit identifier of R29. -/
def unitIn (u : Nat) : Bool := decide (u < 288)
/-- A local unit index of a die. -/
def localIn (u : Nat) : Bool := decide (u < 32)
/-- A Shuhal module port. -/
def portIn (p : Nat) : Bool := decide (p < 26)
/-- An Ethernet port. -/
def ethIn (p : Nat) : Bool := decide (p < 4)
/-- A logical port of an Ethernet port. -/
def lpIn (l : Nat) : Bool := decide (l < 4)
/-- A transport key. -/
def keyIn (k : Nat) : Bool := decide (k < 65536)
/-- An endpoint. -/
def epIn (e : Nat) : Bool := decide (e < 262144)
/-- A sync-counter block. -/
def blockIn (k : Nat) : Bool := decide (k < 256)
/-- A sync counter. -/
def counterIn (c : Nat) : Bool := decide (c < 16384)
/-- A slot of an endpoint. -/
def slotIn (k : Nat) : Bool := decide (k < 4096)
/-- A vault slot. -/
def vaultIn (k : Nat) : Bool := decide (k < 256)
/-- A trigger slot. -/
def trigIn (k : Nat) : Bool := decide (k < 256)
/-- A measurement register. -/
def mrIn (r : Nat) : Bool := decide (r < 8)
/-- A cohort index. -/
def cohortIn (k : Nat) : Bool := decide (k < 2097152)
/-- A code of the TAP's instruction register. -/
def irIn (c : Nat) : Bool := decide (c < 256)
/-- A MODULE_ID. -/
def childIn (c : Nat) : Bool := decide (c < 32768)
/-- A number of virtual functions. -/
def vfIn (k : Nat) : Bool := decide (k < 64)
/-- An IDE stream. -/
def streamIn (k : Nat) : Bool := decide (k < 8)
/-- An RNG consumer. -/
def consumerIn (c : Nat) : Bool := decide (c < 8)
/-- A direction of a link. -/
def dirIn (d : Nat) : Bool := decide (d < 2)
/-- An in-package link. -/
def linkIn (l : Nat) : Bool := decide (l < 16)
/-- A lane of a module port. -/
def laneIn (l : Nat) : Bool := decide (l < 9)
/-- A context whose policy a quote shows, or 0xFFFF for none, in two bytes (R456). -/
def quoteIn (n : Nat) : Bool := decide (n < 65536)
/-- A source of object-dictionary requests. -/
def srcIn : Src → Bool
  | .mailbox f => fnIn f
  | .mgmt _ => true
  | .port => true
  | .peer k => keyIn k
/-- The target of an entry write. -/
def targetIn : Target → Bool
  | .od src index sub _ _ => srcIn src && decide (index < 65536) && decide (sub < 256)
  | .bar0 fn off size _ => fnIn fn && decide (off < 2 ^ 26) && decide (size ≤ 4096)
  | .bar2 off size _ => decide (off < 2 ^ 28) && decide (size ≤ 4096)
  | .memSpace fn _ => fnIn fn
  | .dstate fn d => fnIn fn && decide (d < 2)
  | .ide stream fn => streamIn stream && decide (fn ≤ 64)
/-- A register read. -/
def regReadIn : RegRead → Bool
  | .bar0 fn off size => fnIn fn && decide (off < 2 ^ 26) && decide (size ≤ 4096)
  | .bar2 off size => decide (off < 2 ^ 28) && decide (size ≤ 4096)

/-- Every operand of the command names something the block has. -/
def wellFormed (i : Instr) : Bool :=
  match i with
  | .odWriteEntry t => targetIn t
  | .odRead src _ _ _ _ _ => srcIn src
  | .odWriteSegment src _ _ _ _ _ _ _ => srcIn src
  | .odStagingTimeout src _ => srcIn src
  | .mbDoorbell f _ => fnIn f
  | .create src n => srcIn src && ctxIn n
  | .destroy src n _ => srcIn src && ctxIn n
  | .teardownEngineTimeout n => ctxIn n
  | .contextQuarantineExpiry n => ctxIn n
  | .policyLock src n => srcIn src && ctxIn n
  | .roundOpen src n => srcIn src && ctxIn n
  | .roundClose src n => srcIn src && ctxIn n
  | .roundAbandon src n => srcIn src && ctxIn n
  | .roundRelease src n => srcIn src && ctxIn n
  | .closeGraceExpiry n => ctxIn n
  | .roundEnterCombining n => ctxIn n
  | .roundEnterReady n => ctxIn n
  | .clearSubtotalEncrypt n die => ctxIn n && dieIn die
  | .areaScrubComplete n => ctxIn n
  | .provTileZero n => ctxIn n
  | .cohortOpen src n => srcIn src && ctxIn n
  | .cohortShut src n => srcIn src && ctxIn n
  | .cohortMerge n k _ => ctxIn n && cohortIn k
  | .shareBufferBind n => ctxIn n
  | .seedSumShareMessage key _ => keyIn key
  | .prgExpandDerive _ _ => true
  | .prgExpandMask _ _ => true
  | .seedRecon _ _ => true
  | .unmask _ _ => true
  | .basisLoad src n _ => srcIn src && ctxIn n
  | .ntt _ _ => true
  | .intt _ _ => true
  | .vmulProduct _ _ => true
  | .vmulScalar _ _ => true
  | .vmulAdd _ _ => true
  | .vmulSubtract _ _ => true
  | .vmulToMontgomery _ _ => true
  | .vmulToStandard _ _ => true
  | .vmacAddProduct _ _ => true
  | .vmacAddScalar _ _ => true
  | .vmacSubProduct _ _ => true
  | .vmacSubScalar _ _ => true
  | .baseconvFast _ _ => true
  | .baseconvExact _ _ => true
  | .baseconvPrepare _ _ => true
  | .automorphCoefficient _ _ => true
  | .automorphNtt _ _ => true
  | .ctAdd _ _ => true
  | .ctPmul _ _ => true
  | .keyswitch _ _ => true
  | .rotate _ _ => true
  | .moddrop _ _ => true
  | .encryptClearInt32 _ _ => true
  | .encryptClearFp32Pair _ _ => true
  | .decryptShare _ _ => true
  | .keyShareMessage key _ => keyIn key
  | .shAdd _ _ => true
  | .shAddPublic _ _ => true
  | .shSubtract _ _ => true
  | .shScale _ _ => true
  | .shBeaver _ _ => true
  | .shOpen _ _ => true
  | .exchangeTimeoutExpiry _ => true
  | .exchangeMessage key _ => keyIn key
  | .tripleBatch key _ => keyIn key
  | .partnerQuoteCheck key _ => keyIn key
  | .accIntAdd _ _ => true
  | .accIntSubtract _ _ => true
  | .accFloat _ _ => true
  | .accMaskedAdd _ _ => true
  | .accMaskedSubtract _ _ => true
  | .accSharedAdd _ _ => true
  | .accSharedSubtract _ _ => true
  | .preloadZero _ _ => true
  | .preloadLoad _ _ => true
  | .drainNative _ _ => true
  | .drainDequant _ _ => true
  | .drainMean _ _ => true
  | .drainFused _ _ => true
  | .save _ _ => true
  | .restore _ _ => true
  | .reduceMax _ _ => true
  | .reduceMin _ _ => true
  | .tileRangeRemoval n => ctxIn n
  | .cqDoorbell f q _ => fnIn f && cqIn q
  | .cqEnable f q _ => fnIn f && cqIn q
  | .cqDisable f q _ => fnIn f && cqIn q
  | .cqFlush f q _ => fnIn f && cqIn q
  | .descriptorFetch f q _ => fnIn f && cqIn q
  | .descriptorForward f q => fnIn f && decide (q.id ≤ 64) && q.ptr.all (fun x => decide (x ≤ 9))
  | .carouselDispatch die unit => dieIn die && localIn unit
  | .urgentPromotion f q die => fnIn f && decide (q ≤ 64) && dieIn die
  | .synValueWrite f c _ => fnIn f && counterIn c
  | .synAdd f c _ => fnIn f && counterIn c
  | .synBlockWrite src k _ => srcIn src && blockIn k
  | .copy _ _ => true
  | .fill _ _ => true
  | .scrub _ _ => true
  | .wait _ => true
  | .waitTimeout _ => true
  | .signalAdd _ => true
  | .signalSet _ => true
  | .fenceQueue _ => true
  | .fenceContext _ => true
  | .fenceFunction _ => true
  | .nop _ => true
  | .triggerArm _ => true
  | .triggerCancel _ => true
  | .triggerFire f slot => fnIn f && trigIn slot
  | .triggerStreamEntry f slot => fnIn f && trigIn slot
  | .evqEnable f q _ => fnIn f && evqIn q
  | .evqFlush f q _ => fnIn f && evqIn q
  | .evqDepthWrite f q _ => fnIn f && evqIn q
  | .eventQueueRead f q _ _ => fnIn f && evqIn q
  | .cableInsertion p => portIn p
  | .cableRemoval p _ => portIn p
  | .cableDebounceDone p => portIn p
  | .laneSignalDetected p _ => portIn p
  | .laneEqualisationDone p => portIn p
  | .laneDeskewDone p => portIn p
  | .linkPeerHandshake p _ => portIn p
  | .trainingTimeout p => portIn p
  | .laneFault p lane => portIn p && laneIn lane.what
  | .portEnable p _ => portIn p
  | .portRetrain p => portIn p
  | .portForceHalf p _ => portIn p
  | .linkRekey p dir _ => portIn p && dirIn dir
  | .linkFrameReceive p _ _ _ => portIn p
  | .switchForward die _ _ => dieIn die
  | .packetResidenceExpiry die _ => dieIn die
  | .inPackageLinkError link die => linkIn link && dieIn die
  | .ethFrameReceive p lp _ => ethIn p && lpIn lp
  | .ethModeWrite src p _ _ => srcIn src && ethIn p
  | .pathDeadExpiry die _ => dieIn die
  | .childWaitExpiry n => ctxIn n
  | .jobAbortReceive _ _ _ _ _ _ => true
  | .dataPacketReceive die _ => dieIn die
  | .ackTimerExpiry _ => true
  | .ackReceive die _ _ => dieIn die
  | .statusReceive die _ => dieIn die
  | .retransmitTimerExpiry _ _ => true
  | .packetTransmit _ _ => true
  | .rateIntervalUpdate die _ => dieIn die
  | .pathMaskRestore die _ _ => dieIn die
  | .odPacketReceive die _ => dieIn die
  | .hello die _ => dieIn die
  | .reply _ keyId _ _ _ _ => keyIn keyId
  | .finish _ _ _ _ => true
  | .accept _ _ _ => true
  | .close keyId _ => keyIn keyId
  | .credential _ _ _ => true
  | .handshakeTimeout _ => true
  | .objCreate src => srcIn src
  | .objModify src => srcIn src
  | .objDestroy src => srcIn src
  | .advance src => srcIn src
  | .query src => srcIn src
  | .retire src => srcIn src
  | .advanceCtxKey src => srcIn src
  | .keyQuarantineExpiry k => keyIn k
  | .objectQuarantineExpiry _ _ => true
  | .resume f ep => fnIn f && epIn ep
  | .error f ep => fnIn f && epIn ep
  | .evict f ep => fnIn f && epIn ep
  | .recycle f ep slot => fnIn f && epIn ep && slotIn slot
  | .recordFree f ep _ => fnIn f && epIn ep
  | .endpointQuarantineExpiry ep => epIn ep
  | .stWrite _ => true
  | .stSend _ => true
  | .stRead _ => true
  | .messageDelivery _ => true
  | .endpointFetch ep _ => epIn ep
  | .endpointEviction die => dieIn die
  | .parkingTimeout die _ => dieIn die
  | .contributionCommit _ _ => true
  | .msgIdleLimitExpiry _ => true
  | .importReceive key _ => keyIn key
  | .importWaitExpiry n child _ => ctxIn n && childIn child
  | .recombine key _ => keyIn key
  | .rootDigest key _ => keyIn key
  | .patrolRead die _ _ _ => dieIn die
  | .resetNDeassert _ => true
  | .bootCommit _ _ => true
  | .imageCommit _ _ => true
  | .aliasTreeGenerated _ => true
  | .aliasRotation _ => true
  | .identityTreeGeneration _ => true
  | .svnCommit src _ => srcIn src
  | .mrExtend src r _ => srcIn src && mrIn r
  | .fabricLock src => srcIn src
  | .vaultInstall slot _ _ _ _ _ => vaultIn slot
  | .vaultActivate slot => vaultIn slot
  | .vaultSlotQuarantineExpiry slot => vaultIn slot
  | .remaskPass => true
  | .quoteRequest src _ n => srcIn src && quoteIn n
  | .quoteSign f => fnIn f
  | .policyBundle src _ => srcIn src
  | .provision src _ _ _ => srcIn src
  | .produce src _ _ => srcIn src
  | .lcRetire src _ => srcIn src
  | .debugChallenge src _ => srcIn src
  | .debugResponse src _ _ _ => srcIn src
  | .tamper => true
  | .rngSample _ => true
  | .rngEstimateWindow => true
  | .rngStartupComplete _ => true
  | .drbgGenerate => true
  | .reseedIntervalExpiry => true
  | .seedBlockArrivalReseed => true
  | .rngQueueRead consumer => consumerIn consumer.id
  | .rngWaitLimitExpiry consumer => consumerIn consumer
  | .rngRestart _ => true
  | .rawCaptureSet => true
  | .rawCaptureClear => true
  | .flash src f _ => srcIn src && fnIn f
  | .functionLevelReset f _ => fnIn f
  | .fenceEngineTimeout f => fnIn f
  | .fenceScrub f _ => fnIn f
  | .scrubDone f => fnIn f
  | .release src f => srcIn src && fnIn f
  | .grantWrite src f _ _ => srcIn src && fnIn f
  | .vfEnable num => vfIn num
  | .vfRemoval num => vfIn num
  | .watchdogExpiry unit => unitIn unit
  | .heartbeatLoss unit => unitIn unit
  | .engineResetComplete unit _ => unitIn unit
  | .engineResetOverrun unit => unitIn unit
  | .dieResetComplete die _ => dieIn die
  | .dieResetOverrun die => dieIn die
  | .moduleReset _ => true
  | .resetRequestEngine src unit => srcIn src && unitIn unit
  | .resetRequestDie src unit => srcIn src && dieIn unit
  | .resetRequestModule src _ => srcIn src
  | .snapshotTake _ => true
  | .linkWidthReduction => true
  | .aspmL1Entry => true
  | .d3hot => true
  | .d3cold => true
  | .lockInterface f => fnIn f
  | .startInterface f => fnIn f
  | .stopInterface f => fnIn f
  | .getDeviceInterfaceReport f => fnIn f
  | .tdispError f _ => fnIn f
  | .spdmRequest _ _ => true
  | .kSetGo stream => streamIn stream
  | .moduleRequestWake src => srcIn src
  | .moduleRequestSleep src => srcIn src
  | .moduleRequestDeepSleep src => srcIn src
  | .dieRequestWake src die => srcIn src && dieIn die
  | .dieRequestSleep src die => srcIn src && dieIn die
  | .dieRequestDeepSleep src die => srcIn src && dieIn die
  | .sleepEntryComplete die => dieIn die
  | .wakeComplete die => dieIn die
  | .engineGate unit => unitIn unit
  | .enginePowerUp unit => unitIn unit
  | .wakeN => true
  | .wakeTimer => true
  | .managementWakePacket => true
  | .pcieWake _ => true
  | .calliopePattern p => portIn p
  | .peerWake src _ => srcIn src
  | .inputPowerLoss => true
  | .pwrGoodAssert => true
  | .thermalSample _ => true
  | .thermalRecovery _ => true
  | .alwaysOnTrim => true
  | .freezeN => true
  | .presencePress _ => true
  | .ledActTimeout => true
  | .tapReset => true
  | .tapInstructionLoad code _ => irIn code
  | .unlockResponse _ _ _ => true
  | .dbgNop _ => true
  | .dbgRead32 _ => true
  | .dbgWrite32 _ => true
  | .dbgHalt _ => true
  | .dbgResume _ => true
  | .dbgStep _ => true
  | .dbgSetBp _ => true
  | .dbgClearBp _ => true
  | .dbgStatus _ => true
  | .locateWrite src _ => srcIn src
  | .resetNAssert => true
  | .pcieCompletionTimeout _ => true
  | .overTemperatureComparator die => dieIn die
  | .ethLinkUp p lp => ethIn p && lpIn lp
  | .ethLinkDown p lp => ethIn p && lpIn lp
  | .ideStreamTlp stream f => streamIn stream && fnIn f
  | .registerRead r => regReadIn r
  | .cohortCloseGraceExpiry n k => ctxIn n && cohortIn k
  | .odReadCopyLapse src _ => srcIn src
  | .locateAcknowledgementEnd => true
  | .auxiliaryRailValid => true
  | .auxiliaryRailLoss => true
  | .refclkStable => true
  | .refclkLoss => true

end Sys2Proof
end

