-- ==== Sys2Proof/Tests/Slice0.lean ====
section
/-!
SUPPORT. Tests: small states; the spec's worked examples; a term refused by each check of WellFormed; and for every obligation
with hypotheses, clause by clause, a state and operands that meet them together (test_<obligation>_<clause>).
-/

namespace Sys2Proof.Tests
open Sys2Proof Sys2Proof.Machine

set_option Elab.async false

/-! ### States for the witnesses -/

/-- The firmware runs in DEV; the physical function is OPEN with its memory space on and its mailbox busy; key 5 is a management
session. -/
def wRun : State :=
  let s : State := { State.reset with
    boot := { st := 3, lc := 1 }
    pwr := { inReset := false }
    pcie := { memOn := [0] }
    mboxes := [(0, { busy := true })]
    keys := [(5, { st := 1, kind := 7 })] }
  wrE (wrE s eFnState 0 fnOpen) eDramCount 0 10

/-- Context 3 is CONFIGURED and owned by function 0, with 240 MiB LOCAL. -/
def wCtx : State :=
  let s := wrE (setCx wRun 3 { owner := 0 }) eCtxState 3 cxConfigured
  setRegion s 1 { st := 1, owner := 0, ctx := 3, pd := 1, base := 0, limit := 2 ^ 32 - 1, access := 1 }

/-- Set entries of context 3. -/
def wSet (s : State) (l : List (Ent × Nat)) : State := l.foldl (fun s x => wrE s x.1 3 x.2) s

/-- Context 3 configured for one row of Clear-Int in cohorts of 4, on die 0. -/
def wCfg : State :=
  wSet wCtx [(eDieMask, 1), (ePermittedModes, 1), (eVectorLength, 1000), (eAreaSize, 2 ^ 24), (eTileCount, 4), (eStageTiles, 1),
    (eCohortExp, 2), (eMinContributors, 1), (eMinSurvivors, 1), (eWorkBase, 2 ^ 28), (eWorkSize, 2 ^ 27)]

/-- The round of context 3 in a state, with these cohorts. -/
def wRound (st : Nat) (co : Tbl Cohort) : State :=
  setCx (wSet wCfg [(eCtxState, cxActive), (eRoundState, st), (eRoundNumber, 1), (eMerged, 4)]) 3
    { owner := 0, copy := roundCopyOf wCfg 3, modes := 1, tt := 0, cohorts := co }

/-- A ledger bit of context 3 set: contributor slot k has committed. -/
def wLedger (s : State) (k : Nat) : State := setVm s 3 (mset (vmOf s 3) (k / 8) (BitVec.ofNat 8 (2 ^ (k % 8))))

/-- The 64 bytes of a descriptor of context 3: its opcode and fields by byte offset. -/
def wRaw (op : Nat) (l : List (Nat × Nat)) : Nat := op + 2 ^ 16 * 3 + (l.map (fun x => x.2 <<< (8 * x.1))).sum

/-- Descriptor 1, running on die 0. -/
def wDesc (op : Nat) (l : List (Nat × Nat)) : Desc := { id := 1, raw := wRaw op l, phase := .running, started := [0] }

/-- An UNMASK-ready share buffer of cohort 0. -/
def wBuf : ShareBuf := { stored := [(1, [(0, 5)])], storedBy := [(1, 0)], seedDone := true, expanded := [0] }

/-- A Masked round with cohort 0 SHUT and one buffer, and that descriptor. -/
def wMasked (b : ShareBuf) (op : Nat) (l : List (Nat × Nat)) : State :=
  let s := wSet (wLedger (wRound 1 []) 1) [(eRingStride, 1), (eCommitteeSize, 2)]
  let s := setCx s 3 { cx s 3 with
    modes := 4
    committee := 2
    cohorts := [(0, { st := .shut, mode := 2, fixedSet := true })]
    bufs := [(0, b)]
    derived := [0] }
  { s with
    descs := [wDesc op l]
    keys := [(5, { st := 1, kind := 7 }), (8, { st := 1, kind := 2, ctx := 3 })] }

/-- A Sealed round that combines with a clear subtotal of its own. -/
def wSub : State := setCx (wRound 3 []) 3 { cx (wRound 3 []) 3 with modes := 0x11, subMerged := 4 }

/-- A round that combines and waits for one child. -/
def wKids : State := setCx (wRound 3 []) 3 { cx (wRound 3 []) 3 with copy := roundCopyOf (wSet wCfg [(eChildCount, 1)]) 3 }

/-- A verified contribution. -/
def wRx : RxMsg :=
  { id := 9, die := 6, hdr := { dstEp := 4, keyId := 8 }, verified := true, con := some { ctx := 3, cohort := 0, slot := 2, mode := 0 } }

/-- A context without a round, its memory m, and that descriptor running. -/
def wMod (m : Mem) (op : Nat) (l : List (Nat × Nat)) : State := { setVm wCtx 3 m with descs := [wDesc op l] }

/-- Fields of a modular descriptor over one limb of 4,096 words on die 0: basis entry 80 (ROM 0), OP k, ADDR_A 0, ADDR_D 0x20000. -/
def wModF (k : Nat) (l : List (Nat × Nat)) : List (Nat × Nat) := [(33, 12), (34, 80), (35, 1), (37, k), (52, 0x20000)] ++ l

/-- The head of the conversion table of entries 80 to 81. -/
def wConv : Mem := mwr [] 0 8 (80 + 2 ^ 8 + 81 * 2 ^ 16 + 2 ^ 24 + 2 ^ 32 * primesDigest [romPrime 0, romPrime 1])

/-- BASECONV with OP k of one limb of entry 80 to entry 81, that table copied. -/
def wConvD (k : Nat) : Desc := { wDesc 0x34 (wModF k [(46, 0x10000), (58, 81), (59, 1)]) with table := wConv }

/-- No listed byte of m lies in [lo, hi). -/
def noByte (m : Mem) (lo hi : Nat) : Bool := m.all (fun c => decide (c.1 < lo ∨ hi ≤ c.1))

theorem mget_gap (m : Mem) (lo hi a : Nat) (h : noByte m lo hi = true) (h1 : lo ≤ a) (h2 : a < hi) : mget m a = 0 := by
  unfold mget
  induction m with
  | nil => rfl
  | cons c r ih =>
    simp only [noByte, List.all_cons, Bool.and_eq_true, decide_eq_true_eq] at h ih
    have : c.1 ≠ a := by omega
    simpa [tget, this] using ih h.2

theorem mrd_gap (m : Mem) (lo hi n a : Nat) (h : noByte m lo hi = true) (h1 : lo ≤ a) (h2 : a + n ≤ hi) : mrd m a n = 0 := by
  induction n generalizing a with
  | zero => rfl
  | succ n ih => simp [mrd, mget_gap m lo hi a h h1 (by omega), ih (a + 1) (by omega) (by omega)]

theorem limb_gap (m : Mem) (lo hi a j st n t p : Nat) (h : noByte m lo hi = true) (hp : 0 < p) (hj : j < 1) (ht : t < 2 ^ n)
    (h1 : lo ≤ a) (h2 : a + 4 * 2 ^ n ≤ hi) : limbAt m (a + j * st) t < p := by
  have : j = 0 := by omega
  subst this
  rw [limbAt, mrd_gap m lo hi 4 _ h (by omega) (by omega)]
  exact hp

/-- Words of one limb that are all 0 are in range. -/
theorem words_gap (s : State) (d : Desc) (hc : df d 35 1 = 1) (hp : 0 < fld (limbBasis d 0) 0 4)
    (ha : noByte (srcMem s d (df d 32 1) (bit (df d 36 1) 0) (df d 40 6) (limbExtent d (df d 35 1))) (df d 40 6) (df d 40 6 + 4 * 2 ^ df d 33 1) = true)
    (hb : usesB d = true → noByte (srcMem s d (df d 32 1) (bit (df d 36 1) 1) (df d 46 6) (limbExtent d (df d 35 1))) (df d 46 6) (df d 46 6 + 4 * 2 ^ df d 33 1) = true)
    (hs : usesScalar d = true → scalarB s d 0 = 0)
    (hd : noByte (srcMem s d (df d 32 1) (bit (df d 36 1) 2) (df d 52 6) (limbExtent d (df d 35 1))) (df d 52 6) (df d 52 6 + 4 * 2 ^ df d 33 1) = true) :
    WordsInRange s d := by
  have hj : ∀ j, j < df d 35 1 → j = 0 := fun j h => by omega
  refine ⟨fun j t h1 h2 => ?_, fun j t h1 h2 hu => ?_, fun j h1 hu => ?_, fun j t h1 h2 _ => ?_⟩ <;> have h0 := hj j h1 <;> subst h0
  · exact limb_gap _ _ _ _ _ _ _ _ _ ha hp (by omega) h2 (Nat.le_refl _) (Nat.le_refl _)
  · exact limb_gap _ _ _ _ _ _ _ _ _ (hb hu) hp (by omega) h2 (Nat.le_refl _) (Nat.le_refl _)
  · rw [hs hu]; exact hp
  · exact limb_gap _ _ _ _ _ _ _ _ _ hd hp (by omega) h2 (Nat.le_refl _) (Nat.le_refl _)

/-- A key set of id 1: N = 2^12, limbs of ROM 0 to 2, one special limb of ROM 10, entries for key switches from key set 2 and for
the Galois element 3. -/
def wKeySet (m : Mem) : Mem :=
  let b := 2 ^ 29
  let m := mwr m b 16 (0x4B + 2 ^ 8 * 12 + 2 ^ 16 * 3 + 2 ^ 24 + 2 ^ 32)
  let m := mwr m (b + 16) 32 (80 + 2 ^ 8 * 90 + 2 ^ 16 * 3 + 2 ^ 24 + 2 ^ 32 * 40961 + 2 ^ 96 +
    2 ^ 128 * primesDigest [romPrime 0, romPrime 1, romPrime 2, romPrime 10] + 2 ^ 160 + 2 ^ 176 * 2 + 2 ^ 192 * 100)
  let m := mwr m (b + 64) 32 (2 ^ 32 * 2 + 2 ^ 128 + 2 ^ 160 * 3)
  (List.range 16).foldl (fun m c => mwr m (b + 6553600 + 16 * c) 16 (1 + 2 ^ 96 * c)) m

/-- The header of an object of level 1 under key set `id`. -/
def wObj (ty id : Nat) : Nat := ctHeader ty 12 1 0 id 0 1 (primesDigest [romPrime 0, romPrime 1]) 1

/-- A Sealed round in a state with that key set, ciphertexts (or a plaintext) at Loft 0x10000 and 0x40000, and the descriptor. -/
def wSeal (st idA tyB : Nat) (op : Nat) (l : List (Nat × Nat)) : State :=
  let c := wSet wCfg [(eKeySetId, 1), (eKeysetBase, 2 ^ 29), (eKeyLoftFirst, 1000), (eSelfMember, 1), (eKeyshareBase, 2 ^ 30)]
  let s := wSet (wRound st []) [(eLoftFirst, 0), (eLoftLast, 1535), (eCommitteeSize, 1), (eKeyshareState, 1)]
  let s := setCx s 3 { cx s 3 with copy := roundCopyOf c 3, modes := 0x10, keysLoaded := [0] }
  let s := setVm s 3 (mwr (wKeySet []) 0x40000 64 (wObj 0x43 1))
  let s := setLoft s 0 (mwr (mwr [] 0x10000 64 (wObj 0x43 idA)) 0x40000 64 (wObj tyB 1))
  { s with
    descs := [{ wDesc op l with latch := [(entKey eLoftFirst 3 0, 0), (entKey eLoftLast 3 0, 1535)] }]
    rng := { st := 1, queue := List.replicate 64 5 } }

/-- That descriptor. -/
def wSealD (op : Nat) (l : List (Nat × Nat)) : Desc :=
  { wDesc op l with latch := [(entKey eLoftFirst 3 0, 0), (entKey eLoftLast 3 0, 1535)] }

theorem mget_above (m : Mem) (lo a : Nat) (h : m.all (fun c => decide (c.1 < lo)) = true) (h1 : lo ≤ a) : mget m a = 0 := by
  refine mget_gap m lo (a + 1) a ?_ h1 (by omega)
  simp only [noByte, List.all_eq_true, decide_eq_true_eq] at h ⊢
  exact fun c hc => Or.inl (h c hc)

theorem mrd_above (m : Mem) (lo a n : Nat) (h : m.all (fun c => decide (c.1 < lo)) = true) (h1 : lo ≤ a) : mrd m a n = 0 := by
  induction n generalizing a with
  | zero => rfl
  | succ n ih => simp [mrd, mget_above m lo a h h1, ih (a + 1) (by omega)]

/-- An object of zero words has none out of range. -/
theorem ct_gap (s : State) (d : Desc) (l parts n a : Nat) (m : Mem) (hn : ksLogN s (dCtx d) = n)
    (h : noByte m (a + 4096) (a + 4096 + parts * (l + 1) * (4 * 2 ^ n)) = true)
    (hp : ∀ i, i < l + 1 → 0 < wPrime (limbWord s (dCtx d) (latBasis d) i)) :
    ctHigh s d l parts (objPoly m a l n) = false := by
  subst hn
  simp only [ctHigh, List.any_eq_false, List.mem_range]
  intro part h1 hc
  obtain ⟨i, h2, hc⟩ := List.any_eq_true.mp hc
  obtain ⟨t, h3, hc⟩ := List.any_eq_true.mp hc
  simp only [List.mem_range] at h2 h3
  have hc := of_decide_eq_true hc
  have h4 : (part * (l + 1) + i + 1) ≤ parts * (l + 1) := by
    have : (part + 1) * (l + 1) ≤ parts * (l + 1) := Nat.mul_le_mul_right _ h1
    have e : (part + 1) * (l + 1) = part * (l + 1) + (l + 1) := Nat.succ_mul _ _
    omega
  have h5 := Nat.mul_le_mul_right (4 * 2 ^ ksLogN s (dCtx d)) h4
  rw [Nat.add_mul (part * (l + 1) + i) 1, ← Nat.mul_assoc (part * (l + 1) + i)] at h5
  rw [objPoly, mrd_gap m _ _ 4 _ h (by omega) (by omega)] at hc
  have := hp i h2
  omega

/-- A key word of a Loft without keys is 0. -/
theorem key_gap (s : State) (n die en j part i x lo : Nat) (hr : cfgE s eKeyResidency n = 0)
    (hl : (loftOf s die).all (fun c => decide (c.1 < lo)) = true) (hk : 65536 * cfgE s eKeyLoftFirst n = lo) {p : Nat} (hp : 0 < p) :
    keyWord s n die en j part i x < p := by
  rw [keyWord, if_pos hr, mrd_above _ lo _ _ hl (by omega)]
  exact hp

/-- A configuration of party 0 of two, whose partner's identity key hash is the one after this module's own. -/
def wShareC : State :=
  wSet wCfg [(ePermittedModes, 9), (ePartnerSetId, 1), (ePeer1Key, Config.sha256 (bytesOf 0 60) + 1), (eShWorkBase, 2 ^ 30),
    (eShWorkSize, 2 ^ 26), (eTripleBatches, 4), (eDealerKey, 5)]

/-- A Shared round in a state with those words in device memory, and that descriptor. -/
def wShare (st : Nat) (m : Mem) (op : Nat) (l : List (Nat × Nat)) : State :=
  let s := wSet (wRound st []) [(ePolicyLock, 1), (ePermittedModes, 9), (ePeerState, 5)]
  let s := setCx s 3 { cx s 3 with copy := roundCopyOf wShareC 3, modes := 9, triples := [{ batch := 0 }, { batch := 1 }] }
  { setVm s 3 m with descs := [wDesc op l] }

/-- The same round, whose partner's identity key hash is 7. -/
def wXkey : State :=
  let s := wShare 3 [] 0 []
  setCx { s with descs := [] } 3 { cx s 3 with copy := roundCopyOf (wSet wShareC [(ePeer1Key, 7)]) 3 }

/-- Share vectors in the share scratch, at 2^30 + 2^23 and 64 KiB apart: A, B, D; from row r, n rows. -/
def wVec (r n : Nat) : List (Nat × Nat) := [(34, r), (38, n), (42, 2 ^ 30 + 2 ^ 25), (48, 2 ^ 30 + 2 ^ 25 + 65536), (54, 2 ^ 30 + 2 ^ 25 + 131072)]
/-- SH_ADD of row 0 with a public vector at 96 MiB. -/
def wVecP : List (Nat × Nat) := [(32, 1), (38, 1), (42, 2 ^ 30 + 2 ^ 25), (48, 0x6000000), (54, 2 ^ 30 + 2 ^ 25 + 131072)]
/-- The same without B. -/
def wVecA (r n : Nat) : List (Nat × Nat) := [(34, r), (38, n), (42, 2 ^ 30 + 2 ^ 25), (54, 2 ^ 30 + 2 ^ 25 + 131072)]

/-- The Shared pairs hold where the partner's hash is one above the own. -/
theorem sharedOk_of (s : State) (n x : Nat) (h1 : cfgE s ePeer1Key n = x + 1) (h2 : ownKeyHash s = x)
    (h : (decide (cfgE s ePartyIndex n < cfgE s ePartyCount n) && cfgE s ePartyCount n == 2 && cfgE s ePartnerSetId n != 0 &&
      decide (0 < cfgE s eShWorkSize n) && in48 (cfgE s eShWorkBase n) (cfgE s eShWorkSize n) &&
      decide (shScratchOff s n ≤ cfgE s eShWorkSize n) &&
      !overlaps (cfgE s eShWorkBase n) (cfgE s eShWorkSize n) (areaBase s n) (cfgE s eAreaSize n) &&
      !overlaps (cfgE s eShWorkBase n) (cfgE s eShWorkSize n) (cfgE s eScaleBase n) (scaleSize s n) &&
      !overlaps (cfgE s eShWorkBase n) (cfgE s eShWorkSize n) (cfgE s eStatsBase n) (statsSize s n) &&
      !overlaps (cfgE s eShWorkBase n) (cfgE s eShWorkSize n) (cfgE s eWorkBase n) (cfgE s eWorkSize n)) = true) :
    sharedOk s n = true := by
  simp only [Bool.and_eq_true] at h
  simp only [sharedOk, h1, h2, h]
  simp

/-- Fields of an accumulation of rows 1 and 2 of tile 1: OP, FMT, PARAM, ADDR 0x10000. -/
def wA (o f p : Nat) : List (Nat × Nat) := [(33, 1), (34, o), (35, f), (36, 1), (37, 2), (39, p), (40, 0x10000)]
/-- Fields of a reduction of n elements at 0x10000 in a format, its result at 0x40000. -/
def wR (f n : Nat) : List (Nat × Nat) := [(35, f), (40, 0x10000), (46, 0x40000), (56, n), (60, 7)]

/-- That descriptor, tiles 0 to 3 latched. -/
def wAccD (op : Nat) (l : List (Nat × Nat)) : Desc :=
  { wDesc op l with latch := [(entKey eTileFirst 3 0, 0), (entKey eTileCount 3 0, 4)] }

/-- A COPY of 8 bytes of the round total across its last counted element. -/
def wTot : List (Nat × Nat) := [(36, 262144 + 3996), (42, 0x6000000), (48, 8)]

/-- A context without a round on die 0, those words in device memory, that tile 1, and the descriptor running. -/
def wAcc (m : Mem) (t : Tile) (op : Nat) (l : List (Nat × Nat)) : State :=
  { setVm wCfg 3 m with tiles := [(1, t)], descs := [wAccD op l] }

/-- Source words: 5, 2^32 - 1, 2^31 - 1, ... -/
def wSrc : Mem := mwr [] 0x10000 16 (5 + 2 ^ 32 * 4294967295 + 2 ^ 64 * 2147483647)
/-- A single-precision NaN. -/
def wNan : Mem := mwr [] 0x10000 4 0x7FC00000
/-- An INT40 tile that holds the greatest integer at row 1, lane 0. -/
def wInt : Tile := { ty := 1, words := [(1024, 2 ^ 39 - 1), (1025, 3)] }
/-- A pair tile that holds 1.0. -/
def wFlt : Tile := { ty := 2, words := [(1024, 0x3F800000)] }
/-- A modular tile of 24-bit lanes that holds its greatest word. -/
def wM24 : Tile := { ty := 3, laneW := 24, words := [(1024, 2 ^ 24 - 1)] }
/-- A modular tile of 32-bit lanes that holds its greatest word. -/
def wM32 : Tile := { ty := 4, words := [(1024, 2 ^ 32 - 1)] }
/-- A good saved record of type INT40, SATURATED, of zeros, at 0x10000. -/
def wRec : Mem := mwr (mwr [] 0x10000 4 (1 + 65536)) 0x10004 4 (crc32c (List.replicate 8192 0))

theorem crcStep_lt (c : Nat) (h : c < 2 ^ 32) : crcStep c < 2 ^ 32 := by
  unfold crcStep
  split
  · exact Nat.xor_lt_two_pow (by omega) (by decide)
  · omega

theorem crcByte_lt (c b : Nat) (h : c < 2 ^ 32) (hb : b < 2 ^ 32) : crcByte c b < 2 ^ 32 := by
  have := Nat.xor_lt_two_pow h hb
  unfold crcByte
  repeat' apply crcStep_lt
  exact this

theorem crcZeros_lt (n : Nat) : crc32c (List.replicate n 0) < 2 ^ 32 := by
  unfold crc32c
  refine Nat.xor_lt_two_pow ?_ (by decide)
  suffices h : ∀ x, x < 2 ^ 32 → (List.replicate n 0).foldl crcByte x < 2 ^ 32 from h _ (by decide)
  induction n with
  | zero => exact fun x h => h
  | succ n ih => exact fun x h => ih _ (crcByte_lt x 0 h (by decide))

theorem mrd_mwr_outside (m : Mem) (a n v k b : Nat) (h : b + k ≤ a ∨ a + n ≤ b) : mrd (mwr m a n v) b k = mrd m b k := by
  induction k generalizing b with
  | zero => rfl
  | succ k ih => simp [mrd, mget_mwr_outside m a n v b (by omega), ih (b + 1) (by omega)]

theorem wRec_high (n a : Nat) (h : 0x10008 ≤ a) : mbytes wRec a n = List.replicate n 0 := by
  induction n generalizing a with
  | zero => rfl
  | succ n ih =>
    rw [mbytes, ih (a + 1) (by omega), wRec, mget_mwr_outside _ _ _ _ _ (by omega), mget_mwr_outside _ _ _ _ _ (by omega)]
    rfl

theorem wRec_ok : recOk wRec 0x10000 = true := by
  have h0 : ∀ k b, b + k ≤ 0x10004 → mrd wRec b k = mrd (mwr [] 0x10000 4 (1 + 65536)) b k :=
    fun k b h => mrd_mwr_outside _ _ _ _ _ _ (Or.inl h)
  have h1 : mrd wRec (0x10000 + 8) 56 = 0 := by
    rw [wRec, mrd_mwr_outside _ _ _ _ _ _ (by omega), mrd_mwr_outside _ _ _ _ _ _ (by omega)]
    decide +kernel
  have h2 : mrd wRec (0x10000 + 4) 4 = crc32c (List.replicate 8192 0) := by
    rw [wRec, mrd_mwr_same, Nat.mod_eq_of_lt]
    exact crcZeros_lt 8192
  rw [recOk, h0 1 _ (by omega), h0 1 _ (by omega), h0 1 _ (by omega), h0 1 _ (by omega), h1, h2, wRec_high _ _ (by omega)]
  simp only [beq_self_eq_true, Bool.and_true]
  decide +kernel


set_option maxRecDepth 10000 in
theorem wRestore : restoreOk (srcMem (wAcc wRec wInt 0x17 ((wA 0 0 0).take 4 ++ [(37, 1), (40, 0x10000)])) (wAccD 0x17 ((wA 0 0 0).take 4 ++ [(37, 1), (40, 0x10000)])) (df (wAccD 0x17 ((wA 0 0 0).take 4 ++ [(37, 1), (40, 0x10000)])) 32 1) (aLoft (wAccD 0x17 ((wA 0 0 0).take 4 ++ [(37, 1), (40, 0x10000)])))
    (aAddr (wAccD 0x17 ((wA 0 0 0).take 4 ++ [(37, 1), (40, 0x10000)]))) (aBytes (wAccD 0x17 ((wA 0 0 0).take 4 ++ [(37, 1), (40, 0x10000)])))) (wAccD 0x17 ((wA 0 0 0).take 4 ++ [(37, 1), (40, 0x10000)])) (tileNow (wAcc wRec wInt 0x17 ((wA 0 0 0).take 4 ++ [(37, 1), (40, 0x10000)])) (wAccD 0x17 ((wA 0 0 0).take 4 ++ [(37, 1), (40, 0x10000)]))) = true := by
  have h : ∀ m, srcMem (wAcc m wInt 0x17 ((wA 0 0 0).take 4 ++ [(37, 1), (40, 0x10000)])) (wAccD 0x17 ((wA 0 0 0).take 4 ++ [(37, 1), (40, 0x10000)])) (df (wAccD 0x17 ((wA 0 0 0).take 4 ++ [(37, 1), (40, 0x10000)])) 32 1) (aLoft (wAccD 0x17 ((wA 0 0 0).take 4 ++ [(37, 1), (40, 0x10000)])))
      (aAddr (wAccD 0x17 ((wA 0 0 0).take 4 ++ [(37, 1), (40, 0x10000)]))) (aBytes (wAccD 0x17 ((wA 0 0 0).take 4 ++ [(37, 1), (40, 0x10000)]))) = m := by
    intro m
    rw [srcMem, if_neg (by decide +kernel), hiddenView, if_neg]
    · exact tget_tset_same _ _ _ _
    · rw [inAccum, inShareBufs, show roundSt (wAcc m wInt 0x17 ((wA 0 0 0).take 4 ++ [(37, 1), (40, 0x10000)])) (dCtx (wAccD 0x17 ((wA 0 0 0).take 4 ++ [(37, 1), (40, 0x10000)]))) = 0 from rfl]
      simp [rsNone]
  have h1 : aRows (wAccD 0x17 ((wA 0 0 0).take 4 ++ [(37, 1), (40, 0x10000)])) = [1] := by decide +kernel
  have h2 : recAt (wAccD 0x17 ((wA 0 0 0).take 4 ++ [(37, 1), (40, 0x10000)])) 1 = 0x10000 := by decide +kernel
  have h3 : aAddr (wAccD 0x17 ((wA 0 0 0).take 4 ++ [(37, 1), (40, 0x10000)])) = 0x10000 := by decide +kernel
  have h0 : ∀ k b, b + k ≤ 0x10004 → mrd wRec b k = mrd (mwr [] 0x10000 4 (1 + 65536)) b k :=
    fun k b h => mrd_mwr_outside _ _ _ _ _ _ (Or.inl h)
  rw [h, restoreOk, h1, h3]
  simp only [List.all_cons, List.all_nil, h2, wRec_ok, beq_self_eq_true, Bool.and_true, Bool.true_and]
  rw [h0 1 _ (by omega), h0 1 _ (by omega)]
  decide +kernel

/-- Context 3 with command queue 2 and event queue 1 of function 0, and those descriptors. -/
def wQ (c : Cq) (e : Evq) (ds : List Desc) : State := { wCtx with cqs := [(2, c)], evqs := [(1, e)], descs := ds }
/-- A held descriptor of command queue 2. -/
def wHeld (i op : Nat) (l : List (Nat × Nat)) : Desc := { id := i, queue := 2, raw := wRaw op ([(4, 2)] ++ l) }
/-- A held control descriptor, which names no context. -/
def wCtl (i op : Nat) (l : List (Nat × Nat)) : Desc := { wHeld i op l with raw := wRaw op ([(4, 2)] ++ l) - 2 ^ 16 * 3 }
/-- The same in the lane of die 0. -/
def wLane (i op : Nat) (l : List (Nat × Nat)) : Desc := { wHeld i op l with phase := .lanes, lanes := [0] }


/-- Module port p in a state, with alias key and random words at hand. -/
def wPort (p : Nat) (x : Port) : State :=
  { wRun with ports := [(p, x)], rng := { st := 1, queue := List.replicate 64 5 }, boot := { wRun.boot with keysReady := true } }

/-- The bytes of a UDP datagram over IPv4 for port 47821. -/
def wUdp : Mem := mwr (mwr (mwr (mwr [] 12 2 8) 14 1 0x45) 23 1 17) 36 2 (47821 / 256 + 256 * (47821 % 256))

/-- A round of job 9 in a state, with those children, further settings, and a ridge session with module 6 as key 6. -/
def wRidge (st : Nat) (kids : List Nat) (l : List (Ent × Nat)) : State :=
  let s := wRound st []
  let c := wSet wCfg ([(eJobId, 9), (eChildCount, kids.length), (eChildList, 2 ^ 29)] ++ l)
  let s := setCx s 3 { cx s 3 with
    copy := roundCopyOf c 3
    totalFormed := true
    imports := if kids.length = 2 then [{ child := 6 }] else [] }
  let s := setVm s 3 (kids.zipIdx.foldl (fun m k => mwr m (2 ^ 29 + 2 * k.2) 2 k.1) [])
  { s with keys := [(6, { st := 1, kind := 5, ctx := 3, peer := 6 })] }


/-- Context 3 with region 1, protection domain 1, endpoint 4 so, key 8 to module 6, a random generator and the alias key. -/
def wNet (e : Ep) : State :=
  let s := setRegion wCtx 1 { st := 1, owner := 0, ctx := 3, pd := 1, base := 0, limit := 2 ^ 32 - 1, access := 7 }
  { s with
    eps := [(4, e)]
    pds := [(1, { st := 1 })]
    keys := [(5, { st := 1, kind := 7 }), (8, { st := 1, ctx := 3, pd := 1, form := 1, peer := 6, kind := 1, dstEp := 3 })]
    rng := { st := 1, queue := List.replicate 64 5 }
    boot := { s.boot with keysReady := true } }

/-- Endpoint 4: READY and resident, receive queue of 4 records, slots of 4 KiB, one stream with endpoint 3 of key 8. -/
def wEp : Ep :=
  { st := 1, ctx := 3, pd := 1, rxqRegion := 1, rxqDepth := 4, slotRegion := 1, slotCount := 2, recFree := 4, resident := true,
    streams := [{ key := 8, peer := 3 }] }

/-- Packet i of n of a WRITE to endpoint 4 at 0x1000, of whole pages but for the last. -/
def wPkt (n i : Nat) : Pkt :=
  { ty := 1, last := decide (i + 1 = n), msgPkts := n, pktIndex := i, payloadLen := if i + 1 = n then 5 else 4096, keyId := 8, srcEp := 3,
    dstEp := 4, region := 1, addr := 0x1000, payload := [(0, 5), (3, 7)] }

/-- A message being received under that header. -/
def wGot (k : Pkt) (held : List Nat) : RxMsg := { id := 9, die := 6, hdr := k, held := held, ackArmed := true, verified := true }

/-- A message of 8,193 bytes being sent by endpoint 4 for descriptor 1. -/
def wTx (pk : Tbl TxPkt) : TxMsg :=
  { id := 2, die := 6, desc := 1, ep := 4, dst := 6, hdr := { ty := 1, msgPkts := 3, keyId := 8, dstEp := 3, srcEp := 4 }, len := 8193, pkts := pk }

/-- Fields of a transport descriptor of endpoint 4 to endpoint 3 under key 8, 5 bytes from 0x2000 to region 1. -/
def wSt : List (Nat × Nat) := [(32, 4 + 3 * 2 ^ 18), (38, 8), (44, 0x2000), (56, 5)]

/-- A control packet of a type from endpoint 3 to endpoint 4. -/
def wCtlPkt (ty : Nat) (p : Mem) : Pkt := { ty := ty, service := if ty = 12 then 3 else 2, keyId := 8, srcEp := 3, dstEp := 4, payloadLen := 64, payload := p }

/-- Function 0's object record names object i of a kind. -/
def wObjRec (kind i : Nat) (l : List (Ent × Nat)) : State :=
  ([(eObjKind, kind), (eObjIndex, i)] ++ l).foldl (fun s x => wrE s x.1 0 x.2) (wNet wEp)

/-- A handshake of a session of kind 6. -/
def wHs (step : Nat) (init : Bool) : Hs :=
  { id := 2, hello := { kind := 6, context := 3, modulePeer := true, peerModule := 6 }, step := step, keyId := 20, keyGen := 1, peerEp := 3, localEp := 4,
    credParts := [0, 1, 2], cred := { lifecycle := 1, fabricOk := true, moduleId := 6, identity := 7 }, initiator := init }


/-- The module in reset, assembled of dies of identity 0 and with the vendor key 0. -/
def wOff : State :=
  { State.reset with fuses := { manifest := Config.sha256 (bytesOf (0 % 2 ^ 576) 72), vendor0 := Config.sha256 (bytesOf 0 60) } }
/-- The header of an image of the largest version, vendor key 0. -/
def wImg : Mem := [(0x72081A5E, 0, 4), (1, 4, 1), (65536, 8, 4), (128, 12, 4), (9, 16, 4)].foldl (fun m x => mwr m x.2.1 x.2.2 x.1) []
/-- The module waiting for an image, that header in the boot window. -/
def wWait : State := { wOff with boot := { st := 1, lc := 1, win := wImg }, pwr := { inReset := false }, pcie := { memOn := [0] } }

theorem imageErr_of (s : State) (len : Nat) (i : Image) (h0 : (i.magic == 0x72081A5E && i.hdrVersion == 1 && decide (i.keySlot ≤ 1) && i.rsvZero &&
      decide (65536 ≤ i.imageBytes ∧ i.imageBytes ≤ 3145728 ∧ i.svn ≤ 128 ∧ i.sigBytes ≤ 16384) && i.imageBytes % 64 == 0 &&
      len == 256 + i.imageBytes + i.sigBytes) = true) (hk : i.keySlot = 0) (hv : i.vendorPub = 0)
    (h1 : Config.sha256 (bytesOf 0 60) = s.fuses.vendor0) (h2 : s.fuses.vendorRevoke = 0) (h3 : i.sigOk = true)
    (h4 : i.digestOk = true) (h5 : s.fuses.svnFloor ≤ i.svn) : imageErr s len i = none := by
  rw [imageErr, h0]
  simp [hk, hv, h1, h2, h3, h4, Nat.not_lt.mpr h5, bit]

/-- A bundle for context 3 that locks it (index 0x5B03), signed by key 7. -/
def wBundle : Mem := [(1 + 2 ^ 8 * 3, 0, 2), (140, 4, 4), (1, 8, 4), (7, 24, 60), (0x5B03 + 2 ^ 16, 128, 4), (1, 132, 4), (1, 136, 1)].foldl
  (fun m x => mwr m x.2.1 x.2.2 x.1) []

/-- The module of wNet in lifecycle lc, PRESENCE_N pressed at 200 ms and a debug challenge of 100 ms in force. -/
def wLc (lc : Nat) : State :=
  let s := wNet wEp
  { s with
    boot := { s.boot with lc := lc, press := some 200, challenge := some 5, challengeAt := 100 }
    fuses := { s.fuses with debugKey := Config.sha256 (bytesOf 7 60) } }

/-- Function 0 in a stage of its fence, every other released. -/
def wFence (x : FnSt) : State :=
  wrE { wCtx with fns := (List.range 64).map (fun g => (g, if g = 0 then x else { scrubDone := true })) } eFnState 0 fnFenced

/-- The RNG in that state. -/
def wRng (r : Rng) : State := { wRun with rng := r }

/-- Descriptor 1 running on engine 16 of die 0. -/
def wBusy : State := { wCtx with pwr := { wCtx.pwr with powered := [16] }, descs := [{ wDesc 0 [] with unit := 16, engs := [16] }] }


/-- Every die in service asleep. -/
def wAsleep : State := { wRun with pwr := { wRun.pwr with die := (List.range 9).map (fun d => (d, 2)), timer := 5 } }
/-- Virtual functions 1 to 3 in TDISP states; function 1's scrub done or not. -/
def wVf (t : Nat) (done : Bool) : State :=
  let s := wrE wRun eFnState 1 fnOpen
  { s with
    pcie := { s.pcie with vfEnable := true, numVfs := 3, memOn := [0, 1], tdisp := [(1, t)] }
    fns := [(1, { scrubDone := done })] }
/-- The debug port with DBG_ACCESS loaded, unit 16 of die 0 halted and holding descriptor 1. -/
def wDbg : State := { wBusy with dbg := { ir := 0x10, halted := [16], steps := [(16, 65534)] } }
/-- The same in a freeze, FREEZE_READ loaded. -/
def wFrz : State := { wDbg with pwr := { wDbg.pwr with frozen := true }, dbg := { wDbg.dbg with ir := 0x13 }, loft := [(0, [(4, 9)])] }

/-! ### Worked examples of the spec -/

/-- R4: the value 0x00012C00 at byte offset 8 (spec/00_scope.md, worked example). -/
theorem test_byte_order : (List.range 4).map (fun i => (mget (mwr [] 8 4 0x00012C00) (8 + i)).toNat) = [0x00, 0x2C, 0x01, 0x00] ∧
    bits 0x00012C00 15 12 = 2 := by decide +kernel

/-- R84: the next scale of a row, 2^-8 (spec/03_narrow_formats.md, worked example). -/
theorem test_next_scale :
    nextScale 4 0x41000000 0x40400000 true 0x3B000000 0x3B4B295F 0x3ED1B717 1024 0 = 0x3B800000 ∧
    nextScale 4 0x41000000 0x40400000 true 0x3B000000 0x3B4B295F 0x3ED1B717 1024 1 = 0x3B800000 ∧
    nextScale 4 0x41000000 0x40400000 true 0x3B000000 0 0 0 4 = 0x3B800000 := by decide +kernel

/-- R90: an element of a 16-bit, 2-bit cohort unmasks to 6, and to 103 with one code of 100 (spec/03_narrow_formats.md). -/
theorem test_guard_round : guardRound 16 7 ((18577 + 2 ^ 16 - 17807) % 2 ^ 16) = 6 ∧
    guardRound 16 7 ((18577 + 97 * 128 + 2 ^ 16 - 17807) % 2 ^ 16) = 103 := by decide +kernel

/-- R153: Galois slot 1 at N = 4,096 with k = 5 is slot 1,025 (spec/05_modular_fabric.md, worked example). -/
theorem test_galois_slot : autoSlot 12 5 1 = 1025 := by decide +kernel

/-- R228: the pair tree over four leaves in two parts (spec/08_accumulation.md, worked example). -/
theorem test_pair_tree : fNode (0x3F800000, 0) (0x33800000, 0) = (0x3F800000, 0x33800000) ∧
    fNode (0x33800000, 0) (0x33800000, 0) = (0x34000000, 0) ∧
    fNode (0x3F800000, 0x33800000) (0x34000000, 0) = (0x3F800002, 0xB3800000) := by decide +kernel

/-- R247: the elements of the safety net's row (spec/08_accumulation.md, worked example). -/
theorem test_safety_net : narrow 6 (fMul (fOfInt 2500) 0x3D800000) = (127, true) ∧ narrow 6 (fMul (fOfInt 2500) 0x3D000000) = (78, false) ∧
    narrow 6 (fMul (fOfInt 37) 0x3D000000) = (1, false) := by decide +kernel

/-- R29, R30: unit 252 of PD1 and unit 198 of PD0 do not exist; unit 134 does (spec/01_architecture.md, worked example). -/
theorem test_units : unitExists 134 = true ∧ unitExists 252 = false ∧ unitExists 198 = false := by decide

/-- The table has no bits: a word spells no command. -/
theorem test_no_words : decodeTableWord 8 0 = none ∧ State.reset.withFetchWord 8 0 = State.reset := ⟨rfl, rfl⟩

/-- An empty queue idles. -/
theorem test_idle : step State.reset = .next State.reset := rfl

/-! ### Well-formed commands: each check refuses a number out of its range -/

theorem test_wf_fn : wellFormed (.mbDoorbell 63 16) = true ∧ wellFormed (.mbDoorbell 64 16) = false := by decide
theorem test_wf_ctx : wellFormed (.create .port 255) = true ∧ wellFormed (.create .port 256) = false := by decide
theorem test_wf_cq : wellFormed (.cqDoorbell 0 63 0) = true ∧ wellFormed (.cqDoorbell 0 64 0) = false := by decide
theorem test_wf_evq : wellFormed (.evqEnable 0 3 0) = true ∧ wellFormed (.evqEnable 0 4 0) = false := by decide
theorem test_wf_die : wellFormed (.clearSubtotalEncrypt 0 8) = true ∧ wellFormed (.clearSubtotalEncrypt 0 9) = false := by decide
theorem test_wf_unit : wellFormed (.watchdogExpiry 287) = true ∧ wellFormed (.watchdogExpiry 288) = false := by decide
theorem test_wf_local : wellFormed (.carouselDispatch 0 31) = true ∧ wellFormed (.carouselDispatch 0 32) = false := by decide
theorem test_wf_port : wellFormed (.cableInsertion 25) = true ∧ wellFormed (.cableInsertion 26) = false := by decide
theorem test_wf_eth : wellFormed (.ethFrameReceive 3 3 {}) = true ∧ wellFormed (.ethFrameReceive 4 0 {}) = false := by decide
theorem test_wf_lp : wellFormed (.ethFrameReceive 0 4 {}) = false := by decide
theorem test_wf_key : wellFormed (.seedSumShareMessage 65535 {}) = true ∧ wellFormed (.seedSumShareMessage 65536 {}) = false := by decide
theorem test_wf_ep : wellFormed (.resume 0 262143) = true ∧ wellFormed (.resume 0 262144) = false := by decide
theorem test_wf_block : wellFormed (.synBlockWrite .port 255 0) = true ∧ wellFormed (.synBlockWrite .port 256 0) = false := by decide
theorem test_wf_counter : wellFormed (.synValueWrite 0 16383 0) = true ∧ wellFormed (.synValueWrite 0 16384 0) = false := by decide
theorem test_wf_slot : wellFormed (.recycle 0 0 4095) = true ∧ wellFormed (.recycle 0 0 4096) = false := by decide
theorem test_wf_vault : wellFormed (.vaultInstall 255 1 0 0 0 false) = true ∧ wellFormed (.vaultInstall 256 1 0 0 0 false) = false := by decide
theorem test_wf_trig : wellFormed (.triggerFire 0 255) = true ∧ wellFormed (.triggerFire 0 256) = false := by decide
theorem test_wf_mr : wellFormed (.mrExtend .port 7 0) = true ∧ wellFormed (.mrExtend .port 8 0) = false := by decide
theorem test_wf_cohort : wellFormed (.cohortMerge 0 2097151 .none) = true ∧ wellFormed (.cohortMerge 0 2097152 .none) = false := by decide
theorem test_wf_ir : wellFormed (.tapInstructionLoad 255 0) = true ∧ wellFormed (.tapInstructionLoad 256 0) = false := by decide
theorem test_wf_child : wellFormed (.importWaitExpiry 0 32767 0) = true ∧ wellFormed (.importWaitExpiry 0 32768 0) = false := by decide
theorem test_wf_vf : wellFormed (.vfEnable 63) = true ∧ wellFormed (.vfEnable 64) = false := by decide
theorem test_wf_stream : wellFormed (.kSetGo 7) = true ∧ wellFormed (.kSetGo 8) = false := by decide
theorem test_wf_consumer : wellFormed (.rngQueueRead ⟨7, none⟩) = true ∧ wellFormed (.rngQueueRead ⟨8, none⟩) = false := by decide
theorem test_wf_dir : wellFormed (.linkRekey 0 1 0) = true ∧ wellFormed (.linkRekey 0 2 0) = false := by decide
theorem test_wf_link : wellFormed (.inPackageLinkError 15 8) = true ∧ wellFormed (.inPackageLinkError 16 8) = false := by decide
theorem test_wf_lane : wellFormed (.laneFault 0 ⟨8, 0, 0⟩) = true ∧ wellFormed (.laneFault 0 ⟨9, 0, 0⟩) = false := by decide
theorem test_wf_quote : wellFormed (.quoteRequest .port 0 65535) = true ∧ wellFormed (.quoteRequest .port 0 65536) = false := by decide
theorem test_wf_src : wellFormed (.odStagingTimeout (.mailbox 63) 0) = true ∧ wellFormed (.odStagingTimeout (.mailbox 64) 0) = false ∧
    wellFormed (.odStagingTimeout (.peer 65536) 0) = false := by decide
theorem test_wf_target : wellFormed (.odWriteEntry (.od .port 65535 255 0 0)) = true ∧ wellFormed (.odWriteEntry (.od .port 65536 0 0 0)) = false ∧
    wellFormed (.odWriteEntry (.bar0 64 0 4 0)) = false ∧ wellFormed (.odWriteEntry (.bar2 (2 ^ 28) 4 0)) = false ∧
    wellFormed (.odWriteEntry (.memSpace 64 true)) = false ∧ wellFormed (.odWriteEntry (.dstate 0 2)) = false ∧
    wellFormed (.odWriteEntry (.ide 8 0)) = false := by decide
theorem test_wf_reg : wellFormed (.registerRead (.bar0 63 0 4)) = true ∧ wellFormed (.registerRead (.bar0 64 0 4)) = false ∧
    wellFormed (.registerRead (.bar2 0 4097)) = false := by decide

/-! ### States that meet the hypotheses of the obligations -/

theorem test_contextCommandsTakeEffect_1 : ∃ (src : Src) (n : Nat) (s : State),
    Accepted s src eCtxCommand n 1 ∧ createCheck s (srcFn src) n = none :=
  ⟨.mgmt 5, 3, wRun, by decide +kernel⟩

theorem test_contextCommandsTakeEffect_2 : ∃ (src : Src) (n : Nat) (s : State),
    Accepted s src ePolicyLock n 1 :=
  ⟨.mgmt 5, 3, wCtx, by decide +kernel⟩

theorem test_contextCommandsTakeEffect_3 : ∃ (src : Src) (n : Nat) (v : Nat) (s : State),
    Accepted s src eBasisLoad n v ∧ bits v 6 0 < 80 ∧ bit v 7 = false :=
  ⟨.mgmt 5, 3, 0x4F, wCtx, by decide +kernel⟩

theorem test_contextCommandsTakeEffect_4 : ∃ (src : Src) (k : Nat) (v : Nat) (s : State),
    k < 256 ∧ Accepted s src (if k < 128 then eSynBlockLo else eSynBlockHi) 0 v ∧ blockInUse s (synOwnerOf s k) k = false :=
  ⟨.mgmt 5, 255, 3, { wRun with syn := [(16383, 7), (5, 9)] }, by decide +kernel⟩

theorem test_destroyFreesTheContext_1 : ∃ (src : Src) (n : Nat) (s : State),
    Accepted s src eCtxCommand n 2 ∧ ((rdE s eCtxState n = cxConfigured ∨ rdE s eCtxState n = cxActive)) ∧ (cx s n).teardown = 0 :=
  ⟨.mgmt 5, 3, wCtx, by decide +kernel⟩

theorem test_destroyFreesTheContext_2 : ∃ (n : Nat) (s : State),
    (cx s n).teardown = 3 ∧ s.pwr.frozen = false :=
  ⟨3, setCx wCtx 3 { owner := 0, teardown := 3, stuck := [65] }, by decide +kernel⟩

theorem test_destroyFreesTheContext_3 : ∃ (n : Nat) (s : State),
    rdE s eCtxState n = cxQuarantine ∧ s.pwr.frozen = false :=
  ⟨3, wrE wCtx eCtxState 3 cxQuarantine, by decide +kernel⟩

theorem test_roundCommandsMoveTheRound_1 : ∃ (src : Src) (n : Nat) (s : State),
    Accepted s src eRoundCommand n 1 ∧ roundSt s n = rsNone ∧ rdE s eCtxState n = cxConfigured ∧ (cx s n).opening = false ∧ openCheck s n = none ∧ s.descs.any (tableWriter s n) = false :=
  ⟨.mgmt 5, 3, wCfg, by decide +kernel⟩

theorem test_roundCommandsMoveTheRound_2 : ∃ (src : Src) (n : Nat) (s : State),
    Accepted s src eRoundCommand n 1 ∧ roundSt s n = rsNone ∧ rdE s eCtxState n = cxConfigured ∧ (cx s n).opening = false ∧ openCheck s n = none ∧ s.descs.any (tableWriter s n) = true :=
  ⟨.mgmt 5, 3, { wSet wCfg [(eScaleBase, 2 ^ 26), (eScaleSource, 0)] with descs := [wDesc 1 [(42, 2 ^ 26), (48, 64)]] }, by decide +kernel⟩

theorem test_roundCommandsMoveTheRound_3 : ∃ (src : Src) (n : Nat) (s : State),
    Accepted s src eRoundCommand n 2 ∧ roundSt s n = rsOpen :=
  ⟨.mgmt 5, 3, wRound 1 [(0, { st := .opened, mode := 0 })], by decide +kernel⟩

theorem test_roundCommandsMoveTheRound_4 : ∃ (src : Src) (n : Nat) (s : State),
    Accepted s src eRoundCommand n 3 ∧ abandonable s n = true :=
  ⟨.mgmt 5, 3, wRound 4 [(0, { st := .merged, mode := 0 })], by decide +kernel⟩

theorem test_roundCommandsMoveTheRound_5 : ∃ (src : Src) (n : Nat) (s : State),
    Accepted s src eRoundCommand n 4 ∧ roundSt s n = rsReady :=
  ⟨.mgmt 5, 3, wRound 4 [], by decide +kernel⟩

theorem test_timeMovesTheRound_1 : ∃ (n : Nat) (s : State),
    roundSt s n = rsClosing ∧ s.pwr.frozen = false :=
  ⟨3, wRound 2 [(0, { st := .shut, mode := 0, uncommitted := 1 })], by decide +kernel⟩

theorem test_timeMovesTheRound_2 : ∃ (n : Nat) (s : State),
    roundSt s n = rsClosing ∧ s.pwr.frozen = false ∧ (cx s n).imports = [] :=
  ⟨3, wRound 2 [(0, { st := .shut, mode := 0, uncommitted := 1 })], by decide +kernel⟩

theorem test_timeMovesTheRound_3 : ∃ (n : Nat) (s : State),
    roundSt s n = rsClosing ∧ anyUncommitted s n = false ∧ s.pwr.frozen = false :=
  ⟨3, wRound 2 [(0, { st := .shut, mode := 0 })], by decide +kernel⟩

theorem test_timeMovesTheRound_4 : ∃ (n : Nat) (s : State),
    roundSt s n = rsClosing ∧ anyUncommitted s n = false ∧ s.pwr.frozen = false ∧ (cx s n).imports = [] :=
  ⟨3, wRound 2 [(0, { st := .shut, mode := 0 })], by decide +kernel⟩

theorem test_timeMovesTheRound_5 : ∃ (n : Nat) (s : State),
    readyAllowed s n = true ∧ isRootCopy s n = false ∧ s.pwr.frozen = false :=
  ⟨3, wRound 3 [(0, { st := .merged, mode := 0 })], by decide +kernel⟩

theorem test_timeMovesTheRound_6 : ∃ (n : Nat) (s : State),
    ((roundSt s n = rsExported ∨ roundSt s n = rsAbandoned)) ∧ s.pwr.frozen = false :=
  ⟨3, wRound 6 [], by decide +kernel⟩

theorem test_timeMovesTheRound_7 : ∃ (n : Nat) (s : State),
    roundSt s n ≠ rsReady ∧ s.pwr.frozen = false :=
  ⟨3, { wRound 3 [] with tiles := [(0, { ty := 1, prov := true }), (2, { ty := 1 })] }, by decide +kernel⟩

theorem test_timeMovesTheRound_8 : ∃ (s : State),
    s.pwr.frozen = false :=
  ⟨setCx { wRound 0 [] with tiles := [(7, { ty := 1 }), (2, { ty := 1 })] } 3 { owner := 0, tileGone := [7] }, by decide +kernel⟩

theorem test_timeMovesTheRound_9 : ∃ (n : Nat) (die : Nat) (s : State),
    subReady s n die = true ∧ s.rng.queue = [] ∧ s.pwr.frozen = false :=
  ⟨3, 0, wSub, by decide +kernel⟩

theorem test_timeMovesTheRound_10 : ∃ (n : Nat) (s : State),
    roundSt s n = rsCombining ∧ s.pwr.frozen = false ∧ ((childList s n).filter (fun m => !delivered s n (nodeOf s n m))).isEmpty = false :=
  ⟨3, wKids, by decide +kernel⟩

theorem test_cohortsOpenShutMerge_1 : ∃ (src : Src) (n : Nat) (s : State),
    Accepted s src eCohortCommand n 1 ∧ rdE s eCohortCount n ≠ 0 ∧ cohortOpenCheck s n = none :=
  ⟨.mgmt 5, 3, wSet (wRound 1 []) [(eCohortFirst, 1), (eCohortCount, 2), (eCohortMode, 0)], by decide +kernel⟩

theorem test_cohortsOpenShutMerge_2 : ∃ (src : Src) (n : Nat) (s : State),
    Accepted s src eCohortCommand n 2 ∧ rdE s eCohortCount n ≠ 0 ∧ rdE s eCohortFirst n + rdE s eCohortCount n ≤ cohortsOf s n ∧ (∀ k ∈ namedCohorts s n, (cohortOf s n k).st = .opened) :=
  ⟨.mgmt 5, 3, wSet (wRound 1 [(1, { st := .opened, mode := 0 })]) [(eCohortFirst, 1), (eCohortCount, 1)], by decide +kernel⟩

theorem test_cohortsOpenShutMerge_3 : ∃ (n : Nat) (k : Nat) (s : State),
    s.pwr.frozen = false ∧ (cohortOf s n k).st = .shut ∧ (cohortOf s n k).fixedSet = true ∧ (cohortOf s n k).mode ≠ mdMasked ∧ survivors s n k ≠ 0 ∧ rdE s eMinSurvivors n ≤ survivors s n k ∧ mergeTypeOk s n (cohortOf s n k).mode = true ∧ accBad s n k = false ∧ (mergeWords s n k (survivors s n k)).isSome = true :=
  ⟨3, 0, wLedger (wRound 1 [(0, { st := .shut, mode := 0, fixedSet := true, acc := [(3, 5)], chk := [(0, 35)] })]) 1, by decide +kernel⟩

theorem test_cohortsOpenShutMerge_4 : ∃ (n : Nat) (k : Nat) (s : State),
    s.pwr.frozen = false ∧ (cohortOf s n k).st = .shut ∧ (cohortOf s n k).graceDone = false :=
  ⟨3, 0, wRound 1 [(0, { st := .shut, mode := 0, uncommitted := 1 })], by decide +kernel⟩

theorem test_cohortsOpenShutMerge_5 : ∃ (m : Nat) (x : RxMsg) (c : Contrib) (s : State),
    s.pwr.frozen = false ∧ rxOf s m = some x ∧ x.con = some c ∧ x.verified = true :=
  ⟨9, wRx, { ctx := 3, cohort := 0, slot := 2, mode := 0 }, { wRound 1 [(0, { st := .opened, mode := 0, uncommitted := 1 })] with rxs := [wRx] }, by decide +kernel⟩

theorem test_cohortsOpenShutMerge_6 : ∃ (m : Nat) (x : RxMsg) (s : State),
    s.pwr.frozen = false ∧ rxOf s m = some x ∧ isAdmission (epOf s x.hdr.dstEp) = true ∧ x.verified = false :=
  ⟨9, { wRx with verified := false, con := none }, { wRound 1 [] with rxs := [{ wRx with verified := false, con := none }], eps := [(4, { st := 1, flags := 1 })] }, by decide +kernel⟩

theorem test_maskedCommandsUnmask_1 : ∃ (i : Nat) (s : State) (d : Desc),
    Runs s i 0x20 d ∧ df d 32 1 ≠ 1 :=
  ⟨1, wMasked wBuf 0x20 [(44, 1)], wDesc 0x20 [(44, 1)], by decide +kernel⟩

theorem test_maskedCommandsUnmask_2 : ∃ (i : Nat) (s : State) (d : Desc) (b : Nat × ShareBuf),
    Runs s i 0x20 d ∧ df d 32 1 = 1 ∧ bufOf s (dCtx d) (df d 36 4) = some b :=
  ⟨1, wMasked wBuf 0x20 [(32, 1), (44, 1)], wDesc 0x20 [(32, 1), (44, 1)], (0, wBuf), by decide +kernel⟩

theorem test_maskedCommandsUnmask_3 : ∃ (i : Nat) (s : State) (d : Desc) (b : Nat × ShareBuf),
    Runs s i 0x21 d ∧ bufOf s (dCtx d) (df d 36 4) = some b ∧ ((bit (df d 32 1) 0 = false ∨ disagreeing (d.taken.take (latE d eCommitteeThreshold 0)) d.taken = [])) :=
  ⟨1, wMasked { wBuf with expanded := [] } 0x21 [], wDesc 0x21 [], (0, { wBuf with expanded := [] }), by decide +kernel⟩

theorem test_maskedCommandsUnmask_4 : ∃ (i : Nat) (s : State) (d : Desc),
    Runs s i 0x22 d ∧ (cohortOf s (dCtx d) (df d 36 4)).st = .shut ∧ (bufOf s (dCtx d) (df d 36 4)).isSome = true ∧ ((∀ h, h < df d 44 4 → maskedRowOk s d (unmaskSum s d) (h + df d 40 4) = true)) :=
  ⟨1, wMasked wBuf 0x22 [(44, 1)], wDesc 0x22 [(44, 1)], by decide +kernel⟩

theorem test_maskedCommandsUnmask_5 : ∃ (n : Nat) (k : Nat) (b : Nat) (rest : List Nat) (s : State),
    s.pwr.frozen = false ∧ (cx s n).bindWait = k :: rest ∧ rdE s eMinSurvivors n ≤ survivors s n k ∧ (List.range (cfgE s eShareBuffers n)).find? (fun b => (tfind (cx s n).bufs b).isNone) = some b :=
  ⟨3, 0, 0, [], setCx (wMasked wBuf 0 []) 3 { cx (wMasked wBuf 0 []) 3 with bufs := [], bindWait := [0] }, by decide +kernel⟩

theorem test_maskedCommandsUnmask_6 : ∃ (key : Nat) (m : ShareMsg) (b : Nat × ShareBuf) (s : State),
    s.pwr.frozen = false ∧ (keyOf s key).st = 1 ∧ (keyOf s key).kind = 2 ∧ shareCheck s key m = none ∧ bufOf s (keyOf s key).ctx m.cohort = some b :=
  ⟨8, { member := 2, round := 1, cohort := 0, coeffs := [(1, 7)] }, (0, wBuf), wMasked wBuf 0 [], by decide +kernel⟩

theorem test_montgomeryProduct_1 : ∃ (p : Nat) (mont : Nat) (x : Nat) (y : Nat),
    2 ^ 30 < p ∧ p < 2 ^ 31 ∧ p % 2 = 1 ∧ p * mont % 2 ^ 32 = 2 ^ 32 - 1 ∧ x < 2 ^ 31 ∧ y < p :=
  ⟨romPrime 0, fld (basisWord (romPrime 0) (romRoot 0)) 4 4, 2 ^ 31 - 1, romPrime 0 - 1, by decide +kernel⟩

theorem test_montgomeryFormRoundTrip_1 : ∃ (w : Nat) (a : Nat),
    basisOk w = true ∧ a < fld w 0 4 :=
  ⟨basisWord (romPrime 0) (romRoot 0), romPrime 0 - 1, by decide +kernel⟩

theorem test_elementWiseResults_1 : ∃ (i : Nat) (s : State) (d : Desc),
    Runs s i 0x32 d ∧ mOp d = 0 ∧ modCheck s d = none ∧ modEmpty d = false ∧ WordsInRange s d :=
  ⟨1, wMod [] 0x32 (wModF 0 [(46, 0x10000)]), wDesc 0x32 (wModF 0 [(46, 0x10000)]), ⟨by decide +kernel, by decide +kernel, by decide +kernel, by decide +kernel,     words_gap _ _ (by decide +kernel) (by decide +kernel) (by decide +kernel) (fun _ => by decide +kernel) (fun _ => by decide +kernel) (by decide +kernel)⟩⟩

theorem test_elementWiseResults_2 : ∃ (i : Nat) (s : State) (d : Desc),
    Runs s i 0x32 d ∧ mOp d = 1 ∧ modCheck s d = none ∧ modEmpty d = false ∧ WordsInRange s d :=
  ⟨1, wMod [] 0x32 (wModF 1 [(46, 0x10000)]), wDesc 0x32 (wModF 1 [(46, 0x10000)]), ⟨by decide +kernel, by decide +kernel, by decide +kernel, by decide +kernel,     words_gap _ _ (by decide +kernel) (by decide +kernel) (by decide +kernel) (fun _ => by decide +kernel) (fun _ => by decide +kernel) (by decide +kernel)⟩⟩

theorem test_elementWiseResults_3 : ∃ (i : Nat) (s : State) (d : Desc),
    Runs s i 0x32 d ∧ mOp d = 2 ∧ modCheck s d = none ∧ modEmpty d = false ∧ WordsInRange s d :=
  ⟨1, wMod [] 0x32 (wModF 2 [(46, 0x10000)]), wDesc 0x32 (wModF 2 [(46, 0x10000)]), ⟨by decide +kernel, by decide +kernel, by decide +kernel, by decide +kernel,     words_gap _ _ (by decide +kernel) (by decide +kernel) (by decide +kernel) (fun _ => by decide +kernel) (fun _ => by decide +kernel) (by decide +kernel)⟩⟩

theorem test_elementWiseResults_4 : ∃ (i : Nat) (s : State) (d : Desc),
    Runs s i 0x32 d ∧ mOp d = 3 ∧ modCheck s d = none ∧ modEmpty d = false ∧ WordsInRange s d :=
  ⟨1, wMod [] 0x32 (wModF 3 [(46, 0x10000)]), wDesc 0x32 (wModF 3 [(46, 0x10000)]), ⟨by decide +kernel, by decide +kernel, by decide +kernel, by decide +kernel,     words_gap _ _ (by decide +kernel) (by decide +kernel) (by decide +kernel) (fun _ => by decide +kernel) (fun _ => by decide +kernel) (by decide +kernel)⟩⟩

theorem test_elementWiseResults_5 : ∃ (i : Nat) (s : State) (d : Desc),
    Runs s i 0x32 d ∧ mOp d = 4 ∧ modCheck s d = none ∧ modEmpty d = false ∧ WordsInRange s d :=
  ⟨1, wMod [] 0x32 (wModF 4 []), wDesc 0x32 (wModF 4 []), ⟨by decide +kernel, by decide +kernel, by decide +kernel, by decide +kernel,     words_gap _ _ (by decide +kernel) (by decide +kernel) (by decide +kernel) (fun _ => by decide +kernel) (fun _ => by decide +kernel) (by decide +kernel)⟩⟩

theorem test_elementWiseResults_6 : ∃ (i : Nat) (s : State) (d : Desc),
    Runs s i 0x32 d ∧ mOp d = 5 ∧ modCheck s d = none ∧ modEmpty d = false ∧ WordsInRange s d :=
  ⟨1, wMod [] 0x32 (wModF 5 []), wDesc 0x32 (wModF 5 []), ⟨by decide +kernel, by decide +kernel, by decide +kernel, by decide +kernel,     words_gap _ _ (by decide +kernel) (by decide +kernel) (by decide +kernel) (fun _ => by decide +kernel) (fun _ => by decide +kernel) (by decide +kernel)⟩⟩

theorem test_elementWiseResults_7 : ∃ (i : Nat) (s : State) (d : Desc),
    Runs s i 0x33 d ∧ mOp d = 0 ∧ modCheck s d = none ∧ modEmpty d = false ∧ WordsInRange s d :=
  ⟨1, wMod [] 0x33 (wModF 0 [(46, 0x10000)]), wDesc 0x33 (wModF 0 [(46, 0x10000)]), ⟨by decide +kernel, by decide +kernel, by decide +kernel, by decide +kernel,     words_gap _ _ (by decide +kernel) (by decide +kernel) (by decide +kernel) (fun _ => by decide +kernel) (fun _ => by decide +kernel) (by decide +kernel)⟩⟩

theorem test_elementWiseResults_8 : ∃ (i : Nat) (s : State) (d : Desc),
    Runs s i 0x33 d ∧ mOp d = 1 ∧ modCheck s d = none ∧ modEmpty d = false ∧ WordsInRange s d :=
  ⟨1, wMod [] 0x33 (wModF 1 [(46, 0x10000)]), wDesc 0x33 (wModF 1 [(46, 0x10000)]), ⟨by decide +kernel, by decide +kernel, by decide +kernel, by decide +kernel,     words_gap _ _ (by decide +kernel) (by decide +kernel) (by decide +kernel) (fun _ => by decide +kernel) (fun _ => by decide +kernel) (by decide +kernel)⟩⟩

theorem test_elementWiseResults_9 : ∃ (i : Nat) (s : State) (d : Desc),
    Runs s i 0x33 d ∧ mOp d = 2 ∧ modCheck s d = none ∧ modEmpty d = false ∧ WordsInRange s d :=
  ⟨1, wMod [] 0x33 (wModF 2 [(46, 0x10000)]), wDesc 0x33 (wModF 2 [(46, 0x10000)]), ⟨by decide +kernel, by decide +kernel, by decide +kernel, by decide +kernel,     words_gap _ _ (by decide +kernel) (by decide +kernel) (by decide +kernel) (fun _ => by decide +kernel) (fun _ => by decide +kernel) (by decide +kernel)⟩⟩

theorem test_elementWiseResults_10 : ∃ (i : Nat) (s : State) (d : Desc),
    Runs s i 0x33 d ∧ mOp d = 3 ∧ modCheck s d = none ∧ modEmpty d = false ∧ WordsInRange s d :=
  ⟨1, wMod [] 0x33 (wModF 3 [(46, 0x10000)]), wDesc 0x33 (wModF 3 [(46, 0x10000)]), ⟨by decide +kernel, by decide +kernel, by decide +kernel, by decide +kernel,     words_gap _ _ (by decide +kernel) (by decide +kernel) (by decide +kernel) (fun _ => by decide +kernel) (fun _ => by decide +kernel) (by decide +kernel)⟩⟩

theorem test_transformResults_1 : ∃ (i : Nat) (s : State) (d : Desc),
    Runs s i 0x30 d ∧ modCheck s d = none ∧ modEmpty d = false ∧ WordsInRange s d :=
  ⟨1, wMod [] 0x30 (wModF 0 []), wDesc 0x30 (wModF 0 []), ⟨by decide +kernel, by decide +kernel, by decide +kernel,     words_gap _ _ (by decide +kernel) (by decide +kernel) (by decide +kernel) (fun _ => by decide +kernel) (fun _ => by decide +kernel) (by decide +kernel)⟩⟩

theorem test_transformResults_2 : ∃ (i : Nat) (s : State) (d : Desc),
    Runs s i 0x31 d ∧ modCheck s d = none ∧ modEmpty d = false ∧ WordsInRange s d :=
  ⟨1, wMod [] 0x31 (wModF 0 []), wDesc 0x31 (wModF 0 []), ⟨by decide +kernel, by decide +kernel, by decide +kernel,     words_gap _ _ (by decide +kernel) (by decide +kernel) (by decide +kernel) (fun _ => by decide +kernel) (fun _ => by decide +kernel) (by decide +kernel)⟩⟩

theorem test_transformResults_3 : ∃ (i : Nat) (s : State) (d : Desc),
    Runs s i 0x34 d ∧ mOp d = 0 ∧ modCheck s d = none ∧ modEmpty d = false ∧ WordsInRange s d :=
  ⟨1, { wMod [] 0x34 [] with descs := [wConvD 0] }, wConvD 0, ⟨by decide +kernel, by decide +kernel, by decide +kernel, by decide +kernel,     words_gap _ _ (by decide +kernel) (by decide +kernel) (by decide +kernel) (fun h => absurd h (by decide +kernel)) (fun h => absurd h (by decide +kernel)) (by decide +kernel)⟩⟩

theorem test_transformResults_4 : ∃ (i : Nat) (s : State) (d : Desc),
    Runs s i 0x34 d ∧ mOp d = 1 ∧ modCheck s d = none ∧ modEmpty d = false ∧ WordsInRange s d :=
  ⟨1, { wMod [] 0x34 [] with descs := [wConvD 1] }, wConvD 1, ⟨by decide +kernel, by decide +kernel, by decide +kernel, by decide +kernel,     words_gap _ _ (by decide +kernel) (by decide +kernel) (by decide +kernel) (fun h => absurd h (by decide +kernel)) (fun h => absurd h (by decide +kernel)) (by decide +kernel)⟩⟩

theorem test_transformResults_5 : ∃ (i : Nat) (s : State) (d : Desc),
    Runs s i 0x34 d ∧ mOp d = 2 ∧ modCheck s d = none ∧ modEmpty d = false :=
  ⟨1, wMod [] 0x34 (wModF 2 [(58, 81), (59, 1)]), wDesc 0x34 (wModF 2 [(58, 81), (59, 1)]), by decide +kernel⟩

theorem test_transformResults_6 : ∃ (i : Nat) (s : State) (d : Desc),
    Runs s i 0x35 d ∧ mOp d = 0 ∧ modCheck s d = none ∧ modEmpty d = false ∧ WordsInRange s d :=
  ⟨1, wMod [] 0x35 (wModF 0 [(58, 3)]), wDesc 0x35 (wModF 0 [(58, 3)]), ⟨by decide +kernel, by decide +kernel, by decide +kernel, by decide +kernel,     words_gap _ _ (by decide +kernel) (by decide +kernel) (by decide +kernel) (fun _ => by decide +kernel) (fun _ => by decide +kernel) (by decide +kernel)⟩⟩

theorem test_transformResults_7 : ∃ (i : Nat) (s : State) (d : Desc),
    Runs s i 0x35 d ∧ mOp d = 1 ∧ modCheck s d = none ∧ modEmpty d = false ∧ WordsInRange s d :=
  ⟨1, wMod [] 0x35 (wModF 1 [(58, 3)]), wDesc 0x35 (wModF 1 [(58, 3)]), ⟨by decide +kernel, by decide +kernel, by decide +kernel, by decide +kernel,     words_gap _ _ (by decide +kernel) (by decide +kernel) (by decide +kernel) (fun _ => by decide +kernel) (fun _ => by decide +kernel) (by decide +kernel)⟩⟩

theorem test_automorphIsGaloisMap_1 : ∃ (n : Nat) (k : Nat) (u : Nat),
    1 ≤ n ∧ n ≤ 17 ∧ k % 2 = 1 ∧ u < 2 ^ n :=
  ⟨17, 2 ^ 18 - 1, 2 ^ 17 - 1, by decide +kernel⟩

theorem test_inttUndoesNtt_1 : ∃ (w : Nat) (n : Nat) (a : Nat → Nat),
    basisOk w = true ∧ fld w 12 4 ≠ 0 ∧ 12 ≤ n ∧ n ≤ 17 ∧ ((∀ t, t < 2 ^ n → a t < fld w 0 4)) :=
  ⟨basisWord (romPrime 0) (romRoot 0), 12, fun t => t, ⟨by decide +kernel, by decide +kernel, by decide, by decide, fun t h => Nat.lt_of_lt_of_le h (by decide +kernel)⟩⟩

theorem test_ciphertextResults_1 : ∃ (i : Nat) (s : State) (d : Desc),
    SealedReady s i 0x40 d ∧ ctHigh s d (levelA s d) 2 (ctOperandB s d) = false :=
  ⟨1, wSeal 1 1 0x43 0x40 [(33, 7), (36, 65536), (42, 262144), (48, 524288)], wSealD 0x40 [(33, 7), (36, 65536), (42, 262144), (48, 524288)], ⟨⟨by decide +kernel, by decide +kernel, rfl, ct_gap _ _ _ _ _ _ _ (by decide +kernel) (by decide +kernel) (by decide +kernel)⟩, ct_gap _ _ _ _ _ _ _ (by decide +kernel) (by decide +kernel) (by decide +kernel)⟩⟩

theorem test_ciphertextResults_2 : ∃ (i : Nat) (s : State) (d : Desc),
    SealedReady s i 0x41 d ∧ ctHigh s d (levelA s d) 1 (ctOperandB s d) = false :=
  ⟨1, wSeal 1 1 0x50 0x41 [(33, 7), (36, 65536), (42, 262144), (48, 524288)], wSealD 0x41 [(33, 7), (36, 65536), (42, 262144), (48, 524288)], ⟨⟨by decide +kernel, by decide +kernel, rfl, ct_gap _ _ _ _ _ _ _ (by decide +kernel) (by decide +kernel) (by decide +kernel)⟩, ct_gap _ _ _ _ _ _ _ (by decide +kernel) (by decide +kernel) (by decide +kernel)⟩⟩

theorem test_ciphertextResults_3 : ∃ (i : Nat) (s : State) (d : Desc),
    SealedReady s i 0x44 d :=
  ⟨1, wSeal 1 1 0x43 0x44 [(33, 7), (36, 65536), (48, 524288)], wSealD 0x44 [(33, 7), (36, 65536), (48, 524288)], ⟨by decide +kernel, by decide +kernel, rfl, ct_gap _ _ _ _ _ _ _ (by decide +kernel) (by decide +kernel) (by decide +kernel)⟩⟩

set_option maxRecDepth 10000 in
theorem test_ciphertextResults_4 : ∃ (i : Nat) (s : State) (d : Desc),
    SealedReady s i 0x42 d ∧ (switchChunks s (dCtx d) (df d 54 2) (levelA s d)).all (labelOk s (dCtx d) (posOf s (dCtx d) (df d 32 1))) = true ∧ ((∀ k ∈ switchLimbs s (dCtx d) (levelA s d), ∀ j t part, j < digitsUsed s (dCtx d) (levelA s d) →
      t < 2 ^ ksLogN s (dCtx d) → part < 2 →
      keyWord s (dCtx d) (df d 32 1) (df d 54 2) j part k t < wPrime (limbWord s (dCtx d) (latBasis d) k))) :=
  ⟨1, wSeal 1 2 0x43 0x42 [(33, 7), (36, 65536), (42, 262144), (48, 524288)], wSealD 0x42 [(33, 7), (36, 65536), (42, 262144), (48, 524288)], ⟨⟨by decide +kernel, by decide +kernel, rfl, ct_gap _ _ _ _ _ _ _ (by decide +kernel) (by decide +kernel) (by decide +kernel)⟩, by decide +kernel, fun k hk j t part _ _ _ => key_gap _ _ _ _ _ _ _ _ 65536000 (by decide +kernel) (by decide +kernel) (by decide +kernel) ((by decide +kernel : ∀ k ∈ switchLimbs (wSeal 1 2 0x43 0x42 [(33, 7), (36, 65536), (42, 262144), (48, 524288)]) 3 1, 0 < wPrime (limbWord (wSeal 1 2 0x43 0x42 [(33, 7), (36, 65536), (42, 262144), (48, 524288)]) 3 (latBasis (wSealD 0x42 [(33, 7), (36, 65536), (42, 262144), (48, 524288)])) k)) k hk)⟩⟩

set_option maxRecDepth 10000 in
theorem test_ciphertextResults_5 : ∃ (i : Nat) (s : State) (d : Desc),
    SealedReady s i 0x43 d ∧ (switchChunks s (dCtx d) (df d 54 2) (levelA s d)).all (labelOk s (dCtx d) (posOf s (dCtx d) (df d 32 1))) = true ∧ ((∀ k ∈ switchLimbs s (dCtx d) (levelA s d), ∀ j t part, j < digitsUsed s (dCtx d) (levelA s d) →
      t < 2 ^ ksLogN s (dCtx d) → part < 2 →
      keyWord s (dCtx d) (df d 32 1) (df d 54 2) j part k t < wPrime (limbWord s (dCtx d) (latBasis d) k))) :=
  ⟨1, wSeal 1 1 0x43 0x43 [(33, 7), (36, 65536), (42, 262144), (48, 524288), (54, 1), (56, 3)], wSealD 0x43 [(33, 7), (36, 65536), (42, 262144), (48, 524288), (54, 1), (56, 3)], ⟨⟨by decide +kernel, by decide +kernel, rfl, ct_gap _ _ _ _ _ _ _ (by decide +kernel) (by decide +kernel) (by decide +kernel)⟩, by decide +kernel, fun k hk j t part _ _ _ => key_gap _ _ _ _ _ _ _ _ 65536000 (by decide +kernel) (by decide +kernel) (by decide +kernel) ((by decide +kernel : ∀ k ∈ switchLimbs (wSeal 1 1 0x43 0x43 [(33, 7), (36, 65536), (42, 262144), (48, 524288), (54, 1), (56, 3)]) 3 1, 0 < wPrime (limbWord (wSeal 1 1 0x43 0x43 [(33, 7), (36, 65536), (42, 262144), (48, 524288), (54, 1), (56, 3)]) 3 (latBasis (wSealD 0x43 [(33, 7), (36, 65536), (42, 262144), (48, 524288), (54, 1), (56, 3)])) k)) k hk)⟩⟩

theorem test_encryptionAndShares_1 : ∃ (i : Nat) (s : State) (d : Desc),
    Runs s i 0x45 d ∧ df d 35 1 ≠ 1 ∧ sealedCheck s d = none ∧ sReload s d = s ∧ sEmpty d = false ∧ s.rng.queue ≠ [] ∧ (publicChunks s (dCtx d) (df d 34 1)).all (labelOk s (dCtx d) (posOf s (dCtx d) (df d 32 1))) = true :=
  ⟨1, wSeal 1 1 0x43 0x45 [(33, 7), (34, 1), (35, 0), (36, 65536), (48, 524288), (56, 1)], wSealD 0x45 [(33, 7), (34, 1), (35, 0), (36, 65536), (48, 524288), (56, 1)], by refine ⟨?_, ?_, ?_, rfl, ?_, ?_, ?_⟩ <;> decide +kernel⟩

theorem test_encryptionAndShares_2 : ∃ (i : Nat) (s : State) (d : Desc),
    Runs s i 0x45 d ∧ df d 35 1 = 1 ∧ sealedCheck s d = none ∧ sReload s d = s ∧ sEmpty d = false ∧ s.rng.queue ≠ [] ∧ (publicChunks s (dCtx d) (df d 34 1)).all (labelOk s (dCtx d) (posOf s (dCtx d) (df d 32 1))) = true :=
  ⟨1, wSeal 1 1 0x43 0x45 [(33, 7), (34, 1), (35, 1), (36, 65536), (48, 524288), (56, 1)], wSealD 0x45 [(33, 7), (34, 1), (35, 1), (36, 65536), (48, 524288), (56, 1)], by refine ⟨?_, ?_, ?_, rfl, ?_, ?_, ?_⟩ <;> decide +kernel⟩

theorem test_encryptionAndShares_3 : ∃ (i : Nat) (s : State) (d : Desc),
    Runs s i 0x45 d ∧ df d 35 1 ≠ 1 ∧ sealedCheck s d = none ∧ sEmpty d = true :=
  ⟨1, wSeal 1 1 0x43 0x45 [(33, 7), (48, 524288)], wSealD 0x45 [(33, 7), (48, 524288)], by decide +kernel⟩

theorem test_encryptionAndShares_4 : ∃ (i : Nat) (s : State) (d : Desc),
    SealedReady s i 0x46 d ∧ s.rng.queue ≠ [] :=
  ⟨1, wSeal 4 1 0x43 0x46 [(33, 4), (36, 262144), (48, 524288), (56, 1)], wSealD 0x46 [(33, 4), (36, 262144), (48, 524288), (56, 1)], ⟨⟨by decide +kernel, by decide +kernel, rfl, ct_gap _ _ _ _ _ _ _ (by decide +kernel) (by decide +kernel) (by decide +kernel)⟩, by decide +kernel⟩⟩

theorem test_encryptionAndShares_5 : ∃ (key : Nat) (m : KeyShareMsg) (s : State),
    s.pwr.frozen = false ∧ (keyOf s key).st = 1 ∧ (keyOf s key).kind = 2 ∧ keyShareCheck s key m = none :=
  ⟨8, { len := 64 + 4 * 3 * 4096, member := 1, keySetId := 1, logN := 12, limbs := 3 }, { wSet (wSeal 1 1 0x43 0x40 []) [(eKeyshareState, 0)] with keys := [(8, { st := 1, kind := 2, ctx := 3 })] }, by decide +kernel⟩

set_option maxRecDepth 10000 in
theorem test_sharedLocalResults_1 : ∃ (i : Nat) (s : State) (d : Desc),
    Runs s i 0x50 d ∧ df d 32 1 = 0 ∧ sharedCheck s d = none :=
  ⟨1, wShare 3 [] 0x50 (wVec 0 1), wDesc 0x50 (wVec 0 1), ⟨by decide +kernel, by decide +kernel, by rw [sharedCheck, shPairsOk, show dCtx (wDesc 0x50 (wVec 0 1)) = 3 by decide +kernel, sharedOk_of _ _ _ rfl rfl (by decide +kernel)]; decide +kernel⟩⟩

set_option maxRecDepth 10000 in
theorem test_sharedLocalResults_2 : ∃ (i : Nat) (s : State) (d : Desc),
    Runs s i 0x50 d ∧ df d 32 1 = 1 ∧ sharedCheck s d = none :=
  ⟨1, wShare 3 [] 0x50 wVecP, wDesc 0x50 wVecP, ⟨by decide +kernel, by decide +kernel, by rw [sharedCheck, shPairsOk, show dCtx (wDesc 0x50 wVecP) = 3 by decide +kernel, sharedOk_of _ _ _ rfl rfl (by decide +kernel)]; decide +kernel⟩⟩

set_option maxRecDepth 10000 in
theorem test_sharedLocalResults_3 : ∃ (i : Nat) (s : State) (d : Desc),
    Runs s i 0x50 d ∧ df d 32 1 = 2 ∧ sharedCheck s d = none :=
  ⟨1, wShare 3 [] 0x50 ([(32, 2)] ++ wVec 0 1), wDesc 0x50 ([(32, 2)] ++ wVec 0 1), ⟨by decide +kernel, by decide +kernel, by rw [sharedCheck, shPairsOk, show dCtx (wDesc 0x50 ([(32, 2)] ++ wVec 0 1)) = 3 by decide +kernel, sharedOk_of _ _ _ rfl rfl (by decide +kernel)]; decide +kernel⟩⟩

set_option maxRecDepth 10000 in
theorem test_sharedLocalResults_4 : ∃ (i : Nat) (s : State) (d : Desc),
    Runs s i 0x51 d ∧ sharedCheck s d = none :=
  ⟨1, wShare 3 [] 0x51 ([(60, 3)] ++ wVecA 0 1), wDesc 0x51 ([(60, 3)] ++ wVecA 0 1), ⟨by decide +kernel, by rw [sharedCheck, shPairsOk, show dCtx (wDesc 0x51 ([(60, 3)] ++ wVecA 0 1)) = 3 by decide +kernel, sharedOk_of _ _ _ rfl rfl (by decide +kernel)]; decide +kernel⟩⟩

set_option maxRecDepth 10000 in
theorem test_exchangesBeginAndStore_1 : ∃ (i : Nat) (p : Nat) (s : State) (d : Desc),
    Runs s i 0x52 d ∧ sharedCheck s d = none ∧ shCount d ≠ 0 ∧ p ∈ peerList s (dCtx d) ∧ handOf s d p = none ∧ (∀ q ∈ peerList s (dCtx d), (handOf s d q).all (handAgrees (xMsg s d xHand [])) = true) :=
  ⟨1, 1, wShare 3 [] 0x52 (wVec 0 1), wDesc 0x52 (wVec 0 1), ⟨by decide +kernel, by rw [sharedCheck, shPairsOk, show dCtx (wDesc 0x52 (wVec 0 1)) = 3 by decide +kernel, sharedOk_of _ _ _ rfl rfl (by decide +kernel)]; decide +kernel, by decide +kernel⟩⟩

set_option maxRecDepth 10000 in
theorem test_exchangesBeginAndStore_2 : ∃ (i : Nat) (p : Nat) (s : State) (d : Desc),
    Runs s i 0x53 d ∧ sharedCheck s d = none ∧ shCount d ≠ 0 ∧ p ∈ peerList s (dCtx d) ∧ handOf s d p = none ∧ (∀ q ∈ peerList s (dCtx d), (handOf s d q).all (handAgrees (xMsg s d xHand [])) = true) :=
  ⟨1, 1, wShare 4 [] 0x53 ([(34, 0), (38, 1)]), wDesc 0x53 ([(34, 0), (38, 1)]), ⟨by decide +kernel, by rw [sharedCheck, shPairsOk, show dCtx (wDesc 0x53 ([(34, 0), (38, 1)])) = 3 by decide +kernel, sharedOk_of _ _ _ rfl rfl (by decide +kernel)]; decide +kernel, by decide +kernel⟩⟩

set_option maxRecDepth 10000 in
theorem test_exchangesBeginAndStore_3 : ∃ (i : Nat) (s : State) (d : Desc),
    Runs s i 0x52 d ∧ sharedCheck s d = none ∧ shCount d = 0 :=
  ⟨1, wShare 3 [] 0x52 (wVec 0 0), wDesc 0x52 (wVec 0 0), ⟨by decide +kernel, by rw [sharedCheck, shPairsOk, show dCtx (wDesc 0x52 (wVec 0 0)) = 3 by decide +kernel, sharedOk_of _ _ _ rfl rfl (by decide +kernel)]; decide +kernel, by decide +kernel⟩⟩

set_option maxRecDepth 10000 in
theorem test_exchangesBeginAndStore_4 : ∃ (i : Nat) (s : State) (d : Desc),
    Runs s i 0x53 d ∧ sharedCheck s d = none ∧ shCount d = 0 :=
  ⟨1, wShare 4 [] 0x53 ([]), wDesc 0x53 ([]), ⟨by decide +kernel, by rw [sharedCheck, shPairsOk, show dCtx (wDesc 0x53 ([])) = 3 by decide +kernel, sharedOk_of _ _ _ rfl rfl (by decide +kernel)]; decide +kernel, by decide +kernel⟩⟩

theorem test_exchangesBeginAndStore_5 : ∃ (i : Nat) (s : State) (d : Desc),
    s.pwr.frozen = false ∧ descOf s i = some d ∧ ((d.phase = .waiting 1 ∨ d.phase = .waiting 2)) ∧ dOp d = 0x53 :=
  ⟨1, { wShare 3 [] 0x53 [] with descs := [{ wDesc 0x53 ([(38, 1)]) with phase := .waiting 1 }] }, { wDesc 0x53 ([(38, 1)]) with phase := .waiting 1 }, by decide +kernel⟩

theorem test_exchangesBeginAndStore_6 : ∃ (i : Nat) (s : State) (d : Desc),
    s.pwr.frozen = false ∧ descOf s i = some d ∧ ((d.phase = .waiting 1 ∨ d.phase = .waiting 2)) ∧ dOp d = 0x52 :=
  ⟨1, { wShare 3 [] 0x52 [] with descs := [{ wDesc 0x52 ([(38, 1)]) with phase := .waiting 1 }] }, { wDesc 0x52 ([(38, 1)]) with phase := .waiting 1 }, by decide +kernel⟩

theorem test_exchangesBeginAndStore_7 : ∃ (key : Nat) (m : ExchangeMsg) (s : State),
    s.pwr.frozen = false ∧ (keyOf s key).st = 1 ∧ exchangeCheck s key m = none ∧ ((∀ d ∈ s.descs, dOp d ≠ 0x52 ∧ dOp d ≠ 0x53)) :=
  ⟨6, { party := 1, setId := 1, round := 1, rowCount := 1 }, { wXkey with keys := [(6, { st := 1, kind := 3, ctx := 3, peerHash := 7 })] }, by decide +kernel⟩

theorem test_exchangesBeginAndStore_8 : ∃ (key : Nat) (m : TripleMsg) (s : State),
    s.pwr.frozen = false ∧ (keyOf s key).st = 1 ∧ tripleCheck s key m = none :=
  ⟨6, { setId := 1, round := 1, batch := 2 }, { wXkey with keys := [(6, { st := 1, kind := 4, ctx := 3, peerHash := 7 })] }, by decide +kernel⟩

theorem test_exchangesBeginAndStore_9 : ∃ (key : Nat) (p : Nat) (q : PeerQuote) (s : State),
    s.pwr.frozen = false ∧ (keyOf s key).st = 1 ∧ (keyOf s key).kind = 3 ∧ (peerList s (keyOf s key).ctx).find? (fun p => partyKey s (keyOf s key).ctx p == (keyOf s key).peerHash) = some p ∧ q.sigOk = true ∧ fld q.body 32 32 = (keyOf s key).confirm ∧ fld q.body 1 1 = effLc s ∧ bit (fld q.body 2 1) 0 = true ∧ fld q.body 418 1 = 1 ∧ fld q.body 448 32 = rdE s ePolicyDigest (keyOf s key).ctx :=
  ⟨6, 1, { body := 2 ^ 8 + 2 ^ 16 + 2 ^ 3344, sigOk := true }, { wXkey with keys := [(6, { st := 1, kind := 3, ctx := 3, peerHash := 7 })] }, by decide +kernel⟩

theorem test_accumulationsWriteTheirRows_1 : ∃ (i : Nat) (s : State) (d : Desc),
    Runs s i 0x10 d ∧ aOp d ≠ 1 ∧ accCheck s d = none :=
  ⟨1, wAcc wSrc wInt 0x10 (wA 0 1 0), wAccD 0x10 (wA 0 1 0), by decide +kernel⟩

theorem test_accumulationsWriteTheirRows_2 : ∃ (i : Nat) (s : State) (d : Desc),
    Runs s i 0x10 d ∧ aOp d = 1 ∧ accCheck s d = none :=
  ⟨1, wAcc wSrc wInt 0x10 (wA 1 3 0), wAccD 0x10 (wA 1 3 0), by decide +kernel⟩

theorem test_accumulationsWriteTheirRows_3 : ∃ (i : Nat) (s : State) (d : Desc),
    Runs s i 0x11 d ∧ accCheck s d = none :=
  ⟨1, wAcc wSrc wFlt 0x11 (wA 0 2 0), wAccD 0x11 (wA 0 2 0), by decide +kernel⟩

theorem test_accumulationsWriteTheirRows_4 : ∃ (i : Nat) (s : State) (d : Desc),
    Runs s i 0x12 d ∧ aOp d ≠ 1 ∧ accCheck s d = none :=
  ⟨1, wAcc wSrc wM24 0x12 (wA 0 0 24), wAccD 0x12 (wA 0 0 24), by decide +kernel⟩

theorem test_accumulationsWriteTheirRows_5 : ∃ (i : Nat) (s : State) (d : Desc),
    Runs s i 0x12 d ∧ aOp d = 1 ∧ accCheck s d = none :=
  ⟨1, wAcc wSrc wM24 0x12 (wA 1 0 24), wAccD 0x12 (wA 1 0 24), by decide +kernel⟩

theorem test_accumulationsWriteTheirRows_6 : ∃ (i : Nat) (s : State) (d : Desc),
    Runs s i 0x13 d ∧ aOp d ≠ 1 ∧ accCheck s d = none :=
  ⟨1, wAcc wSrc wM32 0x13 (wA 0 0 0), wAccD 0x13 (wA 0 0 0), by decide +kernel⟩

theorem test_accumulationsWriteTheirRows_7 : ∃ (i : Nat) (s : State) (d : Desc),
    Runs s i 0x13 d ∧ aOp d = 1 ∧ accCheck s d = none :=
  ⟨1, wAcc wSrc wM32 0x13 (wA 1 0 0), wAccD 0x13 (wA 1 0 0), by decide +kernel⟩

theorem test_accumulationsWriteTheirRows_8 : ∃ (i : Nat) (s : State) (d : Desc),
    Runs s i 0x14 d ∧ aOp d ≠ 1 ∧ accCheck s d = none ∧ aCount d ≠ 0 :=
  ⟨1, wAcc wSrc wInt 0x14 [(33, 1), (35, 0), (36, 1), (37, 2)], wAccD 0x14 [(33, 1), (35, 0), (36, 1), (37, 2)], by decide +kernel⟩

theorem test_accumulationsWriteTheirRows_9 : ∃ (i : Nat) (s : State) (d : Desc),
    Runs s i 0x14 d ∧ aOp d = 1 ∧ accCheck s d = none ∧ aCount d ≠ 0 :=
  ⟨1, wAcc wSrc wFlt 0x14 (wA 1 1 0), wAccD 0x14 (wA 1 1 0), by decide +kernel⟩

theorem test_tileRowsLeaveAndReturn_1 : ∃ (c : Instr) (i : Nat) (s : State) (d : Desc),
    Runs s i 0x15 d ∧ accCheck s d = none ∧ (((c = .drainNative i .none ∧ aOp d = 0) ∨ (c = .drainDequant i .none ∧ aOp d = 1) ∨
      (c = .drainMean i .none ∧ aOp d = 2) ∨ (c = .drainFused i .none ∧ aOp d = 3))) :=
  ⟨.drainNative 1 .none, 1, wAcc wSrc wInt 0x15 (wA 0 0 0), wAccD 0x15 (wA 0 0 0), ⟨by decide +kernel, by decide +kernel, Or.inl (by decide +kernel)⟩⟩

theorem test_tileRowsLeaveAndReturn_2 : ∃ (i : Nat) (s : State) (d : Desc),
    Runs s i 0x16 d ∧ accCheck s d = none :=
  ⟨1, wAcc wSrc wInt 0x16 (wA 0 0 0), wAccD 0x16 (wA 0 0 0), by decide +kernel⟩

theorem test_tileRowsLeaveAndReturn_3 : ∃ (i : Nat) (s : State) (d : Desc),
    Runs s i 0x17 d ∧ accCheck s d = none ∧ aCount d ≠ 0 ∧ restoreOk (srcMem s d (df d 32 1) (aLoft d) (aAddr d) (aBytes d)) d (tileNow s d) = true :=
  ⟨1, wAcc wRec wInt 0x17 ((wA 0 0 0).take 4 ++ [(37, 1), (40, 0x10000)]), wAccD 0x17 ((wA 0 0 0).take 4 ++ [(37, 1), (40, 0x10000)]), ⟨by decide +kernel, by decide +kernel, by decide +kernel, wRestore⟩⟩

theorem test_tileRowsLeaveAndReturn_4 : ∃ (i : Nat) (s : State) (d : Desc),
    Runs s i 0x17 d ∧ accCheck s d = none ∧ aCount d ≠ 0 ∧ restoreOk (srcMem s d (df d 32 1) (aLoft d) (aAddr d) (aBytes d)) d (tileNow s d) = false :=
  ⟨1, wAcc wSrc wInt 0x17 (wA 0 0 0), wAccD 0x17 (wA 0 0 0), by decide +kernel⟩

theorem test_reductionsFindTheFirstWinner_1 : ∃ (i : Nat) (p : Nat) (s : State) (d : Desc),
    Runs s i 0x60 d ∧ accCheck s d = none ∧ Counts s d p ∧ ((∀ q, Counts s d q → ¬ Before s d p q)) ∧ ((∀ q, q < p → Counts s d q → Before s d q p)) :=
  ⟨1, 2, wAcc wSrc wInt 0x60 (wR 0 3), wAccD 0x60 (wR 0 3), ⟨by decide +kernel, by decide +kernel, by decide +kernel, fun q h => (by decide +kernel : ∀ q, q < rCount (wAccD 0x60 (wR 0 3)) → ¬ Before (wAcc wSrc wInt 0x60 (wR 0 3)) (wAccD 0x60 (wR 0 3)) 2 q) q h.1, by decide +kernel⟩⟩

theorem test_reductionsFindTheFirstWinner_2 : ∃ (i : Nat) (p : Nat) (s : State) (d : Desc),
    Runs s i 0x61 d ∧ accCheck s d = none ∧ Counts s d p ∧ ((∀ q, Counts s d q → ¬ Before s d q p)) ∧ ((∀ q, q < p → Counts s d q → Before s d p q)) :=
  ⟨1, 1, wAcc wSrc wInt 0x61 (wR 0 3), wAccD 0x61 (wR 0 3), ⟨by decide +kernel, by decide +kernel, by decide +kernel, fun q h => (by decide +kernel : ∀ q, q < rCount (wAccD 0x61 (wR 0 3)) → ¬ Before (wAcc wSrc wInt 0x61 (wR 0 3)) (wAccD 0x61 (wR 0 3)) q 1) q h.1, by decide +kernel⟩⟩

theorem test_reductionsFindTheFirstWinner_3 : ∃ (i : Nat) (s : State) (d : Desc),
    Runs s i 0x60 d ∧ accCheck s d = none ∧ (∀ q, ¬ Counts s d q) :=
  ⟨1, wAcc wNan wInt 0x60 (wR 2 1), wAccD 0x60 (wR 2 1), ⟨by decide +kernel, by decide +kernel, fun q h => (by decide +kernel : ∀ q, q < rCount (wAccD 0x60 (wR 2 1)) → ¬ Counts (wAcc wNan wInt 0x60 (wR 2 1)) (wAccD 0x60 (wR 2 1)) q) q h.1 h⟩⟩

theorem test_reductionsFindTheFirstWinner_4 : ∃ (i : Nat) (s : State) (d : Desc),
    Runs s i 0x61 d ∧ accCheck s d = none ∧ (∀ q, ¬ Counts s d q) :=
  ⟨1, wAcc wNan wInt 0x61 (wR 2 1), wAccD 0x61 (wR 2 1), ⟨by decide +kernel, by decide +kernel, fun q h => (by decide +kernel : ∀ q, q < rCount (wAccD 0x61 (wR 2 1)) → ¬ Counts (wAcc wNan wInt 0x61 (wR 2 1)) (wAccD 0x61 (wR 2 1)) q) q h.1 h⟩⟩

theorem test_queuesTakeWork_1 : ∃ (f : Nat) (q : Nat) (v : Nat) (s : State),
    bar0Up s f = true ∧ q < 64 ∧ bit v 31 = true ∧ bit v 30 = false ∧ (cq s f q).enable = false :=
  ⟨0, 2, 0xA7030000, wQ { depth := 16, head := 5, prod := 7 } {} [], by decide +kernel⟩

theorem test_queuesTakeWork_2 : ∃ (f : Nat) (q : Nat) (v : Nat) (s : State),
    bar0Up s f = true ∧ q < 64 ∧ bit v 31 = false ∧ (cq s f q).enable = true :=
  ⟨0, 2, 0, wQ { depth := 16, enable := true } {} [wHeld 1 0 [], { wLane 2 0 [] with phase := .running, lanes := [], started := [0] }], by decide +kernel⟩

theorem test_queuesTakeWork_3 : ∃ (f : Nat) (q : Nat) (v : Nat) (s : State),
    bar0Up s f = true ∧ q < 64 ∧ bit v 30 = true :=
  ⟨0, 2, 0x40000000, wQ { depth := 16, enable := true } {} [wHeld 1 0 []], by decide +kernel⟩

theorem test_queuesTakeWork_4 : ∃ (f : Nat) (q : Nat) (v : Nat) (s : State),
    bar0Up s f = true ∧ q < 64 ∧ doorbellBad (cq s f q) (v % 2 ^ 32) = false :=
  ⟨0, 2, 21, wQ { depth := 16, enable := true, head := 5, prod := 7 } {} [], by decide +kernel⟩

theorem test_queuesTakeWork_5 : ∃ (f : Nat) (q : Nat) (v : Nat) (s : State),
    bar0Up s f = true ∧ q < 64 ∧ doorbellBad (cq s f q) (v % 2 ^ 32) = true :=
  ⟨0, 2, 22, wQ { depth := 16, enable := true, head := 5, prod := 7 } {} [], by decide +kernel⟩

theorem test_queuesTakeWork_6 : ∃ (f : Nat) (q : Nat) (s : State),
    q < 64 ∧ (cq s f q).enable = true ∧ (cq s f q).depth ≠ 0 ∧ (cq s f q).fetchErr = false ∧ (cq s f q).head ≠ (cq s f q).prod ∧ running s = true ∧ fnBlocked s f = false ∧ s.pwr.frozen = false ∧ fetchCheck s f (cq s f q) ((cq s f q).base + 64 * ((cq s f q).head % (cq s f q).depth)) = none :=
  ⟨0, 2, wQ { depth := 16, enable := true, head := 5, prod := 7, base := 2 ^ 20, space := 1, ctx := 3 } {} [], by decide +kernel⟩

theorem test_queuesTakeWork_7 : ∃ (f : Nat) (q : Nat) (s : State) (d : Desc),
    s.pwr.frozen = false ∧ oldestHeld s f q = some d ∧ isControl (dOp d) = false ∧ (∀ x ∈ execDies s d, laneCount s f q x < 8) :=
  ⟨0, 2, wQ {} {} [wHeld 1 0 []], wHeld 1 0 [], by decide +kernel⟩

theorem test_queuesTakeWork_8 : ∃ (f : Nat) (q : Nat) (x : Nat) (s : State) (d : Desc),
    s.pwr.frozen = false ∧ oldestHeld s f q = some d ∧ isControl (dOp d) = false ∧ x ∈ execDies s d ∧ 8 ≤ laneCount s f q x ∧ q < 64 :=
  ⟨0, 2, 0, wQ {} {} ((List.range 8).map (fun i => wLane i 0 []) ++ [wHeld 9 0 []]), wHeld 9 0 [], by decide +kernel⟩

theorem test_queuesTakeWork_9 : ∃ (q : Nat) (x : Nat) (s : State),
    s.pwr.frozen = false ∧ ((q ≠ 64 ∨ x ≠ 9)) :=
  ⟨2, 0, wQ {} {} [wLane 1 0 [], wHeld 2 0 []], by decide +kernel⟩

theorem test_queuesTakeWork_10 : ∃ (die : Nat) (unit : Nat) (s : State) (d : Desc),
    die < 8 ∧ s.pwr.frozen = false ∧ unitStopped s die unit = false ∧ pickHead s die unit = some d ∧ dieState s die < 2 ∧ ((d.started = [] → (startChecks (freshNext (takeHead s die d)) (startedOn s die unit (copyAtStart s d))).2 = none)) :=
  ⟨0, 16, wQ {} {} [wLane 1 0 []], wLane 1 0 [], by decide +kernel⟩

theorem test_queuesTakeWork_11 : ∃ (f : Nat) (q : Nat) (die : Nat) (s : State) (d : Desc),
    s.pwr.frozen = false ∧ s.descs.find? (fun d => d.fn == f && d.queue == q && eligible s d die) = some d ∧ classOf s d ≠ 0 ∧ queueKey die f q ∉ s.promoted :=
  ⟨0, 2, 0, wQ {} {} [wLane 1 0 []], wLane 1 0 [], by decide +kernel⟩

theorem test_eventQueuesFillAndDrain_1 : ∃ (f : Nat) (q : Nat) (v : Nat) (s : State),
    bar0Up s f = true ∧ q < 4 ∧ bit v 30 = false :=
  ⟨0, 1, 0x80000900, wQ {} { lost := 3 } [], by decide +kernel⟩

theorem test_eventQueuesFillAndDrain_2 : ∃ (f : Nat) (q : Nat) (v : Nat) (s : State),
    bar0Up s f = true ∧ q < 4 ∧ bit v 30 = true :=
  ⟨0, 1, 0x40000900, wQ {} { lost := 0xFFFFFFFE, entries := [1, 2, 3] } [], by decide +kernel⟩

theorem test_eventQueuesFillAndDrain_3 : ∃ (f : Nat) (q : Nat) (s : State),
    bar0Up s f = true ∧ q < 4 :=
  ⟨0, 1, wQ {} { depth := 128, entries := List.range 70 } [], by decide +kernel⟩

theorem test_eventQueuesFillAndDrain_4 : ∃ (f : Nat) (q : Nat) (h : Nat) (r : List Nat) (s : State),
    bar0Up s f = true ∧ q < 4 ∧ (evq s f q).entries = h :: r :=
  ⟨0, 1, 5, [6], wQ {} { depth := 128, entries := [5, 6] } [], by decide +kernel⟩

theorem test_eventQueuesFillAndDrain_5 : ∃ (f : Nat) (q : Nat) (z : Nat) (p : Bool) (s : State),
    ((bar0Up s f = false ∨ 4 ≤ q ∨ z ≠ 16 ∨ ((evq s f q).entries = [] ∧ p = false))) :=
  ⟨0, 1, 8, false, wQ {} { depth := 128, entries := [5, 6] } [], by decide +kernel⟩

theorem test_countersAndTriggers_1 : ∃ (f : Nat) (c : Nat) (s : State),
    bar0Up s f = true ∧ c < 16384 ∧ ownsCounter s f c = true :=
  ⟨0, 63, { wCtx with trigs := [(3, { counter := 63, threshold := 9 }), (4, { counter := 62, threshold := 1 })] }, by decide +kernel⟩

theorem test_countersAndTriggers_2 : ∃ (f : Nat) (c : Nat) (s : State),
    bar0Up s f = true ∧ c < 16384 ∧ ownsCounter s f c = true :=
  ⟨0, 63, { wCtx with syn := [(63, 5)], trigs := [(3, { counter := 63, threshold := 9 })] }, by decide +kernel⟩

theorem test_countersAndTriggers_3 : ∃ (f : Nat) (c : Nat) (s : State),
    bar0Up s f = true ∧ c < 16384 ∧ ownsCounter s f c = false :=
  ⟨0, 16383, wCtx, by decide +kernel⟩

theorem test_countersAndTriggers_4 : ∃ (i : Nat) (s : State) (d : Desc),
    Holds s i 0x74 d ∧ condMet s d = true ∧ df d 32 1 ≠ 1 ∧ triggerCheck s d = none :=
  ⟨1, wQ {} {} [wHeld 1 0x74 [(34, 255), (36, 63), (40, 9), (44, 0x10000)]], wHeld 1 0x74 [(34, 255), (36, 63), (40, 9), (44, 0x10000)], by decide +kernel⟩

theorem test_countersAndTriggers_5 : ∃ (i : Nat) (s : State) (d : Desc),
    Holds s i 0x74 d ∧ condMet s d = true ∧ df d 32 1 = 1 :=
  ⟨1, { wQ {} {} [wHeld 1 0x74 [(32, 1), (34, 255)]] with trigs := [(255, {})] }, wHeld 1 0x74 [(32, 1), (34, 255)], by decide +kernel⟩

theorem test_countersAndTriggers_6 : ∃ (c : Instr) (f : Nat) (slot : Nat) (x : Trig) (s : State),
    ((c = .triggerFire f slot ∨ c = .triggerStreamEntry f slot)) ∧ s.pwr.frozen = false ∧ tfind s.trigs (f * 256 + slot) = some x ∧ x.fired = true ∧ (tget s.firedWait [] f).head? = some slot ∧ (streamHeld s f).length < 256 :=
  ⟨.triggerFire 0 3, 0, 3, { fired := true }, { wCtx with trigs := [(3, { fired := true })], firedWait := [(0, [3])] }, ⟨Or.inl rfl, by decide +kernel⟩⟩

theorem test_controlDescriptorsComplete_1 : ∃ (i : Nat) (s : State) (d : Desc),
    Holds s i 0x70 d ∧ df d 32 4 ≤ 10000000 ∧ ((condMet s d = true ∨ d.aux = 1)) :=
  ⟨1, wQ {} {} [wCtl 1 0x70 [(32, 10000000)]], wCtl 1 0x70 [(32, 10000000)], by decide +kernel⟩

theorem test_controlDescriptorsComplete_2 : ∃ (i : Nat) (s : State) (d : Desc),
    Holds s i 0x70 d ∧ df d 32 4 ≤ 10000000 ∧ df d 32 4 ≠ 0 ∧ condMet s d = false :=
  ⟨1, wQ {} {} [wCtl 1 0x70 [(1, 1), (12, 1), (32, 10000000)]], wCtl 1 0x70 [(1, 1), (12, 1), (32, 10000000)], by decide +kernel⟩

theorem test_controlDescriptorsComplete_3 : ∃ (i : Nat) (s : State) (d : Desc),
    Holds s i 0x71 d ∧ condMet s d = true ∧ df d 32 1 ≠ 1 ∧ dSignalEn d = true :=
  ⟨1, wQ {} {} [wCtl 1 0x71 [(1, 2)]], wCtl 1 0x71 [(1, 2)], by decide +kernel⟩

theorem test_controlDescriptorsComplete_4 : ∃ (i : Nat) (s : State) (d : Desc),
    Holds s i 0x71 d ∧ condMet s d = true ∧ df d 32 1 = 1 ∧ dSignalEn d = true :=
  ⟨1, wQ {} {} [wCtl 1 0x71 [(1, 2), (20, 7), (32, 1)]], wCtl 1 0x71 [(1, 2), (20, 7), (32, 1)], by decide +kernel⟩

theorem test_controlDescriptorsComplete_5 : ∃ (c : Instr) (i : Nat) (s : State) (d : Desc),
    Holds s i 0x72 d ∧ condMet s d = true ∧ scopeClear s d = true ∧ (((c = .fenceQueue i ∧ df d 32 1 = 0) ∨ (c = .fenceContext i ∧ df d 32 1 = 1) ∨ (c = .fenceFunction i ∧ df d 32 1 = 2))) :=
  ⟨.fenceFunction 1, 1, wQ {} {} [wCtl 1 0x72 [(32, 2)]], wCtl 1 0x72 [(32, 2)], ⟨by decide +kernel, by decide +kernel, by decide +kernel, Or.inr (Or.inr (by decide +kernel))⟩⟩

theorem test_controlDescriptorsComplete_6 : ∃ (c : Instr) (i : Nat) (s : State) (d : Desc),
    Holds s i 0x72 d ∧ scopeClear s d = false ∧ ((c = .fenceQueue i ∨ c = .fenceContext i ∨ c = .fenceFunction i)) :=
  ⟨.fenceQueue 2, 2, wQ {} {} [{ wLane 1 0 [] with phase := .running }, wCtl 2 0x72 []], wCtl 2 0x72 [], ⟨by decide +kernel, by decide +kernel, Or.inl rfl⟩⟩

theorem test_controlDescriptorsComplete_7 : ∃ (i : Nat) (s : State) (d : Desc),
    Holds s i 0x73 d ∧ condMet s d = true :=
  ⟨1, wQ {} {} [wCtl 1 0x73 []], wCtl 1 0x73 [], by decide +kernel⟩

theorem test_moversWriteTheirDestination_1 : ∃ (i : Nat) (s : State) (d : Desc),
    Runs s i 0x00 d ∧ moveCheck s d = none ∧ ((mvSrcLoft d = true ∨ inTotal s (dCtx d) (mvSrc d) (mvLen d) = false)) ∧ memWf (srcMem s d (df d 32 1) (mvSrcLoft d) (mvSrc d) (mvLen d)) = true :=
  ⟨1, wMod (mwr [] 0x10000 8 0x1122334455667788) 0 [(36, 0x10001), (42, 0x20003), (48, 5)], wDesc 0 [(36, 0x10001), (42, 0x20003), (48, 5)], by decide +kernel⟩

theorem test_moversWriteTheirDestination_2 : ∃ (i : Nat) (s : State) (d : Desc),
    Runs s i 0x00 d ∧ moveCheck s d = none ∧ mvSrcLoft d = false ∧ inTotal s (dCtx d) (mvSrc d) (mvLen d) = true ∧ memWf (srcMem s d (df d 32 1) false (mvSrc d) (mvLen d)) = true :=
  ⟨1, { wRound 4 [] with descs := [wDesc 0 wTot] }, wDesc 0 wTot, by decide +kernel⟩

theorem test_moversWriteTheirDestination_3 : ∃ (i : Nat) (s : State) (d : Desc),
    Runs s i 0x01 d ∧ moveCheck s d = none :=
  ⟨1, wMod [] 1 [(42, 0x20003), (48, 13), (56, 0x1122334455667788)], wDesc 1 [(42, 0x20003), (48, 13), (56, 0x1122334455667788)], by decide +kernel⟩

theorem test_moversWriteTheirDestination_4 : ∃ (i : Nat) (s : State) (d : Desc),
    Runs s i 0x02 d ∧ moveCheck s d = none :=
  ⟨1, wMod [] 2 [(42, 0x10000), (48, 128)], wDesc 2 [(42, 0x10000), (48, 128)], by decide +kernel⟩

theorem test_portTrainingSteps_1 : ∃ (p : Nat) (s : State),
    (portOf s p).cable = false ∧ pinsUp s = true :=
  ⟨25, wPort 25 {}, by decide +kernel⟩

theorem test_portTrainingSteps_2 : ∃ (p : Nat) (s : State),
    (portOf s p).cable = true ∧ (portOf s p).debounced = false ∧ pinsUp s = true :=
  ⟨25, wPort 25 { cable := true }, by decide +kernel⟩

theorem test_portTrainingSteps_3 : ∃ (p : Nat) (s : State),
    (portOf s p).st = 1 ∧ coreUp s p = true :=
  ⟨25, wPort 25 { st := 1, cable := true, debounced := true }, by decide +kernel⟩

theorem test_portTrainingSteps_4 : ∃ (p : Nat) (s : State),
    (portOf s p).st = 2 ∧ (portOf s p).trainStep = 2 ∧ coreUp s p = true :=
  ⟨0, wPort 0 { st := 2, trainStep := 2 }, by decide +kernel⟩

theorem test_portTrainingSteps_5 : ∃ (p : Nat) (s : State),
    (portOf s p).st = 2 ∧ (portOf s p).trainStep = 3 ∧ coreUp s p = true :=
  ⟨0, wPort 0 { st := 2, trainStep := 3, verified := true, lanesGood := 15 }, by decide +kernel⟩

theorem test_portTrainingSteps_6 : ∃ (p : Nat) (s : State),
    1 ≤ (portOf s p).st ∧ (portOf s p).st ≤ 2 ∧ (portOf s p).hold = false ∧ coreUp s p = true :=
  ⟨0, wPort 0 { st := 2, failsInRow := 2 }, by decide +kernel⟩

theorem test_portTrainingSteps_7 : ∃ (p : Nat) (s : State),
    (portOf s p).cable = true ∧ pinsUp s = true ∧ s.pwr.inReset = false :=
  ⟨0, wPort 0 { st := 4, cable := true, verified := true }, by decide +kernel⟩

theorem test_portTrainingSteps_8 : ∃ (p : Nat) (s : State),
    (portOf s p).cable = true ∧ coreUp s p = true ∧ (portOf s p).hold = false ∧ 2 ≤ (portOf s p).st ∧ (portOf s p).st ≤ 4 :=
  ⟨0, wPort 0 { st := 4, cable := true, verified := true }, by decide +kernel⟩

theorem test_portsAreVerifiedAndControlled_1 : ∃ (p : Nat) (h : LinkCert) (s : State),
    (portOf s p).st = 3 ∧ coreUp s p = true ∧ vaultUp s = true ∧ aliasReady s = true ∧ s.rng.queue ≠ [] ∧ linkAdmitted s h = true ∧ (linkKeys (emit (useAlias (rngTake s 1)) (.linkHand p (linkOwn s ++ aliasSig s (bytesOf (linkT s h) 32)))) p h).isSome = true :=
  ⟨25, { cert := 1 + 2 ^ 16 * 5, lifecycle := 1 }, wPort 25 { st := 3, lanesGood := 255 }, by decide +kernel⟩

theorem test_portsAreVerifiedAndControlled_2 : ∃ (p : Nat) (h : LinkCert) (s : State),
    (portOf s p).st = 3 ∧ coreUp s p = true ∧ vaultUp s = true ∧ aliasReady s = true ∧ s.rng.queue ≠ [] ∧ linkAdmitted s h = false :=
  ⟨25, { cert := 1, lifecycle := 1 }, wPort 25 { st := 3, lanesGood := 255 }, by decide +kernel⟩

theorem test_portsAreVerifiedAndControlled_3 : ∃ (p : Nat) (dir : Nat) (frame : Nat) (i : Nat) (s : State),
    (portOf s p).st = 4 ∧ coreUp s p = true ∧ vaultUp s = true ∧ aliasReady s = true ∧ s.rng.queue ≠ [] ∧ dirAt (portOf s p) dir = none ∧ emptySlot s = some i ∧ dirN (portOf s p) dir < frame :=
  ⟨25, 1, 7, 0, wPort 25 { st := 4, rxN := 6 }, by decide +kernel⟩

theorem test_portsAreVerifiedAndControlled_4 : ∃ (p : Nat) (s : State),
    (portOf s p).st = 4 ∧ coreUp s p = true :=
  ⟨0, wPort 0 { st := 4, tagRun := 15 }, by decide +kernel⟩

theorem test_portsAreVerifiedAndControlled_5 : ∃ (p : Nat) (s : State),
    (portOf s p).st = 4 ∧ coreUp s p = true :=
  ⟨0, wPort 0 { st := 4 }, by decide +kernel⟩

theorem test_portsAreVerifiedAndControlled_6 : ∃ (p : Nat) (s : State),
    bar2Up s = true ∧ (portOf s p).enable = true ∧ (portOf s p).st ≠ 6 :=
  ⟨0, wPort 0 { st := 4 }, by decide +kernel⟩

theorem test_portsAreVerifiedAndControlled_7 : ∃ (p : Nat) (s : State),
    bar2Up s = true ∧ (portOf s p).st = 6 :=
  ⟨0, wPort 0 { st := 6, enable := false, failsInRow := 3 }, by decide +kernel⟩

theorem test_portsAreVerifiedAndControlled_8 : ∃ (p : Nat) (s : State),
    bar2Up s = true ∧ (portOf s p).enable = false ∧ (portOf s p).cable = true ∧ (portOf s p).debounced = true ∧ coreUp s p = true ∧ (portOf s p).st ≠ 6 :=
  ⟨0, wPort 0 { enable := false, cable := true, debounced := true }, by decide +kernel⟩

theorem test_portsAreVerifiedAndControlled_9 : ∃ (p : Nat) (s : State),
    bar2Up s = true ∧ (portOf s p).enable = true ∧ (portOf s p).cable = true ∧ (portOf s p).debounced = true ∧ coreUp s p = true :=
  ⟨0, wPort 0 { st := 6, failsInRow := 3, cable := true, debounced := true }, by decide +kernel⟩

theorem test_portsAreVerifiedAndControlled_10 : ∃ (s : State),
    bar2Up s = true :=
  ⟨wPort 0 { st := 4, lanesGood := 255 }, by decide +kernel⟩

theorem test_portsAreVerifiedAndControlled_11 : ∃ (p : Nat) (lane : Nat) (s : State),
    coreUp s p = true ∧ bit (portOf s p).lanesGood lane = true ∧ spareTakes s (portOf s p) lane = true :=
  ⟨0, 7, wrE (wPort 0 { st := 4, lanesGood := 511, spareHot := true, width := 2 }) eFabricSize 0 17, by decide +kernel⟩

theorem test_portsAreVerifiedAndControlled_12 : ∃ (p : Nat) (lane : Nat) (s : State),
    coreUp s p = true ∧ 2 ≤ (portOf s p).st ∧ (portOf s p).st ≤ 4 ∧ guardLevel s = 0 ∧ lane < 8 ∧ bit (portOf s p).lanesGood lane = true ∧ (portOf s p).spareInUse = false ∧ (((portOf s p).st = 4 → carries (portOf s p) lane = true)) :=
  ⟨0, 7, wPort 0 { st := 4, lanesGood := 255, width := 2 }, by decide +kernel⟩

theorem test_switchForwardsAndDrops_1 : ∃ (die : Nat) (c : Nat) (k : Pkt) (s : State),
    portDieUp s die = true ∧ unitStopped s die 1 = false ∧ fnBlocked s k.tclass = false ∧ swEgress s die k = some c ∧ ((13 ≤ c ∨ k.hops < 64)) :=
  ⟨6, 13, { hops := 64 }, wPort 0 {}, by decide +kernel⟩

theorem test_switchForwardsAndDrops_2 : ∃ (die : Nat) (c : Nat) (k : Pkt) (s : State),
    portDieUp s die = true ∧ unitStopped s die 1 = false ∧ fnBlocked s k.tclass = false ∧ swEgress s die k = some c ∧ c < 13 ∧ 64 ≤ k.hops :=
  ⟨6, 0, { hops := 64, dstModule := 5 }, { wPort 0 { st := 4 } with bar2 := [(swBase 6 + 10, 2 ^ 15), (swBase 6 + 0x10000, 2 ^ 60)] }, by decide +kernel⟩

theorem test_switchForwardsAndDrops_3 : ∃ (die : Nat) (k : Pkt) (s : State),
    portDieUp s die = true ∧ unitStopped s die 1 = false ∧ fnBlocked s k.tclass = false ∧ swEgress s die k = none :=
  ⟨6, { dstModule := 5 }, wPort 0 {}, by decide +kernel⟩

theorem test_switchForwardsAndDrops_4 : ∃ (die : Nat) (k : Pkt) (s : State),
    portDieUp s die = true ∧ unitStopped s die 1 = false ∧ fnBlocked s k.tclass = true :=
  ⟨6, { tclass := 1 }, wrE (wPort 0 {}) eFnState 1 1, by decide +kernel⟩

theorem test_switchForwardsAndDrops_5 : ∃ (die : Nat) (pos : Nat) (s : State),
    portDieUp s die = true ∧ pos < (heldOn s die).length :=
  ⟨6, 1, { wPort 0 {} with switchq := [(6, [{ pkt := {}, inPort := 0, egress := 13, vl := 0 }, { pkt := { imm := 7 }, inPort := 0, egress := 13, vl := 0 }])] }, by decide +kernel⟩

theorem test_ethernetPortsTakeFrames_1 : ∃ (s : State),
    anyRoundOpen s = false :=
  ⟨wPort 0 {}, by decide +kernel⟩

theorem test_ethernetPortsTakeFrames_2 : ∃ (p : Nat) (lp : Nat) (s : State),
    macUp s p = true ∧ lp < ethLps s p :=
  ⟨3, 1, wrE (wPort 0 {}) eEthMode 3 1, by decide +kernel⟩

theorem test_ethernetPortsTakeFrames_3 : ∃ (s : State),
    s.pwr.frozen = false :=
  ⟨wrE (wPort 0 {}) eLinkUp 3 3, by decide +kernel⟩

theorem test_ethernetPortsTakeFrames_4 : ∃ (p : Nat) (lp : Nat) (g : EthFrame) (s : State),
    macUp s p = true ∧ bit (rdE s eLinkUp p) lp = true ∧ frameOk s p g = true ∧ frUdp g.data = true ∧ frSumOk g.data = true ∧ frPort g.data = rdE s eStUdpPort 0 :=
  ⟨3, 0, { len := 9216, data := wUdp }, wrE (wPort 0 {}) eLinkUp 3 1, by decide +kernel⟩

theorem test_ethernetPortsTakeFrames_5 : ∃ (p : Nat) (lp : Nat) (g : EthFrame) (s : State),
    macUp s p = true ∧ bit (rdE s eLinkUp p) lp = true ∧ frameOk s p g = true ∧ frUdp g.data = false ∧ frAnswered g.data = true ∧ g.rateOk = true :=
  ⟨3, 0, { data := mwr [] 12 2 0x0608 }, wrE (wPort 0 {}) eLinkUp 3 1, by decide +kernel⟩

theorem test_ethernetPortsTakeFrames_6 : ∃ (p : Nat) (lp : Nat) (g : EthFrame) (s : State),
    macUp s p = true ∧ bit (rdE s eLinkUp p) lp = true ∧ ((frameOk s p g = false ∨ ((frUdp g.data = false ∨ frSumOk g.data = false ∨ frPort g.data ≠ rdE s eStUdpPort 0) ∧ frAnswered g.data = false))) :=
  ⟨3, 0, { len := 63 }, wrE (wPort 0 {}) eLinkUp 3 1, by decide +kernel⟩

theorem test_importsAndAborts_1 : ∃ (key : Nat) (m : ImportMsg) (s : State),
    s.pwr.frozen = false ∧ (keyOf s key).st = 1 ∧ (keyOf s key).kind = 5 ∧ importCheck s (keyOf s key).ctx (keyOf s key).peer m = none ∧ roundSt s (keyOf s key).ctx ≠ rsCombining :=
  ⟨6, { job := 9, round := 1, merged := 4 }, wRidge 1 [6] [], by decide +kernel⟩

theorem test_importsAndAborts_2 : ∃ (key : Nat) (m : ImportMsg) (s : State),
    s.pwr.frozen = false ∧ (keyOf s key).st = 1 ∧ (keyOf s key).kind = 5 ∧ importCheck s (keyOf s key).ctx (keyOf s key).peer m = none ∧ roundSt s (keyOf s key).ctx = rsCombining ∧ (cx s (keyOf s key).ctx).imports = [] ∧ m.ty = ttInt32 ∧ m.tagP = 255 ∧ segOf s (keyOf s key).ctx m.rowFirst ∉ addedOf s (keyOf s key).ctx (nodeOf s (keyOf s key).ctx (keyOf s key).peer) ∧ importValid m = true ∧ (copiesOf s (keyOf s key).ctx (nodeOf s (keyOf s key).ctx (keyOf s key).peer)).length = 1 :=
  ⟨6, { job := 9, round := 1, merged := 4 }, wRidge 3 [6] [], by decide +kernel⟩

theorem test_importsAndAborts_3 : ∃ (key : Nat) (m : RidgeMsg) (s : State),
    s.pwr.frozen = false ∧ (keyOf s key).st = 1 ∧ (keyOf s key).kind = 5 ∧ ridgeCheck s (keyOf s key).ctx (keyOf s key).peer (parentsOf s (keyOf s key).ctx) m = none ∧ roundSt s (keyOf s key).ctx = rsReady ∧ segOf s (keyOf s key).ctx m.rowFirst < segsOf s (keyOf s key).ctx ∧ maySend s (keyOf s key).ctx (keyOf s key).peer = true :=
  ⟨6, { job := 9, round := 1 }, wRidge 4 [] [(eParentK, 6)], by decide +kernel⟩

theorem test_importsAndAborts_4 : ∃ (key : Nat) (m : RidgeMsg) (s : State),
    s.pwr.frozen = false ∧ (keyOf s key).st = 1 ∧ (keyOf s key).kind = 5 ∧ ridgeCheck s (keyOf s key).ctx (keyOf s key).peer (peersOf s (keyOf s key).ctx) m = none ∧ roundSt s (keyOf s key).ctx ≠ rsCombining :=
  ⟨6, { job := 9, round := 1 }, wRidge 1 [] [(eCopyPeerK, 6)], by decide +kernel⟩

theorem test_importsAndAborts_5 : ∃ (key : Nat) (m : RidgeMsg) (s : State),
    s.pwr.frozen = false ∧ (keyOf s key).st = 1 ∧ (keyOf s key).kind = 5 ∧ ridgeCheck s (keyOf s key).ctx (keyOf s key).peer (peersOf s (keyOf s key).ctx) m = none ∧ roundSt s (keyOf s key).ctx = rsCombining ∧ isRootCopy s (keyOf s key).ctx = true ∧ (cx s (keyOf s key).ctx).totalFormed = true ∧ peersOf s (keyOf s key).ctx = [(keyOf s key).peer] ∧ segsOf s (keyOf s key).ctx = 1 ∧ segOf s (keyOf s key).ctx m.rowFirst = 0 ∧ addedOf s (keyOf s key).ctx rootKey = [] ∧ m.digest = segDigest s (keyOf s key).ctx 0 ∧ m.merged = rdE s eMerged (keyOf s key).ctx :=
  ⟨6, { job := 9, round := 1, merged := 4, digest := segDigest (wRidge 3 [] [(eCopyPeerK, 6)]) 3 0 }, wRidge 3 [] [(eCopyPeerK, 6)], by refine ⟨?_, ?_, ?_, ?_, ?_, ?_, ?_, ?_, ?_, ?_, ?_, rfl, ?_⟩ <;> decide +kernel⟩

theorem test_importsAndAborts_6 : ∃ (n : Nat) (child : Nat) (g : Nat) (s : State),
    s.pwr.frozen = false ∧ roundSt s n = rsCombining ∧ child ≠ rdE s eModuleId 0 ∧ (copiesOf s n (nodeOf s n child)).length = 2 ∧ (segCopies s n (nodeOf s n child) g).length = 1 ∧ (∀ m ∈ segCopies s n (nodeOf s n child) g, m.tagP = 255) ∧ g ∉ addedOf s n (nodeOf s n child) ∧ g ∉ tget (cx s n).retried [] (nodeOf s n child) :=
  ⟨3, 6, 0, wRidge 3 [6, 6] [], by decide +kernel⟩

theorem test_importsAndAborts_7 : ∃ (job : Nat) (round : Nat) (cause : Nat) (s : State),
    rtUp s = true ∧ 1 ≤ cause ∧ cause ≤ 5 ∧ job ≠ 0 ∧ jobCtxs s (fun n => abandonable s n && cfgE s eJobId n == job && rdE s eRoundNumber n == round) ≠ [] ∧ (job, round) ∉ s.abortsSeen :=
  ⟨9, 1, 5, wRidge 1 [] [], by decide +kernel⟩

theorem test_importsAndAborts_8 : ∃ (die : Nat) (dst : Nat) (s : State),
    portDieUp s die = true ∧ outstanding s die dst = true :=
  ⟨6, 6, { wRun with txs := [{ id := 1, die := 6, ep := 4, dst := 6, hdr := {}, pkts := [(0, {})] }], eps := [(4, { st := 1, ctx := 3 })] }, by decide +kernel⟩

theorem test_packetsArePlacedAndDelivered_1 : ∃ (die : Nat) (k : Pkt) (x : RxMsg) (s : State),
    PacketFits s die k ∧ k.ty = 1 ∧ rxFind s k = some x ∧ agrees x.hdr k = true ∧ x.hdr.ty = 1 ∧ k.pktIndex ∉ x.held ∧ seqFar s k = false ∧ (strmOf s k.dstEp k.keyId k.srcEp).isSome = true ∧ regionCheck s k = none ∧ sendCheck s k (needsRec s k) = none ∧ x.held.length + 1 < x.hdr.msgPkts ∧ memWf k.payload = true :=
  ⟨6, wPkt 3 0, wGot (wPkt 3 1) [1], { wNet wEp with rxs := [wGot (wPkt 3 1) [1]] }, by decide +kernel⟩

theorem test_packetsArePlacedAndDelivered_2 : ∃ (die : Nat) (k : Pkt) (s : State),
    portDieUp s die = true ∧ headerOk k = true ∧ isData k.ty = true ∧ fnBlocked s k.tclass = false ∧ rxFind s k = none ∧ epLive (epOf s k.dstEp) = true ∧ (epOf s k.dstEp).resident = false ∧ parkFull s (homeDie k.dstEp) = false :=
  ⟨6, wPkt 3 0, wNet { wEp with resident := false }, by decide +kernel⟩

theorem test_packetsArePlacedAndDelivered_3 : ∃ (die : Nat) (k : Pkt) (s : State),
    portDieUp s die = true ∧ ((headerOk k = false ∨ isData k.ty = false)) :=
  ⟨6, { wPkt 3 0 with ver := 2 }, wNet wEp, by decide +kernel⟩

theorem test_packetsArePlacedAndDelivered_4 : ∃ (die : Nat) (k : Pkt) (s : State),
    portDieUp s die = true ∧ headerOk k = true ∧ isData k.ty = true ∧ fnBlocked s k.tclass = false ∧ rxFind s k = none ∧ epLive (epOf s k.dstEp) = true ∧ (epOf s k.dstEp).resident = true ∧ isAdmission (epOf s k.dstEp) = false ∧ keyPasses s k.keyId k.keyGen k.dstEp = false :=
  ⟨6, { wPkt 3 0 with keyGen := 1 }, wNet wEp, by decide +kernel⟩

theorem test_packetsArePlacedAndDelivered_5 : ∃ (m : Nat) (x : RxMsg) (s : State),
    s.pwr.frozen = false ∧ rxOf s m = some x ∧ x.ackArmed = true :=
  ⟨9, wGot (wPkt 3 1) [1], { wNet wEp with rxs := [wGot (wPkt 3 1) [1]] }, by decide +kernel⟩

theorem test_packetsArePlacedAndDelivered_6 : ∃ (m : Nat) (x : RxMsg) (s : State),
    s.pwr.frozen = false ∧ rxOf s m = some x ∧ x.verified = true ∧ x.con = none ∧ x.hdr.ty ≠ 4 ∧ nextSeqOf s x.hdr = x.hdr.msgSeq :=
  ⟨9, { wGot { wPkt 1 0 with ty := 2 } [0] with hasRec := true, slot := 1, len := 5 }, { wNet { wEp with recWritten := 3 } with rxs := [{ wGot { wPkt 1 0 with ty := 2 } [0] with hasRec := true, slot := 1, len := 5 }] }, by decide +kernel⟩

theorem test_packetsArePlacedAndDelivered_7 : ∃ (e : Nat) (s : State),
    s.pwr.frozen = false ∧ epLive (epOf s e) = true ∧ (epOf s e).fetching = true ∧ cacheRoom s (homeDie e) = true ∧ (∀ k ∈ parkedOn s (homeDie e), k.dstEp ≠ e) :=
  ⟨4, wNet { wEp with resident := false, fetching := true }, by decide +kernel⟩

theorem test_packetsArePlacedAndDelivered_8 : ∃ (e : Nat) (s : State),
    s.pwr.frozen = false ∧ epLive (epOf s e) = true ∧ (epOf s e).fetching = true ∧ cacheRoom s (homeDie e) = true :=
  ⟨4, { wNet { wEp with resident := false, fetching := true } with parked := [(6, [wPkt 3 0])] }, by decide +kernel⟩

theorem test_packetsArePlacedAndDelivered_9 : ∃ (die : Nat) (pos : Nat) (s : State),
    s.pwr.frozen = false ∧ pos < (parkedOn s die).length :=
  ⟨6, 1, { wNet wEp with parked := [(6, [wPkt 3 0, wPkt 3 1])] }, by decide +kernel⟩

theorem test_messagesAreSentAndAcknowledged_1 : ∃ (c : Instr) (i : Nat) (op : Nat) (s : State) (d : Desc),
    (((c = .stWrite i ∧ op = 0x80) ∨ (c = .stSend i ∧ op = 0x81) ∨ (c = .stRead i ∧ op = 0x82))) ∧ Runs s i op d ∧ (epOf s (localEp d)).resident = true ∧ stCheck s d = none :=
  ⟨.stRead 1, 1, 0x82, { wNet wEp with descs := [wDesc 0x82 wSt] }, wDesc 0x82 wSt, ⟨Or.inr (Or.inr (by decide +kernel)), by decide +kernel⟩⟩

theorem test_messagesAreSentAndAcknowledged_2 : ∃ (m : Nat) (i : Nat) (x : TxMsg) (s : State),
    s.txs.find? (fun t => t.id == m) = some x ∧ portDieUp s x.die = true ∧ txInWindow s x = true ∧ nextNew x = some i ∧ (rateEnsure s x.die x.dst).isSome = true :=
  ⟨2, 2, wTx [(0, {}), (1, {})], { wNet wEp with txs := [wTx [(0, {}), (1, {})]] }, by decide +kernel⟩

theorem test_messagesAreSentAndAcknowledged_3 : ∃ (m : Nat) (i : Nat) (x : TxMsg) (p : TxPkt) (s : State),
    s.txs.find? (fun t => t.id == m) = some x ∧ tfind x.pkts i = some p ∧ p.held = false ∧ portDieUp s x.die = true ∧ (rateOf s x.die x.dst).isSome = true :=
  ⟨2, 2, wTx [(2, { sends := 1 })], { sends := 1 }, { wNet wEp with txs := [wTx [(2, { sends := 1 })]], rates := [(6, [{ dst := 6 }])] }, by decide +kernel⟩

theorem test_messagesAreSentAndAcknowledged_4 : ∃ (die : Nat) (k : Pkt) (x : TxMsg) (s : State),
    (ctlAccept s die 8 k).2 = true ∧ txFind (ctlAccept s die 8 k).1 k = some x ∧ bit (mrd k.payload 46 1) 0 = false :=
  ⟨6, wCtlPkt 8 [(0, 1), (8, 2)], wTx [(0, {}), (1, {}), (2, {})], { wNet wEp with txs := [wTx [(0, {}), (1, {}), (2, {})]], rates := [(6, [{ dst := 6 }])] }, by decide +kernel⟩

theorem test_messagesAreSentAndAcknowledged_5 : ∃ (die : Nat) (k : Pkt) (x : TxMsg) (s : State),
    (ctlAccept s die 8 k).2 = true ∧ txFind (ctlAccept s die 8 k).1 k = some x ∧ bit (mrd k.payload 46 1) 0 = true ∧ x.hdr.ty ≠ 3 ∧ x.desc ≠ 0 :=
  ⟨6, wCtlPkt 8 [(0, 3), (46, 1)], wTx [(0, {}), (1, {}), (2, {})], { wNet wEp with txs := [wTx [(0, {}), (1, {}), (2, {})]], descs := [{ wDesc 0x80 wSt with phase := .waiting 1 }], rates := [(6, [{ dst := 6 }])] }, by decide +kernel⟩

theorem test_messagesAreSentAndAcknowledged_6 : ∃ (die : Nat) (k : Pkt) (x : TxMsg) (s : State),
    (ctlAccept s die 9 k).2 = true ∧ txFind (ctlAccept s die 9 k).1 k = some x ∧ mrd k.payload 0 1 ∈ statusCodes ∧ x.desc ≠ 0 :=
  ⟨6, wCtlPkt 9 [(0, BitVec.ofNat 8 stPolicy)], wTx [(0, {})], { wNet wEp with txs := [wTx [(0, {})]], descs := [{ wDesc 0x80 wSt with phase := .waiting 1 }] }, by decide +kernel⟩

theorem test_messagesAreSentAndAcknowledged_7 : ∃ (die : Nat) (dst : Nat) (r : Rate) (s : State),
    rateOf s die dst = some r :=
  ⟨6, 6, { dst := 6, rate := 100, rmax := 1000, acked := 4, marked := 1 }, { wNet wEp with rates := [(6, [{ dst := 6, rate := 100, rmax := 1000, acked := 4, marked := 1 }])] }, by decide +kernel⟩

theorem test_messagesAreSentAndAcknowledged_8 : ∃ (die : Nat) (dst : Nat) (r : Rate) (s : State),
    s.pwr.frozen = false ∧ rateOf s die dst = some r :=
  ⟨6, 6, { dst := 6, mask := 5 }, { wNet wEp with rates := [(6, [{ dst := 6, mask := 5 }])] }, by decide +kernel⟩

theorem test_messagesAreSentAndAcknowledged_9 : ∃ (die : Nat) (k : Pkt) (s : State),
    portDieUp s die = true ∧ headerOk k = true ∧ k.ty = 12 ∧ (keyOf s k.keyId).st = 1 ∧ (keyOf s k.keyId).gen = k.keyGen ∧ (keyOf s k.keyId).kind = 7 ∧ ctlFresh (keyOf s k.keyId) k.imm = true :=
  ⟨6, { wCtlPkt 12 [] with keyId := 5, imm := 1 }, wNet wEp, by decide +kernel⟩

theorem test_endpointCommandsTakeEffect_1 : ∃ (f : Nat) (e : Nat) (s : State),
    Doorbell s f e ∧ (epOf s e).st = 2 :=
  ⟨0, 4, wNet { wEp with st := 2 }, by decide +kernel⟩

theorem test_endpointCommandsTakeEffect_2 : ∃ (f : Nat) (e : Nat) (s : State),
    Doorbell s f e ∧ (epOf s e).st = 1 :=
  ⟨0, 4, { wNet wEp with txs := [wTx []], descs := [{ wDesc 0x80 wSt with phase := .waiting 1 }] }, by decide +kernel⟩

theorem test_endpointCommandsTakeEffect_3 : ∃ (f : Nat) (e : Nat) (s : State),
    Doorbell s f e ∧ evictable s e = true :=
  ⟨0, 4, { wNet wEp with lru := [(6, [4])] }, by decide +kernel⟩

theorem test_endpointCommandsTakeEffect_4 : ∃ (f : Nat) (e : Nat) (slot : Nat) (s : State),
    Doorbell s f e ∧ tget (epOf s e).slots 0 slot = 2 :=
  ⟨0, 4, 1, wNet { wEp with slots := [(0, 1), (1, 2)] }, by decide +kernel⟩

theorem test_endpointCommandsTakeEffect_5 : ∃ (f : Nat) (e : Nat) (s : State),
    Doorbell s f e :=
  ⟨0, 4, wNet { wEp with recFree := 1, recOut := 3 }, by decide +kernel⟩

theorem test_endpointCommandsTakeEffect_6 : ∃ (c : Instr) (f : Nat) (e : Nat) (k : Nat) (s : State),
    ((c = .resume f e ∨ c = .error f e ∨ c = .evict f e ∨ c = .recycle f e k ∨ c = .recordFree f e k)) ∧ bar0Up s f = true ∧ e < 262144 ∧ ((epLive (epOf s e) = false ∨ (epOf s e).owner ≠ f)) :=
  ⟨.recycle 0 262143 1, 0, 262143, 1, wNet wEp, ⟨Or.inr (Or.inr (Or.inr (Or.inl rfl))), by decide +kernel⟩⟩

theorem test_endpointCommandsTakeEffect_7 : ∃ (die : Nat) (e : Nat) (s : State),
    s.pwr.frozen = false ∧ (residents s die).find? (evictable s) = some e :=
  ⟨6, 4, { wNet wEp with lru := [(6, [4])] }, by decide +kernel⟩

theorem test_endpointCommandsTakeEffect_8 : ∃ (e : Nat) (s : State),
    s.pwr.frozen = false ∧ (epOf s e).st = 3 :=
  ⟨4, wNet { wEp with st := 3 }, by decide +kernel⟩

theorem test_endpointCommandsTakeEffect_9 : ∃ (k : Nat) (s : State),
    s.pwr.frozen = false ∧ (keyOf s k).st = 2 :=
  ⟨20, { wNet wEp with keys := [(20, { st := 2, gen := 3, quar := true })] }, by decide +kernel⟩

theorem test_endpointCommandsTakeEffect_10 : ∃ (i : Nat) (s : State),
    s.pwr.frozen = false ∧ (tget s.pds {} i).st = 2 :=
  ⟨1, { wNet wEp with pds := [(1, { st := 2 })] }, by decide +kernel⟩

theorem test_endpointCommandsTakeEffect_11 : ∃ (i : Nat) (s : State),
    s.pwr.frozen = false ∧ (regionOf s i).st = 2 :=
  ⟨2, { wNet wEp with regions := [(2, { st := 2, gen := 65535 })] }, by decide +kernel⟩

theorem test_objectCommandsTakeEffect_1 : ∃ (src : Src) (s : State),
    ObjAccepted s src 1 ∧ objCreateCheck s (srcFn src) (objKindOf s src) (objIndexOf s src) = none :=
  ⟨.mgmt 5, wObjRec 1 1023 [], by decide +kernel⟩

theorem test_objectCommandsTakeEffect_2 : ∃ (src : Src) (s : State),
    ObjAccepted s src 2 ∧ (objModify s (srcFn src) (objKindOf s src) (objIndexOf s src)).1 = stOk :=
  ⟨.mgmt 5, wObjRec 3 4 [(eRxqDepth, 4096)], by decide +kernel⟩

theorem test_objectCommandsTakeEffect_3 : ∃ (src : Src) (s : State),
    ObjAccepted s src 3 ∧ ((objKindOf s src = 1 → pdNamed s (objIndexOf s src) = false)) :=
  ⟨.mgmt 5, wObjRec 3 4 [], ⟨by decide +kernel, fun h => absurd h (by decide +kernel)⟩⟩

theorem test_objectCommandsTakeEffect_4 : ∃ (src : Src) (s : State),
    ObjAccepted s src 4 :=
  ⟨.mgmt 5, wObjRec 2 1 [], by decide +kernel⟩

theorem test_objectCommandsTakeEffect_5 : ∃ (src : Src) (s : State),
    ObjAccepted s src 5 :=
  ⟨.mgmt 5, wObjRec 4 8 [], by decide +kernel⟩

theorem test_objectCommandsTakeEffect_6 : ∃ (src : Src) (s : State),
    ObjAccepted s src 6 ∧ (keyOf s (objIndexOf s src)).st = 1 :=
  ⟨.mgmt 5, wObjRec 4 8 [], by decide +kernel⟩

theorem test_objectCommandsTakeEffect_7 : ∃ (src : Src) (n : Nat) (s : State),
    Accepted s src eObjCommand (srcFn src) 7 ∧ rdE s eObjContext (srcFn src) = n ∧ ctxLive s (srcFn src) n = true :=
  ⟨.mgmt 5, 3, wObjRec 0 0 [(eObjContext, 3)], by decide +kernel⟩

theorem test_sessionsOpenAndClose_1 : ∃ (die : Nat) (h : HelloMsg) (s : State),
    sessionDieUp s die = true ∧ ((die = dieRt → h.kind = 7)) ∧ (moduleKind h.kind && initiates s h) = false ∧ h.rngOk = true ∧ h.secretOk = true ∧ helloOk s die h = true ∧ (s.hss.filter (fun x => x.step == 2)).length < 1024 :=
  ⟨6, { context := 3 }, wNet { wEp with flags := 1 }, by decide +kernel⟩

theorem test_sessionsOpenAndClose_2 : ∃ (die : Nat) (e : Nat) (h : HelloMsg) (s : State),
    sessionDieUp s die = true ∧ ((die = dieRt → h.kind = 7)) ∧ moduleKind h.kind = true ∧ initiates s h = true ∧ aliasReady s = true ∧ h.rngOk = true ∧ helloEp s die h = some e :=
  ⟨6, 4, { kind := 6, context := 3, modulePeer := true, peerModule := 5 }, wNet wEp, by decide +kernel⟩

theorem test_sessionsOpenAndClose_3 : ∃ (die : Nat) (h : HelloMsg) (s : State),
    sessionDieUp s die = true ∧ ((die = dieRt → h.kind = 7)) ∧ (moduleKind h.kind && initiates s h) = false ∧ h.rngOk = true ∧ ((helloOk s die h = false ∨ h.secretOk = false)) :=
  ⟨6, { context := 9 }, wNet wEp, by decide +kernel⟩

theorem test_sessionsOpenAndClose_4 : ∃ (i : Nat) (part : Nat) (c : Credential) (x : Hs) (s : State),
    running s = true ∧ s.pwr.frozen = false ∧ part < 3 ∧ hsOf s i = some x ∧ (((part = 2 ∧ c.aliasOk = true ∧ c.lifecycle = effLc s) ∨ x.credParts.length < 2)) :=
  ⟨2, 2, { lifecycle := 1 }, wHs 1 true, { wNet wEp with hss := [wHs 1 true] }, by decide +kernel⟩

theorem test_sessionsOpenAndClose_5 : ∃ (i : Nat) (pub : Nat) (x : Hs) (s : State),
    hsOf s i = some x ∧ x.step = 2 ∧ x.initiator = false ∧ sessionDieUp s x.die = true ∧ finishOk s x (peerHashOf x pub) true true = true :=
  ⟨2, 9, wHs 2 false, { wNet wEp with hss := [wHs 2 false] }, by decide +kernel⟩

theorem test_sessionsOpenAndClose_6 : ∃ (i : Nat) (pub : Nat) (a : Bool) (b : Bool) (x : Hs) (s : State),
    hsOf s i = some x ∧ x.step = 2 ∧ x.initiator = false ∧ sessionDieUp s x.die = true ∧ finishOk s x (peerHashOf x pub) a b = false :=
  ⟨2, 9, false, true, wHs 2 false, { wNet wEp with hss := [wHs 2 false] }, by decide +kernel⟩

theorem test_sessionsOpenAndClose_7 : ∃ (i : Nat) (keyId : Nat) (x : Hs) (s : State),
    hsOf s i = some x ∧ x.step = 1 ∧ x.initiator = true ∧ sessionDieUp s x.die = true ∧ aliasReady s = true ∧ x.credParts.length = 3 ∧ credOk s x.hello.kind x.cred = true ∧ identityOk s x.hello x.cred.identity x.cred = true ∧ keyQuotaOk s x.localEp x.hello.kind = true ∧ keyId < 65535 ∧ (keyOf s keyId).st = 0 ∧ (keyOf s keyId).quar = false :=
  ⟨2, 65534, wHs 1 true, { wNet wEp with hss := [wHs 1 true] }, by decide +kernel⟩

theorem test_sessionsOpenAndClose_8 : ∃ (i : Nat) (x : Hs) (s : State),
    hsOf s i = some x ∧ x.step = 3 ∧ x.initiator = true ∧ sessionDieUp s x.die = true ∧ (epOf s x.localEp).st = 1 ∧ (keyOf s x.keyId).st = 0 :=
  ⟨2, wHs 3 true, { wNet wEp with hss := [wHs 3 true] }, by decide +kernel⟩

theorem test_sessionsOpenAndClose_9 : ∃ (k : Nat) (s : State),
    running s = true ∧ s.pwr.frozen = false ∧ (keyOf s k).st = 1 :=
  ⟨8, wNet wEp, by decide +kernel⟩

theorem test_sessionsOpenAndClose_10 : ∃ (i : Nat) (x : Hs) (s : State),
    hsOf s i = some x ∧ x.step = 2 :=
  ⟨2, wHs 2 true, { wNet wEp with hss := [wHs 2 true] }, by decide +kernel⟩

set_option maxRecDepth 10000 in
theorem test_bootRunsAndTakesAnImage_1 : ∃ (b : BootEnv) (s : State),
    s.pwr.inReset = true ∧ s.pwr.tripped = false ∧ s.pwr.aux = true ∧ s.pwr.v48 = true ∧ s.pwr.pwrGood = true ∧ s.pwr.refclk = true ∧ b.fusesOk = true ∧ b.linksOk = true ∧ Config.sha256 (bytesOf (b.dieIds % 2 ^ 576) 72) = s.fuses.manifest ∧ b.mramOk = true ∧ s.mram.bootCount ≠ 0xFFFFFFFF ∧ b.rngCause = 0 ∧ s.mram.tamperLatch = false :=
  ⟨{}, wOff, by refine ⟨?_, ?_, ?_, ?_, ?_, ?_, ?_, ?_, rfl, ?_⟩ <;> decide +kernel⟩

theorem test_bootRunsAndTakesAnImage_2 : ∃ (b : BootEnv) (s : State),
    s.pwr.inReset = true ∧ s.pwr.tripped = false ∧ s.pwr.aux = true ∧ s.pwr.v48 = true ∧ s.pwr.pwrGood = true ∧ s.pwr.refclk = true ∧ b.fusesOk = true ∧ b.linksOk = false :=
  ⟨{ linksOk := false }, wOff, by decide +kernel⟩

set_option maxRecDepth 10000 in
theorem test_bootRunsAndTakesAnImage_3 : ∃ (b : BootEnv) (s : State),
    s.pwr.inReset = true ∧ s.pwr.tripped = false ∧ s.pwr.aux = true ∧ s.pwr.v48 = true ∧ s.pwr.pwrGood = true ∧ s.pwr.refclk = true ∧ b.fusesOk = true ∧ b.linksOk = true ∧ Config.sha256 (bytesOf (b.dieIds % 2 ^ 576) 72) = s.fuses.manifest ∧ b.mramOk = true ∧ s.mram.bootCount ≠ 0xFFFFFFFF ∧ b.rngCause ≠ 0 :=
  ⟨{ rngCause := 5 }, wOff, by refine ⟨?_, ?_, ?_, ?_, ?_, ?_, ?_, ?_, rfl, ?_⟩ <;> decide +kernel⟩

set_option maxRecDepth 10000 in
theorem test_bootRunsAndTakesAnImage_4 : ∃ (len : Nat) (a : Bool) (b : Bool) (s : State),
    s.boot.st = 1 ∧ s.boot.claim ≠ 2 ∧ s.pwr.frozen = false ∧ memUp s 0 = true ∧ imageErr s len (imageOf s.boot.win a b) = none :=
  ⟨65792, true, true, wWait, ⟨by decide +kernel, by decide +kernel, by decide +kernel, by decide +kernel, imageErr_of _ _ _ (by decide +kernel) (by decide +kernel) (by decide +kernel) rfl rfl rfl rfl (by decide +kernel)⟩⟩

set_option maxRecDepth 10000 in
theorem test_bootRunsAndTakesAnImage_5 : ∃ (len : Nat) (e : Nat) (a : Bool) (b : Bool) (s : State),
    s.boot.st = 1 ∧ s.boot.claim ≠ 2 ∧ s.pwr.frozen = false ∧ memUp s 0 = true ∧ imageErr s len (imageOf s.boot.win a b) = some e :=
  ⟨65791, 1, true, true, wWait, by decide +kernel⟩

set_option maxRecDepth 10000 in
theorem test_bootRunsAndTakesAnImage_6 : ∃ (len : Nat) (a : Bool) (b : Bool) (s : State),
    Accepted s .port eImageCommit 0 len ∧ s.boot.claim ≠ 1 ∧ imageErr s len (imageOf s.boot.win a b) = none :=
  ⟨65792, true, true, wWait, ⟨by decide +kernel, by decide +kernel, imageErr_of _ _ _ (by decide +kernel) (by decide +kernel) (by decide +kernel) rfl rfl rfl rfl (by decide +kernel)⟩⟩

theorem test_identityCommandsTakeEffect_1 : ∃ (s : State),
    s.pwr.frozen = false ∧ vaultUp s = true ∧ idReady s = true ∧ s.boot.keysReady = false :=
  ⟨wRun, by decide +kernel⟩

theorem test_identityCommandsTakeEffect_2 : ∃ (s : State),
    s.pwr.frozen = false ∧ vaultUp s = true ∧ idReady s = true ∧ s.boot.keysReady = true ∧ 768 < s.boot.aliasLeaf ∧ s.boot.aliasLeaf < 1024 ∧ s.boot.nextReady = false :=
  ⟨{ wRun with boot := { wRun.boot with keysReady := true, aliasLeaf := 769 } }, by decide +kernel⟩

theorem test_identityCommandsTakeEffect_3 : ∃ (s : State),
    s.pwr.frozen = false ∧ vaultUp s = true ∧ ((effLc s = 1 ∨ effLc s = 2)) ∧ 24576 ≤ s.boot.idLeaf ∧ s.boot.idLeaf < 32768 ∧ s.mram.nextNodes = none ∧ s.mram.idTree + 1 < 2 ^ 20 :=
  ⟨{ wRun with boot := { wRun.boot with idLeaf := 24576 } }, by decide +kernel⟩

theorem test_identityCommandsTakeEffect_4 : ∃ (src : Src) (v : Nat) (s : State),
    Accepted s src eSvnCommit 0 v ∧ s.fuses.svnFloor < v ∧ v ≤ s.boot.svn :=
  ⟨.mgmt 5, 128, { wRun with boot := { wRun.boot with svn := 128 } }, by decide +kernel⟩

theorem test_identityCommandsTakeEffect_5 : ∃ (src : Src) (r : Nat) (data : Nat) (s : State),
    AcceptedLen s src eMrExtend 0 33 (r + 256 * data) ∧ 5 ≤ r ∧ r ≤ 7 ∧ data < 2 ^ 256 :=
  ⟨.mailbox 0, 7, 2 ^ 256 - 1, wRun, by decide +kernel⟩

theorem test_identityCommandsTakeEffect_6 : ∃ (src : Src) (s : State),
    Accepted s src eFabricLock 0 1 :=
  ⟨.mgmt 5, wRun, by decide +kernel⟩

theorem test_vaultAndQuotes_1 : ∃ (slot : Nat) (purpose : Nat) (s : State),
    s.pwr.frozen = false ∧ vaultUp s = true ∧ slot < 256 ∧ purposeAllowed s purpose = true ∧ (vslot s slot).st = 0 ∧ ((purpose = pWrap → s.rng.queue ≠ [])) :=
  ⟨255, 5, wNet wEp, by decide +kernel⟩

theorem test_vaultAndQuotes_2 : ∃ (slot : Nat) (s : State),
    s.pwr.frozen = false ∧ vaultUp s = true ∧ (vslot s slot).st = 1 ∧ (vslot s slot).purpose ≠ pIde :=
  ⟨255, { wNet wEp with vault := [(3, { st := 2, purpose := 1 }), (255, { st := 1, purpose := 1, gen := 4 })] }, by decide +kernel⟩

theorem test_vaultAndQuotes_3 : ∃ (slot : Nat) (s : State),
    s.pwr.frozen = false ∧ (vslot s slot).st = 3 :=
  ⟨255, { wNet wEp with vault := [(255, { st := 3, purpose := 1, gen := 4 })] }, by decide +kernel⟩

theorem test_vaultAndQuotes_4 : ∃ (s : State),
    s.pwr.frozen = false ∧ vaultUp s = true ∧ s.rng.st ≠ rngStopped ∧ s.rng.queue ≠ [] :=
  ⟨{ wNet wEp with vault := [(3, { st := 2 })] }, by decide +kernel⟩

theorem test_vaultAndQuotes_5 : ∃ (s : State),
    s.pwr.frozen = false ∧ vaultUp s = true ∧ s.rng.st ≠ rngStopped ∧ s.rng.queue = [] :=
  ⟨wRng { st := 1 }, by decide +kernel⟩

theorem test_vaultAndQuotes_6 : ∃ (f : Nat) (nonce : Nat) (n : Nat) (s : State),
    AcceptedLen s (.mailbox f) eQuoteRequest f 34 (nonce + 2 ^ 256 * n) ∧ f < 64 ∧ n < 256 ∧ nonce < 2 ^ 256 ∧ rdE s eCtxState n ≠ cxFree ∧ (cx s n).owner = f ∧ ((effLc s = 1 ∨ effLc s = 2)) :=
  ⟨0, 2 ^ 256 - 1, 3, wCtx, by decide +kernel⟩

theorem test_vaultAndQuotes_7 : ∃ (f : Nat) (nonce : Nat) (n : Nat) (s : State),
    s.pwr.frozen = false ∧ f < 64 ∧ s.boot.quotes.find? (fun q => q.1 == f) = some (f, nonce, n) ∧ vaultUp s = true ∧ idReady s = true :=
  ⟨0, 7, 3, { wCtx with boot := { wCtx.boot with quotes := [(0, (7, 3))] } }, by decide +kernel⟩

theorem test_lifecycleCommandsTakeEffect_1 : ∃ (src : Src) (now : Nat) (s : State),
    Accepted s src eLcCommand 0 1 ∧ effLc s = 0 ∧ pressed s now = true ∧ vaultUp s = true ∧ s.rng.queue ≠ [] :=
  ⟨.port, 30200, wLc 0, by decide +kernel⟩

theorem test_lifecycleCommandsTakeEffect_2 : ∃ (src : Src) (now : Nat) (s : State),
    src ≠ .port ∧ Accepted s src eLcCommand 0 2 ∧ effLc s = 1 ∧ bit s.fuses.lifecycle 1 = false ∧ pressed s now = true ∧ vaultUp s = true :=
  ⟨.mgmt 5, 30200, wLc 1, by decide +kernel⟩

theorem test_lifecycleCommandsTakeEffect_3 : ∃ (src : Src) (now : Nat) (s : State),
    src ≠ .port ∧ Accepted s src eLcCommand 0 3 ∧ ((effLc s = 1 ∨ effLc s = 2)) ∧ pressed s now = true ∧ s.lcWait = 0 :=
  ⟨.mgmt 5, 30200, wLc 2, by decide +kernel⟩

theorem test_lifecycleCommandsTakeEffect_4 : ∃ (f : Nat) (s : State),
    srcLive s (.mailbox f) = true ∧ s.boot.challenge = none :=
  ⟨0, wNet wEp, by decide +kernel⟩

theorem test_lifecycleCommandsTakeEffect_6 : ∃ (f : Nat) (s : State),
    s.pwr.frozen = false ∧ s.lcWait = 1 ∧ f < 64 ∧ (fnSt s f).stage = 5 ∧ (fnSt s f).step = 5 ∧ rdE s eFnState f = fnFenced ∧ ((∀ g, g < 64 → g ≠ f → (fnSt s g).stage = 0 ∧ (fnSt s g).scrubDone = true)) :=
  ⟨0, { wFence { stage := 5, step := 5 } with lcWait := 1 }, by decide +kernel⟩

theorem test_lifecycleCommandsTakeEffect_7 : ∃ (s : State),
    s.pwr.aux = true ∧ s.pwr.inReset = false ∧ s.boot.tampered = false ∧ effLc s ≠ 4 :=
  ⟨wNet wEp, by decide +kernel⟩

theorem test_lifecycleCommandsTakeEffect_8 : ∃ (s : State),
    s.pwr.aux = true ∧ s.pwr.inReset = true :=
  ⟨State.reset, by decide +kernel⟩

theorem test_rngHealthTests_1 : ∃ (x : Byte) (s : State),
    RngLive s ∧ s.rng.st < rngHalted ∧ rctRun s.rng x.toNat < 81 ∧ (aptStep s.rng x.toNat).2.1 < 441 :=
  ⟨9, wRng { st := 1, last := 9, run := 79, aptFirst := 9, aptCount := 439, aptIdx := 500, win := [1, 2] }, by decide +kernel⟩

theorem test_rngHealthTests_2 : ∃ (x : Byte) (s : State),
    RngLive s ∧ s.rng.st < rngHalted ∧ 81 ≤ rctRun s.rng x.toNat :=
  ⟨9, wRng { st := 1, last := 9, run := 80 }, by decide +kernel⟩

theorem test_rngHealthTests_3 : ∃ (x : Byte) (s : State),
    RngLive s ∧ s.rng.st < rngHalted ∧ rctRun s.rng x.toNat < 81 ∧ 441 ≤ (aptStep s.rng x.toNat).2.1 :=
  ⟨9, wRng { st := 1, aptFirst := 9, aptCount := 440, aptIdx := 500 }, by decide +kernel⟩

set_option maxRecDepth 10000 in
theorem test_rngHealthTests_4 : ∃ (s : State),
    RngLive s ∧ ((s.rng.st = rngReady ∨ s.rng.st = rngBlocked)) ∧ s.rng.win.length = 4096 :=
  ⟨wRng { st := 1, win := List.replicate 4096 5 }, ⟨by decide +kernel, by decide +kernel, List.length_replicate⟩⟩

set_option maxRecDepth 10000 in
theorem test_rngHealthTests_5 : ∃ (s : State),
    RngLive s ∧ s.rng.st = rngStartup ∧ s.rng.win.length = 1024 :=
  ⟨wRng { win := List.replicate 1024 5 }, ⟨by decide +kernel, by decide +kernel, List.length_replicate⟩⟩

theorem test_drbgServesAndReseeds_1 : ∃ (s : State),
    RngLive s ∧ s.rng.st = rngReady ∧ s.rng.instantiated = true ∧ s.rng.tail = 0 ∧ s.rng.queue.length < 64 ∧ s.rng.served < s.rng.ri :=
  ⟨wRng { st := 1, instantiated := true, queue := List.replicate 63 5, served := 16383 }, by decide +kernel⟩

theorem test_drbgServesAndReseeds_2 : ∃ (s : State),
    RngLive s ∧ s.rng.st = rngReady ∧ s.rng.ri ≤ s.rng.served ∧ s.rng.seeds ≠ [] :=
  ⟨wRng { st := 1, served := 16384, seeds := [1, 2, 3] }, by decide +kernel⟩

theorem test_drbgServesAndReseeds_3 : ∃ (s : State),
    RngLive s ∧ s.rng.st = rngReady ∧ s.rng.ri ≤ s.rng.served ∧ s.rng.seeds = [] :=
  ⟨wRng { st := 1, ri := 1048576, served := 1048576 }, by decide +kernel⟩

theorem test_drbgServesAndReseeds_4 : ∃ (s : State),
    RngLive s ∧ s.rng.st = rngBlocked ∧ s.rng.seeds ≠ [] :=
  ⟨wRng { st := 2, served := 16384, seeds := [1] }, by decide +kernel⟩

theorem test_drbgServesAndReseeds_5 : ∃ (c : Nat) (s : State),
    RngLive s ∧ s.rng.queue ≠ [] ∧ ((s.rng.waiting = [] ∨ s.rng.waiting.head? = some c)) :=
  ⟨3, wRng { st := 1, queue := [5], waiting := [3, 4] }, by decide +kernel⟩

theorem test_drbgServesAndReseeds_6 : ∃ (s : State),
    RngLive s ∧ s.rng.queue = [] :=
  ⟨wRng { st := 1, waiting := [4] }, by decide +kernel⟩

theorem test_drbgServesAndReseeds_7 : ∃ (s : State),
    RngLive s :=
  ⟨wRng { st := 1, queue := [5, 6], waiting := [4] }, by decide +kernel⟩

theorem test_drbgServesAndReseeds_8 : ∃ (c : Nat) (s : State),
    RngLive s ∧ c ∈ s.rng.waiting :=
  ⟨3, wRng { st := 1, waiting := [4, 3] }, by decide +kernel⟩

theorem test_drbgServesAndReseeds_9 : ∃ (s : State),
    bar2Up s = true ∧ s.rng.st = rngHalted ∧ s.boot.tampered = false :=
  ⟨wRng { st := 3, failCause := 2 }, by decide +kernel⟩

theorem test_drbgServesAndReseeds_10 : ∃ (src : Src) (s : State),
    Accepted s src eRngRestart 0 1 ∧ s.rng.st = rngHalted ∧ s.boot.tampered = false :=
  ⟨.mgmt 5, wRng { st := 3, failCause := 2 }, by decide +kernel⟩

theorem test_drbgServesAndReseeds_11 : ∃ (s : State),
    bar2Up s = true ∧ effLc s = 1 :=
  ⟨wRng { st := 1 }, by decide +kernel⟩

theorem test_drbgServesAndReseeds_12 : ∃ (s : State),
    bar2Up s = true ∧ s.rng.capture = true :=
  ⟨wRng { st := 4, capture := true, raw := [1] }, by decide +kernel⟩

theorem test_fencesRunAndFunctionsRelease_1 : ∃ (src : Src) (f : Nat) (s : State),
    Accepted s src eFnCommand f 1 ∧ (fnSt s f).stage = 0 :=
  ⟨.mgmt 5, 0, wBusy, by decide +kernel⟩

theorem test_fencesRunAndFunctionsRelease_2 : ∃ (f : Nat) (s : State),
    rtUp s = true ∧ fnExists s f = true ∧ (fnSt s f).stage = 0 :=
  ⟨0, wBusy, by decide +kernel⟩

theorem test_fencesRunAndFunctionsRelease_3 : ∃ (f : Nat) (s : State),
    (fnSt s f).stage = 3 ∧ s.pwr.frozen = false :=
  ⟨0, wFence { stage := 3, stuck := [16, 48] }, by decide +kernel⟩

theorem test_fencesRunAndFunctionsRelease_4 : ∃ (f : Nat) (s : State),
    (fnSt s f).stage = 5 ∧ (fnSt s f).step = 4 ∧ s.pwr.frozen = false ∧ sleepingDies s = [] :=
  ⟨0, wFence { stage := 5, step := 4 }, by decide +kernel⟩

theorem test_fencesRunAndFunctionsRelease_5 : ∃ (f : Nat) (s : State),
    (fnSt s f).stage = 5 ∧ (fnSt s f).step = 5 ∧ s.pwr.frozen = false ∧ s.lcWait = 0 :=
  ⟨0, wFence { stage := 5, step := 5 }, by decide +kernel⟩

theorem test_fencesRunAndFunctionsRelease_6 : ∃ (src : Src) (f : Nat) (s : State),
    Accepted s src eFnCommand f 2 ∧ (fnSt s f).scrubDone = true ∧ vaultUp s = true ∧ (releaseKeys s f).isSome = true :=
  ⟨.mgmt 5, 0, wFence { scrubDone := true }, by decide +kernel⟩

theorem test_grantsAndVirtualFunctions_1 : ∃ (src : Src) (f : Nat) (v : Nat) (s : State),
    Accepted s src eDramFirst f v ∧ rdE s eFnState f ≠ fnOpen ∧ v + rdE s eDramCount f ≤ 240 ∧ grantFree s f v (rdE s eDramCount f) = true :=
  ⟨.mgmt 5, 1, 239, wrE (wrE wCtx eDramCount 1 1) eFnState 1 fnFenced, by decide +kernel⟩

theorem test_grantsAndVirtualFunctions_2 : ∃ (src : Src) (f : Nat) (v : Nat) (s : State),
    Accepted s src eDramCount f v ∧ rdE s eFnState f ≠ fnOpen ∧ rdE s eDramFirst f + v ≤ 240 ∧ grantFree s f (rdE s eDramFirst f) v = true :=
  ⟨.mgmt 5, 1, 140, wrE (wrE wCtx eDramFirst 1 100) eFnState 1 fnFenced, by decide +kernel⟩

theorem test_grantsAndVirtualFunctions_3 : ∃ (src : Src) (f : Nat) (sub : Nat) (v : Nat) (e : Ent) (s : State),
    5 ≤ sub ∧ grantEnt sub = some e ∧ Accepted s src e f v ∧ rdE s eFnState f ≠ fnOpen ∧ objHeld s f (quotaKind e) ≤ v ∧ quotaSum s e f v ≤ objCount (quotaKind e) :=
  ⟨.mgmt 5, 1, 6, 0, eQuotaRegions, wrE wCtx eFnState 1 fnFenced, by decide +kernel⟩

theorem test_grantsAndVirtualFunctions_4 : ∃ (num : Nat) (s : State),
    rtUp s = true ∧ s.pcie.vfEnable = false ∧ num ≠ 0 :=
  ⟨63, wCtx, by decide +kernel⟩

theorem test_grantsAndVirtualFunctions_5 : ∃ (num : Nat) (s : State),
    rtUp s = true ∧ s.pcie.vfEnable = true ∧ num < s.pcie.numVfs ∧ s.pcie.numVfs < 64 :=
  ⟨1, { wCtx with pcie := { wCtx.pcie with vfEnable := true, numVfs := 3, memOn := [0, 2] } }, by decide +kernel⟩

theorem test_resetsAndDieHealth_1 : ∃ (unit : Nat) (s : State),
    rtUp s = true ∧ unit < 256 ∧ unitExists unit = true ∧ unitWorks s unit = true ∧ unitStopped s (unit / 32) (unit % 32) = false :=
  ⟨16, wBusy, by decide +kernel⟩

theorem test_resetsAndDieHealth_2 : ∃ (unit : Nat) (s : State),
    rtUp s = true ∧ 256 ≤ unit ∧ unitExists unit = true ∧ unit ∉ s.dbg.halted :=
  ⟨256, wBusy, by decide +kernel⟩

theorem test_resetsAndDieHealth_3 : ∃ (unit : Nat) (r : ResetRun) (s : State),
    s.resets.find? (fun r => !r.die && r.id == unit) = some r ∧ s.pwr.frozen = false :=
  ⟨16, { die := false, id := 16, host := false, escalated := false, retire := false }, { wBusy with resets := [{ die := false, id := 16, host := false, escalated := false, retire := false }] }, by decide +kernel⟩

theorem test_resetsAndDieHealth_4 : ∃ (unit : Nat) (r : ResetRun) (s : State),
    s.resets.find? (fun r => !r.die && r.id == unit) = some r ∧ s.pwr.frozen = false ∧ inService s (unit / 32) = true ∧ ((∀ x ∈ s.resets, x.die = true → x.id ≠ unit / 32)) ∧ tget s.dieResetCount 0 (unit / 32) < 2 :=
  ⟨16, { die := false, id := 16, host := false, escalated := false, retire := false }, { wBusy with dieResetCount := [(0, 1)], resets := [{ die := false, id := 16, host := false, escalated := false, retire := false }] }, by decide +kernel⟩

theorem test_resetsAndDieHealth_5 : ∃ (die : Nat) (r : ResetRun) (s : State),
    s.resets.find? (fun r => r.die && r.id == die) = some r ∧ s.pwr.frozen = false :=
  ⟨5, { die := true, id := 5, host := false, escalated := true, retire := false }, { wBusy with loft := [(5, [(0, 1)])], resets := [{ die := true, id := 5, host := false, escalated := true, retire := false }] }, by decide +kernel⟩

theorem test_resetsAndDieHealth_6 : ∃ (die : Nat) (r : ResetRun) (s : State),
    s.resets.find? (fun r => r.die && r.id == die) = some r ∧ s.pwr.frozen = false :=
  ⟨5, { die := true, id := 5, host := false, escalated := true, retire := false }, { wBusy with resets := [{ die := true, id := 5, host := false, escalated := true, retire := false }] }, by decide +kernel⟩

theorem test_resetsAndDieHealth_7 : ∃ (cause : Nat) (s : State),
    rtUp s = true ∧ 1 ≤ cause ∧ cause ≤ 4 :=
  ⟨4, wBusy, by decide +kernel⟩

theorem test_resetsAndDieHealth_8 : ∃ (src : Src) (unit : Nat) (s : State),
    Accepted s src eResetRequest 0 (4096 + unit % 4096) ∧ unit < 256 ∧ unitExists unit = true ∧ inService s (unit / 32) = true :=
  ⟨.mgmt 5, 16, wBusy, by decide +kernel⟩

theorem test_resetsAndDieHealth_9 : ∃ (src : Src) (die : Nat) (s : State),
    Accepted s src eResetRequest 0 (8192 + die % 4096) ∧ die < 8 ∧ inService s die = true ∧ tget s.dieResetCount 0 die < 2 :=
  ⟨.mgmt 5, 7, { wBusy with dieResetCount := [(7, 1)] }, by decide +kernel⟩

theorem test_resetsAndDieHealth_10 : ∃ (src : Src) (unit : Nat) (s : State),
    Accepted s src eResetRequest 0 (12288 + unit % 4096) :=
  ⟨.mgmt 5, 0, wBusy, by decide +kernel⟩

theorem test_resetsAndDieHealth_11 : ∃ (link : Nat) (die : Nat) (s : State),
    rtUp s = true ∧ (((linkEnds link).1 = die ∨ (linkEnds link).2 = die)) ∧ inService s die = true ∧ mayRetire s die = true :=
  ⟨0, 1, wBusy, by decide +kernel⟩

theorem test_resetsAndDieHealth_12 : ∃ (s : State),
    s.pwr.frozen = false :=
  ⟨wBusy, by decide +kernel⟩

theorem test_resetsAndDieHealth_13 : ∃ (u : Nat) (n : Nat) (k : Nat) (s : State),
    s.pwr.frozen = false ∧ u ≠ 0 ∧ coLive (cohortOf s n k) = true :=
  ⟨1, 3, 0, wRound 1 [(0, { st := .opened })], by decide +kernel⟩

theorem test_powerRequestsActOnDies_1 : ∃ (src : Src) (s : State),
    Accepted s src eModuleRequest 0 2 ∧ MaySleep s 2 :=
  ⟨.mgmt 5, wRun, by decide +kernel⟩

theorem test_powerRequestsActOnDies_2 : ∃ (src : Src) (s : State),
    Accepted s src eModuleRequest 0 3 ∧ MaySleep s 3 :=
  ⟨.mgmt 5, wRun, by decide +kernel⟩

theorem test_powerRequestsActOnDies_3 : ∃ (src : Src) (s : State),
    Accepted s src eModuleRequest 0 2 ∧ ¬ MaySleep s 2 :=
  ⟨.mgmt 5, wBusy, by decide +kernel⟩

theorem test_powerRequestsActOnDies_4 : ∃ (src : Src) (s : State),
    Accepted s src eModuleRequest 0 1 :=
  ⟨.mgmt 5, wAsleep, by decide +kernel⟩

theorem test_powerRequestsActOnDies_5 : ∃ (src : Src) (die : Nat) (s : State),
    Accepted s src eDieRequest 0 (512 + die % 16) ∧ die < 8 ∧ inService s die = true ∧ dieState s die ≠ 2 ∧ sleepRefused s die = false :=
  ⟨.mgmt 5, 7, wPort 25 { st := 4 }, by decide +kernel⟩

theorem test_powerRequestsActOnDies_6 : ∃ (src : Src) (die : Nat) (s : State),
    Accepted s src eDieRequest 0 (768 + die % 16) ∧ die < 8 ∧ inService s die = true ∧ dieState s die ≠ 3 ∧ sleepRefused s die = false :=
  ⟨.mgmt 5, 7, wPort 25 { st := 4 }, by decide +kernel⟩

theorem test_powerRequestsActOnDies_7 : ∃ (src : Src) (die : Nat) (s : State),
    Accepted s src eDieRequest 0 (256 + die % 16) ∧ die < 8 ∧ inService s die = true :=
  ⟨.mgmt 5, 7, wAsleep, by decide +kernel⟩

theorem test_powerRequestsActOnDies_8 : ∃ (die : Nat) (s : State),
    s.pwr.frozen = false ∧ 2 ≤ tget s.pwr.entering 0 die % 4 ∧ ((die = 8 → ∀ x ∈ s.pwr.entering, x.1 ≠ 8 → x.2 % 4 < 2)) :=
  ⟨8, { wRun with pwr := { wRun.pwr with entering := [(8, 7)], powered := [260, 3] }, rng := { st := 1, queue := List.replicate 9 5 } }, by decide +kernel⟩

theorem test_powerRequestsActOnDies_9 : ∃ (die : Nat) (s : State),
    s.pwr.frozen = false ∧ tget s.pwr.entering 0 die = 1 ∧ ((tget s.pwr.die 1 die = 3 → s.pwr.refclk = true)) :=
  ⟨7, { wPort 25 { st := 5, verified := true } with pwr := { wRun.pwr with entering := [(7, 1)], die := [(7, 2)] } }, by decide +kernel⟩

theorem test_powerRequestsActOnDies_10 : ∃ (unit : Nat) (s : State),
    s.pwr.frozen = false ∧ unitBusy s unit = false :=
  ⟨3, { wRun with pwr := { wRun.pwr with powered := [3, 4] } }, by decide +kernel⟩

theorem test_powerRequestsActOnDies_11 : ∃ (unit : Nat) (s : State),
    s.pwr.frozen = false ∧ unitBusy s unit = true :=
  ⟨16, { wBusy with pwr := { wBusy.pwr with powered := [] } }, by decide +kernel⟩

theorem test_powerRequestsActOnDies_12 : ∃ (src : Src) (mask : Nat) (s : State),
    Accepted s src ePeerWake 0 mask :=
  ⟨.mgmt 5, 2 ^ 26 - 1, wPort 25 { st := 5 }, by decide +kernel⟩

theorem test_wakeSourcesWakeTheModule_1 : ∃ (s : State),
    s.pwr.aux = true ∧ alive s = true ∧ moduleAsleep s = true ∧ bit (rdE s eWakeEnable 0) 0 = true :=
  ⟨wAsleep, by decide +kernel⟩

theorem test_wakeSourcesWakeTheModule_2 : ∃ (s : State),
    bit (rdE s eWakeEnable 0) 0 = false :=
  ⟨wrE wAsleep eWakeEnable 0 0x1E, by decide +kernel⟩

theorem test_wakeSourcesWakeTheModule_3 : ∃ (s : State),
    alive s = true ∧ moduleAsleep s = true ∧ bit (rdE s eWakeEnable 0) 2 = true :=
  ⟨wAsleep, by decide +kernel⟩

theorem test_wakeSourcesWakeTheModule_4 : ∃ (s : State),
    s.pwr.timer ≠ 0 ∧ alive s = true ∧ moduleAsleep s = true ∧ bit (rdE s eWakeEnable 0) 4 = true :=
  ⟨wAsleep, by decide +kernel⟩

theorem test_wakeSourcesWakeTheModule_5 : ∃ (s : State),
    s.pcie.dstate ≠ 0 ∧ alive s = true ∧ moduleAsleep s = true ∧ bit (rdE s eWakeEnable 0) 1 = true :=
  ⟨{ wAsleep with pcie := { wAsleep.pcie with dstate := 1, l1 := true } }, by decide +kernel⟩

theorem test_wakeSourcesWakeTheModule_6 : ∃ (s : State),
    s.pcie.dstate = 2 ∧ alive s = true :=
  ⟨{ wAsleep with pcie := { wAsleep.pcie with dstate := 2, l1 := true, vfEnable := true, numVfs := 3 } }, by decide +kernel⟩

theorem test_wakeSourcesWakeTheModule_7 : ∃ (p : Nat) (s : State),
    alive s = true ∧ (portOf s p).st = 5 ∧ dieState s (portDie p) < 2 :=
  ⟨25, wPort 25 { st := 5 }, by decide +kernel⟩

theorem test_wakeSourcesWakeTheModule_8 : ∃ (p : Nat) (s : State),
    alive s = true ∧ (portOf s p).st = 5 ∧ 2 ≤ dieState s (portDie p) ∧ bit (rdE s eWakeEnable 0) 3 = true :=
  ⟨25, { wAsleep with ports := [(25, { st := 5 })] }, by decide +kernel⟩

theorem test_wakeSourcesWakeTheModule_9 : ∃ (p : Nat) (s : State),
    2 ≤ dieState s (portDie p) ∧ bit (rdE s eWakeEnable 0) 3 = false :=
  ⟨25, wrE { wAsleep with ports := [(25, { st := 5 })] } eWakeEnable 0 0x17, by decide +kernel⟩

theorem test_wakeSourcesWakeTheModule_10 : ∃ (s : State),
    alive s = true ∧ s.pcie.dstate = 0 :=
  ⟨wRun, by decide +kernel⟩

theorem test_wakeSourcesWakeTheModule_11 : ∃ (s : State),
    alive s = true ∧ s.pcie.dstate ≠ 2 :=
  ⟨{ wRun with pcie := { wRun.pcie with dstate := 1 } }, by decide +kernel⟩

theorem test_suppliesAndPanel_2 : ∃ (s : State),
    s.pwr.aux = true :=
  ⟨wRun, by decide +kernel⟩

theorem test_suppliesAndPanel_3 : ∃ (s : State),
    s.pwr.aux = false :=
  ⟨{ wRun with pwr := { wRun.pwr with aux := false } }, by decide +kernel⟩

theorem test_suppliesAndPanel_4 : ∃ (s : State),
    s.pwr.aux = true :=
  ⟨State.reset, by decide +kernel⟩

theorem test_suppliesAndPanel_9 : ∃ (s : State),
    s.pwr.refclk = true ∧ s.pwr.frozen = false :=
  ⟨wRun, by decide +kernel⟩

theorem test_suppliesAndPanel_10 : ∃ (temps : List Nat) (s : State),
    temps.length = 9 ∧ s.pwr.frozen = false ∧ s.pwr.inReset = false ∧ s.pwr.v48 = true ∧ (∀ d ∈ s.pwr.hot, ¬ Reads temps d 115) :=
  ⟨[179, 10, 10, 10, 10, 10, 10, 10, 10], wRun, by decide +kernel⟩

theorem test_suppliesAndPanel_11 : ∃ (temps : List Nat) (d : Nat) (s : State),
    temps.length = 9 ∧ s.pwr.frozen = false ∧ s.pwr.inReset = false ∧ s.pwr.v48 = true ∧ d ∈ s.pwr.hot ∧ Reads temps d 115 :=
  ⟨[179, 10, 10, 10, 10, 10, 10, 10, 10], 0, { wRun with pwr := { wRun.pwr with hot := [0] } }, by decide +kernel⟩

theorem test_suppliesAndPanel_12 : ∃ (temps : List Nat) (s : State),
    s.pwr.tripped = true ∧ temps.length = 9 ∧ (∀ d, ¬ Reads temps d 95) :=
  ⟨[158, 10, 10, 10, 10, 10, 10, 10, 10], { wRun with pwr := { wRun.pwr with tripped := true } }, ⟨by decide +kernel, by decide +kernel, fun d h => (by decide : ∀ d, d < 9 → ¬ Reads [158, 10, 10, 10, 10, 10, 10, 10, 10] d 95) d h.1 h⟩⟩

theorem test_suppliesAndPanel_13 : ∃ (s : State),
    s.pwr.frozen = true :=
  ⟨wFrz, by decide +kernel⟩

theorem test_suppliesAndPanel_14 : ∃ (s : State),
    s.pwr.frozen = false :=
  ⟨wRun, by decide +kernel⟩

theorem test_suppliesAndPanel_15 : ∃ (s : State),
    pinsUp s = true ∧ portOpen s = true ∧ s.pwr.inReset = false :=
  ⟨{ wRun with vm := [(3, [(1, 1)])] }, by decide +kernel⟩

theorem test_suppliesAndPanel_16 : ∃ (s : State),
    portOpen s = false :=
  ⟨wLc 2, by decide +kernel⟩

theorem test_suppliesAndPanel_17 : ∃ (s : State),
    pinsUp s = true ∧ s.pwr.inReset = false ∧ s.pwr.frozen = false :=
  ⟨wRun, by decide +kernel⟩

theorem test_suppliesAndPanel_18 : ∃ (s : State),
    s.pwr.frozen = false :=
  ⟨wRun, by decide +kernel⟩

theorem test_suppliesAndPanel_19 : ∃ (src : Src) (v : Nat) (s : State),
    Accepted s src eLocate 0 v :=
  ⟨.mgmt 5, 1, wRun, by decide +kernel⟩

theorem test_pcieEndpointActs_1 : ∃ (s : State),
    linkLive s = true ∧ s.pcie.l1 = false ∧ 2 < s.pcie.width :=
  ⟨wRun, by decide +kernel⟩

theorem test_pcieEndpointActs_2 : ∃ (s : State),
    linkLive s = true :=
  ⟨wRun, by decide +kernel⟩

theorem test_pcieEndpointActs_3 : ∃ (i : Nat) (d : Desc) (s : State),
    descOf s i = some d ∧ d.phase = .running ∧ stalled s d = false ∧ isTransport (dOp d) = false :=
  ⟨1, wDesc 0 [], wMod [] 0 [], by decide +kernel⟩

theorem test_pcieEndpointActs_4 : ∃ (f : Nat) (q : Nat) (s : State),
    q < 64 ∧ (cq s f q).enable = true ∧ (cq s f q).fetchErr = false ∧ (cq s f q).head ≠ (cq s f q).prod ∧ (cq s f q).space = 0 ∧ rtUp s = true ∧ fnBlocked s f = false :=
  ⟨0, 63, { wRun with cqs := [(63, { enable := true, head := 5, prod := 7 })] }, by decide +kernel⟩

theorem test_pcieEndpointActs_5 : ∃ (f : Nat) (s : State),
    tdispUp s f = true ∧ tdispSt s f = 0 ∧ fnBlocked s f = false :=
  ⟨1, wVf 0 true, by decide +kernel⟩

theorem test_pcieEndpointActs_6 : ∃ (f : Nat) (s : State),
    tdispUp s f = true ∧ ((tdispSt s f ≠ 0 ∨ fnBlocked s f = true)) :=
  ⟨1, wVf 1 true, by decide +kernel⟩

theorem test_pcieEndpointActs_7 : ∃ (f : Nat) (s : State),
    tdispUp s f = true ∧ tdispSt s f = 1 :=
  ⟨1, wVf 1 true, by decide +kernel⟩

theorem test_pcieEndpointActs_8 : ∃ (f : Nat) (s : State),
    tdispUp s f = true ∧ tdispSt s f ≠ 1 :=
  ⟨1, wVf 0 true, by decide +kernel⟩

theorem test_pcieEndpointActs_9 : ∃ (f : Nat) (s : State),
    tdispUp s f = true ∧ (fnSt s f).scrubDone = true :=
  ⟨1, wVf 2 true, by decide +kernel⟩

theorem test_pcieEndpointActs_10 : ∃ (f : Nat) (s : State),
    tdispUp s f = true ∧ (fnSt s f).scrubDone = false ∧ ((tdispSt s f = 1 ∨ tdispSt s f = 2)) ∧ (fnSt s f).stage = 0 :=
  ⟨1, wVf 2 false, by decide +kernel⟩

theorem test_pcieEndpointActs_11 : ∃ (f : Nat) (s : State),
    tdispUp s f = true ∧ ((tdispSt s f = 1 ∨ tdispSt s f = 2)) ∧ (fnSt s f).stage = 0 :=
  ⟨1, wVf 1 false, by decide +kernel⟩

theorem test_pcieEndpointActs_12 : ∃ (f : Nat) (s : State),
    tdispUp s f = true :=
  ⟨1, wVf 0 true, by decide +kernel⟩

theorem test_pcieEndpointActs_13 : ∃ (k : Nat) (f : Nat) (s : State),
    rtUp s = true ∧ streamFn s k ≠ some f :=
  ⟨3, 2, { wVf 0 true with pcie := { (wVf 0 true).pcie with streams := [(3, 2)] } }, by decide +kernel⟩

theorem test_pcieEndpointActs_14 : ∃ (k : Nat) (f : Nat) (s : State),
    streamFn s k = some f :=
  ⟨3, 1, { wVf 0 true with pcie := { (wVf 0 true).pcie with streams := [(3, 2)] } }, by decide +kernel⟩

theorem test_pcieEndpointActs_15 : ∃ (k : Nat) (f : Nat) (i : Nat) (s : State),
    vaultUp s = true ∧ s.pwr.frozen = false ∧ streamFn s k = some f ∧ nextIdeSlot s f = some i :=
  ⟨3, 1, 9, { wVf 0 true with pcie := { (wVf 0 true).pcie with streams := [(3, 2)] }, vault := [(4, { st := 2, purpose := pIde, owner := 1 }), (9, { st := 1, purpose := pIde, owner := 1 })] }, by decide +kernel⟩

theorem test_pcieEndpointActs_16 : ∃ (code : Nat) (offered : Bool) (s : State),
    linkLive s = true ∧ ((offered = false ∨ (spdmSigned code = true ∧ aliasReady s = false))) :=
  ⟨0x83, true, wRun, by decide +kernel⟩

theorem test_pcieEndpointActs_17 : ∃ (code : Nat) (s : State),
    linkLive s = true ∧ spdmSigned code = false :=
  ⟨0x81, wRun, by decide +kernel⟩

theorem test_pcieEndpointActs_18 : ∃ (code : Nat) (s : State),
    linkLive s = true ∧ spdmSigned code = true ∧ aliasReady s = true ∧ s.boot.aliasLeaf < 1023 :=
  ⟨0xE4, { wNet wEp with boot := { (wNet wEp).boot with aliasLeaf := 1022 } }, by decide +kernel⟩

theorem test_pcieEndpointActs_19 : ∃ (s : State),
    bar2Up s = true :=
  ⟨wRun, by decide +kernel⟩

theorem test_pcieEndpointActs_20 : ∃ (src : Src) (s : State),
    Accepted s src eSnapTake 0 1 :=
  ⟨.mgmt 5, wRun, by decide +kernel⟩

theorem test_debugPortActs_1 : ∃ (s : State),
    pinsUp s = true :=
  ⟨wRun, by decide +kernel⟩

theorem test_debugPortActs_2 : ∃ (s : State),
    pinsUp s = true :=
  ⟨wLc 2, by decide +kernel⟩

theorem test_debugPortActs_4 : ∃ (now : Nat) (pub : Nat) (ok : Bool) (s : State),
    rtUp s = true ∧ s.dbg.ir = 0x12 ∧ effLc s = 2 ∧ s.lcWait = 0 ∧ unlockOk s now pub ok = false :=
  ⟨9, 3, false, { wLc 2 with dbg := { ir := 0x12 } }, by decide +kernel⟩

theorem test_debugPortActs_5 : ∃ (w : DbgWord) (st : Nat) (s : State),
    dbgIssued s w = true ∧ dbgCheck w = some st :=
  ⟨{ target := 15 }, stParam, wDbg, by decide +kernel⟩

theorem test_debugPortActs_6 : ∃ (w : DbgWord) (s : State),
    DbgAccepted s w ∧ w.freeze = false :=
  ⟨{ target := 16 }, wDbg, by decide +kernel⟩

theorem test_debugPortActs_7 : ∃ (w : DbgWord) (s : State),
    DbgAccepted s w ∧ dbgAccess s w = none ∧ w.space = 3 ∧ w.target / 32 ∉ s.pwr.logicOff :=
  ⟨{ target := 16, space := 3, addr := 4, freeze := true }, wFrz, by decide +kernel⟩

theorem test_debugPortActs_8 : ∃ (w : DbgWord) (s : State),
    DbgAccepted s w ∧ dbgAccess s w = none ∧ w.space = 1 ∧ w.target / 32 ∉ s.pwr.logicOff ∧ w.target < 264 :=
  ⟨{ target := 263, space := 1, addr := 4 }, { wDbg with dbg := { wDbg.dbg with coreMem := [(263 * 2 ^ 48 + 4, 9)] } }, by decide +kernel⟩

theorem test_debugPortActs_9 : ∃ (w : DbgWord) (s : State),
    DbgAccepted s w ∧ w.freeze = false ∧ dbgAccess s w = none ∧ w.space = 3 :=
  ⟨{ target := 16, space := 3, addr := loftBytes - 4, data := 2 ^ 32 + 7 }, wDbg, by decide +kernel⟩

theorem test_debugPortActs_10 : ∃ (w : DbgWord) (s : State),
    DbgAccepted s w ∧ w.freeze = false ∧ w.target < 264 :=
  ⟨{ target := 17 }, wDbg, by decide +kernel⟩

theorem test_debugPortActs_11 : ∃ (w : DbgWord) (s : State),
    DbgAccepted s w ∧ w.freeze = false ∧ w.target < 264 :=
  ⟨{ target := 16 }, wDbg, by decide +kernel⟩

theorem test_debugPortActs_12 : ∃ (w : DbgWord) (d : Desc) (s : State),
    DbgAccepted s w ∧ w.freeze = false ∧ w.target < 264 ∧ w.slot ≠ 0 ∧ w.target ∈ s.dbg.halted ∧ heldDesc s w.target = some d :=
  ⟨{ target := 16, slot := 255 }, { wDesc 0 [] with unit := 16, engs := [16] }, wDbg, by decide +kernel⟩

theorem test_debugPortActs_13 : ∃ (w : DbgWord) (s : State),
    DbgAccepted s w ∧ w.freeze = false ∧ w.slot = 0 :=
  ⟨{ target := 16 }, wDbg, by decide +kernel⟩

theorem test_debugPortActs_14 : ∃ (w : DbgWord) (s : State),
    DbgAccepted s w ∧ w.target < 264 :=
  ⟨{ target := 16 }, wDbg, by decide +kernel⟩

theorem test_debugPortActs_15 : ∃ (w : DbgWord) (s : State),
    DbgAccepted s w ∧ w.freeze = false ∧ ((w.target < 256 ∧ w.slot < 4 ∨ 256 ≤ w.target ∧ w.target < 264 ∧ w.slot < 12)) :=
  ⟨{ target := 263, slot := 11, addr := 8 }, wDbg, by decide +kernel⟩

theorem test_dictionaryReadsAndWrites_1 : ∃ (src : Src) (index : Nat) (sub : Nat) (len : Nat) (v : Nat) (e : Ent) (s : State),
    odFind index sub = some e ∧ ownCommand e = false ∧ e ≠ eTileFirst ∧ e ≠ eTileCount ∧ codeRule src e (recordNo src e index) v = none ∧ (configRule e (recordNo src e index) (sub - e.subLo) v).isNone = true ∧ AcceptedLen s src e (recordNo src e index) len v :=
  ⟨.mgmt 5, 0x3000, 2, 4, 2 ^ 32 - 1, eFabricId, wRun, by decide +kernel⟩

theorem test_dictionaryReadsAndWrites_2 : ∃ (src : Src) (index : Nat) (sub : Nat) (s : State),
    odFind index sub = none ∧ srcLive s src = true :=
  ⟨.mgmt 5, 0x3000, 0, wRun, by decide +kernel⟩

theorem test_dictionaryReadsAndWrites_3 : ∃ (f : Nat) (q : Nat) (s : State),
    q < 64 ∧ bar0Answers s f (0x1000 + 64 * q) = true :=
  ⟨0, 63, wRun, by decide +kernel⟩

theorem test_dictionaryReadsAndWrites_4 : ∃ (a : Nat) (size : Nat) (s : State),
    s.boot.st = 1 ∧ s.boot.claim ≠ 2 ∧ a + size ≤ 0x400000 ∧ a < 0x400000 ∧ bar0Answers s 0 (0x1000000 + a) = true :=
  ⟨0x3FFFF8, 8, wWait, by decide +kernel⟩

theorem test_dictionaryReadsAndWrites_5 : ∃ (f : Nat) (s : State),
    fnExists s f = true ∧ s.pwr.frozen = false ∧ s.pwr.inReset = false :=
  ⟨0, wRun, by decide +kernel⟩

theorem test_dictionaryReadsAndWrites_6 : ∃ (f : Nat) (s : State),
    f ≠ 0 ∧ fnExists s f = true ∧ s.pwr.frozen = false ∧ s.pwr.inReset = false :=
  ⟨1, wVf 0 true, by decide +kernel⟩

theorem test_dictionaryReadsAndWrites_7 : ∃ (k : Nat) (f : Nat) (s : State),
    rtUp s = true ∧ f < 64 ∧ tdispLocked s f = false ∧ ((∀ g, streamFn s k = some g → tdispLocked s g = false)) :=
  ⟨3, 63, wVf 0 true, ⟨by decide +kernel, by decide +kernel, by decide +kernel, fun g h => nomatch (show none = some g from h)⟩⟩

theorem test_dictionaryReadsAndWrites_8 : ∃ (w : Nat) (s : State),
    bar2Up s = true ∧ ((w = 8 ∨ w = 9)) :=
  ⟨9, wRun, by decide +kernel⟩

theorem test_dictionaryReadsAndWrites_9 : ∃ (src : Src) (index : Nat) (sub : Nat) (v : Nat) (n : Nat) (s : State),
    srcLive s src = true ∧ odFind index sub ≠ some eDebugChallenge ∧ odLookup s src index sub = (stOk, v, n) :=
  ⟨.mgmt 5, 0x3000, 2, 0, 4, wRun, by decide +kernel⟩

theorem test_dictionaryReadsAndWrites_10 : ∃ (src : Src) (index : Nat) (sub : Nat) (st : Nat) (v : Nat) (n : Nat) (s : State),
    srcLive s src = true ∧ odFind index sub ≠ some eDebugChallenge ∧ odLookup s src index sub = (st, v, n) ∧ st ≠ stOk :=
  ⟨.mgmt 5, 0x3000, 200, stUnsupported, 0, 0, wRun, by decide +kernel⟩

theorem test_dictionaryReadsAndWrites_11 : ∃ (src : Src) (index : Nat) (sub : Nat) (off : Nat) (s : State),
    srcLive s src = true ∧ odFind index sub ≠ some eDebugChallenge ∧ off ≠ 0 :=
  ⟨.mgmt 5, 0x3000, 2, 1, { wRun with copies := [{ src := .mgmt 5, txn := 7, value := 5, len := 4 }] }, by decide +kernel⟩

theorem test_dictionaryReadsAndWrites_12 : ∃ (s : State),
    s.pwr.frozen = false :=
  ⟨{ wRun with copies := [{ src := .mgmt 5, txn := 7, value := 5, len := 4 }] }, by decide +kernel⟩

theorem test_dictionaryReadsAndWrites_13 : ∃ (src : Src) (txn : Nat) (index : Nat) (len : Nat) (s : State),
    srcLive s src = true ∧ stagingOf s src txn = none ∧ len ≠ 0 ∧ len ≤ maxData s src ∧ index ≠ 0x1F00 :=
  ⟨.mgmt 5, 7, 0x6003, 4080, wRun, by decide +kernel⟩

theorem test_dictionaryReadsAndWrites_14 : ∃ (src : Src) (txn : Nat) (len : Nat) (x : Staging) (s : State),
    srcLive s src = true ∧ stagingOf s src txn = some x ∧ x.lapsed = false ∧ len ≠ 0 ∧ len ≤ maxData s src ∧ x.index ≠ 0x1F00 :=
  ⟨.mgmt 5, 7, 3, { src := .mgmt 5, txn := 7, index := 0x3000, sub := 2, value := 5, len := 1, lapsed := false }, { wRun with staging := [{ src := .mgmt 5, txn := 7, index := 0x3000, sub := 2, value := 5, len := 1, lapsed := false }] }, by decide +kernel⟩

theorem test_dictionaryReadsAndWrites_15 : ∃ (src : Src) (txn : Nat) (off : Nat) (x : Staging) (s : State),
    srcLive s src = true ∧ stagingOf s src txn = some x ∧ x.lapsed = true ∧ off ≠ 0 :=
  ⟨.mgmt 5, 7, 1, { src := .mgmt 5, txn := 7, index := 0x3000, sub := 2, value := 0, len := 0, lapsed := true }, { wRun with staging := [{ src := .mgmt 5, txn := 7, index := 0x3000, sub := 2, value := 0, len := 0, lapsed := true }] }, by decide +kernel⟩

theorem test_dictionaryReadsAndWrites_16 : ∃ (s : State),
    s.pwr.frozen = false :=
  ⟨{ wRun with staging := [{ src := .mgmt 5, txn := 7, index := 0x3000, sub := 2, value := 5, len := 1, lapsed := false }] }, by decide +kernel⟩

theorem test_dictionaryReadsAndWrites_17 : ∃ (f : Nat) (c : Nat) (s : State),
    readLive s f = true ∧ bar0Up s f = true ∧ ownsCounter s f c = true :=
  ⟨0, 63, { wCtx with syn := [(63, 5)] }, by decide +kernel⟩

theorem test_dictionaryReadsAndWrites_18 : ∃ (f : Nat) (c : Nat) (s : State),
    readLive s f = true ∧ bar0Up s f = true ∧ c < 16384 ∧ ownsCounter s f c = false :=
  ⟨0, 16383, wCtx, by decide +kernel⟩

theorem test_dictionaryReadsAndWrites_19 : ∃ (s : State),
    readLive s 0 = true ∧ running s = false :=
  ⟨wWait, by decide +kernel⟩

theorem test_dictionaryReadsAndWrites_20 : ∃ (s : State),
    readLive s 0 = true ∧ running s = true :=
  ⟨wRun, by decide +kernel⟩

theorem test_dictionaryReadsAndWrites_21 : ∃ (f : Nat) (len : Nat) (s : State),
    mboxUp s f = true ∧ fnExists s f = true ∧ mbBad s f len = false :=
  ⟨0, 4096, { wRun with mboxes := [] }, by decide +kernel⟩

theorem test_dictionaryReadsAndWrites_22 : ∃ (f : Nat) (len : Nat) (s : State),
    mboxUp s f = true ∧ fnExists s f = true ∧ mbBad s f len = true :=
  ⟨0, 15, { wRun with mboxes := [] }, by decide +kernel⟩

theorem test_refusedWritesChangeNothing_1 : ∃ (c : Instr) (src : Src) (e : Ent) (n : Nat) (len : Nat) (v : Nat) (s : State),
    writeOf c = some (src, e, n, len, v) ∧ srcLive s src = false :=
  ⟨.create (.mgmt 6) 3, .mgmt 6, eCtxCommand, 3, 1, 1, wRun, by decide +kernel⟩

theorem test_refusedWritesChangeNothing_2 : ∃ (c : Instr) (src : Src) (e : Ent) (n : Nat) (len : Nat) (v : Nat) (st : Nat) (s : State),
    writeOf c = some (src, e, n, len, v) ∧ srcLive s src = true ∧ odEarly s src e n = some st :=
  ⟨.policyLock (.port) 3, .port, ePolicyLock, 3, 1, 1, stAccess, wRun, by decide +kernel⟩

theorem test_refusedWritesChangeNothing_3 : ∃ (c : Instr) (src : Src) (e : Ent) (n : Nat) (len : Nat) (v : Nat) (st : Nat) (s : State),
    writeOf c = some (src, e, n, len, v) ∧ srcLive s src = true ∧ odEarly s src e n = none ∧ odLate s e n len v = some st :=
  ⟨.locateWrite (.mgmt 5) 2, .mgmt 5, eLocate, 0, 1, 2, stParam, wRun, by decide +kernel⟩

theorem test_refusedWritesChangeNothing_4 : ∃ (e : Ent) (n : Nat),
    e.perFn = false ∧ e.count ≤ n :=
  ⟨eCtxCommand, 256, by decide +kernel⟩

theorem test_refusedWritesChangeNothing_5 : ∃ (src : Src) (e : Ent) (n : Nat) (s : State),
    ((e.perFn = true ∨ n < e.count)) ∧ srcMayWrite s src e n = false :=
  ⟨.mgmt 5, eCtxState, 255, wRun, by decide +kernel⟩

theorem test_refusedWritesChangeNothing_6 : ∃ (src : Src) (e : Ent) (n : Nat) (s : State),
    ((e.perFn = true ∨ n < e.count)) ∧ srcMayWrite s src e n = true ∧ srcFn src < 64 ∧ fnBlocked s (srcFn src) = true ∧ fencedEntry s (srcFn src) e n = true :=
  ⟨.mailbox 1, eCtxCommand, 3, wRun, by decide +kernel⟩

theorem test_refusedWritesChangeNothing_7 : ∃ (e : Ent) (n : Nat) (s : State),
    lockedEntry s e n = true :=
  ⟨eFabricId, 0, wrE wRun eFabricLock 0 1, by decide +kernel⟩

theorem test_refusedWritesChangeNothing_8 : ∃ (e : Ent) (n : Nat) (len : Nat) (v : Nat) (s : State),
    lockedEntry s e n = false ∧ ((lenOk e len = false ∨ valueOk e v = false)) :=
  ⟨eEthMode, 0, 1, 3, wRun, by decide +kernel⟩

theorem test_ethernetPortsTakeFrames_1b : ∃ (src : Src) (p v : Nat) (s : State), anyRoundOpen s = false ∧ Accepted s src eEthMode p v ∧
    Accepted s src eEthInterface p v :=
  ⟨.mgmt 5, 3, 1, wPort 0 {}, by decide +kernel⟩

set_option maxRecDepth 100000 in
/-- A bundle passes wherever SHA-256 of its signer's key is not 0, the value that stands for no authority. -/
theorem test_vaultAndQuotes_8 (h : Config.sha256 (bytesOf 7 60) ≠ 0) : ∃ (src : Src) (m : Mem) (ok : Bool) (b : Bundle) (s : State),
    AcceptedLen s src ePolicyBundle 0 16384 0 ∧ b = bundleOf m ok ∧ bundleStatus s (srcFn src) b = stOk := by
  refine ⟨.mailbox 0, wBundle, true, bundleOf wBundle true,
    { wCtx with od := (entKey ePolicyAuthority 0 0, Config.sha256 (bytesOf 7 60)) :: wCtx.od, mboxes := [(0, { busy := true })] },
    by decide +kernel, rfl, ?_⟩
  rw [bundleStatus, if_neg (by decide +kernel), if_neg, if_neg (by decide +kernel), if_neg (by decide +kernel), if_neg (by decide +kernel)]
  rw [show rdE _ ePolicyAuthority (srcFn (.mailbox 0)) = Config.sha256 (bytesOf 7 60) from rfl,
    show (bundleOf wBundle true).signerPub = 7 by decide +kernel]
  simp only [h, show (bundleOf wBundle true).sigOk = true from rfl, show (bundleOf wBundle true).bootCount = 0 by decide +kernel,
    show (bundleOf wBundle true).serial = 0 by decide +kernel]
  simp

theorem unlock_ok (s : State) (h : Config.sha256 (bytesOf 7 60) ≠ 0) (h1 : s.fuses.debugKey = Config.sha256 (bytesOf 7 60))
    (h2 : s.boot.challenge = some 5) (h3 : s.boot.challengeAt = 100) (h4 : s.boot.press = some 200) : unlockOk s 60100 7 true = true := by
  simp [unlockOk, h1, h2, h3, h4, h]

/-- A response is accepted wherever SHA-256 of the debug key is not 0, the value that stands for no debug key. -/
theorem test_lifecycleCommandsTakeEffect_5 (h : Config.sha256 (bytesOf 7 60) ≠ 0) : ∃ (src : Src) (now pub : Nat) (s : State),
    AcceptedLen s src eDebugResponse 0 4096 0 ∧ effLc s = 2 ∧ s.lcWait = 0 ∧ rdE s eUnlockFails 0 < 3 ∧ unlockOk s now pub true = true :=
  ⟨.mgmt 5, 60100, 7, wLc 2, by decide +kernel, by decide +kernel, by decide +kernel, by decide +kernel, unlock_ok _ h rfl rfl rfl rfl⟩

/-- The same through the debug port. -/
theorem test_debugPortActs_3 (h : Config.sha256 (bytesOf 7 60) ≠ 0) : ∃ (now pub : Nat) (s : State),
    rtUp s = true ∧ s.dbg.ir = 0x12 ∧ effLc s = 2 ∧ s.lcWait = 0 ∧ rdE s eUnlockFails 0 < 3 ∧ unlockOk s now pub true = true :=
  ⟨60100, 7, { wLc 2 with dbg := { ir := 0x12 } }, by decide +kernel, by decide +kernel, by decide +kernel, by decide +kernel,
    by decide +kernel, unlock_ok _ h rfl rfl rfl rfl⟩

/-- A descriptor of context 3 with a record at 0x4000, a signal to counter 63 and an event; and one without event or signal. -/
theorem test_completionDelivers : ∃ (s : State) (d : Desc) (st : Nat),
    recordOk s d = true ∧ signals d st = true ∧ st < 256 ∧ dQueue d < 65536 ∧ d.unit < 65536 :=
  ⟨wQ {} {} [wHeld 1 0 [(1, 0x0A), (16, 63), (20, 1), (24, 0x4000)]], wHeld 1 0 [(1, 0x0A), (16, 63), (20, 1), (24, 0x4000)], stOk, by decide +kernel⟩

theorem test_completionDelivers_event : ∃ (s : State) (d : Desc) (st : Nat), dEvent d = true ∧ signals d st = false ∧ fnBlocked s d.fn = false ∧
    (evq s d.fn (evqOf s d.fn d.queue)).enable = true ∧
    (evq s d.fn (evqOf s d.fn d.queue)).entries.length < (evq s d.fn (evqOf s d.fn d.queue)).depth ∧
    (evq s d.fn (evqOf s d.fn d.queue)).lostBefore = false :=
  ⟨wQ { evq := 1 } { enable := true, depth := 64 } [wHeld 1 0 [(1, 0x10)]], wHeld 1 0 [(1, 0x10)], stOk, by decide +kernel⟩

/-- A step with a command in front, over a state whose memories have their form. -/
theorem test_memoryFormKept : ∃ (s t : State), MemoryOk s ∧ s.pending ≠ [] ∧ step s = .next t :=
  ⟨{ State.reset with pending := [.pwrGoodAssert] }, State.reset, ⟨rfl, fun _ => rfl, fun _ => rfl, fun _ => rfl, rfl⟩, by decide +kernel, rfl⟩

theorem test_fusesOnlyBurn : ∃ (s t : State), s.fuses.lifecycle = 5 ∧ s.pending ≠ [] ∧ step s = .next t :=
  ⟨{ State.reset with pending := [.pwrGoodAssert], fuses := { lifecycle := 5 } }, { State.reset with fuses := { lifecycle := 5 } },
    rfl, by decide +kernel, rfl⟩

theorem test_rngQueueStaysWhole : ∃ (s t : State), s.rng.queue.length = 64 ∧ s.rng.tail = 0 ∧ s.pending ≠ [] ∧ step s = .next t :=
  ⟨{ State.reset with pending := [.wakeN], rng := { queue := List.replicate 64 5 } }, { State.reset with rng := { queue := List.replicate 64 5 } },
    List.length_replicate, rfl, by decide +kernel, rfl⟩

theorem test_registerCommandsKeepMemory : ∃ (c : Instr) (s t : State), registerOnly c = true ∧ exec c s = .next t :=
  ⟨.pwrGoodAssert, State.reset, State.reset, rfl, rfl⟩

theorem test_waitingCommandsStay : ∃ (c : Instr) (s t : State), s.pending ≠ [] ∧ exec c s = .next t :=
  ⟨.pwrGoodAssert, { State.reset with pending := [.wakeN] }, { State.reset with pending := [.wakeN] }, by decide +kernel, rfl⟩

end Sys2Proof.Tests
end

section
/-! SUPPORT. What a completion changes (R13, R275 to R277, R287): its record, its signal and its event, and O57. -/

namespace Sys2Proof.Machine
open Sys2Proof

/-! ### Fields of a number written to memory -/

/-- A field of k + 1 bytes is its lowest byte and the k bytes above it. -/
theorem fld_succ (v j k : Nat) : fld v j (k + 1) = fld v j 1 + 256 * fld v (j + 1) k := by
  have hd : v / 2 ^ (8 * (j + 1)) = v / 2 ^ (8 * j) / 256 := by
    rw [Nat.mul_add, Nat.pow_add, Nat.div_div_eq_div_mul]
  have hm : 2 ^ (8 * (k + 1)) = 256 * 2 ^ (8 * k) := by rw [Nat.mul_add, Nat.pow_add, Nat.mul_comm]
  simp only [fld, hd, hm, Nat.mod_mul, show 2 ^ (8 * 1) = 256 from rfl]

/-- Byte j of the n bytes written. -/
theorem mget_mwr_inside (m : Mem) (a n v j : Nat) (h : j < n) :
    mget (mwr m a n v) (a + j) = BitVec.ofNat 8 (fld v j 1) := by
  induction n generalizing m a v j with
  | zero => omega
  | succ n ih =>
    rw [mwr]
    cases j with
    | zero =>
      rw [mget_mwr_outside _ _ _ _ _ (by omega), Nat.add_zero, mget_mset, if_pos rfl]
      simp [fld]
    | succ j =>
      rw [show a + (j + 1) = a + 1 + j by omega, ih _ _ _ _ (by omega)]
      simp only [fld, Nat.mul_add, Nat.pow_add, Nat.div_div_eq_div_mul]
      rw [Nat.mul_comm 256]

/-- A field inside the n bytes written reads back. -/
theorem mrd_mwr_inside (m : Mem) (a n v j k : Nat) (h : j + k ≤ n) : mrd (mwr m a n v) (a + j) k = fld v j k := by
  induction k generalizing j with
  | zero => simp [mrd, fld, Nat.mod_one]
  | succ k ih =>
    have hb : fld v j 1 < 2 ^ 8 := Nat.mod_lt _ (by decide)
    rw [mrd, mget_mwr_inside _ _ _ _ _ (by omega), Nat.add_assoc, ih _ (by omega), BitVec.toNat_ofNat,
      Nat.mod_eq_of_lt hb, ← fld_succ]

/-! ### The completion record (R275) -/

theorem df_one_lt (d : Desc) (off : Nat) : df d off 1 < 256 := Nat.mod_lt _ (by decide)

/-- STATUS, OPCODE, CONTEXT, SOURCE, SEQUENCE and DETAIL stand in the record at their offsets. -/
theorem recordOf_fields (s : State) (d : Desc) (st detail : Nat) (hst : st < 256) (hq : dQueue d < 65536) (hu : d.unit < 65536) :
    fld (recordOf s d st detail) 0 1 = st ∧ fld (recordOf s d st detail) 1 1 = dOp d ∧
    fld (recordOf s d st detail) 2 1 = dCtx d ∧ fld (recordOf s d st detail) 6 2 = d.unit ∧
    fld (recordOf s d st detail) 8 4 = d.seq % 2 ^ 32 ∧ fld (recordOf s d st detail) 12 4 = detail % 2 ^ 32 := by
  have ho : dOp d < 256 := df_one_lt d 0
  have hc : dCtx d < 256 := df_one_lt d 2
  have hf : b2n (signals d st) + 2 * b2n d.promoted < 256 := by
    cases signals d st <;> cases d.promoted <;> decide
  have hs : d.seq % 2 ^ 32 < 2 ^ 32 := Nat.mod_lt _ (by decide)
  have hd : detail % 2 ^ 32 < 2 ^ 32 := Nat.mod_lt _ (by decide)
  simp only [fld, recordOf]
  generalize b2n (signals d st) + 2 * b2n d.promoted = fl at *
  generalize d.seq % 2 ^ 32 = sq at *
  generalize detail % 2 ^ 32 = dt at *
  generalize Config.freeNat s.free % 2 ^ 32 = w0
  generalize Config.freeNat (s.free + 1) % 2 ^ 32 = w1
  refine ⟨?_, ?_, ?_, ?_, ?_, ?_⟩ <;> omega

/-! ### Signals (R276, R287) -/

/-- x is y, but for the held mark of a WAIT. -/
def SameButAux (x y : Desc) : Prop := x = { y with aux := x.aux }

theorem markWaits_descs (s : State) (c : Nat) : ∃ f : Desc → Desc, (∀ d, SameButAux (f d) d) ∧ (markWaits s c).descs = s.descs.map f := by
  refine ⟨_, fun d => ?_, rfl⟩
  split <;> rfl

theorem synGet_synSet (s : State) (c v k : Nat) : synGet (synSet s c v) k = if c = k then v else synGet s k := by
  simp [synSet, synGet, tget_tset]

/-- An addition sets the counter, and may post an event besides. -/
theorem synAdd_eq (s : State) (c x : Nat) :
    synAdd s c x = synSet s c (satAdd 0xFFFFFFFF (synGet s c) x) ∨
      ∃ f ent, synAdd s c x = postEvent (synSet s c (satAdd 0xFFFFFFFF (synGet s c) x)) f 0 ent := by
  unfold synAdd
  extract_lets
  split
  · exact .inl rfl
  · split
    · exact .inr ⟨_, _, rfl⟩
    · exact .inl rfl

@[simp] theorem synGet_postEvent (s : State) (f e ent c : Nat) : synGet (postEvent s f e ent) c = synGet s c := by
  simp [synGet]

theorem synGet_synAdd (s : State) (c x k : Nat) :
    synGet (synAdd s c x) k = if c = k then satAdd 0xFFFFFFFF (synGet s c) x else synGet s k := by
  obtain h | ⟨f, ent, h⟩ := synAdd_eq s c x <;> simp [h, synGet_synSet]

/-- The counter after the signal of a completion. -/
theorem synGet_signalOf (s : State) (d : Desc) (k : Nat) :
    synGet (signalOf s d) k = if dSigCtr d = k then
      (if dOp d = 0x71 ∧ df d 32 1 = 1 then dSigInc d else satAdd 0xFFFFFFFF (synGet s (dSigCtr d)) (dSigInc d))
      else synGet s k := by
  unfold signalOf
  split
  · exact synGet_synSet _ _ _ _
  · exact synGet_synAdd _ _ _ _

/-- Descriptors keep all but their held mark. -/
def DescsKept (l l' : List Desc) : Prop := ∃ f : Desc → Desc, (∀ d, SameButAux (f d) d) ∧ l' = l.map f

theorem DescsKept.refl (l : List Desc) : DescsKept l l := ⟨id, fun _ => rfl, by simp⟩

theorem descsKept_synSet (s : State) (c v : Nat) : DescsKept s.descs (synSet s c v).descs := by
  obtain ⟨f, hf, he⟩ := markWaits_descs { s with syn := tset s.syn 0 c v } c
  exact ⟨f, hf, by simpa [synSet] using he⟩

theorem descsKept_signalOf (s : State) (d : Desc) : DescsKept s.descs (signalOf s d).descs := by
  unfold signalOf
  split
  · exact descsKept_synSet _ _ _
  · obtain h | ⟨f, ent, h⟩ := synAdd_eq s (dSigCtr d) (dSigInc d) <;> rw [h]
    · exact descsKept_synSet _ _ _
    · simpa using descsKept_synSet _ _ _

theorem signalOf_frame (s : State) (d : Desc) :
    (signalOf s d).vm = s.vm ∧ (signalOf s d).loft = s.loft ∧ (signalOf s d).host = s.host ∧
    (signalOf s d).tiles = s.tiles ∧ (signalOf s d).ctxs = s.ctxs ∧ (signalOf s d).od = s.od := by
  unfold signalOf
  split <;> simp

/-! ### The completion -/

/-- The state of a completion before its signal and its event: the record written, the descriptor gone. -/
def recordAndLeave (s : State) (d : Desc) (st detail : Nat) : State :=
  let s1 := if recordOk s d then
      setVm s (dCtx d) (mwr (vmOf s (dCtx d)) (dRecAddr d) 32 (recordOf s d st detail))
    else s
  { s1 with descs := s1.descs.filter (fun x => x.id != d.id), free := s1.free + 2 }

/-- The state of a completion before its event. -/
def recordAndSignal (s : State) (d : Desc) (st detail : Nat) : State :=
  if signals d st then signalOf (recordAndLeave s d st detail) d else recordAndLeave s d st detail

theorem completeDesc_eq (s : State) (d : Desc) (st detail : Nat) :
    completeDesc s d st detail = if dEvent d then
      postEvent (recordAndSignal s d st detail) d.fn (evqOf s d.fn d.queue)
        (evEntry evCompletion (dCtx d) st d.queue d.unit d.seq (dOp d))
    else recordAndSignal s d st detail := rfl

theorem recordAndLeave_frame (s : State) (d : Desc) (st detail : Nat) :
    (recordAndLeave s d st detail).loft = s.loft ∧ (recordAndLeave s d st detail).host = s.host ∧
    (recordAndLeave s d st detail).tiles = s.tiles ∧ (recordAndLeave s d st detail).ctxs = s.ctxs ∧
    (recordAndLeave s d st detail).od = s.od ∧ (recordAndLeave s d st detail).syn = s.syn ∧
    (recordAndLeave s d st detail).evqs = s.evqs ∧
    (recordAndLeave s d st detail).descs = s.descs.filter (fun x => x.id != d.id) := by
  unfold recordAndLeave
  split <;> simp

theorem recordAndLeave_vm (s : State) (d : Desc) (st detail : Nat) :
    (recordAndLeave s d st detail).vm = if recordOk s d then
      tset s.vm [] (dCtx d) (mwr (vmOf s (dCtx d)) (dRecAddr d) 32 (recordOf s d st detail)) else s.vm := by
  unfold recordAndLeave
  split <;> rfl

/-- The event changes nothing but event queues and interrupts. -/
theorem completeDesc_beforeEvent (s : State) (d : Desc) (st detail : Nat) :
    let u := recordAndSignal s d st detail
    let t := completeDesc s d st detail
    t.descs = u.descs ∧ t.loft = u.loft ∧ t.host = u.host ∧ t.tiles = u.tiles ∧ t.ctxs = u.ctxs ∧ t.od = u.od ∧
      t.vm = u.vm ∧ t.syn = u.syn := by
  rw [completeDesc_eq]
  split <;> simp

/-- The signal changes counters, triggers and held marks, never memories, contexts or the dictionary. -/
theorem completeDesc_frame (s : State) (d : Desc) (st detail : Nat) :
    (completeDesc s d st detail).loft = s.loft ∧ (completeDesc s d st detail).host = s.host ∧
    (completeDesc s d st detail).tiles = s.tiles ∧ (completeDesc s d st detail).ctxs = s.ctxs ∧
    (completeDesc s d st detail).od = s.od := by
  obtain ⟨-, hl, hh, ht, hc, ho, -⟩ := completeDesc_beforeEvent s d st detail
  rw [hl, hh, ht, hc, ho]
  unfold recordAndSignal
  split <;> simp [signalOf_frame, recordAndLeave_frame]

theorem completeDesc_vm (s : State) (d : Desc) (st detail : Nat) :
    (completeDesc s d st detail).vm = if recordOk s d then
      tset s.vm [] (dCtx d) (mwr (vmOf s (dCtx d)) (dRecAddr d) 32 (recordOf s d st detail)) else s.vm := by
  obtain ⟨-, -, -, -, -, -, hv, -⟩ := completeDesc_beforeEvent s d st detail
  rw [hv, ← recordAndLeave_vm]
  unfold recordAndSignal
  split <;> simp [signalOf_frame]

theorem descsKept_completeDesc (s : State) (d : Desc) (st detail : Nat) :
    DescsKept (s.descs.filter (fun x => x.id != d.id)) (completeDesc s d st detail).descs := by
  obtain ⟨hd, -⟩ := completeDesc_beforeEvent s d st detail
  obtain ⟨-, -, -, -, -, -, -, hl⟩ := recordAndLeave_frame s d st detail
  rw [hd, ← hl]
  unfold recordAndSignal
  split
  · exact descsKept_signalOf _ _
  · exact .refl _

/-- A completion that signals changes its counter alone. -/
theorem synGet_completeDesc (s : State) (d : Desc) (st detail k : Nat) (hs : signals d st = true) :
    synGet (completeDesc s d st detail) k = if dSigCtr d = k then
      (if dOp d = 0x71 ∧ df d 32 1 = 1 then dSigInc d else satAdd 0xFFFFFFFF (synGet s (dSigCtr d)) (dSigInc d))
      else synGet s k := by
  obtain ⟨-, -, -, -, -, -, -, hy⟩ := completeDesc_beforeEvent s d st detail
  have hg (c : Nat) : synGet (recordAndLeave s d st detail) c = synGet s c := by
    simp [synGet, recordAndLeave_frame]
  rw [synGet, hy, ← synGet, recordAndSignal, if_pos hs, synGet_signalOf, hg, hg]

/-- A completion that does not signal changes no counter and no held mark. -/
theorem completeDesc_of_not_signals (s : State) (d : Desc) (st detail : Nat) (hs : signals d st = false) :
    (completeDesc s d st detail).syn = s.syn ∧
      (completeDesc s d st detail).descs = s.descs.filter (fun x => x.id != d.id) := by
  obtain ⟨hd, -, -, -, -, -, -, hy⟩ := completeDesc_beforeEvent s d st detail
  simp [hd, hy, recordAndSignal, hs, recordAndLeave_frame]

/-- An entry posted to an enabled queue with room goes to its end. -/
theorem evq_postEvent_room (s : State) (f e ent : Nat) (hf : fnBlocked s f = false) (he : (evq s f e).enable = true)
    (hr : (evq s f e).entries.length < (evq s f e).depth) (hl : (evq s f e).lostBefore = false) :
    (evq (postEvent s f e ent) f e).entries = (evq s f e).entries ++ [ent] := by
  have hd : ¬ ((evq s f e).enable = false ∨ (evq s f e).depth = 0) := by simp [he]; omega
  simp only [postEvent, hf, hl, if_neg hd, if_neg (Nat.not_le.2 hr), Bool.false_eq_true, if_false]
  split <;> simp

theorem vmOf_completeDesc_ne (s : State) (d : Desc) (st detail : Nat) {n : Nat} (hn : n ≠ dCtx d) :
    vmOf (completeDesc s d st detail) n = vmOf s n := by
  rw [vmOf, completeDesc_vm]
  split
  · rw [tget_tset_ne _ _ _ hn.symm, vmOf]
  · rfl

theorem vmOf_completeDesc_own (s : State) (d : Desc) (st detail : Nat) (hr : recordOk s d = true) :
    vmOf (completeDesc s d st detail) (dCtx d) = mwr (vmOf s (dCtx d)) (dRecAddr d) 32 (recordOf s d st detail) := by
  rw [vmOf, completeDesc_vm, if_pos hr, tget_tset_same]

/-- A field of the record, read where it was written. -/
theorem mrd_completeDesc_record (s : State) (d : Desc) (st detail : Nat) (hr : recordOk s d = true) (j k : Nat)
    (hjk : j + k ≤ 32) :
    mrd (vmOf (completeDesc s d st detail) (dCtx d)) (dRecAddr d + j) k = fld (recordOf s d st detail) j k := by
  rw [vmOf_completeDesc_own _ _ _ _ hr, mrd_mwr_inside _ _ _ _ _ _ hjk]

/-- Every descriptor after the completion is one of another id from before it, but for its held mark. -/
theorem mem_completeDesc_descs (s : State) (d : Desc) (st detail : Nat) {x : Desc}
    (hx : x ∈ (completeDesc s d st detail).descs) : ∃ y ∈ s.descs, y.id ≠ d.id ∧ SameButAux x y := by
  obtain ⟨f, hf, he⟩ := descsKept_completeDesc s d st detail
  obtain ⟨y, hy, rfl⟩ := List.mem_map.1 (he ▸ hx)
  obtain ⟨hm, hi⟩ := List.mem_filter.1 hy
  exact ⟨y, hm, by simpa using hi, hf y⟩

/-- Every descriptor of another id is still there after the completion, but for its held mark. -/
theorem completeDesc_keeps_descs (s : State) (d : Desc) (st detail : Nat) {y : Desc} (hy : y ∈ s.descs)
    (hi : y.id ≠ d.id) : ∃ x ∈ (completeDesc s d st detail).descs, SameButAux x y := by
  obtain ⟨f, hf, he⟩ := descsKept_completeDesc s d st detail
  exact ⟨f y, he ▸ List.mem_map_of_mem (List.mem_filter.2 ⟨hy, by simpa using hi⟩), hf y⟩

/-- Without a signal the event's entry goes to the end of its queue, if that is enabled and has room. -/
theorem evq_completeDesc_room (s : State) (d : Desc) (st detail : Nat) (he : dEvent d = true) (hs : signals d st = false)
    (hf : fnBlocked s d.fn = false) (hen : (evq s d.fn (evqOf s d.fn d.queue)).enable = true)
    (hroom : (evq s d.fn (evqOf s d.fn d.queue)).entries.length < (evq s d.fn (evqOf s d.fn d.queue)).depth)
    (hlost : (evq s d.fn (evqOf s d.fn d.queue)).lostBefore = false) :
    (evq (completeDesc s d st detail) d.fn (evqOf s d.fn d.queue)).entries =
      (evq s d.fn (evqOf s d.fn d.queue)).entries ++
        [evEntry evCompletion (dCtx d) st d.queue d.unit d.seq (dOp d)] := by
  have hu : recordAndSignal s d st detail = recordAndLeave s d st detail := by simp [recordAndSignal, hs]
  have hq : evq (recordAndLeave s d st detail) = evq s := by
    funext f q
    simp [evq, recordAndLeave_frame]
  have hb : fnBlocked (recordAndLeave s d st detail) d.fn = fnBlocked s d.fn := by
    simp [fnBlocked, rdE, rdEj, recordAndLeave_frame]
  rw [completeDesc_eq, if_pos he, hu, evq_postEvent_room _ _ _ _ (by rw [hb, hf])] <;> simp [hq, hen, hroom, hlost]

/-- Settles O57: the completion is cut into its record, its signal and its event, each of which changes its own part. -/
theorem completionDelivers : Obligations.CompletionDelivers := by
  unfold Obligations.CompletionDelivers
  rintro s t d st detail rfl
  obtain ⟨hl, hh, ht, hc, ho⟩ := completeDesc_frame s d st detail
  refine ⟨⟨fun x => mem_completeDesc_descs s d st detail, fun y => completeDesc_keeps_descs s d st detail,
    hl, hh, ht, hc, ho⟩, ?_, ?_, ?_, ?_, ?_, ?_, ?_⟩
  · intro hr
    rw [completeDesc_vm, if_neg (by simp [hr])]
  · intro hr
    refine ⟨fun n => vmOf_completeDesc_ne s d st detail, fun a ha => ?_⟩
    rw [vmOf_completeDesc_own _ _ _ _ hr, mget_mwr_outside _ _ _ _ _ ha]
  · intro hr hst hq hu
    have hm := mrd_completeDesc_record s d st detail hr
    obtain ⟨h0, h1, h2, h6, h8, h12⟩ := recordOf_fields s d st detail hst hq hu
    exact ⟨(hm 0 1 (by decide)).trans h0, (hm 1 1 (by decide)).trans h1, (hm 2 1 (by decide)).trans h2,
      (hm 6 2 (by decide)).trans h6, (hm 8 4 (by decide)).trans h8, (hm 12 4 (by decide)).trans h12⟩
  · intro hs
    obtain ⟨hy, hd⟩ := completeDesc_of_not_signals s d st detail hs
    exact ⟨hy, fun x => by simp [hd]⟩
  · intro hs
    refine ⟨?_, fun c hc => ?_⟩
    · rw [synGet_completeDesc s d st detail _ hs, if_pos rfl]
    · rw [synGet_completeDesc s d st detail _ hs, if_neg hc.symm]
  · exact evq_completeDesc_room s d st detail
  · intro he hs
    simp [completeDesc_eq, he, recordAndSignal, hs, recordAndLeave_frame]

end Sys2Proof.Machine
end

section
/-! SUPPORT. The form of the memories (log 6), kept by every function of the model from a state to a state, and O2 and O4.

One lemma per function, in the model's order, and a function's proof is built like its body: `MemoryOk.f` says that f keeps
the form; `StepsOk.execF` says that the command's arm execF answers a next state and keeps the form on the way. A body that
names states in between has one `have` per state. Memories change in a few accessors alone (`setVm`, `setLoft`,
`setMboxBytes`, the core memory), which cite the `memWf_` laws of Laws/Memory; an update of other fields is
`MemoryOk.update`. -/

namespace Sys2Proof
open Machine

/-! ### The memories one by one -/

theorem MemoryOk.vm {s n} (h : MemoryOk s) : memWf (vmOf s n) = true := let ⟨_, hv, _⟩ := h; hv n
theorem MemoryOk.loft {s d} (h : MemoryOk s) : memWf (loftOf s d) = true := let ⟨_, _, hl, _⟩ := h; hl d
theorem MemoryOk.mbox {s f} (h : MemoryOk s) : memWf (mboxBytes s f) = true := let ⟨_, _, _, hb, _⟩ := h; hb f
theorem MemoryOk.core {s} (h : MemoryOk s) : memWf s.dbg.coreMem = true := let ⟨_, _, _, _, hd⟩ := h; hd

/-- A state whose memories are those of s, but for the device memories. -/
theorem MemoryOk.withVm {s t} (h : MemoryOk s) (hv : ∀ n, memWf (vmOf t n) = true)
    (hm : (t.host, t.loft, t.mboxMem, t.dbg.coreMem) =
        (s.host, s.loft, s.mboxMem, s.dbg.coreMem)) : MemoryOk t := by
  obtain ⟨ih, -, il, ib, id⟩ := h
  simp only [Prod.mk.injEq] at hm
  obtain ⟨hh, hl, hb, hd⟩ := hm
  refine ⟨hh ▸ ih, hv, fun d => ?_, fun f => ?_, hd ▸ id⟩
  · rw [loftOf, hl]
    exact il d
  · rw [mboxBytes, hb]
    exact ib f

/-- A state whose memories are those of s, but for the core memory. -/
theorem MemoryOk.withCore {s t} (h : MemoryOk s) (hd : memWf t.dbg.coreMem = true)
    (hm : (t.host, t.vm, t.loft, t.mboxMem) = (s.host, s.vm, s.loft, s.mboxMem)) : MemoryOk t := by
  obtain ⟨ih, iv, il, ib, -⟩ := h
  simp only [Prod.mk.injEq] at hm
  obtain ⟨hh, hv, hl, hb⟩ := hm
  refine ⟨hh ▸ ih, fun n => ?_, fun d => ?_, fun f => ?_, hd⟩
  · rw [vmOf, hv]
    exact iv n
  · rw [loftOf, hl]
    exact il d
  · rw [mboxBytes, hb]
    exact ib f

/-- An update of other fields than the memories. -/
theorem MemoryOk.update {s t} (h : MemoryOk s) (hm : (t.host, t.vm, t.loft, t.mboxMem, t.dbg.coreMem) =
    (s.host, s.vm, s.loft, s.mboxMem, s.dbg.coreMem)) : MemoryOk t := by
  simp only [Prod.mk.injEq] at hm
  obtain ⟨hh, hv, hl, hb, hd⟩ := hm
  exact h.withVm (fun n => by rw [vmOf, hv]; exact h.vm) (by rw [hh, hl, hb, hd])

/-! ### Branches and loops -/

theorem MemoryOk.ite {c : Prop} [Decidable c] {s t} (hs : MemoryOk s) (ht : MemoryOk t) :
    MemoryOk (if c then s else t) := by
  split
  · exact hs
  · exact ht

theorem MemoryOk.getD {o : Option State} {s} (h : MemoryOk s) (ho : ∀ t, o = some t → MemoryOk t) :
    MemoryOk (o.getD s) := by
  cases o with
  | none => exact h
  | some t => exact ho t rfl

theorem MemoryOk.foldl {α : Type} {l : List α} {f : State → α → State} {s} (h : MemoryOk s)
    (hf : ∀ t x, MemoryOk t → MemoryOk (f t x)) : MemoryOk (l.foldl f s) := by
  induction l generalizing s with
  | nil => exact h
  | cons x r ih => exact ih (hf s x h)

theorem MemoryOk.opMem {s d die b} (h : MemoryOk s) : memWf (opMem s d die b) = true := by
  unfold Machine.opMem
  split
  · exact h.loft
  · exact h.vm

/-! ### Tables of memories -/

theorem memWf_tset {t : Tbl Mem} {k n m} (ht : memWf (tget t [] n) = true) (hm : memWf m = true) :
    memWf (tget (tset t [] k m) [] n) = true := by
  rw [tget_tset]
  split
  · exact hm
  · exact ht

theorem tget_filter_keys {α : Type} (t : Tbl α) (d : α) (p : Nat → Bool) (k : Nat) :
    tget (t.filter (fun c => p c.1)) d k = if p k then tget t d k else d := by
  induction t with
  | nil => simp
  | cons c r ih =>
    by_cases hc : c.1 = k
    · by_cases hp : p k <;> simp_all [tget]
    · by_cases hp : p c.1 <;> simp_all [tget]

/-- Dropping keys from a table of memories keeps every memory's form: a dropped memory reads empty. -/
theorem memWf_filter_keys {t : Tbl Mem} {p : Nat → Bool} {n} (ht : memWf (tget t [] n) = true) :
    memWf (tget (t.filter (fun c => p c.1)) [] n) = true := by
  rw [tget_filter_keys]
  split
  · exact ht
  · exact rfl

theorem MemoryOk.setVm {s n m} (h : MemoryOk s) (hm : memWf m = true) : MemoryOk (setVm s n m) :=
  h.withVm (fun _ => memWf_tset h.vm hm) rfl
theorem MemoryOk.setLoft {s n m} (h : MemoryOk s) (hm : memWf m = true) : MemoryOk (setLoft s n m) := by
  obtain ⟨hh, hv, hl, hb, hd⟩ := h
  exact ⟨hh, hv, fun k => memWf_tset (hl k) hm, hb, hd⟩
theorem MemoryOk.setMboxBytes {s n m} (h : MemoryOk s) (hm : memWf m = true) : MemoryOk (setMboxBytes s n m) := by
  obtain ⟨hh, hv, hl, hb, hd⟩ := h
  exact ⟨hh, hv, hl, fun k => memWf_tset (hb k) hm, hd⟩

theorem memWf_deriveScales {s n r m} (h : memWf m = true) : memWf (deriveScales s n r m) = true := by
  induction r generalizing m with
  | zero => exact h
  | succ r ih => exact ih (memWf_mwr _ _ _ _ h)

/-! ### Outcomes -/

/-- The outcome is a next state, and the memories keep their form on the way. -/
def StepsOk (s : State) (r : Res) : Prop := ∃ t, r = .next t ∧ (MemoryOk s → MemoryOk t)

theorem StepsOk.next {s t} (h : MemoryOk s → MemoryOk t) : StepsOk s (.next t) := ⟨t, rfl, h⟩
theorem StepsOk.stay {s} : StepsOk s (.next s) := .next id
theorem StepsOk.ite {c : Prop} [Decidable c] {s r r'} (h : StepsOk s r) (h' : StepsOk s r') :
    StepsOk s (if c then r else r') := by
  split
  · exact h
  · exact h'

/-- A step from a state in between whose memories have their form is a step from the first one. -/
theorem StepsOk.of_state {s s1 r} (hs : MemoryOk s → MemoryOk s1) (h : StepsOk s1 r) : StepsOk s r := by
  obtain ⟨t, rfl, ht⟩ := h
  exact .next fun h => ht (hs h)

/-! ### Shared operations (Sys2Proof/Machine/Ops.lean) -/

theorem MemoryOk.wrEj {s e n j v} (h : MemoryOk s) : MemoryOk (wrEj s e n j v) :=
  .update h rfl

theorem MemoryOk.wrE {s e n v} (h : MemoryOk s) : MemoryOk (wrE s e n v) :=
  .wrEj h

theorem MemoryOk.addE {s e n x} (h : MemoryOk s) : MemoryOk (addE s e n x) :=
  .wrE h

theorem MemoryOk.bumpE {s e n} (h : MemoryOk s) : MemoryOk (bumpE s e n) :=
  .addE h

theorem MemoryOk.decE {s e n} (h : MemoryOk s) : MemoryOk (decE s e n) :=
  .wrE h

theorem MemoryOk.wrB {s off dflt v} (h : MemoryOk s) : MemoryOk (wrB s off dflt v) :=
  .update h rfl

theorem MemoryOk.bumpB {s off nbytes x} (h : MemoryOk s) : MemoryOk (bumpB s off nbytes x) :=
  .wrB h

theorem MemoryOk.emit {s o} (h : MemoryOk s) : MemoryOk (emit s o) :=
  .update h rfl

theorem MemoryOk.sendCtl {s key o} (h : MemoryOk s) : MemoryOk (sendCtl s key o) :=
  .emit (.update h rfl)

theorem MemoryOk.freshNext {s} (h : MemoryOk s) : MemoryOk (freshNext s) :=
  .update h rfl

theorem MemoryOk.setCx {s n c} (h : MemoryOk s) : MemoryOk (setCx s n c) :=
  .update h rfl

theorem MemoryOk.setCq {s f q c} (h : MemoryOk s) : MemoryOk (setCq s f q c) :=
  .update h rfl

theorem MemoryOk.setEvq {s f e v} (h : MemoryOk s) : MemoryOk (setEvq s f e v) :=
  .update h rfl

theorem MemoryOk.setFn {s f x} (h : MemoryOk s) : MemoryOk (setFn s f x) :=
  .update h rfl

theorem MemoryOk.setEp {s e x} (h : MemoryOk s) : MemoryOk (setEp s e x) :=
  .update h rfl

theorem MemoryOk.setRegion {s r x} (h : MemoryOk s) : MemoryOk (setRegion s r x) :=
  .update h rfl

theorem MemoryOk.setKey {s k x} (h : MemoryOk s) : MemoryOk (setKey s k x) :=
  .update h rfl

theorem MemoryOk.setPort {s p x} (h : MemoryOk s) : MemoryOk (setPort s p x) :=
  .update h rfl

theorem MemoryOk.setTile {s d a t x} (h : MemoryOk s) : MemoryOk (setTile s d a t x) :=
  .update h rfl

theorem MemoryOk.setMbox {s f m} (h : MemoryOk s) : MemoryOk (setMbox s f m) :=
  .update h rfl

theorem MemoryOk.actLed {s} (h : MemoryOk s) : MemoryOk (actLed s) :=
  .update h rfl

theorem MemoryOk.linkWork {s} (h : MemoryOk s) : MemoryOk (linkWork s) :=
  .update h rfl

theorem MemoryOk.raiseMsix {s f v} (h : MemoryOk s) : MemoryOk (raiseMsix s f v) :=
  .ite (.update h rfl) (.emit (.linkWork h))

theorem MemoryOk.flushMsix {s f} (h : MemoryOk s) : MemoryOk (flushMsix s f) :=
  .foldl h fun _ _ h => .ite h (.emit (.linkWork (.update h rfl)))

theorem MemoryOk.postEvent {s f e ent} (h : MemoryOk s) : MemoryOk (postEvent s f e ent) := by
  unfold Machine.postEvent
  extract_lets _ _ s1
  have h1 : MemoryOk s1 := .setEvq h
  exact .ite h (.ite (.setEvq h) (.ite (.setEvq h) (.ite (.raiseMsix h1) h1)))

theorem MemoryOk.ctxEvent {s n ty st d0} (h : MemoryOk s) : MemoryOk (ctxEvent s n ty st d0) :=
  .postEvent h

theorem MemoryOk.writeFault {s r} (h : MemoryOk s) : MemoryOk (writeFault s r) := by
  unfold Machine.writeFault
  extract_lets _ s1 s2 s3 _ s4 _ _ s6
  have h1 : MemoryOk s1 := .freshNext (h.update rfl)
  have h2 : MemoryOk s2 := .ite (.bumpE h1) h1
  have h3 : MemoryOk s3 := h2.update rfl
  have h6 : MemoryOk s6 := .postEvent (.wrE (.ite (h3.update rfl) h3))
  exact .ite (.postEvent h6) h6

theorem MemoryOk.markTriggers {s c} (h : MemoryOk s) : MemoryOk (markTriggers s c) :=
  .foldl h fun _ _ h => .update h rfl

theorem MemoryOk.markWaits {s c} (h : MemoryOk s) : MemoryOk (markWaits s c) :=
  .update h rfl

theorem MemoryOk.synSet {s c v} (h : MemoryOk s) : MemoryOk (synSet s c v) :=
  .markTriggers (.markWaits (.update h rfl))

theorem MemoryOk.synAdd {s c x} (h : MemoryOk s) : MemoryOk (synAdd s c x) := by
  unfold Machine.synAdd
  extract_lets _ s1
  have h1 : MemoryOk s1 := .synSet h
  exact .ite h1 (.ite (.postEvent h1) h1)

theorem MemoryOk.setRound {s n st status} (h : MemoryOk s) : MemoryOk (setRound s n st status) :=
  .ctxEvent (.wrE h)

theorem MemoryOk.noteRefusal {s n st} (h : MemoryOk s) : MemoryOk (noteRefusal s n st) :=
  .wrE h

theorem MemoryOk.setCohort {s n k c} (h : MemoryOk s) : MemoryOk (setCohort s n k c) :=
  .setCx h

theorem MemoryOk.wakeOnDemand {s d} (h : MemoryOk s) : MemoryOk (wakeOnDemand s d) :=
  .ite h (.update h rfl)

/-! ### Operands (Sys2Proof/Machine/Operands.lean) -/

theorem MemoryOk.setDesc {s d} (h : MemoryOk s) : MemoryOk (setDesc s d) :=
  .update h rfl

/-! ### Areas of device memory (Sys2Proof/Machine/Areas.lean) -/

theorem MemoryOk.setOpMem {s d die loft m} (h : MemoryOk s) (hm : memWf m = true) :
    MemoryOk (setOpMem s d die loft m) :=
  .ite (.setLoft h hm) (.setVm h hm)

theorem MemoryOk.exportTake {s n a len} (h : MemoryOk s) : MemoryOk (exportTake s n a len) :=
  .ite (.update h rfl) h

theorem MemoryOk.setChk {s n a v} (h : MemoryOk s) : MemoryOk (setChk s n a v) :=
  .setCx h

theorem MemoryOk.flagRow {s n r v} (h : MemoryOk s) : MemoryOk (flagRow s n r v) :=
  .wrE (.wrE (.setCx h))

theorem MemoryOk.addClearRow {s n r xs} (h : MemoryOk s) : MemoryOk (addClearRow s n r xs) := by
  unfold Machine.addClearRow
  extract_lets _ _ _ _ _ s1
  have h1 : MemoryOk s1 := .setVm h (memWf_rowWrite _ _ _ _ h.vm)
  exact .ite (.setChk h1) (.flagRow (.setChk h1))

theorem MemoryOk.addSharedRow {s n r xs} (h : MemoryOk s) : MemoryOk (addSharedRow s n r xs) :=
  .setChk (.setVm h (memWf_rowWrite _ _ _ _ h.vm))

theorem MemoryOk.setLedger {s n slot} (h : MemoryOk s) : MemoryOk (setLedger s n slot) :=
  .setVm h (memWf_mset _ _ _ h.vm)

/-! ### Completions (Sys2Proof/Machine/Complete.lean) -/

theorem MemoryOk.signalOf {s d} (h : MemoryOk s) : MemoryOk (signalOf s d) :=
  .ite (.synSet h) (.synAdd h)

theorem MemoryOk.completeDesc {s d st detail} (h : MemoryOk s) : MemoryOk (completeDesc s d st detail) := by
  unfold Machine.completeDesc
  extract_lets s1 _ s3
  have h1 : MemoryOk s1 := .ite (.setVm h (memWf_mwr _ _ _ _ h.vm)) h
  have h3 : MemoryOk s3 := .ite (.signalOf (.update h1 rfl)) (.update h1 rfl)
  exact .ite (.postEvent h3) h3

theorem MemoryOk.refuseDesc {s d st} (h : MemoryOk s) : MemoryOk (refuseDesc s d st) :=
  .completeDesc h

/-! ### Messages being sent (Sys2Proof/Machine/Tx.lean) -/

theorem MemoryOk.setTx {s t} (h : MemoryOk s) : MemoryOk (setTx s t) :=
  .update h rfl

theorem MemoryOk.setStrm {s e x} (h : MemoryOk s) : MemoryOk (setStrm s e x) :=
  .setEp h

theorem MemoryOk.settleTx {s t} (h : MemoryOk s) : MemoryOk (settleTx s t) := by
  unfold Machine.settleTx
  split
  · exact h
  · exact .setStrm h

theorem MemoryOk.dropTx {s t} (h : MemoryOk s) : MemoryOk (dropTx s t) :=
  .ite (.update h rfl) (.settleTx (.update h rfl))

theorem MemoryOk.endTransport {s d st} (h : MemoryOk s) : MemoryOk (endTransport s d st) := by
  unfold Machine.endTransport
  split
  · exact .completeDesc h
  · exact .completeDesc (.dropTx h)

theorem MemoryOk.ownSend {s key msg len} (h : MemoryOk s) : MemoryOk (ownSend s key msg len) := by
  unfold Machine.ownSend
  extract_lets _ _ _ s1
  have h1 : MemoryOk s1 := .setKey h
  exact .ite h (.update h1 rfl)

/-! ### Where a descriptor writes (Sys2Proof/Machine/Dest.lean) -/

theorem MemoryOk.junkDest {s d} (h : MemoryOk s) : MemoryOk (junkDest s d) :=
  .foldl (.foldl h fun _ _ h => .update (.setOpMem h (memWf_mfree _ _ _ _ h.opMem)) rfl) fun _ _ h =>
      (by
        split
        · exact h
        · exact .update h rfl)

theorem MemoryOk.endAt {s d st k} (h : MemoryOk s) : MemoryOk (endAt s d st k) :=
  .ite (.endTransport h) (.ite (.completeDesc (.junkDest h)) (.completeDesc h))

theorem MemoryOk.endDesc {s d st} (h : MemoryOk s) : MemoryOk (endDesc s d st) :=
  .endAt (.freshNext h)

theorem MemoryOk.completeAll {s p st} (h : MemoryOk s) : MemoryOk (completeAll s p st) :=
  .foldl h fun _ _ h => .ite (.refuseDesc h) (.endDesc h)

/-! ### What several families do to a round (Sys2Proof/Machine/Round.lean) -/

theorem MemoryOk.rngTake {s k} (h : MemoryOk s) : MemoryOk (rngTake s k) :=
  .update h rfl

theorem MemoryOk.showStage {s n k r} (h : MemoryOk s) : MemoryOk (showStage s n k r) := by
  unfold Machine.showStage
  extract_lets
  split
  · exact h
  · exact .update h rfl

theorem MemoryOk.unstage {s n p} (h : MemoryOk s) : MemoryOk (unstage s n p) :=
  .foldl (.setCx h) fun _ _ h => .update h rfl

theorem MemoryOk.accAddPiece {s n k mode m neg rp} (h : MemoryOk s) : MemoryOk (accAddPiece s n k mode m neg rp) :=
  .ite (.showStage (.setCohort h)) h

theorem MemoryOk.settle {s n k} (h : MemoryOk s) : MemoryOk (settle s n k) := by
  unfold Machine.settle
  extract_lets _ s1
  have h1 : MemoryOk s1 := .setCohort h
  exact .ite (.ite (.setCx h1) h1) h

theorem MemoryOk.settleAll {s n} (h : MemoryOk s) : MemoryOk (settleAll s n) :=
  .foldl h fun _ _ h => .settle h

theorem MemoryOk.reverseOne {s x} (h : MemoryOk s) : MemoryOk (reverseOne s x) := by
  unfold Machine.reverseOne
  extract_lets
  split
  · exact .settleAll (.update h rfl)
  · exact .settle (.wrE (.bumpE (.setCx (.setCohort (.foldl (.update h rfl) fun _ _ h => .accAddPiece h)))))

theorem MemoryOk.reverseAll {s n p} (h : MemoryOk s) : MemoryOk (reverseAll s n p) :=
  .foldl h fun _ _ h => .reverseOne h

theorem MemoryOk.scrubRange {s n a len} (h : MemoryOk s) : MemoryOk (scrubRange s n a len) := by
  unfold Machine.scrubRange
  extract_lets s'
  have h' : MemoryOk s' := .setVm h (memWf_mfree _ _ _ _ h.vm)
  exact .update h' rfl

theorem MemoryOk.dropBuf {s n k} (h : MemoryOk s) : MemoryOk (dropBuf s n k) :=
  .wrE (.setCx (.foldl h fun _ _ h => .scrubRange h))

theorem MemoryOk.failCohort {s n k st} (h : MemoryOk s) : MemoryOk (failCohort s n k st) :=
  .noteRefusal (.bumpE (.dropBuf (.setCx (.unstage (.setCohort (.ite (.decE h) h))))))

theorem MemoryOk.mergedCohort {s n k cnt} (h : MemoryOk s) : MemoryOk (mergedCohort s n k cnt) := by
  unfold Machine.mergedCohort
  extract_lets _ _ s2 _ s3
  have h2 : MemoryOk s2 := .unstage (.addE (.dropBuf (.setCohort h)))
  have h3 : MemoryOk s3 := .ite h2 (.setCx h2)
  exact .ite (.setCx h3) h3

theorem MemoryOk.sendAborts {s n cause origin except} (h : MemoryOk s) :
    MemoryOk (sendAborts s n cause origin except) := by
  unfold Machine.sendAborts
  extract_lets _ _ _ s2
  have h2 : MemoryOk s2 := .wrE (.wrE (.foldl h fun _ _ h => .emit h))
  exact .update h2 rfl

theorem MemoryOk.jobAbort {s n cause} (h : MemoryOk s) : MemoryOk (jobAbort s n cause) :=
  .ite h (.sendAborts h)

theorem MemoryOk.clearTiles {s p} (h : MemoryOk s) : MemoryOk (clearTiles s p) :=
  .update h rfl

theorem MemoryOk.dropProv {s n} (h : MemoryOk s) : MemoryOk (dropProv s n) :=
  .clearTiles h

theorem MemoryOk.dropRoundData {s0 n} (h : MemoryOk s0) : MemoryOk (dropRoundData s0 n) :=
  .foldl (.setCx (.foldl h fun _ _ h => .scrubRange h)) fun _ _ h => .wrE h

theorem MemoryOk.abandonBy {s n st ownSt ev own} (h : MemoryOk s) : MemoryOk (abandonBy s n st ownSt ev own) :=
  .setRound (.dropRoundData (.dropProv (.reverseAll (.completeAll (.completeAll h)))))

theorem MemoryOk.abandonRound {s n st} (h : MemoryOk s) : MemoryOk (abandonRound s n st) :=
  .abandonBy h

theorem MemoryOk.tryAbandon {s n st} (h : MemoryOk s) : MemoryOk (tryAbandon s n st) :=
  .ite (.abandonRound h) h

theorem MemoryOk.hwCount {s a} (h : MemoryOk s) : MemoryOk (hwCount s a) := by
  unfold Machine.hwCount
  split
  · exact .bumpE h
  · exact .bumpE h
  · exact .bumpE h
  · exact .bumpE h
  · exact .bumpE h
  · exact .bumpB h
  · exact h

theorem MemoryOk.hwReach {s d a} (h : MemoryOk s) : MemoryOk (hwReach s d a) := by
  unfold Machine.hwReach
  split
  · exact .ite (.failCohort h) h
  · exact .tryAbandon h
  · exact h

theorem MemoryOk.hwFault {s d a} (h : MemoryOk s) : MemoryOk (hwFault s d a) := by
  unfold Machine.hwFault
  split
  · exact .writeFault h
  · exact .writeFault h
  · exact .writeFault h
  · exact h

theorem MemoryOk.hwStop {s d a} (h : MemoryOk s) : MemoryOk (hwStop s d a) := by
  unfold Machine.hwStop
  split
  · exact .endAt h
  · exact .endAt h
  · exact .endAt h
  · exact .endAt h
  · exact .endAt h
  · exact .completeDesc h
  · exact .endDesc h

theorem MemoryOk.hwEnd {s d e} (h : MemoryOk s) : MemoryOk (hwEnd s d e) :=
  .hwFault (.hwReach (.hwStop (.hwCount h)))

theorem StepsOk.runDescE {s i op e eff err} (heff : ∀ d t, MemoryOk t → MemoryOk (eff d t))
    (herr : ∀ d e t, MemoryOk t → MemoryOk (err d e t)) : StepsOk s (runDescE s i op e eff err) := by
  unfold Machine.runDescE
  split
  · exact .stay
  · exact .ite .stay (.next fun h => .ite (heff _ _ h) (herr _ _ _ h))

theorem StepsOk.runDesc {s i op e eff} (heff : ∀ d t, MemoryOk t → MemoryOk (eff d t)) :
    StepsOk s (runDesc s i op e eff) :=
  .runDescE heff fun _ _ _ h => .hwEnd h

theorem StepsOk.runDescIf {s i op sel e eff err} (heff : ∀ d t, MemoryOk t → MemoryOk (eff d t))
    (herr : ∀ d e t, MemoryOk t → MemoryOk (err d e t)) : StepsOk s (runDescIf s i op sel e eff err) := by
  unfold Machine.runDescIf
  split
  · exact .stay
  · exact .ite (.runDescE heff herr) .stay

theorem MemoryOk.loadKeys {s n die} (h : MemoryOk s) : MemoryOk (loadKeys s n die) :=
  .setCx (.setLoft h (memWf_mcopy _ _ _ _ _ h.loft))

/-! ### Round commands (Sys2Proof/Machine/Rounds.lean) -/

theorem MemoryOk.createCtx {s f n} (h : MemoryOk s) : MemoryOk (createCtx s f n) := by
  have hf : ∀ k, memWf (tget (tset s.vm [] n []) [] k) = true := fun k => memWf_tset (n := k) h.vm rfl
  exact .wrE (.setCx (.ite h (h.withVm hf rfl)))

theorem MemoryOk.openScales {s n} (h : MemoryOk s) : MemoryOk (openScales s n) :=
  .ite (.wrE (.wrE h)) (.wrE (.wrE (.ite (.setVm h (memWf_deriveScales h.vm)) h)))

theorem MemoryOk.openMasked {s n} (h : MemoryOk s) : MemoryOk (openMasked s n) :=
  .foldl (.wrE (.wrE (.wrE (.ite (.rngTake (.freshNext h)) h)))) fun _ _ h => .wrE h

theorem MemoryOk.openSealed {s n} (h : MemoryOk s) : MemoryOk (openSealed s n) := by
  unfold Machine.openSealed
  extract_lets _ _ s2
  have h2 : MemoryOk s2 := .wrE (.wrE (.wrE (.wrE (.wrE h))))
  exact .ite h2 (.wrE (.setCx h2))

theorem MemoryOk.zeroShared {s n} (h : MemoryOk s) : MemoryOk (zeroShared s n) :=
  .setCx (.setVm h (memWf_mclear _ _ _ h.vm))

theorem MemoryOk.openRound {s n} (h : MemoryOk s) : MemoryOk (openRound s n) := by
  unfold Machine.openRound
  extract_lets _ s1 s2 s3 _ _ _ _ s7 s8
  have h1 : MemoryOk s1 := .openScales h
  have h2 : MemoryOk s2 := .ite (.openMasked h1) h1
  have h3 : MemoryOk s3 := .ite (.openSealed h2) h2
  have h7 : MemoryOk s7 := .setCx
      (.wrE (.wrE (.foldl (.setVm h3 (memWf_mclear _ _ _ h3.vm)) fun _ _ h => .wrE h)))
  have h8 : MemoryOk s8 := .setRound (.wrE (.ite (.zeroShared h7) h7))
  exact .ite (.foldl h8 fun _ _ h => .loadKeys h) h8

theorem MemoryOk.openRule {n s} (h : MemoryOk s) : MemoryOk (openRule n s).2 := by
  unfold Machine.openRule
  extract_lets s1
  have h1 : MemoryOk s1 := .foldl h fun _ _ h => .wakeOnDemand h
  split
  · exact h
  · split
    · exact .ite (.hwCount h) h
    · exact .ite (.setCx h1) (.openRound h1)

theorem MemoryOk.resumeOpen {s n} (h : MemoryOk s) : MemoryOk (resumeOpen s n) := by
  unfold Machine.resumeOpen
  extract_lets _ s1
  have h1 : MemoryOk s1 := .setCx h
  split
  · split
    · exact h1
    · split
      · exact .noteRefusal h1
      · exact .openRound h1
  · exact h

theorem MemoryOk.resumeAll {s} (h : MemoryOk s) : MemoryOk (resumeAll s) :=
  .foldl h fun _ _ h => .resumeOpen h

theorem MemoryOk.shutCohort {s n k} (h : MemoryOk s) : MemoryOk (shutCohort s n k) :=
  .settle (.decE (.setCohort h))

theorem MemoryOk.closeRule {n s} (h : MemoryOk s) : MemoryOk (closeRule n s).2 := by
  unfold Machine.closeRule
  extract_lets
  split
  · exact h
  · exact .setRound (.foldl h fun _ _ h => .shutCohort h)

theorem MemoryOk.abandonRule {n s} (h : MemoryOk s) : MemoryOk (abandonRule n s).2 := by
  unfold Machine.abandonRule
  split
  · exact .tryAbandon (.jobAbort h)
  · exact h

theorem MemoryOk.releaseRule {n s} (h : MemoryOk s) : MemoryOk (releaseRule n s).2 := by
  unfold Machine.releaseRule
  split
  · exact h
  · exact .setRound (.dropRoundData (.dropProv h))

theorem StepsOk.execCohortCloseGraceExpiry {n k s} : StepsOk s (execCohortCloseGraceExpiry n k s) :=
  .ite .stay (.ite (.next fun h => .settle (.reverseAll (.setCohort h))) .stay)

theorem StepsOk.execAreaScrubComplete {n s} : StepsOk s (execAreaScrubComplete n s) := by
  unfold Machine.execAreaScrubComplete
  extract_lets s1
  have h1 (h : MemoryOk s) : MemoryOk s1 := .scrubRange h
  exact .ite .stay <|
    .ite (.next fun h => .setRound (.wrE (.setCx (.clearTiles (.ite (.scrubRange (h1 h)) (h1 h)))))) .stay

theorem MemoryOk.dropCtxEntries {s n} (h : MemoryOk s) : MemoryOk (dropCtxEntries s n) :=
  .update h rfl

theorem StepsOk.execContextQuarantineExpiry {n s} : StepsOk s (execContextQuarantineExpiry n s) :=
  .ite .stay (.ite (.next fun h => .wrE (.setCx (.dropCtxEntries h))) .stay)

theorem MemoryOk.cohortOpenRule {n s} (h : MemoryOk s) : MemoryOk (cohortOpenRule n s).2 := by
  unfold Machine.cohortOpenRule
  extract_lets
  split
  · exact h
  · split
    · exact h
    · exact .foldl (.ite (.zeroShared h) h) fun _ _ h => .bumpE (.setCohort h)

theorem MemoryOk.cohortShutRule {n s} (h : MemoryOk s) : MemoryOk (cohortShutRule n s).2 := by
  unfold Machine.cohortShutRule
  split
  · exact h
  · split
    · exact h
    · split
      · exact h
      · exact .foldl h fun _ _ h => .shutCohort h

theorem MemoryOk.policyLockRule {n s} (h : MemoryOk s) : MemoryOk (policyLockRule n s).2 :=
  .wrE (.wrE h)

/-! ### Masked aggregation (Sys2Proof/Machine/Masked.lean) -/

theorem MemoryOk.setBuf {s n b x} (h : MemoryOk s) : MemoryOk (setBuf s n b x) :=
  .wrE (.setCx h)

theorem MemoryOk.bindBuf {s n k b} (h : MemoryOk s) : MemoryOk (bindBuf s n k b) :=
  .ctxEvent (.setBuf (.setCx (.setVm h (memWf_mwr _ _ _ _ (memWf_mwr _ _ _ _ h.vm)))))

theorem StepsOk.execShareBufferBind {n s} : StepsOk s (execShareBufferBind n s) := by
  unfold Machine.execShareBufferBind
  split
  · exact .stay
  · split
    · exact .stay
    · split
      · exact .next fun h => .failCohort h
      · split
        · exact .stay
        · exact .next fun h => .bindBuf h

theorem MemoryOk.replyMsg {s key code} (h : MemoryOk s) : MemoryOk (replyMsg s key code) :=
  .sendCtl h

theorem MemoryOk.shareIn {key m reply s} (hreply : ∀ t st, MemoryOk t → MemoryOk (reply t st)) (h : MemoryOk s) :
    MemoryOk (shareIn key m reply s) := by
  unfold Machine.shareIn
  extract_lets
  split
  · exact h
  · split
    · exact hreply _ _ h
    · split
      · exact hreply _ _ (.bumpE h)
      · split
        · exact h
        · exact hreply _ _ (.bumpE (.setBuf h))

theorem StepsOk.execSeedSumShareMessage {key m s} : StepsOk s (execSeedSumShareMessage key m s) :=
  .ite .stay (.next fun h => .shareIn (fun _ _ h => .replyMsg h) h)

theorem MemoryOk.storeElem {s n i} (h : MemoryOk s) : MemoryOk (storeElem s n i) :=
  .setVm h (memWf_limbWrite _ _ _ _ (memWf_limbWrite _ _ _ _ h.vm))

theorem MemoryOk.deriveElems {s d k} (h : MemoryOk s) : MemoryOk (deriveElems s d k) :=
  .wrE (.setCx (.foldl h fun _ _ h => .storeElem h))

theorem MemoryOk.prgDerive {d s} (h : MemoryOk s) : MemoryOk (prgDerive d s) :=
  .completeDesc (.deriveElems h)

theorem MemoryOk.prgDeriveErr {d e s} (h : MemoryOk s) : MemoryOk (prgDeriveErr d e s) := by
  unfold Machine.prgDeriveErr
  split
  · exact .hwEnd (.deriveElems h)
  · exact .hwEnd (.deriveElems h)
  · exact .hwEnd (.deriveElems h)
  · exact .hwEnd h

theorem StepsOk.execPrgExpandDerive {i e s} : StepsOk s (execPrgExpandDerive i e s) :=
  .runDescIf (fun _ _ h => .prgDerive h) (fun _ _ _ h => .prgDeriveErr h)

theorem MemoryOk.markChunks {s d k} (h : MemoryOk s) : MemoryOk (markChunks s d k) := by
  unfold Machine.markChunks
  extract_lets
  split
  · exact h
  · exact .setBuf h

theorem MemoryOk.prgMask {d s} (h : MemoryOk s) : MemoryOk (prgMask d s) :=
  .completeDesc (.markChunks h)

theorem MemoryOk.prgMaskErr {d e s} (h : MemoryOk s) : MemoryOk (prgMaskErr d e s) := by
  have hat k : MemoryOk
      (Machine.endAt (Machine.hwCount (Machine.markChunks s d k) e) d stIntegrity
          (k / maskChunks s (dCtx d))) :=
    .endAt (.hwCount (.markChunks h))
  unfold Machine.prgMaskErr
  split
  · exact hat _
  · exact hat _
  · exact .hwFault (hat _)
  · exact .hwEnd h

theorem StepsOk.execPrgExpandMask {i e s} : StepsOk s (execPrgExpandMask i e s) :=
  .runDescIf (fun _ _ h => .prgMask h) (fun _ _ _ h => .prgMaskErr h)

theorem MemoryOk.reconEff {d s} (h : MemoryOk s) : MemoryOk (reconEff d s) := by
  unfold Machine.reconEff
  extract_lets
  split
  · exact .refuseDesc h
  · exact .ite (.completeDesc (.setBuf h)) (.completeDesc (.wrE h))

theorem StepsOk.execSeedRecon {i e s} : StepsOk s (execSeedRecon i e s) :=
  .runDesc (fun _ _ h => .reconEff h)

theorem MemoryOk.unmaskRow {d cnt sum s h} (hs : MemoryOk s) : MemoryOk (unmaskRow d cnt sum s h) :=
  .setCohort (.addClearRow (.ite (.flagRow hs) hs))

theorem MemoryOk.unmaskTo {s d k} (h : MemoryOk s) : MemoryOk (unmaskTo s d k).1 := by
  unfold Machine.unmaskTo
  extract_lets _ _ _ _ _ s1
  have h1 : MemoryOk s1 := .foldl h fun _ _ h => .unmaskRow h
  exact .ite (.mergedCohort h1) h1

theorem MemoryOk.unmaskStop {s d e k} (h : MemoryOk s) : MemoryOk (unmaskStop s d e k) :=
  .hwFault (.hwReach (.endAt (.hwCount (.unmaskTo h))))

theorem MemoryOk.unmaskEff {d s} (h : MemoryOk s) : MemoryOk (unmaskEff d s) := by
  unfold Machine.unmaskEff
  extract_lets
  split
  · exact .refuseDesc h
  · split
    · exact .unmaskStop h
    · exact .completeDesc (.unmaskTo h)

theorem MemoryOk.unmaskErr {d e s} (h : MemoryOk s) : MemoryOk (unmaskErr d e s) := by
  unfold Machine.unmaskErr
  split
  · exact .unmaskStop h
  · exact .unmaskStop h
  · exact .unmaskStop h
  · exact .unmaskStop h
  · exact .unmaskStop h
  · exact .hwEnd h

theorem StepsOk.execUnmask {i e s} : StepsOk s (execUnmask i e s) :=
  .runDescE (fun _ _ h => .unmaskEff h) (fun _ _ _ h => .unmaskErr h)

/-! ### Modular arithmetic (Sys2Proof/Machine/Modular.lean) -/

theorem MemoryOk.writeLimbs {s d c f} (h : MemoryOk s) : MemoryOk (writeLimbs s d c f) :=
  .setOpMem h (memWf_foldl _ _ (fun _ _ hm => memWf_limbWrite _ _ _ _ hm) _ h.opMem)

theorem MemoryOk.modFinish {s d bad c f} (h : MemoryOk s) : MemoryOk (modFinish s d bad c f) :=
  .ite (.completeDesc h) (.ite (.endDesc h) (.completeDesc (.writeLimbs h)))

theorem MemoryOk.elementWise {d std g s} (h : MemoryOk s) : MemoryOk (elementWise d std g s) :=
  .modFinish h

theorem StepsOk.execNtt {i e s} : StepsOk s (execNtt i e s) :=
  .runDesc (fun _ _ h => .modFinish h)

theorem StepsOk.execIntt {i e s} : StepsOk s (execIntt i e s) :=
  .runDesc (fun _ _ h => .modFinish h)

theorem StepsOk.execVmulProduct {i e s} : StepsOk s (execVmulProduct i e s) :=
  .runDescIf (fun _ _ h => .elementWise h) (fun _ _ _ h => .hwEnd h)

theorem StepsOk.execVmulScalar {i e s} : StepsOk s (execVmulScalar i e s) :=
  .runDescIf (fun _ _ h => .elementWise h) (fun _ _ _ h => .hwEnd h)

theorem StepsOk.execVmulAdd {i e s} : StepsOk s (execVmulAdd i e s) :=
  .runDescIf (fun _ _ h => .elementWise h) (fun _ _ _ h => .hwEnd h)

theorem StepsOk.execVmulSubtract {i e s} : StepsOk s (execVmulSubtract i e s) :=
  .runDescIf (fun _ _ h => .elementWise h) (fun _ _ _ h => .hwEnd h)

theorem StepsOk.execVmulToMontgomery {i e s} : StepsOk s (execVmulToMontgomery i e s) :=
  .runDescIf (fun _ _ h => .elementWise h) (fun _ _ _ h => .hwEnd h)

theorem StepsOk.execVmulToStandard {i e s} : StepsOk s (execVmulToStandard i e s) :=
  .runDescIf (fun _ _ h => .elementWise h) (fun _ _ _ h => .hwEnd h)

theorem StepsOk.execVmacAddProduct {i e s} : StepsOk s (execVmacAddProduct i e s) :=
  .runDescIf (fun _ _ h => .elementWise h) (fun _ _ _ h => .hwEnd h)

theorem StepsOk.execVmacAddScalar {i e s} : StepsOk s (execVmacAddScalar i e s) :=
  .runDescIf (fun _ _ h => .elementWise h) (fun _ _ _ h => .hwEnd h)

theorem StepsOk.execVmacSubProduct {i e s} : StepsOk s (execVmacSubProduct i e s) :=
  .runDescIf (fun _ _ h => .elementWise h) (fun _ _ _ h => .hwEnd h)

theorem StepsOk.execVmacSubScalar {i e s} : StepsOk s (execVmacSubScalar i e s) :=
  .runDescIf (fun _ _ h => .elementWise h) (fun _ _ _ h => .hwEnd h)

theorem MemoryOk.convEff {exact d s} (h : MemoryOk s) : MemoryOk (convEff exact d s) :=
  .modFinish (.update h rfl)

theorem StepsOk.execBaseconvFast {i e s} : StepsOk s (execBaseconvFast i e s) :=
  .runDescIf (fun _ _ h => .convEff h) (fun _ _ _ h => .hwEnd h)

theorem StepsOk.execBaseconvExact {i e s} : StepsOk s (execBaseconvExact i e s) :=
  .runDescIf (fun _ _ h => .convEff h) (fun _ _ _ h => .hwEnd h)

theorem StepsOk.execBaseconvPrepare {i e s} : StepsOk s (execBaseconvPrepare i e s) :=
  .runDescIf
      (fun _ _ h => .ite (.completeDesc h)
          (.completeDesc (.update (.setOpMem h (memWf_writeBytes _ _ _ (memWf_mclear _ _ _ h.opMem))) rfl)))
              (fun _ _ _ h => .hwEnd h)

theorem StepsOk.execAutomorphCoefficient {i e s} : StepsOk s (execAutomorphCoefficient i e s) :=
  .runDescIf (fun _ _ h => .modFinish h) (fun _ _ _ h => .hwEnd h)

theorem StepsOk.execAutomorphNtt {i e s} : StepsOk s (execAutomorphNtt i e s) :=
  .runDescIf (fun _ _ h => .modFinish h) (fun _ _ _ h => .hwEnd h)

theorem MemoryOk.basisLoadRule {n v s} (h : MemoryOk s) : MemoryOk (basisLoadRule n v s).2 := by
  unfold Machine.basisLoadRule
  split
  · exact h
  · exact .wrEj h

/-! ### Ciphertexts (Sys2Proof/Machine/Sealed.lean) -/

theorem MemoryOk.rngDraw {s nbits} (h : MemoryOk s) : MemoryOk (rngDraw s nbits) :=
  .rngTake h

theorem MemoryOk.sScratchJunk {s d} (h : MemoryOk s) : MemoryOk (sScratchJunk s d) :=
  .foldl h fun _ _ h => .update (.setOpMem h (memWf_mfree _ _ _ _ h.opMem)) rfl

theorem MemoryOk.sReload {s d} (h : MemoryOk s) : MemoryOk (sReload s d) :=
  .ite (.bumpE (.loadKeys h)) h

theorem MemoryOk.sFinish {s d ty member id tag bound count st parts c} (h : MemoryOk s) :
    MemoryOk (sFinish s d ty member id tag bound count st parts c) := by
  unfold Machine.sFinish
  extract_lets _ _ _ _ s'
  have h' : MemoryOk s' := .setOpMem h (memWf_objWrite _ _ _ _ _ _ _ _ h.opMem)
  exact .completeDesc (.update h' rfl)

theorem MemoryOk.sResult {s d count c} (h : MemoryOk s) : MemoryOk (sResult s d count c) :=
  .sFinish h

theorem MemoryOk.ctAddEff {d s} (h : MemoryOk s) : MemoryOk (ctAddEff d s) := by
  unfold Machine.ctAddEff
  extract_lets s
  have hs : MemoryOk s := .sReload h
  exact .ite (.endDesc hs) (.sResult hs)

theorem StepsOk.execCtAdd {i e s} : StepsOk s (execCtAdd i e s) :=
  .runDesc (fun _ _ h => .ctAddEff h)

theorem MemoryOk.ctPmulEff {d s} (h : MemoryOk s) : MemoryOk (ctPmulEff d s) := by
  unfold Machine.ctPmulEff
  extract_lets s
  have hs : MemoryOk s := .sReload h
  exact .ite (.endDesc hs) (.sResult hs)

theorem StepsOk.execCtPmul {i e s} : StepsOk s (execCtPmul i e s) :=
  .runDesc (fun _ _ h => .ctPmulEff h)

theorem MemoryOk.switchEff {g d s0} (h : MemoryOk s0) : MemoryOk (switchEff g d s0) := by
  unfold Machine.switchEff
  extract_lets _ _ s _ _ _ _ s1 _ _ _ _ s2 _ _ s'
  have hs : MemoryOk s := .sReload h
  have h1 : MemoryOk s1 := .ite hs (.addE hs)
  have h2 : MemoryOk s2 := .sScratchJunk h1
  have h' : MemoryOk s' := .setOpMem h2 (memWf_objWrite _ _ _ _ _ _ _ _ h2.opMem)
  exact .ite (.completeDesc (.setOpMem h1 (memWf_mclear _ _ _ h1.opMem))) <|
    .ite (.endDesc h2) (.completeDesc (.update h' rfl))

theorem StepsOk.execKeyswitch {i e s} : StepsOk s (execKeyswitch i e s) :=
  .runDesc (fun _ _ h => .switchEff h)

theorem StepsOk.execRotate {i e s} : StepsOk s (execRotate i e s) :=
  .runDesc (fun _ _ h => .switchEff h)

theorem MemoryOk.moddropEff {d s} (h : MemoryOk s) : MemoryOk (moddropEff d s) := by
  unfold Machine.moddropEff
  extract_lets s
  have hs : MemoryOk s := .sReload h
  exact .ite (.endDesc hs) (.sResult hs)

theorem StepsOk.execModdrop {i e s} : StepsOk s (execModdrop i e s) :=
  .runDesc (fun _ _ h => .moddropEff h)

theorem MemoryOk.encryptEff {d s0} (h : MemoryOk s0) : MemoryOk (encryptEff d s0) := by
  unfold Machine.encryptEff
  extract_lets _ _ s _ _ _ _ _ _ _ _ s'
  have hs : MemoryOk s := .sReload h
  have h' : MemoryOk s' := .rngDraw hs
  exact .ite (.completeDesc h) <|
    .ite (.endDesc (.hwCount hs)) <|
    .ite (.completeDesc (.setOpMem hs (memWf_mclear _ _ _ hs.opMem))) (.sFinish (.update h' rfl))

theorem StepsOk.execEncryptClearInt32 {i e s} : StepsOk s (execEncryptClearInt32 i e s) :=
  .runDescIf (fun _ _ h => .encryptEff h) (fun _ _ _ h => .hwEnd h)

theorem StepsOk.execEncryptClearFp32Pair {i e s} : StepsOk s (execEncryptClearFp32Pair i e s) :=
  .runDescIf (fun _ _ h => .encryptEff h) (fun _ _ _ h => .hwEnd h)

theorem MemoryOk.decryptEff {d s0} (h : MemoryOk s0) : MemoryOk (decryptEff d s0) := by
  unfold Machine.decryptEff
  extract_lets _ s _ _ _ _ _ s'
  have hs : MemoryOk s := .sReload h
  have h' : MemoryOk s' := .rngDraw hs
  exact .ite (.endDesc (.hwCount hs)) (.ite (.endDesc (.update h' rfl)) (.sFinish (.update h' rfl)))

theorem StepsOk.execDecryptShare {i e s} : StepsOk s (execDecryptShare i e s) :=
  .runDesc (fun _ _ h => .decryptEff h)

theorem MemoryOk.writeShare {s n m x} (h : MemoryOk s) : MemoryOk (writeShare s n m x) :=
  .setVm h (memWf_foldl _ _ (fun _ _ hm => (by
        split
        · exact memWf_mwr _ _ _ _ hm
        · exact hm)) _
      (memWf_mclear _ _ _ h.vm))

theorem MemoryOk.keyShareIn {key m reply s} (hreply : ∀ t st, MemoryOk t → MemoryOk (reply t st)) (h : MemoryOk s) :
    MemoryOk (keyShareIn key m reply s) := by
  unfold Machine.keyShareIn
  extract_lets
  split
  · exact h
  · split
    · exact hreply _ _ h
    · split
      · exact hreply _ _ (.bumpE h)
      · exact hreply _ _ (.wrE (.setCx (.foldl h fun _ _ h => .writeShare h)))

theorem StepsOk.execKeyShareMessage {key m s} : StepsOk s (execKeyShareMessage key m s) :=
  .ite .stay (.next fun h => .keyShareIn (fun _ _ h => .replyMsg h) h)

/-! ### Secret sharing (Sys2Proof/Machine/Shared.lean) -/

theorem MemoryOk.shPut {s n a r xs} (h : MemoryOk s) : MemoryOk (shPut s n a r xs) :=
  .setVm h (memWf_rowWrite _ _ _ _ h.vm)

theorem MemoryOk.shElementWise {d f g s} (h : MemoryOk s) : MemoryOk (shElementWise d f g s) :=
  .completeDesc (.foldl h fun _ _ h => .setChk (.shPut h))

theorem StepsOk.execShAdd {i e s} : StepsOk s (execShAdd i e s) :=
  .runDescIf (fun _ _ h => .shElementWise h) (fun _ _ _ h => .hwEnd h)

theorem StepsOk.execShAddPublic {i e s} : StepsOk s (execShAddPublic i e s) :=
  .runDescIf (fun _ _ h => .shElementWise h) (fun _ _ _ h => .hwEnd h)

theorem StepsOk.execShSubtract {i e s} : StepsOk s (execShSubtract i e s) :=
  .runDescIf (fun _ _ h => .shElementWise h) (fun _ _ _ h => .hwEnd h)

theorem StepsOk.execShScale {i e s} : StepsOk s (execShScale i e s) :=
  .runDesc (fun _ _ h => .shElementWise h)

theorem MemoryOk.xSend {s n m} (h : MemoryOk s) : MemoryOk (xSend s n m) :=
  .foldl h fun _ _ h => (by
        split
        · exact .ownSend (.emit h)
        · exact h)

theorem MemoryOk.xStore {s n m} (h : MemoryOk s) : MemoryOk (xStore s n m) :=
  .setCx h

theorem MemoryOk.xClear {s d} (h : MemoryOk s) : MemoryOk (xClear s d) :=
  .setCx h

theorem MemoryOk.dropTriples {s n keep} (h : MemoryOk s) : MemoryOk (dropTriples s n keep) :=
  .wrE (.setCx h)

theorem MemoryOk.xTidy {s d} (h : MemoryOk s) : MemoryOk (xTidy s d) := by
  unfold Machine.xTidy
  extract_lets s1
  have h1 : MemoryOk s1 := .xClear h
  exact .ite (.dropTriples h1) h1

theorem MemoryOk.xEnd {s d st detail} (h : MemoryOk s) : MemoryOk (xEnd s d st detail) :=
  .completeDesc (.xTidy h)

theorem MemoryOk.takeTriples {s d} (h : MemoryOk s) : MemoryOk (takeTriples s d) :=
  .wrE h

theorem MemoryOk.xFail {s d} (h : MemoryOk s) : MemoryOk (xFail s d) :=
  .hwFault (.hwReach (.endAt (.hwCount (.xTidy h))))

theorem MemoryOk.allOpened {s n} (h : MemoryOk s) : MemoryOk (allOpened s n) :=
  .ite h (.ite (.wrE h) (.setCx h))

theorem MemoryOk.openRow {s n r range sum} (h : MemoryOk s) : MemoryOk (openRow s n r range sum) := by
  unfold Machine.openRow
  extract_lets _ _ s1 s2
  have h1 : MemoryOk s1 := .setChk (.shPut h)
  have h2 : MemoryOk s2 := .ite (.flagRow h1) h1
  exact .allOpened (.bumpE (.setCx (.ite h2 (.addClearRow (.setCx h2)))))

theorem MemoryOk.tryOpenBlock {s d b} (h : MemoryOk s) : MemoryOk (tryOpenBlock s d b) := by
  unfold Machine.tryOpenBlock
  extract_lets
  split
  · exact h
  · exact .foldl h fun _ _ h => .ite h (.ite (.setDesc (.openRow h)) (.openRow h))

theorem MemoryOk.tryBeaverBlock {s d b} (h : MemoryOk s) : MemoryOk (tryBeaverBlock s d b) :=
  .ite h (.setDesc (.foldl h fun _ _ h => .setChk (.shPut h)))

theorem MemoryOk.xAdvance {s d} (h : MemoryOk s) : MemoryOk (xAdvance s d) := by
  unfold Machine.xAdvance
  extract_lets s1 s1'
  have h1 : MemoryOk s1 := .foldl h fun _ _ h => .tryOpenBlock h
  have h1' : MemoryOk s1' := .foldl h fun _ _ h => .tryBeaverBlock h
  exact .ite (.ite (.xFail h1) (.ite (.xEnd h1) h1)) (.ite (.xFail h1') (.ite (.xEnd h1') h1'))

theorem MemoryOk.xStart {s d} (h : MemoryOk s) : MemoryOk (xStart s d) := by
  unfold Machine.xStart
  extract_lets _ _ s1
  have h1 : MemoryOk s1 := .setDesc h
  exact .ite (.refuseDesc (.xClear h))
      (.xAdvance
          (.foldl (.ite (.dropTriples (.takeTriples h1)) h1) fun _ _ h => .ite (.xSend h) (.xSend (.xStore h))))

theorem MemoryOk.xHandshakes {s d} (h : MemoryOk s) : MemoryOk (xHandshakes s d) :=
  .ite (.xEnd (.wrE h)) (.ite h (.xStart h))

theorem MemoryOk.xStep {s d} (h : MemoryOk s) : MemoryOk (xStep s d) := by
  unfold Machine.xStep
  split
  · exact .xHandshakes h
  · exact .xAdvance h
  · exact h

theorem MemoryOk.xPoll {s n} (h : MemoryOk s) : MemoryOk (xPoll s n) :=
  .foldl h fun _ _ h => .xStep h

theorem MemoryOk.xBegin {d s} (h : MemoryOk s) : MemoryOk (xBegin d s) :=
  .ite (.completeDesc h) (.xHandshakes (.xSend (.setDesc h)))

theorem MemoryOk.xErr {d e s} (h : MemoryOk s) : MemoryOk (xErr d e s) :=
  .ite (.xBegin (.setDesc h)) (.hwEnd h)

theorem StepsOk.execShBeaver {i e s} : StepsOk s (execShBeaver i e s) :=
  .runDescE (fun _ _ h => .xBegin h) (fun _ _ _ h => .xErr h)

theorem StepsOk.execShOpen {i e s} : StepsOk s (execShOpen i e s) :=
  .runDescE (fun _ _ h => .xBegin h) (fun _ _ _ h => .xErr h)

theorem StepsOk.execExchangeTimeoutExpiry {i s} : StepsOk s (execExchangeTimeoutExpiry i s) := by
  unfold Machine.execExchangeTimeoutExpiry
  split
  · exact .stay
  · split
    · exact .stay
    · exact .ite
          (.ite (.next fun h => .xEnd h) (.ite (.next fun h => .xEnd (.junkDest (.takeTriples h))) .stay)) .stay

theorem MemoryOk.exchangeIn {key m reply s} (hreply : ∀ t st, MemoryOk t → MemoryOk (reply t st)) (h : MemoryOk s) :
    MemoryOk (exchangeIn key m reply s) := by
  unfold Machine.exchangeIn
  extract_lets
  split
  · exact h
  · split
    · exact hreply _ _ (.bumpE h)
    · exact .xPoll (hreply _ _ (.xStore h))

theorem StepsOk.execExchangeMessage {key m s} : StepsOk s (execExchangeMessage key m s) :=
  .ite .stay (.next fun h => .exchangeIn (fun _ _ h => .replyMsg h) h)

theorem MemoryOk.tripleIn {key m reply s} (hreply : ∀ t st, MemoryOk t → MemoryOk (reply t st)) (h : MemoryOk s) :
    MemoryOk (tripleIn key m reply s) := by
  unfold Machine.tripleIn
  extract_lets
  split
  · exact h
  · split
    · exact hreply _ _ (.bumpE h)
    · exact hreply _ _ (.bumpE (.setCx h))

theorem StepsOk.execTripleBatch {key m s} : StepsOk s (execTripleBatch key m s) :=
  .ite .stay (.next fun h => .tripleIn (fun _ _ h => .replyMsg h) h)

theorem StepsOk.execPartnerQuoteCheck {key q s} : StepsOk s (execPartnerQuoteCheck key q s) := by
  unfold Machine.execPartnerQuoteCheck
  extract_lets
  split
  · exact .stay
  · split
    · split
      · exact .stay
      · exact .ite (.next fun h => .wrE h) .stay
    · exact .stay

/-! ### Accumulation (Sys2Proof/Machine/Accum.lean) -/

theorem MemoryOk.putTile {s d t} (h : MemoryOk s) : MemoryOk (putTile s d t) :=
  .update h rfl

theorem MemoryOk.accIntEff {neg d s} (h : MemoryOk s) : MemoryOk (accIntEff neg d s) :=
  .completeDesc (.putTile h)

theorem StepsOk.execAccIntAdd {i e s} : StepsOk s (execAccIntAdd i e s) :=
  .runDescIf (fun _ _ h => .accIntEff h) (fun _ _ _ h => .hwEnd h)

theorem StepsOk.execAccIntSubtract {i e s} : StepsOk s (execAccIntSubtract i e s) :=
  .runDescIf (fun _ _ h => .accIntEff h) (fun _ _ _ h => .hwEnd h)

theorem StepsOk.execAccFloat {i e s} : StepsOk s (execAccFloat i e s) :=
  .runDesc (fun _ _ h => .completeDesc (.putTile h))

theorem MemoryOk.accModEff {neg d s} (h : MemoryOk s) : MemoryOk (accModEff neg d s) :=
  .completeDesc (.putTile h)

theorem StepsOk.execAccMaskedAdd {i e s} : StepsOk s (execAccMaskedAdd i e s) :=
  .runDescIf (fun _ _ h => .accModEff h) (fun _ _ _ h => .hwEnd h)

theorem StepsOk.execAccMaskedSubtract {i e s} : StepsOk s (execAccMaskedSubtract i e s) :=
  .runDescIf (fun _ _ h => .accModEff h) (fun _ _ _ h => .hwEnd h)

theorem StepsOk.execAccSharedAdd {i e s} : StepsOk s (execAccSharedAdd i e s) :=
  .runDescIf (fun _ _ h => .accModEff h) (fun _ _ _ h => .hwEnd h)

theorem StepsOk.execAccSharedSubtract {i e s} : StepsOk s (execAccSharedSubtract i e s) :=
  .runDescIf (fun _ _ h => .accModEff h) (fun _ _ _ h => .hwEnd h)

theorem StepsOk.execPreloadZero {i e s} : StepsOk s (execPreloadZero i e s) :=
  .runDescIf (fun _ _ h => .ite (.completeDesc h) (.completeDesc (.putTile h))) (fun _ _ _ h => .hwEnd h)

theorem StepsOk.execPreloadLoad {i e s} : StepsOk s (execPreloadLoad i e s) :=
  .runDescIf (fun _ _ h => .ite (.completeDesc h) (.completeDesc (.putTile h))) (fun _ _ _ h => .hwEnd h)

theorem MemoryOk.drainRow {s0 d s x} (h : MemoryOk s) : MemoryOk (drainRow s0 d s x) := by
  unfold Machine.drainRow
  extract_lets _ _ _ _ _ s1 s2 s3
  have h1 : MemoryOk s1 := .setOpMem h (memWf_rowWrite _ _ _ _ h.opMem)
  have h2 : MemoryOk s2 := .ite h1 (.setVm h1 (memWf_mwr _ _ _ _ h1.vm))
  have h3 : MemoryOk s3 := .ite h2 (.setVm h2 (memWf_mwr _ _ _ _ h2.vm))
  exact .ite (.putTile (.update h3 rfl)) (.update h3 rfl)

theorem MemoryOk.drainEff {d s} (h : MemoryOk s) : MemoryOk (drainEff d s) :=
  .completeDesc (.foldl h fun _ _ h => .drainRow h)

theorem StepsOk.execDrainNative {i e s} : StepsOk s (execDrainNative i e s) :=
  .runDescIf (fun _ _ h => .drainEff h) (fun _ _ _ h => .hwEnd h)

theorem StepsOk.execDrainDequant {i e s} : StepsOk s (execDrainDequant i e s) :=
  .runDescIf (fun _ _ h => .drainEff h) (fun _ _ _ h => .hwEnd h)

theorem StepsOk.execDrainMean {i e s} : StepsOk s (execDrainMean i e s) :=
  .runDescIf (fun _ _ h => .drainEff h) (fun _ _ _ h => .hwEnd h)

theorem StepsOk.execDrainFused {i e s} : StepsOk s (execDrainFused i e s) :=
  .runDescIf (fun _ _ h => .drainEff h) (fun _ _ _ h => .hwEnd h)

theorem StepsOk.execSave {i e s} : StepsOk s (execSave i e s) :=
  .runDesc (fun _ _ h => .completeDesc
      (.setOpMem h (memWf_foldl _ _ (fun _ _ hm => memWf_writeBytes _ _ _ hm) _ h.opMem)))

theorem StepsOk.execRestore {i e s} : StepsOk s (execRestore i e s) :=
  .runDesc (fun _ _ h => .ite (.completeDesc h)
      (.ite (.completeDesc (.putTile h)) (.completeDesc (.putTile h))))

theorem MemoryOk.reduceEff {mx d s} (h : MemoryOk s) : MemoryOk (reduceEff mx d s) :=
  .completeDesc (.setVm h (memWf_mwr _ _ _ _ h.vm))

theorem StepsOk.execReduceMax {i e s} : StepsOk s (execReduceMax i e s) :=
  .runDesc (fun _ _ h => .reduceEff h)

theorem StepsOk.execReduceMin {i e s} : StepsOk s (execReduceMin i e s) :=
  .runDesc (fun _ _ h => .reduceEff h)

theorem StepsOk.execProvTileZero {n s} : StepsOk s (execProvTileZero n s) :=
  .ite .stay (.ite .stay (.next fun h => .dropProv h))

theorem MemoryOk.dropRemoved {s n} (h : MemoryOk s) : MemoryOk (dropRemoved s n) :=
  .clearTiles (.setCx h)

theorem MemoryOk.rangeWrite {s n first cnt} (h : MemoryOk s) : MemoryOk (rangeWrite s n first cnt) :=
  .dropRemoved (.setCx (.wrE (.wrE h)))

/-! ### Queues, counters and triggers (Sys2Proof/Machine/Queue.lean) -/

theorem MemoryOk.flushQueue {s f q} (h : MemoryOk s) : MemoryOk (flushQueue s f q) :=
  .completeAll h

theorem MemoryOk.writeCqConfig {s f q v} (h : MemoryOk s) : MemoryOk (writeCqConfig s f q v) :=
  .setCq (.ite (.flushQueue h) h)

theorem MemoryOk.cqConfigWrite {s f q v} (h : MemoryOk s) : MemoryOk (cqConfigWrite s f q v) :=
  .ite (.writeCqConfig h) h

theorem StepsOk.execCqEnable {f q v s} : StepsOk s (execCqEnable f q v s) :=
  .next fun h => .cqConfigWrite h

theorem StepsOk.execCqDisable {f q v s} : StepsOk s (execCqDisable f q v s) :=
  .next fun h => .cqConfigWrite h

theorem StepsOk.execCqFlush {f q v s} : StepsOk s (execCqFlush f q v s) :=
  .next fun h => .cqConfigWrite h

theorem StepsOk.execCqDoorbell {f q value s} : StepsOk s (execCqDoorbell f q value s) :=
  .ite (.ite (.next fun h => .setCq h) (.next fun h => .setCq h)) .stay

theorem MemoryOk.queueError {s f q st} (h : MemoryOk s) : MemoryOk (queueError s f q st) :=
  .postEvent (.setCq h)

theorem StepsOk.execDescriptorFetch {f q e s} : StepsOk s (execDescriptorFetch f q e s) := by
  unfold Machine.execDescriptorFetch
  extract_lets _ _ _ _ _ s1
  have h1 (h : MemoryOk s) : MemoryOk s1 := .setCq (.ite h (.linkWork h))
  split
  · exact .stay
  · split
    · exact .next fun h => .queueError h
    · exact .ite (.next fun h => .queueError h) (.next fun h => .update (h1 h) rfl)

theorem MemoryOk.pointerFault {s f unit detail} (h : MemoryOk s) : MemoryOk (pointerFault s f unit detail) :=
  .writeFault (.bumpE h)

theorem MemoryOk.lanePointerFault {s f q die} (h : MemoryOk s) : MemoryOk (lanePointerFault s f q die) :=
  .pointerFault (.completeAll h)

theorem MemoryOk.streamPointerFault {s f} (h : MemoryOk s) : MemoryOk (streamPointerFault s f) :=
  .pointerFault (.completeAll h)

theorem StepsOk.execDescriptorForward {f acc s} : StepsOk s (execDescriptorForward f acc s) := by
  unfold Machine.execDescriptorForward
  extract_lets
  split
  · exact .stay
  · split
    · exact .next fun h => .ite (.streamPointerFault h) (.lanePointerFault h)
    · split
      · exact .stay
      · extract_lets _ s1
        have h1 (h : MemoryOk s) : MemoryOk s1 := .setDesc h
        exact .ite .stay (.ite (.next fun h => .ite (.setCq h) h) (.next fun h => .ite (.setCq (h1 h)) (h1 h)))

theorem StepsOk.execUrgentPromotion {f q die s} : StepsOk s (execUrgentPromotion f q die s) := by
  unfold Machine.execUrgentPromotion
  extract_lets _ s1
  have h1 (h : MemoryOk s) : MemoryOk s1 := .bumpE (.update h rfl)
  split
  · exact .stay
  · split
    · exact .stay
    · exact .ite .stay (.next fun h => .ite (.setCq (h1 h)) (h1 h))

theorem StepsOk.execSynValueWrite {f c value s} : StepsOk s (execSynValueWrite f c value s) :=
  .ite .stay (.ite (.next fun h => .synSet h) (.next fun h => .bumpE h))

theorem StepsOk.execSynAdd {f c value s} : StepsOk s (execSynAdd f c value s) :=
  .ite .stay (.ite (.next fun h => .synAdd h) (.next fun h => .bumpE h))

theorem MemoryOk.synBlockRule {k value s} (h : MemoryOk s) : MemoryOk (synBlockRule k value s).2 := by
  unfold Machine.synBlockRule
  extract_lets
  split
  · exact h
  · exact .ite (.wrEj (.update h rfl)) (.wrEj (.update h rfl))

theorem StepsOk.runControl {s i op ready eff} (heff : ∀ d, MemoryOk s → MemoryOk (eff d)) :
    StepsOk s (runControl s i op ready eff) := by
  unfold Machine.runControl
  split
  · exact .stay
  · split
    · exact .stay
    · split
      · exact .next fun h => .refuseDesc h
      · exact .next (heff _)

theorem StepsOk.execWait {i s} : StepsOk s (execWait i s) :=
  .ite .stay (.runControl (fun _ h => .ite (.refuseDesc h) (.completeDesc h)))

theorem StepsOk.execWaitTimeout {i s} : StepsOk s (execWaitTimeout i s) :=
  .ite .stay (.runControl (fun _ h => .ite (.refuseDesc h) (.completeDesc h)))

theorem StepsOk.execSignalAdd {i s} : StepsOk s (execSignalAdd i s) :=
  .ite .stay (.runControl (fun _ h => .ite (.completeDesc h) (.refuseDesc h)))

theorem StepsOk.execSignalSet {i s} : StepsOk s (execSignalSet i s) :=
  .ite .stay (.runControl (fun _ h => .ite (.completeDesc h) (.refuseDesc h)))

theorem StepsOk.execFenceQueue {i s} : StepsOk s (execFenceQueue i s) :=
  .ite .stay (.runControl (fun _ h => .completeDesc h))

theorem StepsOk.execFenceContext {i s} : StepsOk s (execFenceContext i s) :=
  .ite .stay (.runControl (fun _ h => .completeDesc h))

theorem StepsOk.execFenceFunction {i s} : StepsOk s (execFenceFunction i s) :=
  .ite .stay (.runControl (fun _ h => .completeDesc h))

theorem StepsOk.execNop {i s} : StepsOk s (execNop i s) :=
  .ite .stay (.runControl (fun _ h => .completeDesc h))

theorem StepsOk.execTriggerArm {i s} : StepsOk s (execTriggerArm i s) := by
  unfold Machine.execTriggerArm
  split
  · exact .stay
  · exact .runControl
        (fun _ h => (by
              split
              · exact .refuseDesc h
              · exact .completeDesc (.markTriggers (.update h rfl))))

theorem MemoryOk.dropTrigger {s f slot} (h : MemoryOk s) : MemoryOk (dropTrigger s f slot) :=
  .update h rfl

theorem StepsOk.execTriggerCancel {i s} : StepsOk s (execTriggerCancel i s) := by
  unfold Machine.execTriggerCancel
  split
  · exact .stay
  · exact .runControl (fun _ h => .completeDesc (by
        split
        · exact .ite h (.dropTrigger h)
        · exact h))

theorem MemoryOk.enterStream {s f slot} (h : MemoryOk s) : MemoryOk (enterStream s f slot) := by
  unfold Machine.enterStream
  extract_lets s1
  have h1 : MemoryOk s1 := .dropTrigger h
  split
  · exact h
  · exact .ite h (.update h1 rfl)

theorem StepsOk.execTriggerFire {f slot s} : StepsOk s (execTriggerFire f slot s) :=
  .ite .stay (.next fun h => .enterStream h)

theorem StepsOk.execTriggerStreamEntry {f slot s} : StepsOk s (execTriggerStreamEntry f slot s) :=
  .ite .stay (.next fun h => .enterStream h)

theorem MemoryOk.writeEvqConfig {s f q v} (h : MemoryOk s) : MemoryOk (writeEvqConfig s f q v) :=
  .ite (.setEvq h) (.setEvq h)

theorem StepsOk.execEvqEnable {f q value s} : StepsOk s (execEvqEnable f q value s) :=
  .next fun h => .ite (.writeEvqConfig h) h

theorem StepsOk.execEvqFlush {f q value s} : StepsOk s (execEvqFlush f q value s) :=
  .next fun h => .ite (.writeEvqConfig h) h

theorem MemoryOk.writeEvqDepth {s f q v} (h : MemoryOk s) : MemoryOk (writeEvqDepth s f q v) :=
  .ite (.setEvq h) (.setEvq h)

theorem StepsOk.execEvqDepthWrite {f q value s} : StepsOk s (execEvqDepthWrite f q value s) :=
  .next fun h => .ite (.writeEvqDepth h) h

theorem MemoryOk.evqPointerFault {s f q} (h : MemoryOk s) : MemoryOk (evqPointerFault s f q) :=
  .pointerFault (.setEvq h)

theorem StepsOk.execEventQueueRead {f q size ptrFault s} : StepsOk s (execEventQueueRead f q size ptrFault s) := by
  unfold Machine.execEventQueueRead
  extract_lets
  split
  · exact .next fun h => .emit h
  · split
    · exact .next fun h => .emit (.evqPointerFault h)
    · split
      · exact .next fun h => .emit h
      · exact .next fun h => .emit (.setEvq h)

/-! ### Answers to dictionary writes (Sys2Proof/Machine/Reply.lean) -/

theorem MemoryOk.answerWith {s src st value len read more} (h : MemoryOk s) :
    MemoryOk (answerWith s src st value len read more) := by
  unfold Machine.answerWith
  extract_lets s1
  have h1 : MemoryOk s1 := .ite h (.emit h)
  split
  · extract_lets _ _ _ s2
    have h2 : MemoryOk s2 := .setMboxBytes (.setMbox h1) (memWf_mwr _ _ _ _ (memWf_mwr _ _ _ _ h.mbox))
    exact .ite (.ite (.raiseMsix h2) h2) (.setMbox h)
  · exact h1

theorem MemoryOk.answer {s src st} (h : MemoryOk s) : MemoryOk (answer s src st) :=
  .answerWith h

theorem MemoryOk.noteWrite {s src e n st late} (h : MemoryOk s) : MemoryOk (noteWrite s src e n st late) := by
  unfold Machine.noteWrite
  extract_lets s1
  have h1 : MemoryOk s1 := .ite (.noteRefusal h) h
  exact .ite (.wrE h1) (.ite (.wrE h1) h1)

theorem StepsOk.odRun {s src e n len value rule} (hrule : ∀ t, MemoryOk t → MemoryOk (rule t).2) :
    StepsOk s (odRun s src e n len value rule) := by
  unfold Machine.odRun
  split
  · exact .stay
  · split
    · exact .next fun h => .answer (.noteWrite h)
    · split
      · exact .next fun h => .answer (.noteWrite h)
      · exact .next fun h => .answer (.ite (hrule _ h) (.noteWrite (hrule _ h)))

theorem StepsOk.odDefer {s src e n len value rule} (hrule : ∀ t, MemoryOk t → MemoryOk (rule t).2) :
    StepsOk s (odDefer s src e n len value rule) := by
  unfold Machine.odDefer
  split
  · exact .stay
  · split
    · exact .next fun h => .answer (.noteWrite h)
    · split
      · exact .next fun h => .answer (.noteWrite h)
      · exact .next fun h => .ite (hrule _ h) (.answer (.noteWrite (hrule _ h)))

theorem StepsOk.odCmd {s src e n value rule} (hrule : ∀ t, MemoryOk t → MemoryOk (rule t).2) :
    StepsOk s (odCmd s src e n value rule) :=
  .odRun hrule

/-! ### The random number generator (Sys2Proof/Machine/Rng.lean) -/

theorem MemoryOk.rngZero {s} (h : MemoryOk s) : MemoryOk (rngZero s) := by
  unfold Machine.rngZero
  extract_lets s1
  have h1 : MemoryOk s1 := .bumpB h
  exact .update h1 rfl

theorem MemoryOk.rngStart {s} (h : MemoryOk s) : MemoryOk (rngStart s) :=
  .update h rfl

theorem MemoryOk.rngFail {s cause} (h : MemoryOk s) : MemoryOk (rngFail s cause) := by
  unfold Machine.rngFail
  extract_lets s1
  have h1 : MemoryOk s1 := .rngZero h
  exact .writeFault (.bumpB (.update h1 rfl))

theorem MemoryOk.rngInstantiate {s} (h : MemoryOk s) : MemoryOk (rngInstantiate s) :=
  .bumpB (.update h rfl)

theorem MemoryOk.rngReseed {s} (h : MemoryOk s) : MemoryOk (rngReseed s) :=
  .bumpB (.update h rfl)

theorem MemoryOk.takeSample {s x} (h : MemoryOk s) : MemoryOk (takeSample s x) :=
  .ite (.update h rfl) (.ite (.update h rfl) (.ite (.update h rfl) (.update h rfl)))

theorem StepsOk.execRngSample {b s} : StepsOk s (execRngSample b s) :=
  .ite .stay <|
  .ite .stay <|
  .ite (.next fun h => .rngFail (.update h rfl)) <|
  .ite (.next fun h => .rngFail (.update h rfl)) (.next fun h => .takeSample (.update h rfl))

theorem StepsOk.execRngEstimateWindow {s} : StepsOk s (execRngEstimateWindow s) := by
  unfold Machine.execRngEstimateWindow
  extract_lets _ s1
  have h1 (h : MemoryOk s) : MemoryOk s1 := .wrB (.wrB h)
  split
  · exact .stay
  · split
    · exact .stay
    · split
      · exact .next fun h => .rngFail (.update (h1 h) rfl)
      · exact .next fun h => (.update (h1 h) rfl)

theorem StepsOk.execRngStartupComplete {katOk s} : StepsOk s (execRngStartupComplete katOk s) := by
  unfold Machine.execRngStartupComplete
  split
  · exact .stay
  · split
    · exact .stay
    · split
      · exact .next fun h => .rngFail h
      · split
        · exact .next fun h => .rngFail h
        · exact .next fun h => .rngInstantiate h

theorem MemoryOk.rngBlock {w s} (h : MemoryOk s) : MemoryOk (rngBlock w s) := by
  unfold Machine.rngBlock
  extract_lets
  split
  · exact h
  · exact h

theorem MemoryOk.rngRequest {s} (h : MemoryOk s) : MemoryOk (rngRequest s) := by
  unfold Machine.rngRequest
  exact .rngBlock (.rngBlock (.rngBlock (.rngBlock (h.update rfl))))

theorem StepsOk.execDrbgGenerate {s} : StepsOk s (execDrbgGenerate s) := by
  unfold Machine.execDrbgGenerate
  extract_lets s1
  have h1 (h : MemoryOk s) : MemoryOk s1 := .rngRequest h
  clear_value s1
  exact .ite .stay (.ite (.next fun h => .bumpB ((h1 h).update rfl)) .stay)

theorem StepsOk.execReseedIntervalExpiry {s} : StepsOk s (execReseedIntervalExpiry s) := by
  unfold Machine.execReseedIntervalExpiry
  extract_lets s1
  have h1 (h : MemoryOk s) : MemoryOk s1 := .rngReseed h
  exact .ite .stay <|
    .ite .stay <|
    .ite (.next fun h => .update (h1 h) rfl) <|
    .ite (.next fun h => .bumpB (.update h rfl)) (.next fun h => .update h rfl)

theorem StepsOk.execSeedBlockArrivalReseed {s} : StepsOk s (execSeedBlockArrivalReseed s) := by
  unfold Machine.execSeedBlockArrivalReseed
  extract_lets s1
  have h1 (h : MemoryOk s) : MemoryOk s1 := .rngReseed h
  exact .ite .stay (.ite (.next fun h => .update (h1 h) rfl) .stay)

theorem StepsOk.execRngQueueRead {acc s} : StepsOk s (execRngQueueRead acc s) :=
  .ite .stay <|
  .ite (.next fun h => .emit (.writeFault (.bumpE (.bumpB (.update h rfl))))) <|
  .ite (.next fun h => .emit (.update h rfl)) (.next fun h => .emit (.update h rfl))

theorem StepsOk.execRngWaitLimitExpiry {c s} : StepsOk s (execRngWaitLimitExpiry c s) :=
  .ite .stay (.ite (.next fun h => .bumpB (.update h rfl)) .stay)

theorem MemoryOk.rngRestartRule {s} (h : MemoryOk s) : MemoryOk (rngRestartRule s).2 := by
  unfold Machine.rngRestartRule
  split
  · exact .bumpB (.rngStart h)
  · exact h

theorem StepsOk.execRawCaptureSet {s} : StepsOk s (execRawCaptureSet s) :=
  .ite (.next fun h => .update h rfl) .stay

theorem MemoryOk.captureEnd {s} (h : MemoryOk s) : MemoryOk (captureEnd s) := by
  unfold Machine.captureEnd
  extract_lets s1
  have h1 : MemoryOk s1 := .rngZero h
  exact .rngStart (.update h1 rfl)

theorem StepsOk.execRawCaptureClear {s} : StepsOk s (execRawCaptureClear s) :=
  .ite (.next fun h => .captureEnd h) .stay

theorem MemoryOk.rngStop {s} (h : MemoryOk s) : MemoryOk (rngStop s) := by
  unfold Machine.rngStop
  extract_lets s1
  have h1 : MemoryOk s1 := .rngZero h
  exact .update h1 rfl

/-! ### The key vault (Sys2Proof/Machine/Vault.lean) -/

theorem MemoryOk.setV {s i v} (h : MemoryOk s) : MemoryOk (setV s i v) :=
  .update h rfl

theorem MemoryOk.fillSlot {s i purpose owner port rights mod key} (h : MemoryOk s) :
    MemoryOk (fillSlot s i purpose owner port rights mod key) :=
  .setV h

theorem MemoryOk.retireSlots {s p} (h : MemoryOk s) : MemoryOk (retireSlots s p) :=
  .update h rfl

theorem MemoryOk.activateSlot {s i} (h : MemoryOk s) : MemoryOk (activateSlot s i) :=
  .setV (.update h rfl)

theorem MemoryOk.installKey {s purpose owner port rights mod key t} (h : MemoryOk s)
    (he : installKey s purpose owner port rights mod key = some t) : MemoryOk t := by
  unfold Machine.installKey at he
  split at he
  · cases he
  · exact Option.some.inj he ▸ .activateSlot (.fillSlot h)

theorem StepsOk.execVaultInstall {slot purpose owner port rights mod s} :
    StepsOk s (execVaultInstall slot purpose owner port rights mod s) :=
  .ite .stay <|
  .ite .stay <|
  .ite (.next fun h => .bumpB h) (.next fun h => .fillSlot (.freshNext (.ite (.update h rfl) h)))

theorem StepsOk.execVaultActivate {slot s} : StepsOk s (execVaultActivate slot s) :=
  .ite .stay (.ite (.next fun h => .activateSlot h) .stay)

theorem StepsOk.execVaultSlotQuarantineExpiry {slot s} : StepsOk s (execVaultSlotQuarantineExpiry slot s) :=
  .ite .stay (.ite (.next fun h => .setV h) .stay)

theorem StepsOk.execRemaskPass {s} : StepsOk s (execRemaskPass s) :=
  .ite .stay (.ite .stay (.ite (.next fun h => .bumpB (.bumpE h)) (.next fun h => .update h rfl)))

theorem MemoryOk.extendMr {s k data} (h : MemoryOk s) : MemoryOk (extendMr s k data) :=
  .wrEj h

theorem MemoryOk.mrExtendRule {r data s} (h : MemoryOk s) : MemoryOk (mrExtendRule r data s).2 := by
  unfold Machine.mrExtendRule
  split
  · exact .extendMr h
  · exact h

theorem StepsOk.execMrExtend {src r data s} : StepsOk s (execMrExtend src r data s) :=
  .odRun (fun _ h => .mrExtendRule h)

theorem MemoryOk.fabricLockRule {v s} (h : MemoryOk s) : MemoryOk (fabricLockRule v s).2 := by
  unfold Machine.fabricLockRule
  extract_lets
  split
  · exact h
  · exact .wrE (.extendMr h)

theorem StepsOk.execFabricLock {src s} : StepsOk s (execFabricLock src s) :=
  .odCmd (fun _ h => .fabricLockRule h)

theorem MemoryOk.svnCommitRule {v s} (h : MemoryOk s) : MemoryOk (svnCommitRule v s).2 := by
  unfold Machine.svnCommitRule
  extract_lets
  split
  · exact h
  · exact .update h rfl

theorem StepsOk.execSvnCommit {src v s} : StepsOk s (execSvnCommit src v s) :=
  .odCmd (fun _ h => .svnCommitRule h)

theorem MemoryOk.nextTree {s} (h : MemoryOk s) : MemoryOk (nextTree s) := by
  unfold Machine.nextTree
  extract_lets
  split
  · exact .ite (.update h rfl) h
  · exact h

theorem MemoryOk.useIdentity {s} (h : MemoryOk s) : MemoryOk (useIdentity s) :=
  .nextTree (.update h rfl)

theorem StepsOk.execIdentityTreeGeneration {tree s} : StepsOk s (execIdentityTreeGeneration tree s) :=
  .ite .stay (.ite (.next fun h => .nextTree (.update h rfl)) .stay)

theorem MemoryOk.reserveAlias {s} (h : MemoryOk s) : MemoryOk (reserveAlias s) :=
  .update h rfl

theorem StepsOk.execAliasTreeGenerated {idx s} : StepsOk s (execAliasTreeGenerated idx s) := by
  unfold Machine.execAliasTreeGenerated
  extract_lets _ _ s2
  have h2 (h : MemoryOk s) : MemoryOk s2 := .useIdentity (.wrE h)
  exact .ite .stay (.ite (.next fun h => .update (h2 h) rfl) .stay)

theorem MemoryOk.nextAlias {s} (h : MemoryOk s) : MemoryOk (nextAlias s) := by
  unfold Machine.nextAlias
  extract_lets s1
  have h1 : MemoryOk s1 := .wrE (.wrE h)
  exact .ite (.update h1 rfl) h

theorem MemoryOk.useAlias {s} (h : MemoryOk s) : MemoryOk (useAlias s) :=
  .nextAlias (.update h rfl)

theorem StepsOk.execAliasRotation {idx s} : StepsOk s (execAliasRotation idx s) := by
  unfold Machine.execAliasRotation
  extract_lets _ _ s2
  have h2 (h : MemoryOk s) : MemoryOk s2 := .useIdentity (.wrE (.reserveAlias h))
  exact .ite .stay (.ite (.next fun h => .nextAlias (.update (h2 h) rfl)) .stay)

theorem MemoryOk.quoteRule {src nonce n s} (h : MemoryOk s) : MemoryOk (quoteRule src nonce n s).2 := by
  unfold Machine.quoteRule
  extract_lets
  split
  · exact .ite (.wrE h) h
  · split
    · exact .ite (.wrE h) h
    · exact .ite (.wrE (.update h rfl)) (.update h rfl)

theorem StepsOk.execQuoteRequest {src nonce n s} : StepsOk s (execQuoteRequest src nonce n s) :=
  .odRun (fun _ h => .quoteRule h)

theorem StepsOk.execQuoteSign {f s} : StepsOk s (execQuoteSign f s) := by
  unfold Machine.execQuoteSign
  extract_lets s1
  have h1 (h : MemoryOk s) : MemoryOk s1 := .freshNext (.useIdentity h)
  split
  · exact .stay
  · split
    · exact .stay
    · exact .ite .stay <|
        .ite (.next fun h => .wrE (.wrE (.update (h1 h) rfl))) (.next fun h => .emit (.update (h1 h) rfl))

theorem MemoryOk.zeroVault {s} (h : MemoryOk s) : MemoryOk (zeroVault s) := by
  unfold Machine.zeroVault
  extract_lets s1
  have h1 : MemoryOk s1 := .wrE (.wrE h)
  exact .update h1 rfl

/-! ### The ridge: cohorts and imports (Sys2Proof/Machine/Ridge.lean) -/

theorem MemoryOk.ctCombine {s n i level bound count c t} (h : MemoryOk s)
    (he : ctCombine s n i level bound count c = some t) : MemoryOk t := by
  unfold Machine.ctCombine at he
  extract_lets at he
  split at he
  · obtain rfl := Option.some.inj he
    exact .update (h.setVm (memWf_objWrite _ _ _ _ _ _ _ _ (memWf_mclear _ _ _ h.vm))) rfl
  · cases he

theorem MemoryOk.noiseAbandon {s n} (h : MemoryOk s) : MemoryOk (noiseAbandon s n) :=
  .noteRefusal (.tryAbandon h)

theorem MemoryOk.ctCombineAll {s n f l t} (hf : ∀ {s i t}, MemoryOk s → f s i = some t → MemoryOk t) (h :
    MemoryOk s)
    (he : ctCombineAll s n f l = some t) : MemoryOk t := by
  induction l generalizing s with
  | nil => exact Option.some.inj he ▸ h
  | cons i r ih =>
    unfold Machine.ctCombineAll at he
    split at he
    · exact ih (hf h ‹_›) he
    · cases he

theorem MemoryOk.mergeClearInt {s n k} (h : MemoryOk s) : MemoryOk (mergeClearInt s n k) :=
  .foldl h fun _ _ h => .addClearRow h

theorem MemoryOk.mergeShared {s n k cnt} (h : MemoryOk s) : MemoryOk (mergeShared s n k cnt) := by
  unfold Machine.mergeShared
  extract_lets _ s1
  have h1 : MemoryOk s1 := .foldl h fun _ _ h => .addSharedRow h
  exact .addE (.setCohort (.setVm h1 (memWf_mwr _ _ _ _ h1.vm)))

theorem MemoryOk.listImports {s n} (h : MemoryOk s) : MemoryOk (listImports s n) :=
  .setVm h (memWf_foldl _ _ (fun _ _ hm => memWf_mwr _ _ _ _ (memWf_mwr _ _ _ _ hm)) _ h.vm)

theorem MemoryOk.nodeDelivered {s n c m} (h : MemoryOk s) : MemoryOk (nodeDelivered s n c m) := by
  unfold Machine.nodeDelivered
  extract_lets s1
  have h1 : MemoryOk s1 := .bumpE (.addE h)
  exact .ite (.listImports (.setCx (.addE h1))) (.ite (.setCx h1) h1)

theorem MemoryOk.addSegment {s n g m t} (h : MemoryOk s) (he : addSegment s n g m = some t) : MemoryOk t := by
  unfold Machine.addSegment at he
  extract_lets _ s1 _ s2 at he
  have h1 : MemoryOk s1 := .foldl h fun _ _ h => .ite h (.flagRow h)
  have h2 : MemoryOk s2 := .setCx h1
  clear_value s2
  split at he
  · obtain rfl := Option.some.inj he
    exact .foldl h2 fun _ _ h => .addSharedRow h
  · split at he
    · exact h2.ctCombine he
    · exact Option.some.inj he ▸ h2

theorem MemoryOk.acceptSeg {s n c g m} (h : MemoryOk s) : MemoryOk (acceptSeg s n c g m) := by
  unfold Machine.acceptSeg
  split
  · exact .noiseAbandon h
  next s1 he =>
    extract_lets _ s2
    have h2 : MemoryOk s2 := .setCx (h.addSegment he)
    exact .ite (.nodeDelivered h2) h2

theorem MemoryOk.diverged {s n g mods} (h : MemoryOk s) : MemoryOk (diverged s n g mods) :=
  .abandonRound (.jobAbort (.writeFault h))

theorem MemoryOk.dissent {s n g m} (h : MemoryOk s) : MemoryOk (dissent s n g m) :=
  .writeFault (.bumpE h)

theorem MemoryOk.ridgeSend {s n p o msg len} (h : MemoryOk s) : MemoryOk (ridgeSend s n p o msg len) := by
  unfold Machine.ridgeSend
  split
  · exact .ownSend (.emit h)
  · exact .emit h

theorem MemoryOk.askRecombine {s n c g ms} (h : MemoryOk s) : MemoryOk (askRecombine s n c g ms) :=
  .setCx (.foldl h fun _ _ h => .ridgeSend (.bumpE h))

theorem MemoryOk.dropClash {s n c g} (h : MemoryOk s) : MemoryOk (dropClash s n c g) :=
  .foldl h fun _ _ h => .ite (.setCx (by
        split
        · exact .replyMsg h
        · exact h)) h

theorem MemoryOk.compareSeg {s0 n c g late} (h : MemoryOk s0) : MemoryOk (compareSeg s0 n c g late) := by
  unfold Machine.compareSeg
  extract_lets s _ _ _ _ fail pick
  have hs : MemoryOk s := .dropClash h
  have hf : MemoryOk (fail s) := .ite (.diverged hs) (.askRecombine hs)
  have hp x o : MemoryOk (pick x o) := .acceptSeg (by
        split
        · exact .dissent hs
        · exact hs)
  clear_value pick fail
  split
  · exact hs
  · split
    · exact .acceptSeg hs
    · exact hs
    · exact .ite (.acceptSeg hs) hf
    · exact hf
    · extract_lets third
      clear_value third
      split
      · exact hp _ _
      · split
        · exact .ite (hp _ _) (.ite (hp _ _) (.diverged hs))
        · exact hf
    · exact hf

theorem MemoryOk.importPoll {s n} (h : MemoryOk s) : MemoryOk (importPoll s n) :=
  .foldl h fun _ _ h => .compareSeg h

theorem MemoryOk.fixShareDigest {s n} (h : MemoryOk s) : MemoryOk (fixShareDigest s n) :=
  .ite (.wrE (.setCx h)) h

theorem MemoryOk.ridgeStep {s n} (h : MemoryOk s) : MemoryOk (ridgeStep s n) :=
  .fixShareDigest (.importPoll h)

theorem MemoryOk.enterCombining {s n} (h : MemoryOk s) : MemoryOk (enterCombining s n) :=
  .ridgeStep (.setRound h)

theorem StepsOk.execCloseGraceExpiry {n s} : StepsOk s (execCloseGraceExpiry n s) :=
  .ite .stay (.ite (.next fun h => .settleAll (.enterCombining (.reverseAll h))) .stay)

theorem StepsOk.execRoundEnterCombining {n s} : StepsOk s (execRoundEnterCombining n s) :=
  .ite .stay (.ite (.next fun h => .enterCombining h) .stay)

theorem MemoryOk.mergeFails {s n k st} (h : MemoryOk s) : MemoryOk (mergeFails s n k st) :=
  .ridgeStep (.failCohort h)

theorem MemoryOk.mergeSealed {s n k cnt t} (h : MemoryOk s) (he : mergeSealed s n k cnt = some t) : MemoryOk t :=
  .ctCombineAll .ctCombine h he

theorem MemoryOk.mergeWords {s n k cnt t} (h : MemoryOk s) (he : mergeWords s n k cnt = some t) : MemoryOk t := by
  unfold Machine.mergeWords at he
  extract_lets at he
  split at he
  · exact Option.some.inj he ▸ .mergeClearInt h
  · split at he
    · exact Option.some.inj he ▸ .mergeShared h
    · split at he
      · exact h.mergeSealed he
      · exact Option.some.inj he ▸ h

theorem StepsOk.execCohortMerge {n k e s} : StepsOk s (execCohortMerge n k e s) := by
  unfold Machine.execCohortMerge
  extract_lets
  split
  · exact .stay
  · split
    · exact .stay
    · split
      · exact .next fun h => .mergeFails h
      · split
        · exact .next fun h => .mergeFails h
        · split
          · exact .next fun h => .tryAbandon (.hwCount h)
          · split
            · exact .next fun h => .mergeFails (.hwCount h)
            · split
              · exact .next fun h => .noiseAbandon h
              · exact .next fun h => .ridgeStep (.mergedCohort (.mergeWords h ‹_›))
          · exact .next fun h => .mergeFails (.hwCount h)

theorem MemoryOk.importIn {key m reply s} (hreply : ∀ t st, MemoryOk t → MemoryOk (reply t st)) (h : MemoryOk s) :
    MemoryOk (importIn key m reply s) := by
  unfold Machine.importIn
  extract_lets
  split
  · exact h
  · split
    · exact hreply _ _ h
    · split
      · exact hreply _ _ h
      · exact .fixShareDigest (.compareSeg (.setCx (hreply _ _ h)))

theorem StepsOk.execImportReceive {key m s} : StepsOk s (execImportReceive key m s) :=
  .ite .stay (.next fun h => .importIn (fun _ _ h => .replyMsg h) h)

theorem MemoryOk.importRowSum {s n r} (h : MemoryOk s) : MemoryOk (importRowSum s n r) :=
  .ite h (.addClearRow h)

theorem MemoryOk.pairRow {s n r} (h : MemoryOk s) : MemoryOk (pairRow s n r) :=
  .setChk (.setVm h (memWf_rowWrite _ _ _ _ h.vm))

theorem MemoryOk.formClear {s n} (h : MemoryOk s) : MemoryOk (formClear s n) := by
  unfold Machine.formClear
  extract_lets s1
  have h1 : MemoryOk s1 := .foldl h fun _ _ h => .importRowSum h
  exact .setCx (.ite (.foldl h1 fun _ _ h => .pairRow h) h1)

theorem MemoryOk.writeStats {s n} (h : MemoryOk s) : MemoryOk (writeStats s n) :=
  .ite h (.wrE (.setVm h (memWf_foldl _ _ (fun _ _ hm => memWf_mwr _ _ _ _ hm) _ h.vm)))

theorem MemoryOk.segSend {s n p g attempt} (h : MemoryOk s) : MemoryOk (segSend s n p g attempt) :=
  .ridgeSend h

theorem MemoryOk.sendTotal {s n} (h : MemoryOk s) : MemoryOk (sendTotal s n) :=
  .foldl h fun _ _ h => .foldl h fun _ _ h => .segSend h

theorem MemoryOk.becomeReady {s n} (h : MemoryOk s) : MemoryOk (becomeReady s n) := by
  unfold Machine.becomeReady
  extract_lets s1
  have h1 : MemoryOk s1 := .writeStats h
  exact .sendTotal (.setRound (.ite (.scrubRange h1) h1))

theorem MemoryOk.sendDigest {s n g attempt} (h : MemoryOk s) : MemoryOk (sendDigest s n g attempt) :=
  .foldl h fun _ _ h => .ridgeSend h

theorem MemoryOk.rootAgreed {s n g} (h : MemoryOk s) : MemoryOk (rootAgreed s n g) := by
  unfold Machine.rootAgreed
  extract_lets _ s1
  have h1 : MemoryOk s1 := .setCx h
  exact .ite (.becomeReady h1) h1

theorem MemoryOk.rootRetry {s n g} (h : MemoryOk s) : MemoryOk (rootRetry s n g) :=
  .ite (.diverged h) (.sendDigest (.setCx h))

theorem MemoryOk.compareRoot {s n g late} (h : MemoryOk s) : MemoryOk (compareRoot s n g late) := by
  unfold Machine.compareRoot
  extract_lets _ _ _ no
  clear_value no
  split
  · exact h
  · split
    · exact .ite (.rootAgreed h) (.rootAgreed (.dissent h))
    · split
      · exact .ite (.abandonRound h) (.diverged h)
      · exact .rootRetry h

theorem MemoryOk.recombineIn {key m reply s} (hreply : ∀ t st, MemoryOk t → MemoryOk (reply t st)) (h :
    MemoryOk s) :
    MemoryOk (recombineIn key m reply s) := by
  unfold Machine.recombineIn
  extract_lets _ _ s1
  have h1 : MemoryOk s1 := hreply _ _ h
  split
  · exact h
  · split
    · exact hreply _ _ h
    · split
      · exact hreply _ _ h
      · exact .ite (.segSend h1) h1

theorem StepsOk.execRecombine {key m s} : StepsOk s (execRecombine key m s) :=
  .ite .stay (.next fun h => .recombineIn (fun _ _ h => .replyMsg h) h)

theorem MemoryOk.rootDigestIn {key m reply s} (hreply : ∀ t st, MemoryOk t → MemoryOk (reply t st)) (h :
    MemoryOk s) :
    MemoryOk (rootDigestIn key m reply s) := by
  unfold Machine.rootDigestIn
  extract_lets
  split
  · exact h
  · split
    · exact hreply _ _ h
    · split
      · exact hreply _ _ h
      · exact .compareRoot (.setCx (hreply _ _ h))

theorem StepsOk.execRootDigest {key m s} : StepsOk s (execRootDigest key m s) :=
  .ite .stay (.next fun h => .rootDigestIn (fun _ _ h => .replyMsg h) h)

theorem StepsOk.execImportWaitExpiry {n child seg s} : StepsOk s (execImportWaitExpiry n child seg s) :=
  .ite .stay <|
  .ite .stay <|
  .ite (.ite (.next fun h => .compareRoot h) .stay) <|
  .ite .stay (.next fun h => .fixShareDigest (.compareSeg h))

theorem StepsOk.execChildWaitExpiry {n s} : StepsOk s (execChildWaitExpiry n s) :=
  .ite .stay (.ite (.next fun h => .tryAbandon (.jobAbort (.freshNext (.writeFault (.bumpE h))))) .stay)

theorem StepsOk.execRoundEnterReady {n s} : StepsOk s (execRoundEnterReady n s) := by
  unfold Machine.execRoundEnterReady
  extract_lets _ s1
  have h1 (h : MemoryOk s) : MemoryOk s1 := .ite (.ite h (.formClear h)) (.setCx h)
  exact .ite .stay <|
    .ite (.ite
        (.ite .stay
            (.next fun h => .foldl (.foldl (h1 h) fun _ _ h => .sendDigest h) fun _ _ h => .compareRoot h))
                (.next fun h => .becomeReady (h1 h))) .stay

theorem MemoryOk.encryptSub {s n die x t} (h : MemoryOk s) (he : encryptSub s n die x = some t) : MemoryOk t := by
  unfold Machine.encryptSub at he
  extract_lets _ _ _ _ _ _ _ s0 s1 s2 _ s3 at he
  have h0 : MemoryOk s0 := .rngDraw h
  have h1 : MemoryOk s1 := h0.update rfl
  have h2 : MemoryOk s2 := .foldl h1 fun _ _ h => .ite (.flagRow h) h
  have h3 : MemoryOk s3 := .setCx h2
  exact h3.ctCombine he

theorem StepsOk.execClearSubtotalEncrypt {n die s} : StepsOk s (execClearSubtotalEncrypt n die s) := by
  unfold Machine.execClearSubtotalEncrypt
  extract_lets
  split
  · exact .stay
  · split
    · exact .stay
    · split
      · exact .next fun h => .ctxEvent (.hwCount h)
      · split
        · exact .next fun h => .noiseAbandon h
        · exact .next fun h => .setCx (.ctCombineAll .encryptSub (.ite h (.formClear h)) ‹_›)

/-! ### The data movers (Sys2Proof/Machine/Move.lean) -/

theorem MemoryOk.mvFinish {s d m} (h : MemoryOk s) (hm : memWf m = true) : MemoryOk (mvFinish s d m) :=
  .completeDesc (.setOpMem h hm)

theorem MemoryOk.copyEff {d s} (h : MemoryOk s) : MemoryOk (copyEff d s) :=
  .mvFinish (.ite h (.exportTake h)) (memWf_mcopy _ _ _ _ _ h.opMem)

theorem StepsOk.execCopy {i e s} : StepsOk s (execCopy i e s) :=
  .runDesc (fun _ _ h => .copyEff h)

theorem MemoryOk.fillEff {d s} (h : MemoryOk s) : MemoryOk (fillEff d s) :=
  .mvFinish h (memWf_mfill _ _ _ _ _ h.opMem)

theorem StepsOk.execFill {i e s} : StepsOk s (execFill i e s) :=
  .runDesc (fun _ _ h => .fillEff h)

theorem MemoryOk.scrubEff {d s} (h : MemoryOk s) : MemoryOk (scrubEff d s) :=
  .mvFinish h (memWf_scrubWords _ _ _ h.opMem)

theorem StepsOk.execScrub {i e s} : StepsOk s (execScrub i e s) :=
  .runDesc (fun _ _ h => .scrubEff h)

/-! ### Endpoints (Sys2Proof/Machine/Endpoint.lean) -/

theorem MemoryOk.touchEp {s e} (h : MemoryOk s) : MemoryOk (touchEp s e) :=
  .update h rfl

theorem MemoryOk.makeResident {s e} (h : MemoryOk s) : MemoryOk (makeResident s e) :=
  .touchEp (.setEp h)

theorem MemoryOk.dropResident {s e} (h : MemoryOk s) : MemoryOk (dropResident s e) := by
  unfold Machine.dropResident
  extract_lets _ s1
  have h1 : MemoryOk s1 := .setEp h
  exact .update h1 rfl

theorem MemoryOk.startFetch {s e} (h : MemoryOk s) : MemoryOk (startFetch s e) :=
  .setEp h

theorem MemoryOk.dropParked {s die p} (h : MemoryOk s) : MemoryOk (dropParked s die p) :=
  .addE (.update h rfl)

theorem MemoryOk.evictEp {s e} (h : MemoryOk s) : MemoryOk (evictEp s e) :=
  .bumpE (.setEp (.dropResident h))

theorem StepsOk.execEndpointEviction {die s} : StepsOk s (execEndpointEviction die s) := by
  unfold Machine.execEndpointEviction
  split
  · exact .stay
  · split
    · exact .stay
    · exact .next fun h => .evictEp h

theorem MemoryOk.settleRx {s e key peer seq} (h : MemoryOk s) : MemoryOk (settleRx s e key peer seq) := by
  unfold Machine.settleRx
  split
  · exact h
  · exact .setStrm h

theorem MemoryOk.dropRx {s x} (h : MemoryOk s) : MemoryOk (dropRx s x) :=
  .setEp (.update h rfl)

theorem MemoryOk.endRx {s x} (h : MemoryOk s) : MemoryOk (endRx s x) :=
  .dropRx (.ite h (.settleRx h))

theorem MemoryOk.sendStatus {s k code idx} (h : MemoryOk s) : MemoryOk (sendStatus s k code idx) :=
  .sendCtl h

theorem MemoryOk.failRead {s k st} (h : MemoryOk s) : MemoryOk (failRead s k st) := by
  unfold Machine.failRead
  split
  · split
    · exact .completeAll h
    · exact h
  · exact h

theorem MemoryOk.flushRx {s e} (h : MemoryOk s) : MemoryOk (flushRx s e) :=
  .foldl h fun _ _ h => .ite (.reverseOne h) (.endRx h)

theorem MemoryOk.flushEp {s e} (h : MemoryOk s) : MemoryOk (flushEp s e) :=
  .flushRx (.foldl (.completeAll h) fun _ _ h => .dropTx h)

theorem MemoryOk.epError {s e} (h : MemoryOk s) : MemoryOk (epError s e) :=
  .ite (.flushEp (.setEp h)) h

theorem MemoryOk.clearPeerBit {s x} (h : MemoryOk s) : MemoryOk (clearPeerBit s x) :=
  .ite (.wrE h) (.ite (.wrE h) h)

theorem MemoryOk.endStreams {s k} (h : MemoryOk s) : MemoryOk (endStreams s k) := by
  unfold Machine.endStreams
  extract_lets s1
  have h1 : MemoryOk s1 := .foldl h fun _ _ h => .dropRx h
  exact .update h1 rfl

theorem MemoryOk.retireKey {s k} (h : MemoryOk s) : MemoryOk (retireKey s k) :=
  .ite h (.clearPeerBit (.setKey (.endStreams (.completeAll h))))

theorem MemoryOk.advanceCtxKey {s n} (h : MemoryOk s) : MemoryOk (advanceCtxKey s n) := by
  unfold Machine.advanceCtxKey
  extract_lets _ s1
  have h1 : MemoryOk s1 := .foldl h fun _ _ h => .retireKey h
  exact .update h1 rfl

theorem StepsOk.execKeyQuarantineExpiry {k s} : StepsOk s (execKeyQuarantineExpiry k s) :=
  .ite .stay (.ite (.next fun h => .setKey h) .stay)

theorem MemoryOk.endRegionMsgs {s r} (h : MemoryOk s) : MemoryOk (endRegionMsgs s r) :=
  .foldl h fun _ _ h => .failRead (.endRx (.sendStatus h))

theorem MemoryOk.advanceRegion {s r} (h : MemoryOk s) : MemoryOk (advanceRegion s r) :=
  .setRegion (.endRegionMsgs h)

theorem MemoryOk.objCreate {s f kind i} (h : MemoryOk s) : MemoryOk (objCreate s f kind i) := by
  unfold Machine.objCreate
  extract_lets _ _ s1
  have h1 : MemoryOk s1 := .wrE (.setEp h)
  exact .ite (.update h rfl) (.ite (.wrE (.setRegion h)) (.ite (.makeResident h1) h1))

theorem MemoryOk.objModify {s f kind i} (h : MemoryOk s) : MemoryOk (objModify s f kind i).2 := by
  unfold Machine.objModify
  extract_lets
  split
  · split
    · exact h
    · exact .setRegion h
  · split
    · exact h
    · exact .setEp h

theorem MemoryOk.destroyEp {s0 e} (h : MemoryOk s0) : MemoryOk (destroyEp s0 e) :=
  .setEp (.dropParked (.dropResident (.flushEp (.setEp (.addE h)))))

theorem MemoryOk.objDestroy {s kind i} (h : MemoryOk s) : MemoryOk (objDestroy s kind i).2 := by
  unfold Machine.objDestroy
  extract_lets
  split
  · split
    · exact h
    · exact .update h rfl
  · split
    · exact .setRegion (.endRegionMsgs h)
    · split
      · exact .destroyEp h
      · exact .retireKey h

theorem MemoryOk.objQuery {s f kind i} (h : MemoryOk s) : MemoryOk (objQuery s f kind i) :=
  .ite (.wrE h) (.ite (.wrE (.wrE h)) h)

theorem MemoryOk.objAct {f code s} (h : MemoryOk s) : MemoryOk (objAct f code s).2 := by
  unfold Machine.objAct
  extract_lets
  split
  · split
    · exact .advanceCtxKey h
    · exact h
  · split
    · exact h
    · split
      · split
        · exact h
        · exact .objCreate h
      · split
        · exact .objModify h
        · split
          · exact .objDestroy h
          · split
            · exact .wrE (.advanceRegion h)
            · split
              · exact .objQuery h
              · exact .retireKey h

theorem MemoryOk.showObj {f code r} (h : MemoryOk r.2) : MemoryOk (showObj f code r) :=
  .ite (.wrE h) h

theorem MemoryOk.objRule {f code s} (h : MemoryOk s) : MemoryOk (objRule f code s).2 :=
  .wrE (.showObj (.objAct h))

theorem StepsOk.execObjectQuarantineExpiry {kind i s} : StepsOk s (execObjectQuarantineExpiry kind i s) :=
  .ite .stay (.ite (.next fun h => .update h rfl) (.ite (.next fun h => .setRegion h) .stay))

theorem StepsOk.execEndpointQuarantineExpiry {e s} : StepsOk s (execEndpointQuarantineExpiry e s) :=
  .ite .stay (.ite (.next fun h => .setEp h) .stay)

theorem StepsOk.doorbell {f e s eff} (heff : ∀ t, MemoryOk t → MemoryOk (eff t)) : StepsOk s (doorbell f e s eff) :=
  .ite .stay (.ite (.next fun h => .bumpE h) (.next fun h => heff _ h))

theorem StepsOk.execResume {f e s} : StepsOk s (execResume f e s) :=
  .doorbell (fun _ h => .ite (.setEp h) h)

theorem StepsOk.execError {f e s} : StepsOk s (execError f e s) :=
  .doorbell (fun _ h => .epError h)

theorem StepsOk.execEvict {f e s} : StepsOk s (execEvict f e s) :=
  .doorbell (fun _ h => .ite (.evictEp h) h)

theorem StepsOk.execRecycle {f e slot s} : StepsOk s (execRecycle f e slot s) :=
  .doorbell (fun _ h => .ite (.setEp h) h)

theorem StepsOk.execRecordFree {f e count s} : StepsOk s (execRecordFree f e count s) :=
  .doorbell (fun _ h => .setEp h)

/-! ### The Turnstile in contributions (Sys2Proof/Machine/Turnstile.lean) -/

theorem MemoryOk.putRx {s x} (h : MemoryOk s) : MemoryOk (putRx s x) :=
  .ite (.update h rfl) (.update h rfl)

theorem MemoryOk.takeSlot {s x slot} (h : MemoryOk s) : MemoryOk (takeSlot s x slot) :=
  .settleAll (.putRx (.setCx (.setCohort h)))

theorem MemoryOk.takePacket0 {s x0 x} (h : MemoryOk s) : MemoryOk (takePacket0 s x0 x) := by
  unfold Machine.takePacket0
  extract_lets _ _ kept
  have hkept : MemoryOk kept := .ite h (.putRx h)
  split
  · exact .settleAll (.putRx h)
  · split
    · exact .bumpE hkept
    · exact .ite (.bumpE hkept) (.ite (.bumpE hkept) (.takeSlot h))

theorem MemoryOk.takeStage {s n k r key} (h : MemoryOk s) : MemoryOk (takeStage s n k r key) := by
  unfold Machine.takeStage
  extract_lets _ _ _ _ _ _ s'
  have h' : MemoryOk s' := .setCx h
  exact .ite h (.update h' rfl)

theorem MemoryOk.setCon {s i c} (h : MemoryOk s) : MemoryOk (setCon s i c) :=
  .update h rfl

theorem MemoryOk.specRow {i s rp} (h : MemoryOk s) : MemoryOk (specRow i s rp) := by
  unfold Machine.specRow
  split
  · exact h
  · split
    · exact h
    · split
      · exact h
      · split
        · exact .setCon h
        · exact .setCon (.accAddPiece (.takeStage h))

theorem MemoryOk.specAdd {s i k} (h : MemoryOk s) : MemoryOk (specAdd s i k) := by
  unfold Machine.specAdd
  split
  · exact h
  · split
    · exact h
    · exact .ite h (.wrE (.foldl h fun _ _ h => .specRow h))

theorem MemoryOk.forgetRx {s x} (h : MemoryOk s) : MemoryOk (forgetRx s x) :=
  .update h rfl

theorem MemoryOk.ackWhole {s x} (h : MemoryOk s) : MemoryOk (ackWhole s x) :=
  .sendCtl h

theorem MemoryOk.answerMsg {x s code} (h : MemoryOk s) : MemoryOk (answerMsg x s code) :=
  .ite (.ackWhole h) (.sendStatus h)

theorem MemoryOk.takeMsg {s x} (h : MemoryOk s) : MemoryOk (takeMsg s x) := by
  unfold Machine.takeMsg
  extract_lets _ s1
  have h1 : MemoryOk s1 := .forgetRx h
  exact .ite (.shareIn (fun _ _ h => .answerMsg h) h1) <|
    .ite (.keyShareIn (fun _ _ h => .answerMsg h) h1) <|
    .ite (.exchangeIn (fun _ _ h => .answerMsg h) h1) <|
    .ite (.tripleIn (fun _ _ h => .answerMsg h) h1) <|
    .ite (.importIn (fun _ _ h => .answerMsg h) (.freshNext h1)) <|
    .ite (.recombineIn (fun _ _ h => .answerMsg h) h1) (.rootDigestIn (fun _ _ h => .answerMsg h) h1)

theorem MemoryOk.finishAdmission {s x} (h : MemoryOk s) : MemoryOk (finishAdmission s x) := by
  unfold Machine.finishAdmission
  split
  · exact .reverseOne (.sendStatus (.bumpE h))
  · split
    · exact .forgetRx (.sendStatus h)
    · split
      · split
        · exact .reverseOne (.sendStatus h)
        · exact .putRx h
      · split
        · exact .forgetRx (.sendStatus h)
        · exact .ite (.takeMsg h) (.forgetRx (.sendStatus h))

theorem MemoryOk.foldLeaves {s c x} (h : MemoryOk s) : MemoryOk (foldLeaves s c x) :=
  .setCohort h

theorem MemoryOk.addSealed {s c x} (h : MemoryOk s) : MemoryOk (addSealed s c x) :=
  .setCohort h

theorem MemoryOk.commitWords {s c x} (h : MemoryOk s) : MemoryOk (commitWords s c x) :=
  .ite (.foldLeaves h) (.ite (.addSealed h) (.foldl h fun _ _ h => .accAddPiece h))

theorem MemoryOk.commitCon {s c x} (h : MemoryOk s) : MemoryOk (commitCon s c x) :=
  .ackWhole (.actLed (.settle (.wrE (.bumpE (.forgetRx (.setCohort (.setCx (.setLedger (.commitWords h)))))))))

theorem StepsOk.execContributionCommit {m e s} : StepsOk s (execContributionCommit m e s) := by
  unfold Machine.execContributionCommit
  split
  · exact .stay
  · split
    · exact .stay
    · extract_lets s1
      have h1 (h : MemoryOk s) : MemoryOk s1 := .reverseOne (.sendStatus (.hwCount h))
      split
      · exact .stay
      · extract_lets
        split
        · exact .stay
        · split
          · exact .next fun h => .commitCon h
          · split
            · exact .next fun h => .failCohort (.writeFault (h1 h))
            · exact .next fun h => .tryAbandon (.writeFault (h1 h))
            · exact .next fun h => (h1 h)

theorem StepsOk.execMsgIdleLimitExpiry {m s} : StepsOk s (execMsgIdleLimitExpiry m s) := by
  unfold Machine.execMsgIdleLimitExpiry
  split
  · exact .stay
  · split
    · exact .stay
    · exact .ite (.next fun h => .reverseOne h) .stay

theorem StepsOk.execPatrolRead {die corrected uncorrected site s} :
    StepsOk s (execPatrolRead die corrected uncorrected site s) := by
  unfold Machine.execPatrolRead
  extract_lets s1
  have h1 (h : MemoryOk s) : MemoryOk s1 := .addE (.addE h)
  split
  · exact .stay
  · split
    · exact .next fun h => (h1 h)
    · split
      · extract_lets s2
        have h2 (h : MemoryOk s) : MemoryOk s2 := .writeFault (h1 h)
        exact .next fun h => .ite (.failCohort (h2 h)) (h2 h)
      · exact .next fun h => .tryAbandon (.writeFault (h1 h))
      · exact .next fun h => .writeFault (h1 h)

/-! ### Messages on the wire (Sys2Proof/Machine/Wire.lean) -/

theorem MemoryOk.dropFenced {s die} (h : MemoryOk s) : MemoryOk (dropFenced s die) :=
  .bumpB h

theorem MemoryOk.sendAck {s x delivered} (h : MemoryOk s) : MemoryOk (sendAck s x delivered) := by
  unfold Machine.sendAck
  extract_lets _ s1
  have h1 : MemoryOk s1 := .sendCtl h
  exact .update h1 rfl

theorem MemoryOk.ackAgain {s k delivered} (h : MemoryOk s) : MemoryOk (ackAgain s k delivered) :=
  .sendCtl h

theorem MemoryOk.ackNew {s i solicit} (h : MemoryOk s) : MemoryOk (ackNew s i solicit) := by
  unfold Machine.ackNew
  split
  · exact h
  · exact .ite (.sendAck h) (.putRx h)

theorem StepsOk.execAckTimerExpiry {m s} : StepsOk s (execAckTimerExpiry m s) := by
  unfold Machine.execAckTimerExpiry
  split
  · exact .stay
  · split
    · exact .stay
    · exact .ite (.next fun h => .sendAck h) .stay

theorem MemoryOk.ensureStrm {s e key peer t} (h : MemoryOk s) (he : ensureStrm s e key peer = some t) :
    MemoryOk t := by
  unfold Machine.ensureStrm at he
  split at he
  · exact Option.some.inj he ▸ h
  · split at he
    · cases he
    · exact Option.some.inj he ▸ .setEp h

theorem MemoryOk.endWith {s k st} (h : MemoryOk s) : MemoryOk (endWith s k st) := by
  unfold Machine.endWith
  extract_lets s1
  have h1 : MemoryOk s1 := .failRead (.sendStatus h)
  split
  · exact .endRx h1
  · split
    · exact h1
    · split
      · exact .settleRx (.ensureStrm h1 ‹_›)
      · exact h1

theorem MemoryOk.onDuplicate {s k} (h : MemoryOk s) : MemoryOk (onDuplicate s k) := by
  unfold Machine.onDuplicate
  extract_lets s1
  have h1 : MemoryOk s1 := .bumpE h
  split
  · exact .sendAck h1
  · exact .ackAgain h1

theorem MemoryOk.placePkt {s x k} (h : MemoryOk s) : MemoryOk (placePkt s x k) :=
  .ite h (.setVm h (memWf_mpaste _ _ _ _ h.vm))

theorem MemoryOk.countPlaced {s k} (h : MemoryOk s) : MemoryOk (countPlaced s k) := by
  unfold Machine.countPlaced
  split
  · split
    · exact .setTx h
    · exact h
  · exact h

theorem MemoryOk.zeroPlaced {s x} (h : MemoryOk s) : MemoryOk (zeroPlaced s x) :=
  .ite h (.setVm h (memWf_foldl _ _ (fun _ _ hm => memWf_mclear _ _ _ hm) _ h.vm))

theorem MemoryOk.finishOrdinary {s x} (h : MemoryOk s) : MemoryOk (finishOrdinary s x) :=
  .ite (.putRx h) (.failRead (.endRx (.sendStatus (.zeroPlaced (.bumpE h)))))

theorem MemoryOk.acceptOrdinary {s x k} (h : MemoryOk s) : MemoryOk (acceptOrdinary s x k) := by
  unfold Machine.acceptOrdinary
  extract_lets _ _ s2
  have h2 : MemoryOk s2 := .ackNew (.countPlaced (.placePkt (.putRx h)))
  split
  · split
    · exact .finishOrdinary h2
    · exact h2
  · exact h2

theorem MemoryOk.openRx {s die k r} (h : MemoryOk s) (he : openRx s die k = some r) : MemoryOk r.1 := by
  unfold Machine.openRx at he
  extract_lets _ _ slot at he
  clear_value slot
  split at he
  · cases he
  · extract_lets p1 at he
    have hp : MemoryOk (Machine.setEp s k.dstEp p1) := .setEp h
    split at he
    · cases he
    · exact Option.some.inj he ▸ hp.update rfl

theorem MemoryOk.recvOrdinary {s die k} (h : MemoryOk s) : MemoryOk (recvOrdinary s die k) := by
  unfold Machine.recvOrdinary
  split
  · exact .bumpE h
  · split
    · exact .bumpE h
    next s1 he =>
      have h1 : MemoryOk s1 := by
        split at he
        · exact Option.some.inj he ▸ h
        · exact h.ensureStrm he
      split
      · exact .endWith h1
      · split
        · exact .endWith h1
        · split
          · exact .acceptOrdinary h1
          · split
            · exact .bumpE h
            · exact .acceptOrdinary (.openRx h1 ‹_›)

theorem MemoryOk.recvAdmission {s0 die k} (h : MemoryOk s0) : MemoryOk (recvAdmission s0 die k) := by
  unfold Machine.recvAdmission
  extract_lets _ s _ _ _ s1 _ s2
  have hs : MemoryOk s := .ite (.bumpE h) h
  have h1 : MemoryOk s1 := .ite (.update hs rfl) hs
  have h2 : MemoryOk s2 := .ite (.takePacket0 h1) (.putRx h1)
  split
  · exact .sendStatus hs
  · split
    · exact h2
    · extract_lets s3
      have h3 : MemoryOk s3 := .ackNew (.specAdd h2)
      split
      · split
        · exact .ite (.finishAdmission h3) h3
        · exact h3
      · exact h2

theorem MemoryOk.recvChecked {s die k} (h : MemoryOk s) : MemoryOk (recvChecked s die k) :=
  .ite (.bumpE h) <|
  .ite (.endWith (.bumpE h)) <|
  .ite (.onDuplicate h) <|
  .ite (.ite (.sendStatus h) (.endWith h)) <|
  .ite (.recvAdmission (.touchEp h)) (.recvOrdinary (.touchEp h))

theorem MemoryOk.park {s die k} (h : MemoryOk s) : MemoryOk (park s die k) :=
  .ite (.bumpE h) (.startFetch (.bumpE (.update h rfl)))

theorem MemoryOk.recvData {s die k} (h : MemoryOk s) : MemoryOk (recvData s die k) :=
  .ite (.bumpE h) (.ite (.dropFenced h) (.ite (.park h) (.ite (.bumpE h) (.recvChecked h))))

theorem StepsOk.execDataPacketReceive {die k s} : StepsOk s (execDataPacketReceive die k s) := by
  unfold Machine.execDataPacketReceive
  extract_lets s0 s1
  have h0 (h : MemoryOk s) : MemoryOk s0 := .ite (.actLed h) h
  have h1 (h : MemoryOk s) : MemoryOk s1 := .ite (.bumpE (h0 h)) (h0 h)
  exact .ite .stay (.ite (.next fun h => .bumpE (h1 h)) (.next fun h => .recvData (h1 h)))

theorem MemoryOk.writeRecord {s x} (h : MemoryOk s) : MemoryOk (writeRecord s x) :=
  .setEp (.setVm h (memWf_mwr _ _ _ _ h.vm))

theorem MemoryOk.raiseSignal {s x} (h : MemoryOk s) : MemoryOk (raiseSignal s x) := by
  unfold Machine.raiseSignal
  split
  · exact .ite (.synAdd h) h
  · exact h

theorem MemoryOk.answerRead {s x} (h : MemoryOk s) : MemoryOk (answerRead s x) :=
  .update h rfl

theorem MemoryOk.afterDelivery {s x} (h : MemoryOk s) : MemoryOk (afterDelivery s x) := by
  unfold Machine.afterDelivery
  split
  · exact .answerRead h
  · split
    · split
      · exact .completeAll h
      · exact h
    · exact h

theorem MemoryOk.deliver {s x} (h : MemoryOk s) : MemoryOk (deliver s x) := by
  unfold Machine.deliver
  extract_lets _ s2
  have h2 : MemoryOk s2 := .sendAck (.raiseSignal (.ite (.writeRecord h) h))
  exact .afterDelivery (.forgetRx (.ite h2 (.settleRx h2)))

theorem StepsOk.execMessageDelivery {m s} : StepsOk s (execMessageDelivery m s) := by
  unfold Machine.execMessageDelivery
  split
  · exact .stay
  · split
    · exact .stay
    · exact .ite (.next fun h => .deliver h) .stay

theorem MemoryOk.setRate {s die r} (h : MemoryOk s) : MemoryOk (setRate s die r) :=
  .update h rfl

theorem MemoryOk.ethSend {s die x k} (h : MemoryOk s) : MemoryOk (ethSend s die x k) :=
  .ite h (.emit h)

theorem MemoryOk.rateEnsure {s die dst t} (h : MemoryOk s) (he : rateEnsure s die dst = some t) : MemoryOk t := by
  unfold Machine.rateEnsure at he
  extract_lets at he
  split at he
  · exact Option.some.inj he ▸ h.update rfl
  · split at he
    · exact Option.some.inj he ▸ h.update rfl
    · split at he
      · cases he
      · exact Option.some.inj he ▸ .bumpE (h.update rfl)

theorem MemoryOk.sendPkt {s t i now timer retx fast} (h : MemoryOk s) :
    MemoryOk (sendPkt s t i now timer retx fast) := by
  unfold Machine.sendPkt
  extract_lets
  split
  · exact h
  · split
    · exact (.rateEnsure h ‹_›)
    · extract_lets _ _ _ _ s'
      have h' : MemoryOk s' := .actLed (.bumpE (.setTx (.setRate (.rateEnsure h ‹_›))))
      exact .ethSend (.emit (.update h' rfl))

theorem StepsOk.execPacketTransmit {m now s} : StepsOk s (execPacketTransmit m now s) := by
  unfold Machine.execPacketTransmit
  split
  · exact .stay
  · split
    · exact .stay
    · split
      · exact .stay
      · exact .next fun h => .sendPkt h

theorem MemoryOk.ctlTake {s k c} (h : MemoryOk s) : MemoryOk (ctlTake s k c) :=
  .setKey h

theorem MemoryOk.ctlAccept {s die ty k} (h : MemoryOk s) : MemoryOk (ctlAccept s die ty k).1 := by
  unfold Machine.ctlAccept
  extract_lets s1
  have h1 : MemoryOk s1 := .ite (.bumpE h) h
  split
  · exact h
  · split
    · exact .bumpE h1
    · split
      · exact .dropFenced h1
      · split
        · exact .bumpE h1
        · split
          · exact .bumpE h1
          · split
            · exact h1
            · exact .ctlTake h1

theorem MemoryOk.fastAll {s m now} (h : MemoryOk s) : MemoryOk (fastAll s m now) := by
  unfold Machine.fastAll
  split
  · exact h
  · exact .foldl h fun _ _ h => (by
        split
        · exact h
        · exact .sendPkt (.bumpE h))

theorem MemoryOk.txDelivered {s t} (h : MemoryOk s) : MemoryOk (txDelivered s t) :=
  .ite h (.ite (.dropTx h) (.completeAll h))

theorem StepsOk.execAckReceive {die now k s} : StepsOk s (execAckReceive die now k s) := by
  unfold Machine.execAckReceive
  extract_lets a _
  have ha (h : MemoryOk s) : MemoryOk a.1 := .ctlAccept h
  clear_value a
  split
  · exact .next ha
  · split
    · exact .next ha
    · extract_lets _ s1 _ s2
      have h1 (h : MemoryOk s) : MemoryOk s1 := by
        unfold s1
        split
        · exact .setRate (ha h)
        · exact ha h
      have h2 (h : MemoryOk s) : MemoryOk s2 := .setTx (h1 h)
      exact .next fun h => .ite (.txDelivered (h2 h)) (.fastAll (h2 h))

theorem StepsOk.execStatusReceive {die k s} : StepsOk s (execStatusReceive die k s) := by
  unfold Machine.execStatusReceive
  extract_lets
  split
  · exact .next fun h => .ctlAccept h
  · split
    · exact .next fun h => .ctlAccept h
    · exact .ite (.next fun h => .ctlAccept h) <|
        .ite (.next fun h => .dropTx (.ctlAccept h)) (.next fun h => .completeAll (.ctlAccept h))

theorem StepsOk.execRetransmitTimerExpiry {m i s} : StepsOk s (execRetransmitTimerExpiry m i s) := by
  unfold Machine.execRetransmitTimerExpiry
  split
  · exact .stay
  · split
    · exact .stay
    · exact .ite .stay (.next fun h => .sendPkt (.freshNext (.bumpE (by
          split
          · exact .setRate h
          · exact h))))

theorem StepsOk.execRateIntervalUpdate {die dst s} : StepsOk s (execRateIntervalUpdate die dst s) := by
  unfold Machine.execRateIntervalUpdate
  split
  · exact .stay
  · exact .next fun h => .setRate h

theorem StepsOk.execPathMaskRestore {die dst path s} : StepsOk s (execPathMaskRestore die dst path s) := by
  unfold Machine.execPathMaskRestore
  split
  · exact .stay
  · split
    · exact .stay
    · exact .next fun h => .setRate h

theorem MemoryOk.replay {s e} (h : MemoryOk s) : MemoryOk (replay s e) :=
  .foldl (.update h rfl) fun _ _ h => .recvData h

theorem StepsOk.execEndpointFetch {e ok s} : StepsOk s (execEndpointFetch e ok s) := by
  unfold Machine.execEndpointFetch
  extract_lets _ s1
  have h1 (h : MemoryOk s) : MemoryOk s1 := .makeResident (.bumpE h)
  exact .ite .stay <|
    .ite .stay <|
    .ite (.next fun h => .replay (h1 h)) (.next fun h => .writeFault (.dropParked (.epError (.bumpE (h1 h)))))

theorem StepsOk.execParkingTimeout {die pos s} : StepsOk s (execParkingTimeout die pos s) := by
  unfold Machine.execParkingTimeout
  extract_lets
  split
  · exact .stay
  · split
    · exact .next fun h => .bumpE (.update h rfl)
    · split
      · exact .stay
      · extract_lets s1
        have h1 (h : MemoryOk s) : MemoryOk s1 := .bumpE (.update h rfl)
        exact .next fun h => (by
              split
              · exact h1 h
              · exact .settleAll (h1 h))

theorem MemoryOk.stBegin {s d} (h : MemoryOk s) : MemoryOk (stBegin s d) := by
  unfold Machine.stBegin
  extract_lets
  split
  · exact h
  · extract_lets
    split
    · exact (.ensureStrm h ‹_›)
    · extract_lets _ _ s2
      have h2 : MemoryOk s2 := .setStrm (.ite (.ensureStrm h ‹_›) (.exportTake (.ensureStrm h ‹_›)))
      exact .setDesc (.update h2 rfl)

theorem StepsOk.runTransport {s i op} : StepsOk s (runTransport s i op) := by
  unfold Machine.runTransport
  split
  · exact .stay
  · split
    · exact .stay
    · split
      · exact .next fun h => .startFetch h
      · split
        · exact .next fun h => .refuseDesc h
        · exact .next fun h => .stBegin (.touchEp h)

theorem StepsOk.execStWrite {i s} : StepsOk s (execStWrite i s) :=
  .runTransport

theorem StepsOk.execStSend {i s} : StepsOk s (execStSend i s) :=
  .runTransport

theorem StepsOk.execStRead {i s} : StepsOk s (execStRead i s) :=
  .runTransport

theorem StepsOk.execOdPacketReceive {die k s} : StepsOk s (execOdPacketReceive die k s) :=
  .ite .stay <|
  .ite (.next fun h => .bumpE h) <|
  .ite (.next fun h => .bumpE h) <|
  .ite (.next fun h => .bumpE h) <|
  .ite .stay (.next fun h => .ctlTake h)

/-! ### Sessions (Sys2Proof/Machine/Sessions.lean) -/

theorem MemoryOk.sessionFail {s} (h : MemoryOk s) : MemoryOk (sessionFail s) :=
  .bumpE h

theorem MemoryOk.setHs {s h} (hs : MemoryOk s) : MemoryOk (setHs s h) :=
  .update hs rfl

theorem MemoryOk.dropHs {s i} (h : MemoryOk s) : MemoryOk (dropHs s i) :=
  .update h rfl

theorem MemoryOk.sendCreds {s hs kind} (h : MemoryOk s) : MemoryOk (sendCreds s hs kind) :=
  .foldl h fun _ _ h => .emit h

theorem MemoryOk.helloReply {s die m} (h : MemoryOk s) : MemoryOk (helloReply s die m) := by
  unfold Machine.helloReply
  extract_lets _ _ _ s1 _ _ _ _ _ s2
  have h1 : MemoryOk s1 := by
    unfold s1
    split
    · exact .ite (.dropHs h) h
    · exact h
  have h2 : MemoryOk s2 := .useAlias (h1.update rfl)
  exact .emit (.ite (.sendCreds h2) h2)

theorem MemoryOk.helloStart {s die h} (hs : MemoryOk s) : MemoryOk (helloStart s die h) := by
  unfold Machine.helloStart
  split
  · exact .sessionFail hs
  · exact .emit (.sendCreds (.update hs rfl))

theorem StepsOk.execHello {die h s} : StepsOk s (execHello die h s) :=
  .ite .stay <|
  .ite (.next fun h => .ite (.helloStart h) (.sessionFail h)) <|
  .ite (.next fun h => .bumpB (.sessionFail h)) <|
  .ite (.next fun h => .sessionFail h) <|
  .ite (.next fun h => .sessionFail h) <|
  .ite .stay (.next fun h => .helloReply h)

theorem StepsOk.execCredential {i part c s} : StepsOk s (execCredential i part c s) := by
  unfold Machine.execCredential
  extract_lets _ s1
  have h1 (h : MemoryOk s) : MemoryOk s1 := .ite h (.update h rfl)
  exact .ite .stay (.ite (.next fun h => .sessionFail (.dropHs (h1 h))) (.next fun h => .setHs (h1 h)))

theorem MemoryOk.installSession {s x k gen hash dst} (h : MemoryOk s) :
    MemoryOk (installSession s x k gen hash dst) := by
  unfold Machine.installSession
  extract_lets _ _ _ s1 s2
  have h1 : MemoryOk s1 := .setKey h
  have h2 : MemoryOk s2 := .ite (.wrE h1) h1
  exact .ite (.getD h2 fun _ he => .installKey h2 he) h2

theorem StepsOk.execFinish {i confirmOk sigOk peerPub s} : StepsOk s (execFinish i confirmOk sigOk peerPub s) := by
  unfold Machine.execFinish
  extract_lets s1
  have h1 (h : MemoryOk s) : MemoryOk s1 := .dropHs h
  split
  · exact .stay
  · exact .ite .stay <|
      .ite (.next fun h => .freshNext (.emit (.installSession (h1 h)))) (.next fun h => .sessionFail (h1 h))

theorem StepsOk.execReply {i keyId keyGen dstEp sigOk secretOk s} :
    StepsOk s (execReply i keyId keyGen dstEp sigOk secretOk s) := by
  unfold Machine.execReply
  split
  · exact .stay
  · extract_lets _ s'
    have h' (h : MemoryOk s) : MemoryOk s' := .setHs h
    exact .ite .stay <|
      .ite (.next fun h => .emit (.useAlias (.update (h' h) rfl))) (.next fun h => .sessionFail (.dropHs h))

theorem StepsOk.execAccept {i status tagOk s} : StepsOk s (execAccept i status tagOk s) := by
  unfold Machine.execAccept
  split
  · exact .stay
  · exact .ite .stay <|
      .ite (.next fun h => .freshNext (.installSession (.dropHs h))) (.next fun h => .sessionFail (.dropHs h))

theorem MemoryOk.endSession {s k} (h : MemoryOk s) : MemoryOk (endSession s k) := by
  unfold Machine.endSession
  extract_lets s1
  have h1 : MemoryOk s1 := .retireKey h
  exact .ite (.setV h1) h1

theorem StepsOk.execClose {k tagOk s} : StepsOk s (execClose k tagOk s) :=
  .ite .stay (.ite (.next fun h => .bumpE h) (.next fun h => .endSession h))

theorem StepsOk.execHandshakeTimeout {i s} : StepsOk s (execHandshakeTimeout i s) := by
  unfold Machine.execHandshakeTimeout
  split
  · exact .stay
  · exact .ite (.next fun h => .dropHs h) .stay

/-! ### Ports, links and the switch (Sys2Proof/Machine/Links.lean) -/

theorem MemoryOk.linkFault {s p} (h : MemoryOk s) : MemoryOk (linkFault s p) :=
  .writeFault h

theorem MemoryOk.dropLinks {s} (h : MemoryOk s) : MemoryOk (dropLinks s) :=
  .update h rfl

theorem StepsOk.execCableInsertion {p s} : StepsOk s (execCableInsertion p s) :=
  .ite .stay (.next fun h => .setPort h)

theorem StepsOk.execCableDebounceDone {p s} : StepsOk s (execCableDebounceDone p s) :=
  .ite (.ite (.next fun h => .setPort h) (.next fun h => .setPort h)) .stay

theorem StepsOk.execCableRemoval {p lanesLost s} : StepsOk s (execCableRemoval p lanesLost s) :=
  .ite .stay <|
  .ite (.ite .stay (.next fun h => .linkFault (.setPort h)))
      (.next fun h => .ite (.setPort h) (.linkFault (.setPort h)))

theorem StepsOk.execLaneSignalDetected {p lanes s} : StepsOk s (execLaneSignalDetected p lanes s) :=
  .ite .stay (.ite (.next fun h => .setPort h) (.next fun h => .setPort h))

theorem StepsOk.execLaneEqualisationDone {p s} : StepsOk s (execLaneEqualisationDone p s) :=
  .ite (.next fun h => .setPort h) .stay

theorem MemoryOk.portUp {s p x} (h : MemoryOk s) : MemoryOk (portUp s p x) :=
  .setPort h

theorem StepsOk.execLaneDeskewDone {p s} : StepsOk s (execLaneDeskewDone p s) :=
  .ite (.ite (.next fun h => .portUp h) (.next fun h => .setPort h)) .stay

theorem MemoryOk.trainFail {s p} (h : MemoryOk s) : MemoryOk (trainFail s p) :=
  .bumpB (.setPort h)

theorem StepsOk.execTrainingTimeout {p s} : StepsOk s (execTrainingTimeout p s) :=
  .ite (.next fun h => .trainFail h) .stay

theorem MemoryOk.cancelLink {s p} (h : MemoryOk s) : MemoryOk (cancelLink s p) :=
  .update h rfl

theorem MemoryOk.linkKeys {s p c t} (h : MemoryOk s) (he : linkKeys s p c = some t) : MemoryOk t := by
  obtain ⟨s1, h1, he⟩ := Option.bind_eq_some_iff.1 he
  obtain ⟨s2, h2, rfl⟩ := Option.map_eq_some_iff.1 he
  exact (MemoryOk.installKey (.installKey (.cancelLink h) h1) h2).update rfl

theorem StepsOk.execLinkPeerHandshake {p h s} : StepsOk s (execLinkPeerHandshake p h s) := by
  unfold Machine.execLinkPeerHandshake
  extract_lets
  split
  · exact .stay
  · split
    · exact .next fun h => .trainFail (.bumpB h)
    · split
      · exact .next fun h => .linkFault (.bumpB (.setPort (.emit (.useAlias (.rngTake h)))))
      · split
        · exact .stay
        · exact .next fun h => .portUp (.linkKeys (.emit (.useAlias (.rngTake h))) ‹_›)

theorem MemoryOk.countCw {s p corrected uncorr} (h : MemoryOk s) : MemoryOk (countCw s p corrected uncorr) :=
  .bumpB (.bumpB h)

theorem MemoryOk.laneLost {s p lane} (h : MemoryOk s) : MemoryOk (laneLost s p lane) :=
  .ite (.bumpB (.setPort h)) (.ite (.setPort h) (.ite (.bumpB (.setPort h)) (.setPort h)))

theorem StepsOk.execLaneFault {p lane s} : StepsOk s (execLaneFault p lane s) :=
  .ite .stay (.next fun h => .laneLost (.countCw h))

theorem MemoryOk.setEnable {s p on} (h : MemoryOk s) : MemoryOk (setEnable s p on) :=
  .ite h (.ite (.setPort h) (.ite (.setPort h) (.setPort h)))

theorem MemoryOk.setRetrain {s p} (h : MemoryOk s) : MemoryOk (setRetrain s p) :=
  .ite (.setPort h) h

theorem MemoryOk.setForceHalf {s p on} (h : MemoryOk s) : MemoryOk (setForceHalf s p on) :=
  .setPort h

theorem StepsOk.execPortEnable {p on s} : StepsOk s (execPortEnable p on s) :=
  .ite (.next fun h => .setEnable h) .stay

theorem StepsOk.execPortRetrain {p s} : StepsOk s (execPortRetrain p s) :=
  .ite (.next fun h => .setRetrain h) .stay

theorem StepsOk.execPortForceHalf {p on s} : StepsOk s (execPortForceHalf p on s) :=
  .ite (.next fun h => .setForceHalf h) .stay

theorem MemoryOk.countFrame {s p dir n} (h : MemoryOk s) : MemoryOk (countFrame s p dir n) := by
  unfold Machine.countFrame
  extract_lets _ _ s1
  have h1 : MemoryOk s1 := by
    unfold s1
    split
    · exact .activateSlot h
    · exact h
  split
  · exact .ite (.setPort h1) (.setPort h)
  · exact .setPort h

theorem StepsOk.execLinkRekey {p dir frame s} : StepsOk s (execLinkRekey p dir frame s) := by
  unfold Machine.execLinkRekey
  extract_lets _ s0
  have h0 (h : MemoryOk s) : MemoryOk s0 := .useAlias (.rngTake h)
  split
  · exact .stay
  · split
    · exact .next fun h => .bumpB h
    · split
      · exact .stay
      · exact .next fun h => .emit (.countFrame (.setPort (.fillSlot (.update (h0 h) rfl))))

theorem MemoryOk.tagHeld {s p ok} (h : MemoryOk s) : MemoryOk (tagHeld s p ok) :=
  .update h rfl

theorem MemoryOk.tagFail {s p within1ms} (h : MemoryOk s) : MemoryOk (tagFail s p within1ms) :=
  .bumpB (.setPort h)

theorem StepsOk.execLinkFrameReceive {p tagOk notice within1ms s} :
    StepsOk s (execLinkFrameReceive p tagOk notice within1ms s) := by
  unfold Machine.execLinkFrameReceive
  extract_lets s1
  have h1 (h : MemoryOk s) : MemoryOk s1 := .countFrame (.countCw h)
  exact .ite .stay <|
    .ite (.next fun h => .tagFail (.tagHeld (h1 h))) <|
    .ite (.next fun h => .setPort (h1 h)) <|
    .ite (.next fun h => .setPort (h1 h)) (.next fun h => .tagHeld (h1 h))

theorem MemoryOk.wakeRoute {s die m} (h : MemoryOk s) : MemoryOk (wakeRoute s die m) :=
  .foldl h fun _ _ h => .ite (.emit h) h

theorem MemoryOk.enterQueue {s die c} (h : MemoryOk s) : MemoryOk (enterQueue s die c) := by
  unfold Machine.enterQueue
  split
  · exact h
  · extract_lets
    split
    · exact h
    · exact .update h rfl

theorem MemoryOk.swEnqueue {s die inPort c k} (h : MemoryOk s) : MemoryOk (swEnqueue s die inPort c k) :=
  .enterQueue (.update h rfl)

theorem StepsOk.execSwitchForward {die inPort k s} : StepsOk s (execSwitchForward die inPort k s) := by
  unfold Machine.execSwitchForward
  extract_lets s0
  have h0 (h : MemoryOk s) : MemoryOk s0 := .ite (.actLed h) h
  split
  · exact .stay
  · split
    · exact .next fun h => .dropFenced (h0 h)
    · split
      · exact .next fun h => .bumpB (.wakeRoute (h0 h))
      · exact .ite (.next fun h => .bumpB (h0 h)) (.next fun h => .swEnqueue (h0 h))

theorem StepsOk.execPacketResidenceExpiry {die pos s} : StepsOk s (execPacketResidenceExpiry die pos s) :=
  .ite (.next fun h => .bumpB (.update h rfl)) .stay

theorem MemoryOk.noteShare {s die c sv n} (h : MemoryOk s) : MemoryOk (noteShare s die c sv n) :=
  .ite h (.ite (.update h rfl) (.update h rfl))

theorem MemoryOk.sendHeld {s die c h} (hs : MemoryOk s) : MemoryOk (sendHeld s die c h) :=
  .ite (.ite hs (.emit hs)) (.countFrame (.emit hs))

theorem MemoryOk.drainEgress {s die c} (h : MemoryOk s) : MemoryOk (drainEgress s die c) := by
  unfold Machine.drainEgress
  split
  · exact h
  · split
    · exact h
    · split
      · exact h
      · extract_lets s1
        have h1 : MemoryOk s1 := .noteShare h
        exact .sendHeld (.update h1 rfl)

theorem MemoryOk.tickDie {s die} (h : MemoryOk s) : MemoryOk (tickDie s die) :=
  .ite (.freshNext (.foldl h fun _ _ h => .enterQueue (.drainEgress h))) h

theorem MemoryOk.closeSpent {s} (h : MemoryOk s) : MemoryOk (closeSpent s) :=
  .foldl h fun _ _ h => .endSession (.emit h)

theorem MemoryOk.tick {s} (h : MemoryOk s) : MemoryOk (tick s) :=
  .tickDie (.tickDie (.closeSpent (.resumeAll h)))

theorem MemoryOk.ethRule {e p value s} (h : MemoryOk s) : MemoryOk (ethRule e p value s).2 := by
  unfold Machine.ethRule
  split
  · exact h
  · split
    · exact .wrE h
    · exact .wrE (.wrE h)

theorem StepsOk.execEthModeWrite {src p sub value s} : StepsOk s (execEthModeWrite src p sub value s) :=
  .ite (.odCmd (fun _ h => .ethRule h)) (.ite (.odCmd (fun _ h => .ethRule h)) .stay)

theorem StepsOk.execEthLinkUp {p lp s} : StepsOk s (execEthLinkUp p lp s) :=
  .ite (.next fun h => .wrE h) .stay

theorem StepsOk.execEthLinkDown {p lp s} : StepsOk s (execEthLinkDown p lp s) :=
  .ite .stay (.next fun h => .wrE h)

theorem StepsOk.execEthFrameReceive {p lp g s} : StepsOk s (execEthFrameReceive p lp g s) :=
  .ite .stay <|
  .ite (.next fun h => .bumpE h) <|
  .ite (.next fun h => .emit h) <|
  .ite (.next fun h => .ite (.emit h) h) (.next fun h => .bumpE h)

theorem StepsOk.execPathDeadExpiry {die dst s} : StepsOk s (execPathDeadExpiry die dst s) :=
  .ite .stay
      (.next fun h => .foldl (.foldl (.bumpE h) fun _ _ h => .tryAbandon (.jobAbort h)) fun _ _ h => .epError h)

theorem StepsOk.execJobAbortReceive {sender job round cause origin rsvZero s} :
    StepsOk s (execJobAbortReceive sender job round cause origin rsvZero s) :=
  .ite .stay <|
  .ite (.next fun h => .bumpE h) <|
  .ite (.next fun h => .bumpE h) (.next fun h => .foldl (.bumpE h) fun _ _ h => .tryAbandon (.sendAborts h))

/-! ### Tenants (Sys2Proof/Machine/Tenancy.lean) -/

theorem MemoryOk.startReset {s unit host} (h : MemoryOk s) : MemoryOk (startReset s unit host) :=
  .ite h (.update h rfl)

theorem MemoryOk.clearLoft {s n} (h : MemoryOk s) : MemoryOk (clearLoft s n) :=
  .ite h (.foldl h fun _ _ h => .setLoft h (memWf_mclear _ _ _ h.loft))

theorem MemoryOk.scrubAreas {s n} (h : MemoryOk s) : MemoryOk (scrubAreas s n) := by
  unfold Machine.scrubAreas
  extract_lets s1 s2
  have h1 : MemoryOk s1 := .foldl h fun _ _ h => .dropBuf h
  have h2 : MemoryOk s2 := .ite h1 (.scrubRange h1)
  exact .foldl (.ite (.scrubRange h2) h2) fun _ _ h => .scrubRange h

theorem MemoryOk.zeroCtxKeys {s n} (h : MemoryOk s) : MemoryOk (zeroCtxKeys s n) :=
  .update h rfl

theorem MemoryOk.scrubCtx {s n} (h : MemoryOk s) : MemoryOk (scrubCtx s n) := by
  unfold Machine.scrubCtx
  extract_lets _ _ _ _ _ s3
  have h3 : MemoryOk s3 := .foldl (.zeroCtxKeys (.clearLoft (.clearTiles (.scrubAreas h))))
      fun _ _ h => .answer h
  exact .wrE (.setCx (.dropCtxEntries (.ite h3 (.setRound h3))))

theorem MemoryOk.teardownRest {s n} (h : MemoryOk s) : MemoryOk (teardownRest s n) :=
  .scrubCtx (.advanceCtxKey h)

theorem MemoryOk.dropCtxTriggers {s n} (h : MemoryOk s) : MemoryOk (dropCtxTriggers s n) :=
  .foldl h fun _ _ h => .dropTrigger h

theorem MemoryOk.teardownFirst {s n stuck} (h : MemoryOk s) : MemoryOk (teardownFirst s n stuck) :=
  .completeAll (.dropCtxTriggers (.reverseAll (.foldl h fun _ _ h => .destroyEp h)))

theorem MemoryOk.destroyRule {n stuck s} (h : MemoryOk s) : MemoryOk (destroyRule n stuck s).2 := by
  unfold Machine.destroyRule
  extract_lets _ _ s2
  have h2 : MemoryOk s2 := .teardownFirst (.ite (.tryAbandon (.jobAbort h)) h)
  split
  · exact h
  · split
    · exact .teardownRest h2
    · exact .setCx h2

theorem StepsOk.execDestroy {src n stuck s} : StepsOk s (execDestroy src n stuck s) :=
  .odCmd (fun _ h => .destroyRule h)

theorem StepsOk.execTeardownEngineTimeout {n s} : StepsOk s (execTeardownEngineTimeout n s) :=
  .ite (.next fun h => .foldl h fun _ _ h => .startReset h) .stay

theorem MemoryOk.fenceStep1 {s f cause} (h : MemoryOk s) : MemoryOk (fenceStep1 s f cause) := by
  unfold Machine.fenceStep1
  extract_lets _ s2
  have h2 : MemoryOk s2 := .setFn (.bumpE (.wrE (.wrE h)))
  exact .foldl (.update h2 rfl) fun _ _ h => .jobAbort h

theorem MemoryOk.stopQueues {s f} (h : MemoryOk s) : MemoryOk (stopQueues s f) :=
  .update h rfl

theorem MemoryOk.fenceStep2 {s f} (h : MemoryOk s) : MemoryOk (fenceStep2 s f) := by
  unfold Machine.fenceStep2
  extract_lets s0 s1 s2 s3 s4
  have h0 : MemoryOk s0 := .completeAll h
  have h1 : MemoryOk s1 := .foldl h0 fun _ _ h => .tryAbandon h
  have h2 : MemoryOk s2 := .foldl h1 fun _ _ h => .epError h
  have h3 : MemoryOk s3 := .foldl h2 fun _ _ h => .reverseAll h
  have h4 : MemoryOk s4 := .foldl h3 fun _ _ h => .dropTrigger h
  clear_value s4
  exact .stopQueues (h4.update rfl)

theorem MemoryOk.fenceStep3 {s f stuck} (h : MemoryOk s) : MemoryOk (fenceStep3 s f stuck) :=
  .completeAll h

theorem MemoryOk.fenceStep4 {s f} (h : MemoryOk s) : MemoryOk (fenceStep4 s f) := by
  unfold Machine.fenceStep4
  extract_lets _ _ _ _ s5
  have h5 : MemoryOk s5 := .foldl
      (.wrE (.retireSlots (.foldl (.foldl h fun _ _ h => .advanceCtxKey h) fun _ _ h => .retireKey h)))
          fun _ _ h => .destroyEp h
  exact .wrE (.setFn (.update h5 rfl))

theorem MemoryOk.beginFence {s f cause stuck} (h : MemoryOk s) : MemoryOk (beginFence s f cause stuck) := by
  unfold Machine.beginFence
  extract_lets _ s1
  have h1 : MemoryOk s1 := .fenceStep3 (.fenceStep2 (.fenceStep1 h))
  exact .ite h (.ite (.fenceStep4 h1) (.setFn h1))

theorem MemoryOk.fenceAll {s stuck} (h : MemoryOk s) : MemoryOk (fenceAll s stuck) :=
  .foldl h fun _ _ h => .beginFence h

theorem MemoryOk.unstick {s p} (h : MemoryOk s) : MemoryOk (unstick s p) :=
  .foldl (.foldl h fun _ _ h => .ite (.ite (.fenceStep4 h) (.setFn h)) h) fun _ _ h => .ite
      (.ite (.teardownRest h) (.setCx h)) h

theorem MemoryOk.flashRule {f stuck s} (h : MemoryOk s) : MemoryOk (flashRule f stuck s).2 :=
  .beginFence h

theorem StepsOk.execFlash {src f stuck s} : StepsOk s (execFlash src f stuck s) :=
  .odCmd (fun _ h => .flashRule h)

theorem StepsOk.execFunctionLevelReset {f stuck s} : StepsOk s (execFunctionLevelReset f stuck s) :=
  .ite (.next fun h => .beginFence h) .stay

theorem StepsOk.execFenceEngineTimeout {f s} : StepsOk s (execFenceEngineTimeout f s) :=
  .ite (.next fun h => .foldl h fun _ _ h => .startReset h) .stay

theorem MemoryOk.scrubDram {s f} (h : MemoryOk s) : MemoryOk (scrubDram s f) := by
  have hf : ∀ n, memWf (tget (s.vm.filter (fun m => tget s.vmFn 0 m.1 != f + 1)) [] n) = true :=
    fun n => memWf_filter_keys (p := fun k => tget s.vmFn 0 k != f + 1) (n := n) h.vm
  exact h.withVm hf rfl

theorem MemoryOk.scrubQueues {s f} (h : MemoryOk s) : MemoryOk (scrubQueues s f) :=
  .update h rfl

theorem MemoryOk.scrubBad {f s x} (h : MemoryOk s) : MemoryOk (scrubBad f s x) :=
  .ite (.writeFault (.wrE (.bumpE h))) h

theorem StepsOk.execFenceScrub {f bad s} : StepsOk s (execFenceScrub f bad s) :=
  .ite .stay <|
  .ite (.next fun h => .foldl h fun _ _ h => .wakeOnDemand h)
      (.next fun h => .wrE
          (.setFn (.foldl (.scrubQueues (.scrubDram (.foldl h fun _ _ h => .scrubCtx h)))
              fun _ _ h => .scrubBad h)))

theorem MemoryOk.finishLc {s} (h : MemoryOk s) : MemoryOk (finishLc s) := by
  unfold Machine.finishLc
  extract_lets s0 _ _ s2 _ s1 s3 s4
  have h0 : MemoryOk s0 := .dropLinks (.zeroVault h)
  have h2 : MemoryOk s2 := .extendMr h0
  have h1 : MemoryOk s1 := .ite (h0.update rfl) (h2.update rfl)
  have h3 : MemoryOk s3 := .wrE (h1.update rfl)
  have h4 : MemoryOk s4 := by
    unfold s4
    split
    · exact .answer h3
    · exact h3
  exact .foldl h4 fun _ _ h => .retireKey h

theorem StepsOk.execScrubDone {f s} : StepsOk s (execScrubDone f s) := by
  unfold Machine.execScrubDone
  extract_lets _ _ s2
  have h2 (h : MemoryOk s) : MemoryOk s2 := .writeFault (.setFn h)
  exact .ite .stay (.next fun h => .ite (.finishLc (h2 h)) (h2 h))

theorem MemoryOk.releaseKeys {s f t} (h : MemoryOk s) (he : releaseKeys s f = some t) : MemoryOk t := by
  unfold Machine.releaseKeys at he
  split at he
  · obtain ⟨s1, h1, he⟩ := Option.bind_eq_some_iff.1 he
    exact .installKey (.installKey h h1) he
  · exact Option.some.inj he ▸ h

theorem MemoryOk.releaseFnRule {f s} (h : MemoryOk s) : MemoryOk (releaseFnRule f s).2 := by
  unfold Machine.releaseFnRule
  split
  · exact h
  · split
    · exact h
    · exact .flushMsix (.setFn (.wrE (.releaseKeys h ‹_›)))

theorem StepsOk.execRelease {src f s} : StepsOk s (execRelease src f s) :=
  .ite .stay (.odCmd (fun _ h => .releaseFnRule h))

theorem MemoryOk.grantRule {e f v s} (h : MemoryOk s) : MemoryOk (grantRule e f v s).2 := by
  unfold Machine.grantRule
  extract_lets _ _ s1
  have h1 : MemoryOk s1 := .wrE h
  split
  · exact h
  · split
    · split
      · exact h
      · split
        · exact h
        · exact .ite (.setFn (.wrE h1)) h1
    · split
      · exact h
      · exact .wrE h

theorem StepsOk.execGrantWrite {src f sub value s} : StepsOk s (execGrantWrite src f sub value s) := by
  unfold Machine.execGrantWrite
  split
  · exact .odCmd (fun _ h => .grantRule h)
  · exact .stay

theorem StepsOk.execVfEnable {num s} : StepsOk s (execVfEnable num s) := by
  unfold Machine.execVfEnable
  extract_lets
  split
  · exact .stay
  · exact .next fun h => .foldl (.update h rfl) fun _ _ h => .setFn (.wrE h)

theorem MemoryOk.vfRemove {s num} (h : MemoryOk s) : MemoryOk (vfRemove s num) := by
  unfold Machine.vfRemove
  extract_lets _ s1
  have h1 : MemoryOk s1 := .foldl h fun _ _ h => .beginFence h
  exact .ite h (.update h1 rfl)

theorem StepsOk.execVfRemoval {num s} : StepsOk s (execVfRemoval num s) :=
  .ite (.next fun h => .vfRemove h) .stay

/-! ### Watchdogs and resets (Sys2Proof/Machine/Faults.lean) -/

theorem MemoryOk.coldState {s} (h : MemoryOk s) : MemoryOk (coldState s) := by
  obtain ⟨hh, -⟩ := h
  exact ⟨hh, fun _ => rfl, fun _ => rfl, fun _ => rfl, rfl⟩

theorem MemoryOk.resetAborts {s} (h : MemoryOk s) : MemoryOk (resetAborts s) :=
  .foldl h fun _ _ h => .jobAbort h

theorem MemoryOk.moduleReset {s cause flags} (h : MemoryOk s) : MemoryOk (moduleReset s cause flags) := by
  unfold Machine.moduleReset
  extract_lets _ _ s2
  have h2 : MemoryOk s2 := .coldState (.resetAborts (.writeFault h))
  exact .update h2 rfl

theorem StepsOk.execModuleReset {cause s} : StepsOk s (execModuleReset cause s) :=
  .ite (.next fun h => .moduleReset h) .stay

theorem MemoryOk.resetArray {s half} (h : MemoryOk s) : MemoryOk (resetArray s half) :=
  .clearTiles (.foldl h fun _ _ h => .ite (.abandonBy h) h)

theorem MemoryOk.resetTurnstile {s die} (h : MemoryOk s) : MemoryOk (resetTurnstile s die) := by
  unfold Machine.resetTurnstile
  extract_lets s1
  have h1 : MemoryOk s1 := .foldl h fun _ _ h => .reverseOne h
  exact .foldl (.update h1 rfl) fun _ _ h => .sessionFail h

theorem MemoryOk.resetParking {s die} (h : MemoryOk s) : MemoryOk (resetParking s die) :=
  .addE (.update h rfl)

theorem MemoryOk.failEps {s es} (h : MemoryOk s) : MemoryOk (failEps s es) :=
  .foldl (.foldl h fun _ _ h => .epError h) fun _ _ h => .retireKey h

theorem MemoryOk.resetSt {s die} (h : MemoryOk s) : MemoryOk (resetSt s die) := by
  unfold Machine.resetSt
  extract_lets _ s2
  have h2 : MemoryOk s2 := .foldl (.completeAll h) fun _ _ h => .dropTx h
  exact .update h2 rfl

theorem MemoryOk.unitEffects {s unit} (h : MemoryOk s) : MemoryOk (unitEffects s unit) :=
  .ite (.ite (.resetArray h) h) <|
  .ite (.resetTurnstile h) <|
  .ite (.update h rfl) <|
  .ite (.resetParking h) <|
  .ite (.failEps h) (.resetSt h)

theorem StepsOk.execWatchdogExpiry {unit s} : StepsOk s (execWatchdogExpiry unit s) :=
  .ite .stay (.next fun h => .startReset (.writeFault (.freshNext (.bumpE h))))

theorem StepsOk.execEngineResetComplete {unit micros s} : StepsOk s (execEngineResetComplete unit micros s) := by
  unfold Machine.execEngineResetComplete
  extract_lets
  split
  · exact .stay
  · exact .ite .stay
        (.next fun h => .unstick (.unitEffects (.completeAll (.writeFault (.bumpE (.update h rfl))))))

theorem MemoryOk.failOnDie {s die} (h : MemoryOk s) : MemoryOk (failOnDie s die) :=
  .completeAll (.foldl (.foldl h fun _ _ h => .jobAbort h) fun _ _ h => .ite (.abandonBy h) h)

theorem MemoryOk.downPorts {s die out} (h : MemoryOk s) : MemoryOk (downPorts s die out) :=
  .foldl (.update h rfl) fun _ _ h => .wrE h

theorem MemoryOk.dieEffects {s die out} (h : MemoryOk s) : MemoryOk (dieEffects s die out) := by
  unfold Machine.dieEffects
  extract_lets s1 s3 s' s3' s4 s2
  have h1 : MemoryOk s1 := .failOnDie h
  have h' : MemoryOk s' := .setLoft (.clearTiles (.resetArray (.resetArray h1))) rfl
  have h4 : MemoryOk s4 := .failEps (.resetSt (.resetParking (.resetTurnstile h1)))
  clear_value s' s4
  have h2 : MemoryOk s2 := .ite (h'.update rfl) (.downPorts (h4.update rfl))
  clear_value s2
  exact .unstick (h2.update rfl)

theorem MemoryOk.setHealth {s die v} (h : MemoryOk s) : MemoryOk (setHealth s die v) :=
  .wrE h

theorem MemoryOk.retireDie {s die r} (h : MemoryOk s) : MemoryOk (retireDie s die r) :=
  .ite (.dieEffects (.setHealth (.writeFault (.update h rfl)))) (.moduleReset h)

theorem MemoryOk.startDieReset {s die host escalated} (h : MemoryOk s) :
    MemoryOk (startDieReset s die host escalated) := by
  unfold Machine.startDieReset
  extract_lets _ _ s'
  have h' : MemoryOk s' := .wakeOnDemand (.update h rfl)
  exact .ite h (.ite (.retireDie (.update h rfl)) (.setHealth (.update h' rfl)))

theorem StepsOk.execEngineResetOverrun {unit s} : StepsOk s (execEngineResetOverrun unit s) := by
  unfold Machine.execEngineResetOverrun
  split
  · exact .stay
  · split
    · exact .stay
    · exact .next fun h => .startDieReset h

theorem StepsOk.execDieResetComplete {die micros s} : StepsOk s (execDieResetComplete die micros s) := by
  unfold Machine.execDieResetComplete
  extract_lets
  split
  · exact .stay
  · exact .ite .stay (.next fun h => .setHealth (.dieEffects (.writeFault (.bumpE (.update h rfl)))))

theorem StepsOk.execDieResetOverrun {die s} : StepsOk s (execDieResetOverrun die s) := by
  unfold Machine.execDieResetOverrun
  split
  · exact .stay
  · split
    · exact .stay
    · exact .next fun h => .moduleReset (.writeFault h)

theorem StepsOk.execHeartbeatLoss {unit s} : StepsOk s (execHeartbeatLoss unit s) :=
  .ite (.next fun h => .moduleReset (.writeFault h)) .stay

theorem MemoryOk.resetRule {level unit s} (h : MemoryOk s) : MemoryOk (resetRule level unit s).2 := by
  unfold Machine.resetRule
  split
  · split
    · exact .startReset h
    · exact h
  · split
    · split
      · exact .startDieReset h
      · exact h
    · split
      · exact .moduleReset h
      · exact h

theorem StepsOk.execResetRequestEngine {src unit s} : StepsOk s (execResetRequestEngine src unit s) :=
  .odCmd (fun _ h => .resetRule h)

theorem StepsOk.execResetRequestDie {src unit s} : StepsOk s (execResetRequestDie src unit s) :=
  .odCmd (fun _ h => .resetRule h)

theorem StepsOk.execResetRequestModule {src unit s} : StepsOk s (execResetRequestModule src unit s) :=
  .odCmd (fun _ h => .resetRule h)

theorem StepsOk.execInPackageLinkError {link die s} : StepsOk s (execInPackageLinkError link die s) :=
  .ite .stay (.next fun h => .retireDie h)

/-! ### Power (Sys2Proof/Machine/Power.lean) -/

theorem MemoryOk.sleepPort {kind s p} (h : MemoryOk s) : MemoryOk (sleepPort kind s p) :=
  .ite (.ite (.setPort h) h) (.setPort (.emit h))

theorem MemoryOk.sleepDie {kind s d} (h : MemoryOk s) : MemoryOk (sleepDie kind s d) := by
  unfold Machine.sleepDie
  extract_lets _ s3 s4 s1
  have h3 : MemoryOk s3 := .foldl (.foldl h fun _ _ h => .sleepPort h) fun _ _ h => .wrE h
  have h4 : MemoryOk s4 := .foldl h3 fun _ _ h => .evictEp h
  have h1 : MemoryOk s1 := .ite h (.ite h3 (.retireSlots (.update h4 rfl)))
  exact .update h1 rfl

theorem MemoryOk.dieSleepRule {kind d s} (h : MemoryOk s) : MemoryOk (dieSleepRule kind d s).2 := by
  unfold Machine.dieSleepRule
  split
  · exact h
  · split
    · exact h
    · split
      · exact h
      · exact .sleepDie h

theorem MemoryOk.sleepDieRt {kind s d} (h : MemoryOk s) : MemoryOk (moduleSleepRule.sleepDieRt kind s d) :=
  .ite (h.update rfl) (.sleepDie h)

theorem MemoryOk.moduleSleepRule {kind s} (h : MemoryOk s) : MemoryOk (moduleSleepRule kind s).2 := by
  unfold Machine.moduleSleepRule
  extract_lets _ s1
  have h1 : MemoryOk s1 := .foldl h fun _ _ h => .sleepDieRt h
  split
  · exact h
  · exact .update h1 rfl

theorem MemoryOk.wakeAll {s} (h : MemoryOk s) : MemoryOk (wakeAll s) :=
  .foldl h fun _ _ h => .wakeOnDemand h

theorem MemoryOk.tellHost {s} (h : MemoryOk s) : MemoryOk (tellHost s) :=
  .ite (.emit h) (.ite (.emit (.update h rfl)) h)

theorem MemoryOk.moduleWake {s cause} (h : MemoryOk s) : MemoryOk (moduleWake s cause) :=
  .wrE (.wakeAll (.tellHost h))

theorem MemoryOk.wakeBy {k s} (h : MemoryOk s) : MemoryOk (wakeBy k s) :=
  .ite (.moduleWake h) h

theorem MemoryOk.dieWakeRule {d s} (h : MemoryOk s) : MemoryOk (dieWakeRule d s).2 := by
  unfold Machine.dieWakeRule
  split
  · exact h
  · split
    · exact .moduleWake h
    · exact .wakeOnDemand h

theorem MemoryOk.moduleWakeRule {s} (h : MemoryOk s) : MemoryOk (moduleWakeRule s).2 := by
  unfold Machine.moduleWakeRule
  split
  · exact .moduleWake h
  · exact .wakeAll h

theorem MemoryOk.moduleRequestRule {v s} (h : MemoryOk s) : MemoryOk (moduleRequestRule v s).2 := by
  unfold Machine.moduleRequestRule
  split
  · exact .moduleWakeRule h
  · exact .moduleSleepRule h

theorem MemoryOk.dieRequestRule {v s} (h : MemoryOk s) : MemoryOk (dieRequestRule v s).2 := by
  unfold Machine.dieRequestRule
  extract_lets
  split
  · exact h
  · split
    · exact .dieWakeRule h
    · exact .dieSleepRule h

theorem StepsOk.execModuleRequestWake {src s} : StepsOk s (execModuleRequestWake src s) :=
  .odCmd (fun _ h => .moduleRequestRule h)

theorem StepsOk.execModuleRequestSleep {src s} : StepsOk s (execModuleRequestSleep src s) :=
  .odCmd (fun _ h => .moduleRequestRule h)

theorem StepsOk.execModuleRequestDeepSleep {src s} : StepsOk s (execModuleRequestDeepSleep src s) :=
  .odCmd (fun _ h => .moduleRequestRule h)

theorem StepsOk.execDieRequestWake {src die s} : StepsOk s (execDieRequestWake src die s) :=
  .odCmd (fun _ h => .dieRequestRule h)

theorem StepsOk.execDieRequestSleep {src die s} : StepsOk s (execDieRequestSleep src die s) :=
  .odCmd (fun _ h => .dieRequestRule h)

theorem StepsOk.execDieRequestDeepSleep {src die s} : StepsOk s (execDieRequestDeepSleep src die s) :=
  .odCmd (fun _ h => .dieRequestRule h)

theorem MemoryOk.deepLoss {s d} (h : MemoryOk s) : MemoryOk (deepLoss s d) := by
  unfold Machine.deepLoss
  extract_lets s1
  have h1 : MemoryOk s1 := .setLoft (.clearTiles h) rfl
  exact .update h1 rfl

theorem StepsOk.execSleepEntryComplete {die s} : StepsOk s (execSleepEntryComplete die s) := by
  unfold Machine.execSleepEntryComplete
  extract_lets _ _ _ _ s2
  have h2 (h : MemoryOk s) : MemoryOk s2 := .ite (.deepLoss (.update h rfl)) (.update h rfl)
  exact .ite .stay (.next fun h => .ite (.rngStop (h2 h)) (h2 h))

theorem MemoryOk.wakePort {s p} (h : MemoryOk s) : MemoryOk (wakePort s p) :=
  .ite (.emit (.setPort h)) (.ite (.setPort h) h)

theorem StepsOk.execWakeComplete {die s} : StepsOk s (execWakeComplete die s) :=
  .ite .stay <|
  .ite (.next fun h => .ite (.rngStart (.update h rfl)) (.update h rfl)) <|
  .ite (.next fun h => .update h rfl) (.next fun h => .foldl (.update h rfl) fun _ _ h => .wakePort h)

theorem StepsOk.execEngineGate {unit s} : StepsOk s (execEngineGate unit s) :=
  .ite .stay (.next fun h => .update h rfl)

theorem StepsOk.execEnginePowerUp {unit s} : StepsOk s (execEnginePowerUp unit s) :=
  .ite .stay (.next fun h => .update h rfl)

theorem StepsOk.execWakeN {s} : StepsOk s (execWakeN s) :=
  .ite (.next fun h => .wakeBy h) .stay

theorem StepsOk.execWakeTimer {s} : StepsOk s (execWakeTimer s) := by
  unfold Machine.execWakeTimer
  extract_lets s'
  have h' (h : MemoryOk s) : MemoryOk s' := .wakeBy h
  exact .ite .stay (.next fun h => .update (h' h) rfl)

theorem StepsOk.execManagementWakePacket {s} : StepsOk s (execManagementWakePacket s) :=
  .next fun h => .wakeBy h

theorem StepsOk.execPcieWake {perst s} : StepsOk s (execPcieWake perst s) := by
  unfold Machine.execPcieWake
  extract_lets s1
  have h1 (h : MemoryOk s) : MemoryOk s1 := .ite (.vfRemove h) h
  exact .ite .stay (.next fun h => .wakeBy (.flushMsix (.update (h1 h) rfl)))

theorem StepsOk.execCalliopePattern {p s} : StepsOk s (execCalliopePattern p s) :=
  .ite .stay <|
  .ite (.next fun h => .setPort h) <|
  .ite .stay <|
  .ite (.next fun h => .moduleWake h) (.next fun h => .wakeOnDemand h)

theorem MemoryOk.peerWakeRule {mask s} (h : MemoryOk s) : MemoryOk (peerWakeRule mask s).2 :=
  .foldl h fun _ _ h => .ite (.emit h) h

theorem StepsOk.execPeerWake {src mask s} : StepsOk s (execPeerWake src mask s) :=
  .odCmd (fun _ h => .peerWakeRule h)

theorem MemoryOk.enterD3 {d s} (h : MemoryOk s) : MemoryOk (enterD3 d s) :=
  .moduleSleepRule (.update h rfl)

theorem StepsOk.execD3hot {s} : StepsOk s (execD3hot s) :=
  .ite (.next fun h => .enterD3 h) .stay

theorem StepsOk.execD3cold {s} : StepsOk s (execD3cold s) :=
  .ite (.next fun h => .enterD3 h) .stay

theorem StepsOk.execInputPowerLoss {s} : StepsOk s (execInputPowerLoss s) := by
  unfold Machine.execInputPowerLoss
  extract_lets s1
  have h1 (h : MemoryOk s) : MemoryOk s1 := .coldState h
  exact .next fun h => .update (h1 h) rfl

theorem StepsOk.execPwrGoodAssert {s} : StepsOk s (execPwrGoodAssert s) :=
  .ite (.next fun h => .update h rfl) .stay

theorem StepsOk.execAuxiliaryRailValid {s} : StepsOk s (execAuxiliaryRailValid s) :=
  .next fun h => .update h rfl

theorem StepsOk.execAuxiliaryRailLoss {s} : StepsOk s (execAuxiliaryRailLoss s) :=
  .next fun h => .update h rfl

theorem StepsOk.execRefclkStable {s} : StepsOk s (execRefclkStable s) :=
  .next fun h => .update h rfl

theorem StepsOk.execRefclkLoss {s} : StepsOk s (execRefclkLoss s) :=
  .next fun h => .update h rfl

theorem StepsOk.execAlwaysOnTrim {s} : StepsOk s (execAlwaysOnTrim s) :=
  .ite (.next fun h => .update h rfl) .stay

theorem MemoryOk.thermalTrip {s d} (h : MemoryOk s) : MemoryOk (thermalTrip s d) := by
  unfold Machine.thermalTrip
  extract_lets _ _ s2
  have h2 : MemoryOk s2 := .coldState (.resetAborts (.writeFault h))
  exact .wrE (.update h2 rfl)

theorem StepsOk.execThermalSample {temps s} : StepsOk s (execThermalSample temps s) := by
  unfold Machine.execThermalSample
  extract_lets _ _ _ s2
  have h2 (h : MemoryOk s) : MemoryOk s2 := .ite (.writeFault (.update h rfl)) (.update h rfl)
  split
  · exact .stay
  · split
    · exact .next fun h => .thermalTrip (h2 h)
    · exact .next fun h => (h2 h)

theorem StepsOk.execThermalRecovery {temps s} : StepsOk s (execThermalRecovery temps s) :=
  .ite (.next fun h => .update h rfl) .stay

theorem StepsOk.execOverTemperatureComparator {die s} : StepsOk s (execOverTemperatureComparator die s) :=
  .ite (.next fun h => .update h rfl) .stay

/-! ### Boot (Sys2Proof/Machine/Boot.lean) -/

theorem StepsOk.execResetNAssert {s} : StepsOk s (execResetNAssert s) :=
  .ite (.next fun h => .coldState h) .stay

theorem MemoryOk.bootHalt {s e} (h : MemoryOk s) : MemoryOk (bootHalt s e) :=
  .update h rfl

theorem MemoryOk.extendMr0 {s} (h : MemoryOk s) : MemoryOk (extendMr0 s) :=
  .extendMr h

theorem MemoryOk.bootMacs {s} (h : MemoryOk s) : MemoryOk (bootMacs s) :=
  .foldl h fun _ _ h => .wrEj h

theorem MemoryOk.bootFuses {s} (h : MemoryOk s) : MemoryOk (bootFuses s) :=
  .bootMacs (.update h rfl)

theorem MemoryOk.bootMram {s} (h : MemoryOk s) : MemoryOk (bootMram s) :=
  .extendMr0 (.update h rfl)

-- FAIL Sys2Proof.Machine.wrapSlot: unknown free variable `_fvar.167515`

theorem MemoryOk.wrapSlot {s} (h : MemoryOk s) : MemoryOk (wrapSlot s) :=
  .getD h fun _ he => .installKey h he

theorem MemoryOk.bootDraw {s salt} (h : MemoryOk s) : MemoryOk (bootDraw s salt) := by
  unfold Machine.bootDraw
  extract_lets s1
  have h1 : MemoryOk s1 := .freshNext (.wrapSlot (.rngTake h))
  exact .update h1 rfl

theorem MemoryOk.tamperResponse {s} (h : MemoryOk s) : MemoryOk (tamperResponse s) := by
  unfold Machine.tamperResponse
  extract_lets s1 s2
  have h2 : MemoryOk s2 := .rngZero (.dropLinks (.zeroVault (.foldl h fun _ _ h => .retireKey h)))
  exact .ite h (.writeFault (.extendMr (h2.withVm (fun _ => rfl) rfl)))

theorem StepsOk.execTamper {s} : StepsOk s (execTamper s) :=
  .ite .stay (.ite (.next fun h => .update h rfl) (.next fun h => .tamperResponse h))

theorem MemoryOk.bootSequence {b s} (h : MemoryOk s) : MemoryOk (bootSequence b s) := by
  unfold Machine.bootSequence
  extract_lets _ _ s1 s2 _ s3 s4 s5
  have h1 : MemoryOk s1 := .rngStart (h.update rfl)
  have h2 : MemoryOk s2 := .bootFuses h1
  clear_value s2
  have h3 : MemoryOk s3 := h2.update rfl
  have h4 : MemoryOk s4 := .bootMram h3
  have h5 : MemoryOk s5 := .bootDraw (.rngInstantiate h4)
  exact .ite (.freshNext (.bootHalt h1))
    (.ite (.bootHalt h3) (.ite (.bootHalt h3) (.ite (.bootHalt (.rngFail h4)) (.ite (.tamperResponse h5) h5))))

theorem StepsOk.execResetNDeassert {b s} : StepsOk s (execResetNDeassert b s) :=
  .ite (.next fun h => .bootSequence h) .stay

theorem MemoryOk.bootAlias {s} (h : MemoryOk s) : MemoryOk (bootAlias s) := by
  unfold Machine.bootAlias
  extract_lets _ s1
  have h1 : MemoryOk s1 := .reserveAlias (.update h rfl)
  exact .ite (.update h1 rfl) h

theorem MemoryOk.bootImage {s len sigOk digestOk} (h : MemoryOk s) : MemoryOk (bootImage s len sigOk digestOk) := by
  unfold Machine.bootImage
  extract_lets _ _ s0 _ s1
  have h0 : MemoryOk s0 := .update h rfl
  have h1 : MemoryOk s1 := .extendMr h0
  split
  · exact .update h0 rfl
  · exact .bootAlias (.update h1 rfl)

theorem StepsOk.execBootCommit {len img s} : StepsOk s (execBootCommit len img s) :=
  .ite (.next fun h => .bootImage h) .stay

theorem MemoryOk.imageCommitRule {len sigOk digestOk s} (h : MemoryOk s) :
    MemoryOk (imageCommitRule len sigOk digestOk s).2 := by
  unfold Machine.imageCommitRule
  split
  · exact h
  · exact .bootImage h

theorem StepsOk.execImageCommit {len img s} : StepsOk s (execImageCommit len img s) :=
  .odCmd (fun _ h => .imageCommitRule h)

theorem MemoryOk.provisionRule {now dus s} (h : MemoryOk s) : MemoryOk (provisionRule now dus s).2 := by
  unfold Machine.provisionRule
  extract_lets s1
  have h1 : MemoryOk s1 := .rngTake h
  split
  · exact h
  · split
    · exact .bumpB h
    · exact .bootAlias (.wrE (.update h1 rfl))

theorem StepsOk.execProvision {src now dus len s} : StepsOk s (execProvision src now dus len s) :=
  .odRun (fun _ h => .provisionRule h)

theorem MemoryOk.produceRule {src now s} (h : MemoryOk s) : MemoryOk (produceRule src now s).2 := by
  unfold Machine.produceRule
  extract_lets
  split
  · exact h
  · split
    · exact h
    · exact .wrE (.update h rfl)

theorem StepsOk.execProduce {src now len s} : StepsOk s (execProduce src now len s) :=
  .odRun (fun _ h => .produceRule h)

theorem MemoryOk.beginLc {s act src} (h : MemoryOk s) : MemoryOk (beginLc s act src) :=
  .fenceAll (.update h rfl)

theorem MemoryOk.retireRule {src now s} (h : MemoryOk s) : MemoryOk (retireRule src now s).2 := by
  unfold Machine.retireRule
  split
  · exact h
  · split
    · exact h
    · dsimp only
      exact .beginLc h

theorem StepsOk.execLcRetire {src now s} : StepsOk s (execLcRetire src now s) :=
  .odDefer (fun _ h => .retireRule h)

theorem MemoryOk.newChallenge {s now} (h : MemoryOk s) : MemoryOk (challengeNow.newChallenge s now).2 :=
  .freshNext (h.update rfl)

theorem MemoryOk.challengeNow {s now} (h : MemoryOk s) : MemoryOk (challengeNow s now).2 := by
  unfold Machine.challengeNow
  split
  · split
    · exact h
    · exact .newChallenge h
  · exact .newChallenge h

theorem StepsOk.execDebugChallenge {src now s} : StepsOk s (execDebugChallenge src now s) := by
  unfold Machine.execDebugChallenge
  extract_lets
  split
  · exact .stay
  · split
    · exact .next fun h => .answerWith h
    · exact .next fun h => .answerWith h
    · exact .next fun h => .answerWith (.challengeNow h)

theorem MemoryOk.unlockRule {src now pub sigOk s} (h : MemoryOk s) :
    MemoryOk (unlockRule src now pub sigOk s).2 := by
  unfold Machine.unlockRule
  split
  · exact .wrE h
  · split
    · exact .wrE (.bumpE h)
    · dsimp only
      exact .beginLc h

theorem StepsOk.execDebugResponse {src now pub sigOk s} : StepsOk s (execDebugResponse src now pub sigOk s) :=
  .odDefer (fun _ h => .unlockRule h)

theorem MemoryOk.bundleWrite {s x} (h : MemoryOk s) : MemoryOk (bundleWrite s x) := by
  unfold Machine.bundleWrite
  split
  · exact .wrEj h
  · exact h

theorem MemoryOk.bundleRule {src b s} (h : MemoryOk s) : MemoryOk (bundleRule src b s).2 :=
  .wrE (.ite (.policyLockRule (.foldl h fun _ _ h => .bundleWrite h)) h)

theorem StepsOk.execPolicyBundle {src b s} : StepsOk s (execPolicyBundle src b s) :=
  .odRun (fun _ h => .bundleRule h)

/-! ### Registers (Sys2Proof/Machine/Registers.lean) -/

theorem MemoryOk.snapTake {s} (h : MemoryOk s) : MemoryOk (snapTake s) :=
  .bumpE (.freshNext (.update h rfl))

theorem MemoryOk.snapTakeRule {v s} (h : MemoryOk s) : MemoryOk (snapTakeRule v s).2 :=
  .ite h (.snapTake h)

theorem MemoryOk.writePortCtrl {s p v} (h : MemoryOk s) : MemoryOk (writePortCtrl s p v) := by
  unfold Machine.writePortCtrl
  extract_lets s1
  have h1 : MemoryOk s1 := .setForceHalf (.setEnable h)
  exact .ite (.setRetrain h1) h1

theorem MemoryOk.writeRngCtrl {s v} (h : MemoryOk s) : MemoryOk (writeRngCtrl s v) := by
  unfold Machine.writeRngCtrl
  extract_lets s1
  have h1 : MemoryOk s1 := .ite (.rngRestartRule h) h
  exact .ite (.ite (.update h1 rfl) h1) (.ite (.captureEnd h1) h1)

theorem MemoryOk.bar2Write32 {s off v} (h : MemoryOk s) : MemoryOk (bar2Write32 s off v) := by
  unfold Machine.bar2Write32
  extract_lets _ _ s1
  have h1 : MemoryOk s1 := .ite (.snapTake h) h
  split
  · exact .ite (.writeRngCtrl h) (.ite (.update h1 rfl) h)
  · split
    · split
      · exact .wrB (.wrB h)
      · split
        · exact .wrB h
        · split
          · exact .wrB h
          · split
            · exact .wrB h
            · split
              · exact .wrB h
              · split
                · exact .ite (.writePortCtrl h) h
                · exact h
    · exact h

theorem MemoryOk.bar2Write {s off size v} (h : MemoryOk s) : MemoryOk (bar2Write s off size v) :=
  .ite (.ite (.ite (.wrB h) h) (.bar2Write32 (.bar2Write32 h))) (.ite (.bar2Write32 h) (.ite (.wrB h) h))

theorem MemoryOk.cqWrite32 {s f q o v} (h : MemoryOk s) : MemoryOk (cqWrite32 s f q o v) :=
  .ite (.setCq h) (.ite (.setCq h) (.ite (.cqConfigWrite h) (.ite (.setCq h) (.ite (.setCq h) h))))

theorem MemoryOk.evqWrite32 {s f e o v} (h : MemoryOk s) : MemoryOk (evqWrite32 s f e o v) :=
  .ite (.writeEvqConfig h) (.ite (.writeEvqDepth h) h)

theorem MemoryOk.msixWrite32 {s f w v} (h : MemoryOk s) : MemoryOk (msixWrite32 s f w v) :=
  .flushMsix (.update h rfl)

theorem MemoryOk.bootWindowWrite {s a size v} (h : MemoryOk s) : MemoryOk (bootWindowWrite s a size v) :=
  .ite h (.update h rfl)

theorem MemoryOk.resState {s r} (h : MemoryOk s) (hr : StepsOk s r) : MemoryOk (resState s r) := by
  obtain ⟨t, rfl, ht⟩ := hr
  exact ht h

theorem MemoryOk.epDoorbell {s f e v} (h : MemoryOk s) : MemoryOk (epDoorbell s f e v) :=
  .resState h (.ite .execResume (.ite .execError (.ite .execEvict (.ite .execRecycle
    (.ite .execRecordFree (.doorbell fun _ h => h))))))

theorem MemoryOk.bar0Write32 {s f off v} (h : MemoryOk s) : MemoryOk (bar0Write32 s f off v) :=
  .ite (.cqWrite32 h) (.ite (.evqWrite32 h) (.ite (.msixWrite32 h) (.ite (.resState h .execCqDoorbell)
    (.ite (.resState h (.ite .execSynValueWrite .execSynAdd))
        (.ite (.epDoorbell h) (.ite (.ite (.setMbox h) h) h))))))

theorem MemoryOk.bar0Write {s f off size v} (h : MemoryOk s) : MemoryOk (bar0Write s f off size v) :=
  .ite h <|
  .ite (.setMboxBytes h (memWf_mwr _ _ _ _ h.mbox)) <|
  .ite (.ite (.bootWindowWrite h) h) <|
  .ite (.ite (.setCq h) (.bar0Write32 (.bar0Write32 h))) <|
  .ite (.bar0Write32 h) h

theorem MemoryOk.readWords {s key off size wide word} (h : MemoryOk s) :
    MemoryOk (readWords s key off size wide word).2 := by
  unfold Machine.readWords
  extract_lets
  split
  · exact .update h rfl
  · split
    · split
      · exact .update h rfl
      · exact h
    · exact h

theorem MemoryOk.foreignRead {s f off t} (h : MemoryOk s) (he : foreignRead s f off = some t) : MemoryOk t := by
  unfold Machine.foreignRead at he
  extract_lets at he
  split at he
  · exact Option.some.inj he ▸ .bumpE h
  · split at he
    · exact Option.some.inj he ▸ .bumpE h
    · cases he

theorem MemoryOk.bar0Read {s f off size} (h : MemoryOk s) : MemoryOk (bar0Read s f off size).2 := by
  unfold Machine.bar0Read
  split
  · exact h
  · split
    · exact h
    · split
      · exact h
      · split
        next t he =>
          split at he
          · exact h.foreignRead he
          · cases he
        · exact .readWords h

theorem StepsOk.execRegisterRead {r s} : StepsOk s (execRegisterRead r s) := by
  unfold Machine.execRegisterRead
  split
  · exact .ite .stay <|
      .ite (.next fun h => .emit (.linkWork h)) (.next fun h => .emit (.linkWork (.bar0Read h)))
  · exact .ite .stay <|
      .ite (.next fun h => .emit (.linkWork h)) (.next fun h => .emit (.linkWork (.freshNext (.readWords h))))

/-! ### PCIe (Sys2Proof/Machine/Pcie.lean) -/

theorem StepsOk.execLinkWidthReduction {s} : StepsOk s (execLinkWidthReduction s) :=
  .ite (.next fun h => .update h rfl) .stay

theorem StepsOk.execAspmL1Entry {s} : StepsOk s (execAspmL1Entry s) :=
  .ite (.next fun h => .update h rfl) .stay

theorem StepsOk.execPcieCompletionTimeout {r s} : StepsOk s (execPcieCompletionTimeout r s) := by
  unfold Machine.execPcieCompletionTimeout
  split
  · split
    · exact .stay
    · exact .ite (.next fun h => .hwEnd h) .stay
  · exact .ite (.next fun h => .queueError h) .stay

theorem MemoryOk.setTdisp {s f v} (h : MemoryOk s) : MemoryOk (setTdisp s f v) :=
  .update h rfl

theorem StepsOk.execLockInterface {f s} : StepsOk s (execLockInterface f s) :=
  .ite .stay (.ite (.next fun h => .setTdisp h) (.next fun h => .emit h))

theorem StepsOk.execStartInterface {f s} : StepsOk s (execStartInterface f s) :=
  .ite .stay (.ite (.next fun h => .setTdisp h) (.next fun h => .emit h))

theorem StepsOk.execStopInterface {f s} : StepsOk s (execStopInterface f s) :=
  .ite .stay (.ite (.next fun h => .setTdisp h) (.ite (.next fun h => .beginFence h) .stay))

theorem StepsOk.execGetDeviceInterfaceReport {f s} : StepsOk s (execGetDeviceInterfaceReport f s) :=
  .ite (.next fun h => .emit h) .stay

theorem StepsOk.execTdispError {f isRead s} : StepsOk s (execTdispError f isRead s) := by
  unfold Machine.execTdispError
  extract_lets s1
  have h1 (h : MemoryOk s) : MemoryOk s1 := .beginFence h
  exact .ite (.next fun h => .ite (.emit (h1 h)) (h1 h)) .stay

theorem StepsOk.execSpdmRequest {code offered s} : StepsOk s (execSpdmRequest code offered s) := by
  unfold Machine.execSpdmRequest
  extract_lets s1
  have h1 (h : MemoryOk s) : MemoryOk s1 := .emit h
  exact .ite .stay (.ite (.next fun h => .emit h) (.next fun h => .ite (.useAlias (h1 h)) (h1 h)))

theorem StepsOk.execKSetGo {stream s} : StepsOk s (execKSetGo stream s) := by
  unfold Machine.execKSetGo
  split
  · exact .stay
  · split
    · exact .next fun h => .activateSlot h
    · exact .stay

theorem StepsOk.execIdeStreamTlp {stream f s} : StepsOk s (execIdeStreamTlp stream f s) :=
  .ite (.next fun h => .bumpE h) .stay

theorem MemoryOk.bindStream {s stream fn} (h : MemoryOk s) : MemoryOk (bindStream s stream fn) := by
  unfold Machine.bindStream
  extract_lets
  split
  · exact .beginFence h
  · exact .update h rfl

theorem MemoryOk.setMemSpace {s f on} (h : MemoryOk s) : MemoryOk (setMemSpace s f on) :=
  .flushMsix (.update h rfl)

theorem MemoryOk.setVfD {s f d} (h : MemoryOk s) : MemoryOk (setVfD s f d) :=
  .flushMsix (.update h rfl)

theorem StepsOk.execSnapshotTake {viaOd s} : StepsOk s (execSnapshotTake viaOd s) := by
  unfold Machine.execSnapshotTake
  split
  · exact .odCmd (fun _ h => .snapTakeRule h)
  · exact .ite (.next fun h => .snapTake h) .stay

theorem StepsOk.execRngRestart {viaOd s} : StepsOk s (execRngRestart viaOd s) := by
  unfold Machine.execRngRestart
  split
  · exact .odCmd (fun _ h => .rngRestartRule h)
  · exact .ite (.next fun h => .rngRestartRule h) .stay

/-! ### Pins, panel and debug (Sys2Proof/Machine/Panel.lean) -/

theorem StepsOk.execFreezeN {s} : StepsOk s (execFreezeN s) :=
  .ite (.next fun h => h.withVm (fun _ => rfl) rfl) .stay

theorem StepsOk.execPresencePress {now s} : StepsOk s (execPresencePress now s) :=
  .ite (.next fun h => .update h rfl) .stay

theorem StepsOk.execLocateAcknowledgementEnd {s} : StepsOk s (execLocateAcknowledgementEnd s) :=
  .ite .stay (.next fun h => .update h rfl)

theorem StepsOk.execLedActTimeout {s} : StepsOk s (execLedActTimeout s) :=
  .ite .stay (.next fun h => .update h rfl)

theorem MemoryOk.locateRule {v s} (h : MemoryOk s) : MemoryOk (locateRule v s).2 :=
  .wrE h

theorem StepsOk.execLocateWrite {src value s} : StepsOk s (execLocateWrite src value s) :=
  .odCmd (fun _ h => .locateRule h)

theorem StepsOk.execTapReset {s} : StepsOk s (execTapReset s) :=
  .ite (.next fun h => h.update rfl) .stay

theorem StepsOk.execTapInstructionLoad {code now s} : StepsOk s (execTapInstructionLoad code now s) := by
  unfold Machine.execTapInstructionLoad
  extract_lets
  split
  · exact .stay
  · split
    · exact .next fun h => .emit (.challengeNow (.update h rfl))
    · exact .next fun h => .emit (.freshNext (.update h rfl))

theorem StepsOk.execUnlockResponse {now pub sigOk s} : StepsOk s (execUnlockResponse now pub sigOk s) :=
  .ite (.next fun h => .unlockRule h) .stay

theorem MemoryOk.dbgDone {s st v} (h : MemoryOk s) : MemoryOk (dbgDone s st v) :=
  .emit (h.update rfl)

theorem StepsOk.dbgRun {s w reads check eff} (heff : ∀ t, MemoryOk t → MemoryOk (eff t)) :
    StepsOk s (dbgRun s w reads check eff) := by
  unfold Machine.dbgRun
  split
  · exact .stay
  · split
    · exact .next fun h => .dbgDone h
    · split
      · exact .next fun h => .dbgDone h
      · split
        · exact .next fun h => .dbgDone h
        · exact .next fun h => heff _ h

theorem StepsOk.execDbgNop {w s} : StepsOk s (execDbgNop w s) :=
  .dbgRun (fun _ h => .dbgDone h)

theorem MemoryOk.thatchWrite {s die a o v} (h : MemoryOk s) : MemoryOk (thatchWrite s die a o v) :=
  .setTile h

theorem StepsOk.execDbgRead32 {w s} : StepsOk s (execDbgRead32 w s) :=
  .dbgRun (fun _ h => .dbgDone (.freshNext h))

theorem MemoryOk.dbgStore {s w} (h : MemoryOk s) : MemoryOk (dbgStore s w) :=
  .ite (.bar2Write h) (.ite (.ite h (h.withCore (memWf_mwr _ _ _ _ h.core) rfl))
    (.ite h (.ite (.setLoft h (memWf_mwr _ _ _ _ h.loft)) (.thatchWrite h))))

theorem StepsOk.execDbgWrite32 {w s} : StepsOk s (execDbgWrite32 w s) :=
  .dbgRun (fun _ h => .dbgDone (.dbgStore h))

theorem MemoryOk.setHalt {s l u n} (h : MemoryOk s) : MemoryOk (setHalt s l u n) :=
  (h.update rfl)

theorem StepsOk.execDbgHalt {w s} : StepsOk s (execDbgHalt w s) :=
  .dbgRun (fun _ h => .dbgDone (.ite h (.setHalt h)))

theorem StepsOk.execDbgResume {w s} : StepsOk s (execDbgResume w s) :=
  .dbgRun (fun _ h => .dbgDone (.setHalt h))

theorem StepsOk.execDbgStep {w s} : StepsOk s (execDbgStep w s) :=
  .dbgRun (fun _ h => .dbgDone (.ite (.setHalt h) h))

theorem StepsOk.execDbgStatus {w s} : StepsOk s (execDbgStatus w s) :=
  .dbgRun (fun _ h => .dbgDone (.freshNext h))

theorem MemoryOk.setBp {s w v} (h : MemoryOk s) : MemoryOk (setBp s w v) :=
  (h.update rfl)

theorem StepsOk.execDbgSetBp {w s} : StepsOk s (execDbgSetBp w s) :=
  .dbgRun (fun _ h => .dbgDone (.setBp h))

theorem StepsOk.execDbgClearBp {w s} : StepsOk s (execDbgClearBp w s) :=
  .dbgRun (fun _ h => .dbgDone (.setBp h))

/-! ### The object dictionary (Sys2Proof/Machine/Dictionary.lean) -/

theorem MemoryOk.createRule {f n s} (h : MemoryOk s) : MemoryOk (createRule f n s).2 := by
  unfold Machine.createRule
  split
  · exact h
  · exact .createCtx h

theorem StepsOk.execCreate {src n s} : StepsOk s (execCreate src n s) :=
  .odCmd (fun _ h => .createRule h)

theorem StepsOk.execPolicyLock {src n s} : StepsOk s (execPolicyLock src n s) :=
  .odCmd (fun _ h => .policyLockRule h)

theorem StepsOk.execRoundOpen {src n s} : StepsOk s (execRoundOpen src n s) :=
  .odCmd (fun _ h => .openRule h)

theorem StepsOk.execRoundClose {src n s} : StepsOk s (execRoundClose src n s) :=
  .odCmd (fun _ h => .closeRule h)

theorem StepsOk.execRoundAbandon {src n s} : StepsOk s (execRoundAbandon src n s) :=
  .odCmd (fun _ h => .abandonRule h)

theorem StepsOk.execRoundRelease {src n s} : StepsOk s (execRoundRelease src n s) :=
  .odCmd (fun _ h => .releaseRule h)

theorem StepsOk.execCohortOpen {src n s} : StepsOk s (execCohortOpen src n s) :=
  .odCmd (fun _ h => .cohortOpenRule h)

theorem StepsOk.execCohortShut {src n s} : StepsOk s (execCohortShut src n s) :=
  .odCmd (fun _ h => .cohortShutRule h)

theorem StepsOk.execBasisLoad {src n value s} : StepsOk s (execBasisLoad src n value s) :=
  .odCmd (fun _ h => .basisLoadRule h)

theorem StepsOk.execSynBlockWrite {src k value s} : StepsOk s (execSynBlockWrite src k value s) :=
  .odCmd (fun _ h => .synBlockRule h)

theorem StepsOk.objCmd {s src code} : StepsOk s (objCmd s src code) :=
  .odCmd (fun _ h => .objRule h)

theorem StepsOk.execObjCreate {src s} : StepsOk s (execObjCreate src s) :=
  .objCmd

theorem StepsOk.execObjModify {src s} : StepsOk s (execObjModify src s) :=
  .objCmd

theorem StepsOk.execObjDestroy {src s} : StepsOk s (execObjDestroy src s) :=
  .objCmd

theorem StepsOk.execAdvance {src s} : StepsOk s (execAdvance src s) :=
  .objCmd

theorem StepsOk.execQuery {src s} : StepsOk s (execQuery src s) :=
  .objCmd

theorem StepsOk.execRetire {src s} : StepsOk s (execRetire src s) :=
  .objCmd

theorem StepsOk.execAdvanceCtxKey {src s} : StepsOk s (execAdvanceCtxKey src s) :=
  .objCmd

theorem MemoryOk.endPortSessions {s} (h : MemoryOk s) : MemoryOk (endPortSessions s) := by
  unfold Machine.endPortSessions
  extract_lets s1
  have h1 : MemoryOk s1 := .foldl h fun _ _ h => .endSession h
  exact .update h1 rfl

theorem MemoryOk.authorityRule {f v s} (h : MemoryOk s) : MemoryOk (authorityRule f v s).2 := by
  unfold Machine.authorityRule
  split
  · exact h
  · exact .wrE h

theorem MemoryOk.storeRule {e n j v s} (h : MemoryOk s) : MemoryOk (storeRule e n j v s).2 :=
  .wrEj h

/-- A write rule keeps the memories' form. -/
def RuleOk (r : State → Nat × State) : Prop := ∀ s, MemoryOk s → MemoryOk (r s).2

theorem RuleOk.ite {c : Prop} [Decidable c] {r r'} (h : RuleOk r) (h' : RuleOk r') :
    RuleOk (if c then r else r') := by
  split
  · exact h
  · exact h'

/-- A rule found in a table. -/
def FoundOk (o : Option (State → Nat × State)) : Prop := ∀ r, o = some r → RuleOk r

theorem FoundOk.none : FoundOk none := fun _ h => nomatch h
theorem FoundOk.some {r} (h : RuleOk r) : FoundOk (some r) := fun _ he => Option.some.inj he ▸ h

theorem FoundOk.ite {c : Prop} [Decidable c] {o o'} (h : FoundOk o) (h' : FoundOk o') :
    FoundOk (if c then o else o') := by
  split
  · exact h
  · exact h'

theorem foundOk_codeRule {src e n v} : FoundOk (codeRule src e n v) :=
  .ite (.some (.ite (fun _ h => .createRule h) (fun _ h => .destroyRule h)))
  (.ite (.some (.ite (fun _ h => .openRule h) (.ite (fun _ h => .closeRule h)
    (.ite (fun _ h => .abandonRule h) (fun _ h => .releaseRule h)))))
  (.ite (.some (.ite (fun _ h => .cohortOpenRule h) (fun _ h => .cohortShutRule h)))
  (.ite (.some fun _ h => .objRule h)
  (.ite (.some (.ite (fun _ h => .flashRule h) (fun _ h => .releaseFnRule h)))
  (.ite (.some fun _ h => .moduleRequestRule h)
  (.ite (.some fun _ h => .dieRequestRule h)
  (.ite (.some fun _ h => .resetRule h)
  (.ite (.some fun _ h => .peerWakeRule h)
  (.ite (.some fun _ h => .snapTakeRule h)
  (.ite (.some fun _ h => by
        split
        · exact .rngRestartRule h
        · exact h) .none))))))))))

theorem foundOk_configRule {e n j v} : FoundOk (configRule e n j v) :=
  .ite (.some fun _ h => by
        split
        · exact .policyLockRule h
        · exact h)
  (.ite (.some fun _ h => .basisLoadRule h)
  (.ite (.some fun _ h => .synBlockRule h)
  (.ite (.some fun _ h => .synBlockRule h)
  (.ite (.some fun _ h => .ethRule h)
  (.ite (.some fun _ h => .fabricLockRule h)
  (.ite (.some fun _ h => .svnCommitRule h)
  (.ite (.some fun _ h => .mrExtendRule h)
  (.ite (.some fun _ h => .grantRule h)
  (.ite (.some fun _ h => .authorityRule h)
  (.ite (.some fun _ h => .ite (.wrE h) h)
  (.ite (.some fun _ h => .update h rfl)
  (.ite (.some fun _ h => .ite h (.endPortSessions (.wrE h)))
  (.ite (.some fun _ h => .ite h (h.update rfl)) .none)))))))))))))

theorem ruleOk_writeRule {src e n j v} : RuleOk (writeRule src e n j v) := by
  unfold writeRule
  split
  · exact foundOk_codeRule _ ‹_›
  · cases hc : configRule e n j v with
    | none => exact fun _ h => .storeRule h
    | some r => exact foundOk_configRule r hc

theorem MemoryOk.writeRule {src e n j v s} (h : MemoryOk s) : MemoryOk (writeRule src e n j v s).2 :=
  ruleOk_writeRule s h

theorem MemoryOk.rangeRule {src e n v s} (h : MemoryOk s) : MemoryOk (rangeRule src e n v s).2 := by
  unfold Machine.rangeRule
  extract_lets s1
  have h1 : MemoryOk s1 := .ite (.rangeWrite h) (.rangeWrite h)
  exact .ite (.setCx h1) (.answer h1)

theorem StepsOk.execTileRangeRemoval {n s} : StepsOk s (execTileRangeRemoval n s) := by
  unfold Machine.execTileRangeRemoval
  extract_lets s1
  have h1 (h : MemoryOk s) : MemoryOk s1 := .dropRemoved h
  exact .ite .stay (.ite (.next fun h => (h1 h)) (.next fun h => .foldl (.setCx (h1 h)) fun _ _ h => .answer h))

theorem StepsOk.odWrite {s src index sub len value} : StepsOk s (odWrite s src index sub len value) := by
  unfold Machine.odWrite
  split
  · exact .ite (.next fun h => .answer h) .stay
  · exact .ite .stay (.ite (.odDefer (fun _ h => .rangeRule h)) (.odRun (fun _ h => .writeRule h)))

theorem StepsOk.execOdWriteEntry {t s} : StepsOk s (execOdWriteEntry t s) := by
  unfold Machine.execOdWriteEntry
  split
  · exact .odWrite
  · exact .next fun h => .bar0Write h
  · exact .next fun h => .ite (.bar2Write h) h
  · exact .next fun h => .ite (.setMemSpace h) h
  · exact .next fun h => .ite (.setVfD h) h
  · exact .next fun h => .ite (.bindStream h) h

theorem MemoryOk.answerPart {s src value total off len} (h : MemoryOk s) :
    MemoryOk (answerPart s src value total off len) :=
  .answerWith h

theorem StepsOk.execOdRead {src txn index sub off len s} : StepsOk s (execOdRead src txn index sub off len s) := by
  unfold Machine.execOdRead
  extract_lets
  split
  · exact .stay
  · split
    · exact .ite (.next fun h => .answerWith h) (.next fun h => .answerPart (.freshNext (.update h rfl)))
    · split
      · exact .next fun h => .answerPart h
      · exact .next fun h => .answerWith h

theorem StepsOk.execOdReadCopyLapse {src txn s} : StepsOk s (execOdReadCopyLapse src txn s) :=
  .ite .stay (.next fun h => .update h rfl)

theorem MemoryOk.dropStaging {s src txn} (h : MemoryOk s) : MemoryOk (dropStaging s src txn) :=
  .update h rfl

theorem MemoryOk.claimImage {s src index} (h : MemoryOk s) : MemoryOk (claimImage s src index) :=
  .ite (.update h rfl) h

theorem StepsOk.execOdWriteSegment {src txn index sub off len value last s} :
    StepsOk s (execOdWriteSegment src txn index sub off len value last s) := by
  unfold Machine.execOdWriteSegment
  extract_lets _ _ _ s1
  have h1 (h : MemoryOk s) : MemoryOk s1 := .claimImage (.dropStaging h)
  exact .ite .stay (.ite (.next fun h => .ite (.answer (.dropStaging h)) (.answer h))
    (.ite (.next fun h => .answer h)
        (.ite (.of_state h1 .odWrite) (.next fun h => .answer ((h1 h).update rfl)))))

theorem StepsOk.execOdStagingTimeout {src txn s} : StepsOk s (execOdStagingTimeout src txn s) :=
  .ite .stay (.next fun h => .update h rfl)

theorem StepsOk.execMbDoorbell {f len s} : StepsOk s (execMbDoorbell f len s) :=
  .ite .stay (.ite (.next fun h => .setMbox h) (.next fun h => .setMbox h))

/-! ### The start of descriptors (Sys2Proof/Machine/Start.lean) -/

theorem MemoryOk.noteFormat {s d st} (h : MemoryOk s) : MemoryOk (noteFormat s d st) :=
  .ite (.noteRefusal h) h

theorem MemoryOk.firstUnmask {s d} (h : MemoryOk s) : MemoryOk (firstUnmask s d).1 := by
  unfold Machine.firstUnmask
  extract_lets
  split
  · exact h
  · split
    · exact .failCohort h
    · exact .setCohort h

theorem MemoryOk.startChecks {s d} (h : MemoryOk s) : MemoryOk (startChecks s d).1 := by
  unfold Machine.startChecks
  split
  · exact h
  · split
    · exact .noteFormat h
    · exact .firstUnmask h

theorem MemoryOk.takeHead {s die d} (h : MemoryOk s) : MemoryOk (takeHead s die d) :=
  .update h rfl

theorem MemoryOk.startOn {s die u d} (h : MemoryOk s) : MemoryOk (startOn s die u d) := by
  unfold Machine.startOn
  extract_lets _ _ s1 r s2
  have h1 : MemoryOk s1 := .freshNext (.takeHead h)
  have hr : MemoryOk r.1 := by
    unfold r
    split
    · exact .startChecks h1
    · exact h1
  have h2 : MemoryOk s2 := .setDesc hr
  split
  · exact .refuseDesc hr
  · exact .ite (h2.update rfl) h2

theorem StepsOk.execCarouselDispatch {die unit s} : StepsOk s (execCarouselDispatch die unit s) := by
  unfold Machine.execCarouselDispatch
  split
  · exact .stay
  · split
    · exact .stay
    · exact .ite (.next fun h => .wakeOnDemand h) (.next fun h => .startOn h)

/-! ### Every command -/

/-- Every command answers a next state, and keeps the memories' form. -/
theorem StepsOk.exec {c s} : StepsOk s (exec c s) :=
  match c with
  | .odWriteEntry .. => .execOdWriteEntry
  | .odRead .. => .execOdRead
  | .odWriteSegment .. => .execOdWriteSegment
  | .odStagingTimeout .. => .execOdStagingTimeout
  | .mbDoorbell .. => .execMbDoorbell
  | .create .. => .execCreate
  | .destroy .. => .execDestroy
  | .teardownEngineTimeout .. => .execTeardownEngineTimeout
  | .contextQuarantineExpiry .. => .execContextQuarantineExpiry
  | .policyLock .. => .execPolicyLock
  | .roundOpen .. => .execRoundOpen
  | .roundClose .. => .execRoundClose
  | .roundAbandon .. => .execRoundAbandon
  | .roundRelease .. => .execRoundRelease
  | .closeGraceExpiry .. => .execCloseGraceExpiry
  | .roundEnterCombining .. => .execRoundEnterCombining
  | .roundEnterReady .. => .execRoundEnterReady
  | .clearSubtotalEncrypt .. => .execClearSubtotalEncrypt
  | .areaScrubComplete .. => .execAreaScrubComplete
  | .provTileZero .. => .execProvTileZero
  | .cohortOpen .. => .execCohortOpen
  | .cohortShut .. => .execCohortShut
  | .cohortMerge .. => .execCohortMerge
  | .shareBufferBind .. => .execShareBufferBind
  | .seedSumShareMessage .. => .execSeedSumShareMessage
  | .prgExpandDerive .. => .execPrgExpandDerive
  | .prgExpandMask .. => .execPrgExpandMask
  | .seedRecon .. => .execSeedRecon
  | .unmask .. => .execUnmask
  | .basisLoad .. => .execBasisLoad
  | .ntt .. => .execNtt
  | .intt .. => .execIntt
  | .vmulProduct .. => .execVmulProduct
  | .vmulScalar .. => .execVmulScalar
  | .vmulAdd .. => .execVmulAdd
  | .vmulSubtract .. => .execVmulSubtract
  | .vmulToMontgomery .. => .execVmulToMontgomery
  | .vmulToStandard .. => .execVmulToStandard
  | .vmacAddProduct .. => .execVmacAddProduct
  | .vmacAddScalar .. => .execVmacAddScalar
  | .vmacSubProduct .. => .execVmacSubProduct
  | .vmacSubScalar .. => .execVmacSubScalar
  | .baseconvFast .. => .execBaseconvFast
  | .baseconvExact .. => .execBaseconvExact
  | .baseconvPrepare .. => .execBaseconvPrepare
  | .automorphCoefficient .. => .execAutomorphCoefficient
  | .automorphNtt .. => .execAutomorphNtt
  | .ctAdd .. => .execCtAdd
  | .ctPmul .. => .execCtPmul
  | .keyswitch .. => .execKeyswitch
  | .rotate .. => .execRotate
  | .moddrop .. => .execModdrop
  | .encryptClearInt32 .. => .execEncryptClearInt32
  | .encryptClearFp32Pair .. => .execEncryptClearFp32Pair
  | .decryptShare .. => .execDecryptShare
  | .keyShareMessage .. => .execKeyShareMessage
  | .shAdd .. => .execShAdd
  | .shAddPublic .. => .execShAddPublic
  | .shSubtract .. => .execShSubtract
  | .shScale .. => .execShScale
  | .shBeaver .. => .execShBeaver
  | .shOpen .. => .execShOpen
  | .exchangeTimeoutExpiry .. => .execExchangeTimeoutExpiry
  | .exchangeMessage .. => .execExchangeMessage
  | .tripleBatch .. => .execTripleBatch
  | .partnerQuoteCheck .. => .execPartnerQuoteCheck
  | .accIntAdd .. => .execAccIntAdd
  | .accIntSubtract .. => .execAccIntSubtract
  | .accFloat .. => .execAccFloat
  | .accMaskedAdd .. => .execAccMaskedAdd
  | .accMaskedSubtract .. => .execAccMaskedSubtract
  | .accSharedAdd .. => .execAccSharedAdd
  | .accSharedSubtract .. => .execAccSharedSubtract
  | .preloadZero .. => .execPreloadZero
  | .preloadLoad .. => .execPreloadLoad
  | .drainNative .. => .execDrainNative
  | .drainDequant .. => .execDrainDequant
  | .drainMean .. => .execDrainMean
  | .drainFused .. => .execDrainFused
  | .save .. => .execSave
  | .restore .. => .execRestore
  | .reduceMax .. => .execReduceMax
  | .reduceMin .. => .execReduceMin
  | .tileRangeRemoval .. => .execTileRangeRemoval
  | .cqDoorbell .. => .execCqDoorbell
  | .cqEnable .. => .execCqEnable
  | .cqDisable .. => .execCqDisable
  | .cqFlush .. => .execCqFlush
  | .descriptorFetch .. => .execDescriptorFetch
  | .descriptorForward .. => .execDescriptorForward
  | .carouselDispatch .. => .execCarouselDispatch
  | .urgentPromotion .. => .execUrgentPromotion
  | .synValueWrite .. => .execSynValueWrite
  | .synAdd .. => .execSynAdd
  | .synBlockWrite .. => .execSynBlockWrite
  | .copy .. => .execCopy
  | .fill .. => .execFill
  | .scrub .. => .execScrub
  | .wait .. => .execWait
  | .waitTimeout .. => .execWaitTimeout
  | .signalAdd .. => .execSignalAdd
  | .signalSet .. => .execSignalSet
  | .fenceQueue .. => .execFenceQueue
  | .fenceContext .. => .execFenceContext
  | .fenceFunction .. => .execFenceFunction
  | .nop .. => .execNop
  | .triggerArm .. => .execTriggerArm
  | .triggerCancel .. => .execTriggerCancel
  | .triggerFire .. => .execTriggerFire
  | .triggerStreamEntry .. => .execTriggerStreamEntry
  | .evqEnable .. => .execEvqEnable
  | .evqFlush .. => .execEvqFlush
  | .evqDepthWrite .. => .execEvqDepthWrite
  | .eventQueueRead .. => .execEventQueueRead
  | .cableInsertion .. => .execCableInsertion
  | .cableRemoval .. => .execCableRemoval
  | .cableDebounceDone .. => .execCableDebounceDone
  | .laneSignalDetected .. => .execLaneSignalDetected
  | .laneEqualisationDone .. => .execLaneEqualisationDone
  | .laneDeskewDone .. => .execLaneDeskewDone
  | .linkPeerHandshake .. => .execLinkPeerHandshake
  | .trainingTimeout .. => .execTrainingTimeout
  | .laneFault .. => .execLaneFault
  | .portEnable .. => .execPortEnable
  | .portRetrain .. => .execPortRetrain
  | .portForceHalf .. => .execPortForceHalf
  | .linkRekey .. => .execLinkRekey
  | .linkFrameReceive .. => .execLinkFrameReceive
  | .switchForward .. => .execSwitchForward
  | .packetResidenceExpiry .. => .execPacketResidenceExpiry
  | .inPackageLinkError .. => .execInPackageLinkError
  | .ethFrameReceive .. => .execEthFrameReceive
  | .ethModeWrite .. => .execEthModeWrite
  | .pathDeadExpiry .. => .execPathDeadExpiry
  | .childWaitExpiry .. => .execChildWaitExpiry
  | .jobAbortReceive .. => .execJobAbortReceive
  | .dataPacketReceive .. => .execDataPacketReceive
  | .ackTimerExpiry .. => .execAckTimerExpiry
  | .ackReceive .. => .execAckReceive
  | .statusReceive .. => .execStatusReceive
  | .retransmitTimerExpiry .. => .execRetransmitTimerExpiry
  | .packetTransmit .. => .execPacketTransmit
  | .rateIntervalUpdate .. => .execRateIntervalUpdate
  | .pathMaskRestore .. => .execPathMaskRestore
  | .odPacketReceive .. => .execOdPacketReceive
  | .hello .. => .execHello
  | .reply .. => .execReply
  | .finish .. => .execFinish
  | .accept .. => .execAccept
  | .close .. => .execClose
  | .credential .. => .execCredential
  | .handshakeTimeout .. => .execHandshakeTimeout
  | .objCreate .. => .execObjCreate
  | .objModify .. => .execObjModify
  | .objDestroy .. => .execObjDestroy
  | .advance .. => .execAdvance
  | .query .. => .execQuery
  | .retire .. => .execRetire
  | .advanceCtxKey .. => .execAdvanceCtxKey
  | .keyQuarantineExpiry .. => .execKeyQuarantineExpiry
  | .objectQuarantineExpiry .. => .execObjectQuarantineExpiry
  | .resume .. => .execResume
  | .error .. => .execError
  | .evict .. => .execEvict
  | .recycle .. => .execRecycle
  | .recordFree .. => .execRecordFree
  | .endpointQuarantineExpiry .. => .execEndpointQuarantineExpiry
  | .stWrite .. => .execStWrite
  | .stSend .. => .execStSend
  | .stRead .. => .execStRead
  | .messageDelivery .. => .execMessageDelivery
  | .endpointFetch .. => .execEndpointFetch
  | .endpointEviction .. => .execEndpointEviction
  | .parkingTimeout .. => .execParkingTimeout
  | .contributionCommit .. => .execContributionCommit
  | .msgIdleLimitExpiry .. => .execMsgIdleLimitExpiry
  | .importReceive .. => .execImportReceive
  | .importWaitExpiry .. => .execImportWaitExpiry
  | .recombine .. => .execRecombine
  | .rootDigest .. => .execRootDigest
  | .patrolRead .. => .execPatrolRead
  | .resetNDeassert .. => .execResetNDeassert
  | .bootCommit .. => .execBootCommit
  | .imageCommit .. => .execImageCommit
  | .aliasTreeGenerated .. => .execAliasTreeGenerated
  | .aliasRotation .. => .execAliasRotation
  | .identityTreeGeneration .. => .execIdentityTreeGeneration
  | .svnCommit .. => .execSvnCommit
  | .mrExtend .. => .execMrExtend
  | .fabricLock .. => .execFabricLock
  | .vaultInstall .. => .execVaultInstall
  | .vaultActivate .. => .execVaultActivate
  | .vaultSlotQuarantineExpiry .. => .execVaultSlotQuarantineExpiry
  | .remaskPass .. => .execRemaskPass
  | .quoteRequest .. => .execQuoteRequest
  | .quoteSign .. => .execQuoteSign
  | .policyBundle .. => .execPolicyBundle
  | .provision .. => .execProvision
  | .produce .. => .execProduce
  | .lcRetire .. => .execLcRetire
  | .debugChallenge .. => .execDebugChallenge
  | .debugResponse .. => .execDebugResponse
  | .tamper .. => .execTamper
  | .rngSample .. => .execRngSample
  | .rngEstimateWindow .. => .execRngEstimateWindow
  | .rngStartupComplete .. => .execRngStartupComplete
  | .drbgGenerate .. => .execDrbgGenerate
  | .reseedIntervalExpiry .. => .execReseedIntervalExpiry
  | .seedBlockArrivalReseed .. => .execSeedBlockArrivalReseed
  | .rngQueueRead .. => .execRngQueueRead
  | .rngWaitLimitExpiry .. => .execRngWaitLimitExpiry
  | .rngRestart .. => .execRngRestart
  | .rawCaptureSet .. => .execRawCaptureSet
  | .rawCaptureClear .. => .execRawCaptureClear
  | .flash .. => .execFlash
  | .functionLevelReset .. => .execFunctionLevelReset
  | .fenceEngineTimeout .. => .execFenceEngineTimeout
  | .fenceScrub .. => .execFenceScrub
  | .scrubDone .. => .execScrubDone
  | .release .. => .execRelease
  | .grantWrite .. => .execGrantWrite
  | .vfEnable .. => .execVfEnable
  | .vfRemoval .. => .execVfRemoval
  | .watchdogExpiry .. => .execWatchdogExpiry
  | .heartbeatLoss .. => .execHeartbeatLoss
  | .engineResetComplete .. => .execEngineResetComplete
  | .engineResetOverrun .. => .execEngineResetOverrun
  | .dieResetComplete .. => .execDieResetComplete
  | .dieResetOverrun .. => .execDieResetOverrun
  | .moduleReset .. => .execModuleReset
  | .resetRequestEngine .. => .execResetRequestEngine
  | .resetRequestDie .. => .execResetRequestDie
  | .resetRequestModule .. => .execResetRequestModule
  | .snapshotTake .. => .execSnapshotTake
  | .linkWidthReduction .. => .execLinkWidthReduction
  | .aspmL1Entry .. => .execAspmL1Entry
  | .d3hot .. => .execD3hot
  | .d3cold .. => .execD3cold
  | .lockInterface .. => .execLockInterface
  | .startInterface .. => .execStartInterface
  | .stopInterface .. => .execStopInterface
  | .getDeviceInterfaceReport .. => .execGetDeviceInterfaceReport
  | .tdispError .. => .execTdispError
  | .spdmRequest .. => .execSpdmRequest
  | .kSetGo .. => .execKSetGo
  | .moduleRequestWake .. => .execModuleRequestWake
  | .moduleRequestSleep .. => .execModuleRequestSleep
  | .moduleRequestDeepSleep .. => .execModuleRequestDeepSleep
  | .dieRequestWake .. => .execDieRequestWake
  | .dieRequestSleep .. => .execDieRequestSleep
  | .dieRequestDeepSleep .. => .execDieRequestDeepSleep
  | .sleepEntryComplete .. => .execSleepEntryComplete
  | .wakeComplete .. => .execWakeComplete
  | .engineGate .. => .execEngineGate
  | .enginePowerUp .. => .execEnginePowerUp
  | .wakeN .. => .execWakeN
  | .wakeTimer .. => .execWakeTimer
  | .managementWakePacket .. => .execManagementWakePacket
  | .pcieWake .. => .execPcieWake
  | .calliopePattern .. => .execCalliopePattern
  | .peerWake .. => .execPeerWake
  | .inputPowerLoss .. => .execInputPowerLoss
  | .pwrGoodAssert .. => .execPwrGoodAssert
  | .thermalSample .. => .execThermalSample
  | .thermalRecovery .. => .execThermalRecovery
  | .alwaysOnTrim .. => .execAlwaysOnTrim
  | .freezeN .. => .execFreezeN
  | .presencePress .. => .execPresencePress
  | .ledActTimeout .. => .execLedActTimeout
  | .tapReset .. => .execTapReset
  | .tapInstructionLoad .. => .execTapInstructionLoad
  | .unlockResponse .. => .execUnlockResponse
  | .dbgNop .. => .execDbgNop
  | .dbgRead32 .. => .execDbgRead32
  | .dbgWrite32 .. => .execDbgWrite32
  | .dbgHalt .. => .execDbgHalt
  | .dbgResume .. => .execDbgResume
  | .dbgStep .. => .execDbgStep
  | .dbgSetBp .. => .execDbgSetBp
  | .dbgClearBp .. => .execDbgClearBp
  | .dbgStatus .. => .execDbgStatus
  | .locateWrite .. => .execLocateWrite
  | .resetNAssert .. => .execResetNAssert
  | .pcieCompletionTimeout .. => .execPcieCompletionTimeout
  | .overTemperatureComparator .. => .execOverTemperatureComparator
  | .ethLinkUp .. => .execEthLinkUp
  | .ethLinkDown .. => .execEthLinkDown
  | .ideStreamTlp .. => .execIdeStreamTlp
  | .registerRead .. => .execRegisterRead
  | .cohortCloseGraceExpiry .. => .execCohortCloseGraceExpiry
  | .odReadCopyLapse .. => .execOdReadCopyLapse
  | .locateAcknowledgementEnd .. => .execLocateAcknowledgementEnd
  | .auxiliaryRailValid .. => .execAuxiliaryRailValid
  | .auxiliaryRailLoss .. => .execAuxiliaryRailLoss
  | .refclkStable .. => .execRefclkStable
  | .refclkLoss .. => .execRefclkLoss

/-- Settles O2: each command's own lemma names the state it answers. -/
theorem noCommandStops : Obligations.NoCommandStops := by
  unfold Obligations.NoCommandStops
  intro c s
  obtain ⟨t, ht, -⟩ : StepsOk s (exec c s) := .exec
  exact ⟨t, ht⟩

/-- Settles O4: with no command waiting time moves, and otherwise the command in front acts; both keep the form. -/
theorem memoryFormKept : Obligations.MemoryFormKept := by
  unfold Obligations.MemoryFormKept
  intro s t h hs
  unfold step at hs
  split at hs
  · cases hs
    exact .tick h
  next c rest _ =>
    obtain ⟨u, hu, hok⟩ : StepsOk { s with pending := rest } (exec c { s with pending := rest }) := .exec
    obtain rfl : u = t := by simpa [hu] using hs
    exact hok (h.update rfl)

end Sys2Proof
end

section
/-! SUPPORT. Register commands leave the memories alone (R30, R36, R543, R556, R587), and O59.

`memView` is what such a command may not touch. One `memView_f` per function f of the model that those commands use, and one
`KeepsMemory.execF` per command whose arm is more than a choice between updates of other fields. -/

namespace Sys2Proof.Machine
open Sys2Proof

variable {s : State}

/-- Host memory, device memories, Loft, tiles and descriptors, and the fuses but for the SVN floor. -/
def memView (s : State) : Mem × Tbl Mem × Tbl Mem × Tbl Tile × List Desc × Fuses :=
  (s.host, s.vm, s.loft, s.tiles, s.descs, { s.fuses with svnFloor := 0 })

/-! ### Shared operations -/

theorem memView_ite {c : Prop} [Decidable c] {t u : State} (ht : memView t = memView s) (hu : memView u = memView s) :
    memView (if c then t else u) = memView s := by
  split
  · exact ht
  · exact hu

/-- A loop keeps what each of its rounds keeps. -/
theorem foldl_keeps {α β : Type} (g : State → β) {f : State → α → State} (hf : ∀ t x, g (f t x) = g t) (l : List α) :
    g (l.foldl f s) = g s := by
  induction l generalizing s with
  | nil => rfl
  | cons x r ih => exact ih.trans (hf s x)

@[simp] theorem memView_answerWith (src : Src) (st v len : Nat) (rd more : Bool) :
    memView (answerWith s src st v len rd more) = memView s := by simp [memView]

@[simp] theorem memView_answer (src : Src) (st : Nat) : memView (answer s src st) = memView s :=
  memView_answerWith ..

@[simp] theorem memView_answerPart (src : Src) (v total off len : Nat) :
    memView (answerPart s src v total off len) = memView s := memView_answerWith ..

@[simp] theorem memView_noteWrite (src : Src) (e : Ent) (n st : Nat) (late : Bool) :
    memView (noteWrite s src e n st late) = memView s := by simp [memView]

@[simp] theorem memView_wakeOnDemand (d : Nat) : memView (wakeOnDemand s d) = memView s := by simp [memView]

/-! ### Wakes (R556 to R565) -/

@[simp] theorem memView_wakeAll : memView (wakeAll s) = memView s := foldl_keeps memView (fun _ d => memView_wakeOnDemand d) _

@[simp] theorem memView_tellHost : memView (tellHost s) = memView s := memView_ite rfl (memView_ite rfl rfl)

@[simp] theorem memView_moduleWake (cause : Nat) : memView (moduleWake s cause) = memView s :=
  calc memView (moduleWake s cause)
    _ = memView (wakeAll (tellHost s)) := rfl
    _ = memView s := by simp

@[simp] theorem memView_wakeBy (k : Nat) : memView (wakeBy k s) = memView s := memView_ite (memView_moduleWake k) rfl

theorem memView_wakePort (p : Nat) : memView (wakePort s p) = memView s := memView_ite rfl (memView_ite rfl rfl)

theorem memView_moduleRequestWake : memView (moduleRequestRule 1 s).2 = memView s := by
  simp only [moduleRequestRule, moduleWakeRule, if_true]
  split <;> simp

/-- The code of a wake request is 1, so that no die goes to sleep. -/
theorem memView_dieRequestWake (die : Nat) : memView (dieRequestRule (256 + die % 16) s).2 = memView s := by
  have hcode : bits (256 + die % 16) 9 8 = 1 := by simp only [bits]; omega
  simp only [dieRequestRule, dieWakeRule, hcode, Nat.one_ne_zero, if_false, if_true]
  split
  · rfl
  · split <;> simp

theorem memView_peerWake (mask : Nat) : memView (peerWakeRule mask s).2 = memView s := by
  unfold peerWakeRule
  refine foldl_keeps memView (fun t p => ?_) _
  split <;> rfl

/-! ### Keys, challenges and registers -/

theorem memView_useAlias : memView (useAlias s) = memView s := by
  unfold useAlias nextAlias
  exact memView_ite rfl rfl

theorem memView_challengeNow (now : Nat) : memView (challengeNow s now).2 = memView s := by
  unfold challengeNow
  split
  · split <;> rfl
  · rfl

theorem memView_readWords (key off size : Nat) (wide : Nat → Bool) (word : Nat → Nat) :
    memView (readWords s key off size wide word).2 = memView s := by
  unfold readWords
  extract_lets
  split
  · rfl
  · split
    · split <;> rfl
    · rfl

theorem memView_foreignRead {f off : Nat} {t : State} (h : foreignRead s f off = some t) : memView t = memView s := by
  unfold foreignRead at h
  extract_lets at h
  split at h
  · cases h; rfl
  · split at h
    · cases h; rfl
    · cases h

theorem memView_bar0Read (f off size : Nat) : memView (bar0Read s f off size).2 = memView s := by
  unfold bar0Read
  split
  · rfl
  · split
    · rfl
    · split
      · rfl
      · split
        next t ht =>
          split at ht
          · exact memView_foreignRead ht
          · cases ht
        next => exact memView_readWords ..

/-- SVN_COMMIT burns the SVN floor, which the view leaves out. -/
theorem memView_svnCommit (v : Nat) : memView (svnCommitRule v s).2 = memView s := by
  unfold svnCommitRule
  split <;> rfl

theorem memView_snapTake (t : State) : memView (snapTakeRule 1 t).2 = memView t := rfl

theorem memView_fabricLock : memView (fabricLockRule 1 s).2 = memView s := rfl

theorem memView_mrExtend (r data : Nat) : memView (mrExtendRule r data s).2 = memView s := by
  unfold mrExtendRule
  split <;> rfl

theorem memView_basisLoad (n v : Nat) : memView (basisLoadRule n v s).2 = memView s := by
  unfold basisLoadRule
  split <;> rfl

/-! ### Outcomes -/

/-- The next state, where there is one, shows the memories of s. -/
def KeepsMemory (s : State) (r : Res) : Prop := ∀ t, r = .next t → memView t = memView s

theorem KeepsMemory.next {t} (h : memView t = memView s) : KeepsMemory s (.next t) := by
  rintro u ⟨⟩
  exact h

theorem KeepsMemory.stay : KeepsMemory s (.next s) := .next rfl

theorem KeepsMemory.ite {c : Prop} [Decidable c] {r r'} (h : KeepsMemory s r) (h' : KeepsMemory s r') :
    KeepsMemory s (if c then r else r') := by
  split
  · exact h
  · exact h'

/-- A dictionary write keeps the memories if its rule does. -/
theorem KeepsMemory.odRun {src e n len value} {rule : State → Nat × State} (hrule : ∀ t, memView (rule t).2 = memView t) :
    KeepsMemory s (odRun s src e n len value rule) := by
  unfold Machine.odRun
  split
  · exact .stay
  · split
    · exact .next (by simp)
    · split
      · exact .next (by simp)
      · refine .next ((memView_answer ..).trans (memView_ite (hrule s) ?_))
        exact (memView_noteWrite ..).trans (hrule s)

theorem KeepsMemory.odCmd {src e n value} {rule : State → Nat × State} (hrule : ∀ t, memView (rule t).2 = memView t) :
    KeepsMemory s (odCmd s src e n value rule) := .odRun hrule

/-- A debug command keeps the memories if its effect does. -/
theorem KeepsMemory.dbgRun {w reads check} {eff : State → State} (heff : ∀ t, memView (eff t) = memView t) :
    KeepsMemory s (dbgRun s w reads check eff) := by
  unfold Machine.dbgRun
  refine .ite .stay (.ite (.next rfl) ?_)
  split
  · exact .next rfl
  · split
    · exact .next rfl
    · exact .next (heff s)

/-! ### Commands -/

theorem KeepsMemory.execOdRead {src txn index sub off len} : KeepsMemory s (execOdRead src txn index sub off len s) := by
  unfold Machine.execOdRead
  extract_lets r new others s1
  have h1 : memView s1 = memView s := rfl
  refine .ite .stay (.ite (.ite (.next (by simp)) (.next (by simp [h1]))) ?_)
  split <;> exact .next (by simp)

theorem KeepsMemory.execWakeTimer : KeepsMemory s (execWakeTimer s) :=
  .ite .stay (.next (calc
    memView { wakeBy 5 s with pwr := { (wakeBy 5 s).pwr with timer := 0 } }
    _ = memView (wakeBy 5 s) := rfl
    _ = memView s := memView_wakeBy 5))

theorem KeepsMemory.execCalliopePattern {p} : KeepsMemory s (execCalliopePattern p s) :=
  .ite .stay (.ite (.next rfl) (.ite .stay (.ite (.next (by simp)) (.next (by simp)))))

theorem KeepsMemory.execWakeComplete {die} : KeepsMemory s (execWakeComplete die s) := by
  unfold Machine.execWakeComplete
  extract_lets _ s1
  have h1 : memView s1 = memView s := rfl
  exact .ite .stay (.ite (.next (memView_ite rfl rfl))
    (.ite (.next h1) (.next ((foldl_keeps memView (fun _ => memView_wakePort) _).trans h1))))

theorem KeepsMemory.execTapInstructionLoad {code now} : KeepsMemory s (execTapInstructionLoad code now s) := by
  unfold Machine.execTapInstructionLoad
  extract_lets _ s1 r
  have hr : memView r.2 = memView s1 := memView_challengeNow now
  exact .ite .stay (.ite (.next hr) (.next rfl))

theorem KeepsMemory.execModuleRequestWake {src} : KeepsMemory s (execModuleRequestWake src s) :=
  .odCmd fun _ => memView_moduleRequestWake

theorem KeepsMemory.execDbgNop {w} : KeepsMemory s (execDbgNop w s) := .dbgRun fun _ => rfl
theorem KeepsMemory.execDbgRead32 {w} : KeepsMemory s (execDbgRead32 w s) := .dbgRun fun _ => rfl
theorem KeepsMemory.execDbgHalt {w} : KeepsMemory s (execDbgHalt w s) := .dbgRun fun _ => memView_ite rfl rfl
theorem KeepsMemory.execDbgResume {w} : KeepsMemory s (execDbgResume w s) := .dbgRun fun _ => rfl
theorem KeepsMemory.execDbgStep {w} : KeepsMemory s (execDbgStep w s) := .dbgRun fun _ => memView_ite rfl rfl
theorem KeepsMemory.execDbgStatus {w} : KeepsMemory s (execDbgStatus w s) := .dbgRun fun _ => rfl
theorem KeepsMemory.execDbgSetBp {w} : KeepsMemory s (execDbgSetBp w s) := .dbgRun fun _ => rfl
theorem KeepsMemory.execDbgClearBp {w} : KeepsMemory s (execDbgClearBp w s) := .dbgRun fun _ => rfl

theorem KeepsMemory.execMrExtend {src r data} : KeepsMemory s (execMrExtend src r data s) :=
  .odRun fun _ => memView_mrExtend r _

theorem KeepsMemory.execSpdmRequest {code offered} : KeepsMemory s (execSpdmRequest code offered s) :=
  .ite .stay (.ite (.next rfl) (.next (memView_ite memView_useAlias rfl)))

theorem KeepsMemory.execKSetGo {stream} : KeepsMemory s (execKSetGo stream s) := by
  unfold Machine.execKSetGo
  refine .ite .stay ?_
  split
  · exact .next rfl
  · exact .stay

theorem KeepsMemory.execSnapshotTake {viaOd} : KeepsMemory s (execSnapshotTake viaOd s) := by
  cases viaOd with
  | some src => exact .odCmd memView_snapTake
  | none => exact .ite (.next rfl) .stay

theorem KeepsMemory.regData {t : State} {v} (ht : memView t = memView s) :
    KeepsMemory s (.next (emit (linkWork t) (.regData v))) := .next ht

theorem KeepsMemory.execRegisterRead {r} : KeepsMemory s (execRegisterRead r s) := by
  cases r with
  | bar0 f off size =>
    have hread : memView (bar0Read s f off size).2 = memView s := memView_bar0Read f off size
    exact .ite .stay (.ite (.regData rfl) (.regData hread))
  | bar2 off size =>
    have hfresh (t : State) : memView (freshNext t) = memView t := rfl
    exact .ite .stay (.ite (.regData rfl) (.regData ((hfresh _).trans (memView_readWords ..))))

/-- Every register command, by its arm of `exec`. -/
theorem KeepsMemory.exec {c : Instr} (hc : registerOnly c = true) : KeepsMemory s (exec c s) := by
  cases c with
  | locateWrite => exact .odCmd fun _ => rfl
  | odRead => exact .execOdRead
  | odReadCopyLapse => exact .ite .stay (.next rfl)
  | odStagingTimeout => exact .ite .stay (.next rfl)
  | mbDoorbell => exact .ite .stay (.ite (.next rfl) (.next rfl))
  | engineGate => exact .ite .stay (.next rfl)
  | enginePowerUp => exact .ite .stay (.next rfl)
  | wakeN => exact .ite (.next (memView_wakeBy 1)) .stay
  | wakeTimer => exact .execWakeTimer
  | managementWakePacket => exact .next (memView_wakeBy 3)
  | calliopePattern => exact .execCalliopePattern
  | peerWake src mask => exact .odCmd fun _ => memView_peerWake mask
  | moduleRequestWake => exact .execModuleRequestWake
  | dieRequestWake src die => exact .odCmd fun _ => memView_dieRequestWake die
  | wakeComplete => exact .execWakeComplete
  | pwrGoodAssert => exact .ite (.next rfl) .stay
  | auxiliaryRailValid => exact .next rfl
  | auxiliaryRailLoss => exact .next rfl
  | refclkStable => exact .next rfl
  | refclkLoss => exact .next rfl
  | alwaysOnTrim => exact .ite (.next rfl) .stay
  | overTemperatureComparator => exact .ite (.next rfl) .stay
  | presencePress => exact .ite (.next rfl) .stay
  | locateAcknowledgementEnd => exact .ite .stay (.next rfl)
  | ledActTimeout => exact .ite .stay (.next rfl)
  | tapReset => exact .ite (.next rfl) .stay
  | tapInstructionLoad => exact .execTapInstructionLoad
  | dbgNop => exact .execDbgNop
  | dbgRead32 => exact .execDbgRead32
  | dbgHalt => exact .execDbgHalt
  | dbgResume => exact .execDbgResume
  | dbgStep => exact .execDbgStep
  | dbgStatus => exact .execDbgStatus
  | dbgSetBp => exact .execDbgSetBp
  | dbgClearBp => exact .execDbgClearBp
  | linkWidthReduction => exact .ite (.next rfl) .stay
  | aspmL1Entry => exact .ite (.next rfl) .stay
  | lockInterface => exact .ite .stay (.ite (.next rfl) (.next rfl))
  | startInterface => exact .ite .stay (.ite (.next rfl) (.next rfl))
  | getDeviceInterfaceReport => exact .ite (.next rfl) .stay
  | spdmRequest => exact .execSpdmRequest
  | kSetGo => exact .execKSetGo
  | ideStreamTlp => exact .ite (.next rfl) .stay
  | snapshotTake => exact .execSnapshotTake
  | registerRead => exact .execRegisterRead
  | fabricLock => exact .odCmd fun _ => memView_fabricLock
  | svnCommit src v => exact .odCmd fun _ => memView_svnCommit v
  | mrExtend => exact .execMrExtend
  | basisLoad src n v => exact .odCmd fun _ => memView_basisLoad n v
  | _ => exact absurd hc Bool.false_ne_true

/-- Settles O59: each register command's arm keeps the view of the memories, whose parts are the statement's. -/
theorem registerCommandsKeepMemory : Obligations.RegisterCommandsKeepMemory := by
  unfold Obligations.RegisterCommandsKeepMemory
  intro c s t hc ht
  have h : memView t = memView s := KeepsMemory.exec hc t ht
  simp only [memView, Prod.mk.injEq] at h
  obtain ⟨hhost, hvm, hloft, htiles, hdescs, hfuses⟩ := h
  exact ⟨hhost, hvm, hloft, htiles, hdescs, congrArg (fun x : Fuses => { x with svnFloor := t.fuses.svnFloor }) hfuses⟩

end Sys2Proof.Machine
end

section
/-! SUPPORT. Writes and reads of the dictionary and of the BARs (R31, R278, R529 to R531, R541 to R549), and O55. -/

namespace Sys2Proof.Machine
open Sys2Proof

variable {s : State}

/-! ### Dictionary writes (R541, R546, R547) -/

/-- A write that passes the checks of R600, and whose rule answers OK, takes the rule's effect. -/
theorem odRun_of_accepted {src e n len v} {rule : State → Nat × State} (h : AcceptedLen s src e n len v)
    (hok : (rule s).1 = stOk) : odRun s src e n len v rule = .next (answer (rule s).2 src stOk) := by
  obtain ⟨hlive, hearly, hlate⟩ := h
  simp [odRun, hlive, hearly, hlate, hok]

theorem writeRule_of_no_rule {src e n j v} (hcode : codeRule src e n v = none) (hconf : (configRule e n j v).isNone = true) :
    writeRule src e n j v = storeRule e n j v := by
  simp [writeRule, hcode, Option.isNone_iff_eq_none.1 hconf]

/-- An entry without a rule of its own stores the value. -/
theorem odWrite_stores {src index sub len v e} (he : odFind index sub = some e) (hown : ownCommand e = false)
    (hfirst : e ≠ eTileFirst) (hcount : e ≠ eTileCount) (hcode : codeRule src e (recordNo src e index) v = none)
    (hconf : (configRule e (recordNo src e index) (sub - e.subLo) v).isNone = true)
    (hacc : AcceptedLen s src e (recordNo src e index) len v) :
    odWrite s src index sub len v = .next (answer (wrEj s e (recordNo src e index) (sub - e.subLo) v) src stOk) := by
  simp only [odWrite, he, hown, hfirst, hcount, Bool.false_eq_true, or_self, if_false]
  rw [writeRule_of_no_rule hcode hconf]
  exact odRun_of_accepted hacc rfl

theorem odWrite_unknown {src index sub len v} (he : odFind index sub = none) (hlive : srcLive s src = true) :
    odWrite s src index sub len v =
      .next (answer s src (if sub = 0 ∧ (odHighest index).isSome = true then stAccess else stUnsupported)) := by
  simp [odWrite, he, hlive]

/-! ### Writes of BAR0 and BAR2 (R529, R530, R543) -/

theorem cq_setCq_ne {f p q : Nat} (c : Cq) (h : q ≠ p) : cq (setCq s f q c) f p = cq s f p := by
  simp only [cq, setCq]
  exact tget_tset_ne _ _ _ (by omega)

/-- An 8-byte write of CQ_BASE sets it whole. -/
theorem bar0Write_cqBase {f q v : Nat} (hq : q < 64) (ha : bar0Answers s f (0x1000 + 64 * q) = true) :
    bar0Write s f (0x1000 + 64 * q) 8 v = setCq s f q { cq s f q with base := v % 2 ^ 64 } := by
  have hwide : wide0 (0x1000 + 64 * q) = true := by simp [wide0]; omega
  have hindex : (0x1000 + 64 * q - 0x1000) / 64 = q := by omega
  have hmbox : ¬ (0x800000 ≤ 0x1000 + 64 * q ∧ 0x1000 + 64 * q + 8 ≤ 0x801000) := by omega
  have hwin : ¬ (0x1000000 ≤ 0x1000 + 64 * q ∧ 0x1000 + 64 * q + 8 ≤ 0x1400000) := by omega
  have halign : (0x1000 + 64 * q) % 8 = 0 := by omega
  simp only [bar0Write, ha, hwide, hindex, hmbox, hwin, halign, Bool.true_eq_false, and_self, if_true, if_false]

/-- A write inside the boot window, while the boot waits for an image that the management port has not claimed. -/
theorem bar0Write_bootWindow {a size v : Nat} (hst : s.boot.st = 1) (hclaim : s.boot.claim ≠ 2) (hend : a + size ≤ 0x400000)
    (ha : bar0Answers s 0 (0x1000000 + a) = true) :
    bar0Write s 0 (0x1000000 + a) size v = { s with boot := { s.boot with
      claim := 1
      win := mwr s.boot.win a size (v % 2 ^ (8 * size))
      written := max s.boot.written (a + size) } } := by
  have hmbox : ¬ (0x800000 ≤ 0x1000000 + a ∧ 0x1000000 + a + size ≤ 0x801000) := by omega
  have hwin : 0x1000000 ≤ 0x1000000 + a ∧ 0x1000000 + a + size ≤ 0x1400000 := by omega
  have hrel : 0x1000000 + a - 0x1000000 = a := by omega
  have hopen : ¬ (s.boot.st ≠ 1 ∨ s.boot.claim = 2) := by simp [hst, hclaim]
  simp only [bar0Write, ha, hmbox, hwin, hrel, bootWindowWrite, hopen, Bool.true_eq_false, and_self, if_true, if_false]

/-- A threshold of a switch takes the low 13 bits. -/
theorem bar2Write_threshold {w v : Nat} (hw : w = 8 ∨ w = 9) :
    bar2Write s (w * 0x1000000 + 0x52000) 4 v = wrB s (w * 0x1000000 + 0x52000) 0 (v % 2 ^ 32 % 2 ^ 13) := by
  obtain rfl | rfl := hw <;> simp [bar2Write, bar2Write32]

/-! ### Configuration writes (R529, R535, R536) -/

/-- Pending messages leave without a change of Memory Space Enable or of a D-state. -/
theorem flushMsix_space (f : Nat) :
    ((flushMsix s f).pcie.memOn, (flushMsix s f).pcie.vfD3) = (s.pcie.memOn, s.pcie.vfD3) := by
  unfold flushMsix
  refine foldl_keeps (fun t : State => (t.pcie.memOn, t.pcie.vfD3)) (fun t v => ?_) _
  split <;> rfl

theorem setMemSpace_memOn (f : Nat) (on : Bool) : (setMemSpace s f on).pcie.memOn =
    if on then s.pcie.memOn.filter (· != f) ++ [f] else s.pcie.memOn.filter (· != f) :=
  (Prod.mk.inj (flushMsix_space f)).1

theorem setVfD_vfD3 (f d : Nat) : (setVfD s f d).pcie.vfD3 =
    if d = 0 then s.pcie.vfD3.filter (· != f) else s.pcie.vfD3.filter (· != f) ++ [f] :=
  (Prod.mk.inj (flushMsix_space f)).2

/-- Where neither the stream's function nor the new one is locked, the stream is bound. -/
theorem bindStream_of_unlocked {k f : Nat} (hf : f < 64) (hnew : tdispLocked s f = false)
    (hold : ∀ g, streamFn s k = some g → tdispLocked s g = false) :
    bindStream s k f = { s with pcie := { s.pcie with streams := tset s.pcie.streams 0 k (f + 1) } } := by
  unfold bindStream
  cases hk : streamFn s k with
  | none => simp [hf, hnew]
  | some g => simp [hf, hnew, hold g hk]

/-! ### Segments (R548) -/

/-- A first segment of len bytes at offset off. -/
theorem putBits_zero_segment {off len v : Nat} (hlen : len ≠ 0) :
    putBits 0 (8 * (off + len) - 1) (8 * off) (v % 2 ^ (8 * len)) = v % 2 ^ (8 * len) * 2 ^ (8 * off) := by
  have hwidth : 8 * (off + len) - 1 + 1 - 8 * off = 8 * len := by omega
  simp [putBits, bits, hwidth]

/-- A request of another source or TRANSACTION. -/
theorem otherRequest_iff {x src : Src} {y txn : Nat} : (!(x == src && y == txn)) = true ↔ ¬ (x = src ∧ y = txn) := by
  simp only [Bool.not_eq_true', ← Bool.not_eq_true, Bool.and_eq_true, beq_iff_eq]

theorem dropStaging_of_none {src txn} (h : stagingOf s src txn = none) : dropStaging s src txn = s := by
  have hkeep : s.staging.filter (fun x => !(x.src == src && x.txn == txn)) = s.staging :=
    List.filter_eq_self.2 fun x hx => by
      simpa only [Bool.not_eq_true', Bool.not_eq_true] using List.find?_eq_none.1 h x hx
  rw [dropStaging, hkeep]

theorem claimImage_of_ne (src : Src) {index : Nat} (h : index ≠ 0x1F00) : claimImage s src index = s := by
  simp [claimImage, h]

/-! ### Register reads (R31, R278, R529, R543) -/

/-- A 4-byte read of a register that is not 64 bits wide. -/
theorem readWords_narrow {key off : Nat} {wide : Nat → Bool} {word : Nat → Nat} (halign : off % 8 = 0)
    (hwide : wide off = false) :
    readWords s key off 4 wide word = (word off % 2 ^ 32, s) := by
  have hodd : off % 8 ≠ 4 := by omega
  have hword : off / 4 * 4 = off := by omega
  have hbyte : off % 4 = 0 := by omega
  simp [readWords, hwide, hodd, hword, hbyte]

theorem bar0Answers_of_up {f : Nat} (off : Nat) (hlive : readLive s f = true) (hup : bar0Up s f = true) :
    bar0Answers s f off = true := by
  simp only [readLive, Bool.and_eq_true] at hlive
  simp [bar0Answers, hlive, hup]

theorem ownsCounter_lt {f c : Nat} (h : ownsCounter s f c = true) : c < 16384 := by
  simp only [ownsCounter, Bool.and_eq_true, decide_eq_true_eq] at h
  exact h.1

/-- A read of a sync counter's word is a read of the counter's owner, or a foreign one. -/
theorem foreignRead_counter {f c : Nat} (hc : c < 16384) : foreignRead s f (0x200000 + 8 * c) =
    if ownsCounter s f c = false then some (bumpE s eSynForeign 0) else none := by
  have hsyn : 0x200000 ≤ 0x200000 + 8 * c ∧ 0x200000 + 8 * c < 0x220000 := by omega
  have hep : ¬ 0x300000 ≤ 0x200000 + 8 * c := by omega
  simp [foreignRead, hsyn, hep]

theorem bar0Word_counter {f c : Nat} (hc : c < 16384) : bar0Word s f (0x200000 + 8 * c) = synGet s c := by
  have hindex : (0x200000 + 8 * c - 0x200000) / 8 = c := by omega
  have hsyn : 0x200000 ≤ 0x200000 + 8 * c ∧ 0x200000 + 8 * c < 0x220000 := by omega
  have halign : (0x200000 + 8 * c) % 8 = 0 := by omega
  unfold bar0Word
  simp only [hindex, hsyn, halign]
  repeat rw [if_neg (by omega)]
  simp

/-- A read of a sync counter: its value for the owner, 0 and a count for another function. -/
theorem bar0Read_counter {f c : Nat} (hc : c < 16384) (hlive : readLive s f = true) (hup : bar0Up s f = true) :
    bar0Read s f (0x200000 + 8 * c) 4 =
      if ownsCounter s f c = false then (0, bumpE s eSynForeign 0) else (synGet s c % 2 ^ 32, s) := by
  have hmbox : ¬ (0x800000 ≤ 0x200000 + 8 * c ∧ 0x200000 + 8 * c < 0x802000) := by omega
  have hwin : ¬ (0x1000000 ≤ 0x200000 + 8 * c ∧ 0x200000 + 8 * c < 0x1400000) := by omega
  have hwide : wide0 (0x200000 + 8 * c) = false := by simp [wide0]; omega
  have hword : readWords s (2 ^ 40 + f * 2 ^ 32) (0x200000 + 8 * c) 4 wide0 (bar0Word s f) = (synGet s c % 2 ^ 32, s) := by
    rw [readWords_narrow (by omega) hwide, bar0Word_counter hc]
  simp only [bar0Read, bar0Answers_of_up _ hlive hup, hmbox, hwin, hup, foreignRead_counter hc, hword,
    Bool.true_eq_false, if_true, if_false]
  cases ownsCounter s f c <;> rfl

/-- A read outside the event queues returns what BAR0 holds there. -/
theorem execRegisterRead_bar0 {f off size : Nat} (hlive : readLive s f = true) (hoff : off < 0x400000) :
    execRegisterRead (.bar0 f off size) s =
      .next (emit (linkWork (bar0Read s f off size).2) (.regData (bar0Read s f off size).1)) := by
  have hevq : ¬ (bar0Up s f = true ∧ 0x400000 ≤ off ∧ off < 0x404000) := by omega
  simp [execRegisterRead, hlive, hevq]

theorem execRegisterRead_counter {f c : Nat} (hc : c < 16384) (hlive : readLive s f = true) (hup : bar0Up s f = true) :
    execRegisterRead (.bar0 f (0x200000 + 8 * c) 4) s = .next (if ownsCounter s f c = false
      then emit (linkWork (bumpE s eSynForeign 0)) (.regData 0) else emit (linkWork s) (.regData (synGet s c % 2 ^ 32))) := by
  rw [execRegisterRead_bar0 hlive (by omega), bar0Read_counter hc hlive hup]
  split <;> rfl

theorem execRegisterRead_rngStatus (hlive : readLive s 0 = true) (hrun : running s = true) :
    execRegisterRead (.bar2 0x240000 4) s = .next (emit (linkWork (freshNext s)) (.regData (rngStatus s % 2 ^ 32))) := by
  have hread : readWords s 0 0x240000 4 wide2 (bar2Word s) = (rngStatus s % 2 ^ 32, s) := by
    rw [readWords_narrow (by decide) (by decide)]
    simp [bar2Word, rtWord, rngWord]
  simp [execRegisterRead, hlive, hrun, hread]

/-! ### The arms of OD_WRITE_ENTRY -/

theorem exec_bar0Write {f off size v : Nat} :
    exec (.odWriteEntry (.bar0 f off size v)) s = .next (bar0Write s f off size v) := rfl

theorem exec_bar2Write {off size v : Nat} (hup : bar2Up s = true) :
    exec (.odWriteEntry (.bar2 off size v)) s = .next (bar2Write s off size v) := by
  simp [exec, execOdWriteEntry, hup]

theorem exec_memSpaceWrite {f : Nat} {on : Bool} (hf : fnExists s f = true) (hfrozen : s.pwr.frozen = false)
    (hreset : s.pwr.inReset = false) : exec (.odWriteEntry (.memSpace f on)) s = .next (setMemSpace s f on) := by
  simp [exec, execOdWriteEntry, hf, hfrozen, hreset]

theorem exec_dstateWrite {f d : Nat} (hvf : f ≠ 0) (hf : fnExists s f = true) (hfrozen : s.pwr.frozen = false)
    (hreset : s.pwr.inReset = false) : exec (.odWriteEntry (.dstate f d)) s = .next (setVfD s f d) := by
  simp [exec, execOdWriteEntry, hvf, hf, hfrozen, hreset]

theorem exec_ideWrite {k f : Nat} (hrt : rtUp s = true) : exec (.odWriteEntry (.ide k f)) s = .next (bindStream s k f) := by
  simp [exec, execOdWriteEntry, hrt]

/-! ### The statement -/

/-- Settles O55: one lemma above says what each kind of write and read answers; the clauses read it off. -/
theorem dictionaryReadsAndWrites : Obligations.DictionaryReadsAndWrites := by
  unfold Obligations.DictionaryReadsAndWrites
  refine ⟨?entry, ?unknown, ?cqBase, ?bootWindow, ?memSpace, ?dstate, ?ide, ?threshold, ?readFirst, ?readRefused, ?readLater,
    ?copyLapse, ?segment, ?lastSegment, ?lapsedSegment, ?stagingTimeout, ?counter, ?foreignCounter, ?notRunning, ?rngStatus,
    ?doorbell, ?badDoorbell⟩
  case entry =>
    intro src index sub len v e s he hown hfirst hcount hcode hconf hacc
    exact ⟨_, odWrite_stores he hown hfirst hcount hcode hconf hacc, rfl, rdEj_wrEj_same ..⟩
  case unknown =>
    intro src index sub len v s he hlive
    exact odWrite_unknown he hlive
  case cqBase =>
    intro f q v s hq ha
    rw [exec_bar0Write, bar0Write_cqBase hq ha]
    exact ⟨_, rfl, rfl, cq_setCq .., fun p _ hne => cq_setCq_ne _ hne.symm⟩
  case bootWindow =>
    intro a size v s hst hclaim hend _ ha
    rw [exec_bar0Write, bar0Write_bootWindow hst hclaim hend ha]
    refine ⟨_, rfl, rfl, rfl, ?_⟩
    rw [mrd_mwr_same, Nat.mod_mod]
  case memSpace =>
    intro f on s hf hfrozen hreset
    refine ⟨_, exec_memSpaceWrite hf hfrozen hreset, ?_⟩
    rw [setMemSpace_memOn]
    refine ⟨?_, fun g hg => ?_⟩
    · cases on <;> simp
    · cases on <;> simp [hg]
  case dstate =>
    intro f d s hvf hf hfrozen hreset
    refine ⟨_, exec_dstateWrite hvf hf hfrozen hreset, ?_⟩
    rw [setVfD_vfD3]
    refine ⟨?_, fun g hg => ?_⟩
    · split <;> simp [*]
    · split <;> simp [hg]
  case ide =>
    intro k f s hrt hf hnew hold
    rw [exec_ideWrite hrt, bindStream_of_unlocked hf hnew hold]
    refine ⟨_, rfl, ?_, fun j hj => ?_⟩
    · simp [streamFn]
    · simp [streamFn, tget_tset_ne _ _ _ hj.symm]
  case threshold =>
    intro w v s hup hw
    rw [exec_bar2Write hup, bar2Write_threshold hw]
    refine ⟨_, rfl, rfl, ?_⟩
    rw [rdB, wrB, tget_tset_same, Nat.mod_mod_of_dvd _ (by decide)]
  case readFirst =>
    intro src txn index sub len v n s hlive hchal hlook
    refine ⟨freshNext { s with copies := s.copies.filter (fun c => c.src != src) ++ [{ src, txn, value := v, len := n }] },
      ?_, rfl, rfl, ?_⟩
    · simp [exec, execOdRead, hlive, hchal, hlook]
    · simp [freshNext]
  case readRefused =>
    intro src txn index sub len st v n s hlive hchal hlook hst
    simp [exec, execOdRead, hlive, hchal, hlook, hst]
  case readLater =>
    intro src txn index sub off len s hlive hchal hoff
    simp only [exec, execOdRead, hlive, hchal, hoff]
    cases s.copies.find? (fun c => c.src == src && c.txn == txn) <;> rfl
  case copyLapse =>
    intro src txn s hfrozen
    refine ⟨_, if_neg (by simp [hfrozen]), rfl, fun c => ?_⟩
    rw [List.mem_filter, otherRequest_iff]
  case segment =>
    intro src txn index sub off len v s hlive hnone hlen hmax hindex
    have hfits : ¬ maxData s src < len := Nat.not_lt.2 hmax
    refine ⟨_, ?_, rfl⟩
    simp [exec, execOdWriteSegment, hlive, hnone, hfits, stageAdd, hlen, putBits_zero_segment hlen, dropStaging_of_none hnone,
      claimImage_of_ne src hindex]
  case lastSegment =>
    intro src txn off len v x s hlive hx hlapsed hlen hmax hindex
    have hfits : ¬ maxData s src < len := Nat.not_lt.2 hmax
    simp [exec, execOdWriteEntry, execOdWriteSegment, hlive, hx, hlapsed, hfits, stageAdd, hlen, claimImage_of_ne src hindex]
  case lapsedSegment =>
    intro src txn index sub off len v x s hlive hx hlapsed hoff
    simp [exec, execOdWriteSegment, hlive, hx, hlapsed, hoff]
  case stagingTimeout =>
    intro src txn s hfrozen
    refine ⟨_, if_neg (by simp [hfrozen]), rfl, fun x hx hsrc htxn => ?_⟩
    obtain ⟨y, -, rfl⟩ := List.mem_map.1 hx
    by_cases hy : y.src = src ∧ y.txn = txn
    · simp [hy]
    · simp [hy] at hsrc htxn
      exact absurd ⟨hsrc, htxn⟩ hy
  case counter =>
    intro f c s hlive hup hown
    refine ⟨_, execRegisterRead_counter (ownsCounter_lt hown) hlive hup, ?_⟩
    simp [hown, emit, linkWork]
  case foreignCounter =>
    intro f c s hlive hup hc hown
    refine ⟨_, execRegisterRead_counter hc hlive hup, ?_⟩
    rw [if_pos hown]
    exact ⟨rfl, rdE_addE_same ..⟩
  case notRunning =>
    intro off size s hlive hrun
    exact ⟨emit (linkWork s) (.regData 0), by simp [exec, execRegisterRead, hlive, hrun], rfl⟩
  case rngStatus =>
    intro s hlive hrun
    exact ⟨_, execRegisterRead_rngStatus hlive hrun, rfl⟩
  case doorbell =>
    intro f len s hup hf hbad
    refine ⟨setMbox s f { mboxOf s f with busy := true, respValid := false }, ?_, rfl, mboxOf_setMbox ..⟩
    simp [exec, execMbDoorbell, hup, hf, hbad]
  case badDoorbell =>
    intro f len s hup hf hbad
    refine ⟨setMbox s f { mboxOf s f with overruns := satAdd 0xFFFFFFFF (mboxOf s f).overruns 1 }, ?_, mboxOf_setMbox .., rfl⟩
    simp [exec, execMbDoorbell, hup, hf, hbad]

end Sys2Proof.Machine
end

section
/-! SUPPORT. What the Masked descriptors, the binding of a share buffer and a share leave in their context (R98 to R118). -/

namespace Sys2Proof.Machine
open Sys2Proof

/-! ### Tables and running descriptors -/

@[simp] theorem tfind_tput_same {α : Type} (t : Tbl α) (k : Nat) (v : α) : tfind (tput t k v) k = some v := by
  induction t with
  | nil => simp [tput, tfind]
  | cons c r ih =>
    unfold tput
    split
    · simp [tfind]
    · split
      · simp [tfind]
      · rename_i hne
        simp [tfind, hne, ih]

/-- A list and the values of another that it lacks hold the values of both. -/
theorem mem_append_new {l new : List Nat} {x : Nat} : x ∈ l ++ new.filter (fun y => !l.contains y) ↔ x ∈ l ∨ x ∈ new := by
  by_cases h : x ∈ l <;> simp [h]

/-- Without a hardware error a running descriptor has its effect. -/
theorem runDescE_of_runs {s : State} {i op : Nat} {d : Desc} {eff : Desc → State → State} {err : Desc → HwErr → State → State}
    (h : Runs s i op d) : runDescE s i op .none eff err = .next (eff d s) := by
  obtain ⟨hd, hop, hrun, hstall⟩ := h
  simp [runDescE, hd, hop, hrun, hstall]

theorem runDescIf_of_runs {s : State} {i op : Nat} {d : Desc} {sel : Desc → Bool} {eff : Desc → State → State}
    {err : Desc → HwErr → State → State} (h : Runs s i op d) (hsel : sel d = true) :
    runDescIf s i op sel .none eff err = .next (eff d s) := by
  simp only [runDescIf, h.1, hsel, if_true, runDescE_of_runs h]

/-! ### DERIVE (R98, R114) -/

theorem take_prgElems (s : State) (d : Desc) : (prgElems s d).take (df d 44 4) = prgElems s d :=
  List.take_of_length_le (by simp [prgElems])

@[simp] theorem cx_storeElem (s : State) (n i m : Nat) : cx (storeElem s n i) m = cx s m := by simp [storeElem]

/-- DERIVE of every named element: those not derived before join the derived ones. -/
theorem derived_deriveElems (s : State) (d : Desc) :
    (cx (deriveElems s d (df d 44 4)) (dCtx d)).derived =
      (cx s (dCtx d)).derived ++ (prgElems s d).filter (fun x => !(cx s (dCtx d)).derived.contains x) := by
  have hstore : cx ((prgElems s d).foldl (fun t x => storeElem t (dCtx d) x) s) (dCtx d) = cx s (dCtx d) :=
    foldl_keeps (cx · (dCtx d)) (fun t x => cx_storeElem t (dCtx d) x (dCtx d)) _
  simp only [deriveElems, take_prgElems, wrE_frame, cx_setCx]
  rw [hstore]

theorem rdE_deriveElems (s : State) (d : Desc) (k : Nat) :
    rdE (deriveElems s d k) eDerived (dCtx d) = (cx (deriveElems s d k) (dCtx d)).derived.length := by
  simp [deriveElems]

/-! ### Share buffers (R99, R103, R104) -/

@[simp] theorem bufs_setBuf (s : State) (n b : Nat) (x : ShareBuf) : (cx (setBuf s n b x) n).bufs = tput (cx s n).bufs b x := by
  simp [setBuf]

@[simp] theorem bindWait_setBuf (s : State) (n b : Nat) (x : ShareBuf) : (cx (setBuf s n b x) n).bindWait = (cx s n).bindWait := by
  simp [setBuf]

@[simp] theorem keyOf_setBuf (s : State) (n b : Nat) (x : ShareBuf) (k : Nat) : keyOf (setBuf s n b x) k = keyOf s k := by
  simp [setBuf]

@[simp] theorem sent_setBuf (s : State) (n b : Nat) (x : ShareBuf) : (setBuf s n b x).sent = s.sent := by simp [setBuf]

theorem markChunks_of_bufOf {s : State} {d : Desc} {b : Nat × ShareBuf} (h : bufOf s (dCtx d) (df d 36 4) = some b) :
    markChunks s d (maskNames s d).length = setBuf s (dCtx d) b.1 { b.2 with
      expanded := b.2.expanded ++ (maskNames s d).filter (fun c => !b.2.expanded.contains c) } := by
  simp only [markChunks, h, List.take_length]

/-- The binding takes the cohort off the list of those that wait, and its buffer holds the header alone. -/
theorem bindBuf_cx (s : State) (n k b : Nat) :
    (cx (bindBuf s n k b) n).bindWait = (cx s n).bindWait.filter (· != k) ∧
      (cx (bindBuf s n k b) n).bufs =
        tput (cx s n).bufs b { cohort := k, survivors := survivors s n k, digest := survivorDigest s n k } := by
  simp [bindBuf]

theorem execShareBufferBind_binds {s : State} {n k b : Nat} {rest : List Nat} (hfrozen : s.pwr.frozen = false)
    (hwait : (cx s n).bindWait = k :: rest) (hmin : rdE s eMinSurvivors n ≤ survivors s n k)
    (hfree : (List.range (cfgE s eShareBuffers n)).find? (fun b => (tfind (cx s n).bufs b).isNone) = some b) :
    execShareBufferBind n s = .next (bindBuf s n k b) := by
  simp [execShareBufferBind, hfrozen, hwait, Nat.not_lt.2 hmin, hfree]

/-! ### Shares (R106) -/

/-- The buffer b with the share m of the member with a key hash stored. -/
def withShare (b : ShareBuf) (m : ShareMsg) (hash : Nat) : ShareBuf :=
  { b with stored := tput b.stored m.member m.coeffs, storedBy := tput b.storedBy m.member hash }

/-- The state that holds an accepted share, before its answer. -/
def shareStored (s : State) (key : Nat) (m : ShareMsg) (b : Nat × ShareBuf) : State :=
  let n := (keyOf s key).ctx
  bumpE (setBuf s n b.1 (withShare b.2 m (keyOf s key).peerHash)) eSharesAccepted n

theorem shareIn_accepted {s : State} {key : Nat} {m : ShareMsg} {b : Nat × ShareBuf} (reply : State → Nat → State)
    (hlive : (keyOf s key).st = 1) (hkind : (keyOf s key).kind = 2) (hcheck : shareCheck s key m = none)
    (hb : bufOf s (keyOf s key).ctx m.cohort = some b) : shareIn key m reply s = reply (shareStored s key m b) stOk := by
  simp only [shareIn, hlive, hkind, hcheck, hb, ne_eq, not_true_eq_false, if_false, shareStored, withShare]

theorem replyMsg_ok (s : State) (key : Nat) :
    (replyMsg s key stOk).ctxs = s.ctxs ∧
      (replyMsg s key stOk).sent = s.sent ++
        [.ack key (keyOf s key).dstEp (keyOf s key).localEp (keyOf s key).ctlNext 0 0 0 0 0 0 true] :=
  ⟨rfl, rfl⟩

/-! ### SEED_RECON (R118) -/

theorem execSeedRecon_of_runs {s : State} {i : Nat} {d : Desc} (h : Runs s i 0x21 d) :
    execSeedRecon i .none s = .next (reconEff d s) := by
  rw [execSeedRecon, runDesc, runDescE_of_runs h]

theorem reconEff_agrees {s : State} {d : Desc} {b : Nat × ShareBuf} (hb : bufOf s (dCtx d) (df d 36 4) = some b)
    (hagree : bit (df d 32 1) 0 = false ∨ disagreeing (d.taken.take (latE d eCommitteeThreshold 0)) d.taken = []) :
    reconEff d s = completeDesc (setBuf s (dCtx d) b.1 { b.2 with
      seedSum := seedSumOf (d.taken.take (latE d eCommitteeThreshold 0)), seedDone := true }) d stOk 1 := by
  rcases hagree with h | h <;> simp [reconEff, hb, h]

end Sys2Proof.Machine
end

section
/-! SUPPORT. UNMASK (R120 to R122): the rows that it marks as merged. -/

namespace Sys2Proof.Machine
open Sys2Proof

variable (s : State)

/-! ### What leaves the cohorts of a context alone -/

theorem cohortOf_setCx (n k : Nat) (c : Ctx) : cohortOf (setCx s n c) n k = tget c.cohorts {} k := by simp [cohortOf]

@[simp] theorem cohortOf_setChk (n a v k : Nat) : cohortOf (setChk s n a v) n k = cohortOf s n k := by
  rw [setChk, cohortOf_setCx, cohortOf]

@[simp] theorem cohortOf_flagRow (n r v k : Nat) : cohortOf (flagRow s n r v) n k = cohortOf s n k := by
  simp only [flagRow, wrE_frame]
  rw [cohortOf_setCx, cohortOf]

@[simp] theorem cohortOf_addClearRow (n r : Nat) (xs : List Int) (k : Nat) :
    cohortOf (addClearRow s n r xs) n k = cohortOf s n k := by
  unfold addClearRow
  extract_lets _ _ _ _ _ s1
  have h1 : cohortOf s1 n k = cohortOf s n k := by simp [s1]
  split <;> simp [h1]

theorem cohortOf_scrubRange (n a len m k : Nat) : cohortOf (scrubRange s n a len) m k = cohortOf s m k := rfl

@[simp] theorem cohortOf_dropBuf (n j k : Nat) : cohortOf (dropBuf s n j) n k = cohortOf s n k := by
  simp only [dropBuf, wrE_frame]
  rw [cohortOf_setCx, ← cohortOf, foldl_keeps (cohortOf · n k)]
  exact fun _ _ => cohortOf_scrubRange ..

@[simp] theorem cohortOf_unstage (n : Nat) (p : Nat → Bool) (k : Nat) : cohortOf (unstage s n p) n k = cohortOf s n k := by
  unfold unstage
  extract_lets
  rw [foldl_keeps (cohortOf · n k), cohortOf_setCx, cohortOf]
  exact fun _ _ => rfl

/-! ### Rows of a cohort -/

/-- A cohort that merges keeps the rows it has merged. -/
theorem rowsDone_mergedCohort (n k cnt : Nat) :
    (cohortOf (mergedCohort s n k cnt) n k).rowsDone = (cohortOf s n k).rowsDone := by
  unfold mergedCohort
  extract_lets c s1 s2 _ s3
  have h2 : (cohortOf s2 n k).rowsDone = (cohortOf s n k).rowsDone := by simp [s2, s1, c]
  have h3 : cohortOf s3 n k = cohortOf s2 n k := by
    unfold s3
    split
    · rfl
    · rw [cohortOf_setCx, cohortOf]
  clear_value s3
  rw [← h2, ← h3]
  split
  · rw [cohortOf_setCx, cohortOf]
  · rfl

theorem rowsDone_unmaskRow (d : Desc) (cnt : Nat) (sum : Tbl Nat) (h : Nat) :
    (cohortOf (unmaskRow d cnt sum s h) (dCtx d) (df d 36 4)).rowsDone =
      (cohortOf s (dCtx d) (df d 36 4)).rowsDone ++ [df d 32 1 * 2 ^ 24 + h] := by
  unfold unmaskRow
  extract_lets n k die r beyond s1 s2 c
  have h1 : cohortOf s1 n k = cohortOf s n k := by
    unfold s1
    split <;> simp
  rw [cohortOf_setCohort]
  simp [c, s2, h1, n, k, die]

theorem rowsDone_unmaskRows (d : Desc) (cnt : Nat) (sum : Tbl Nat) (hs : List Nat) :
    (cohortOf (hs.foldl (unmaskRow d cnt sum) s) (dCtx d) (df d 36 4)).rowsDone =
      (cohortOf s (dCtx d) (df d 36 4)).rowsDone ++ hs.map (df d 32 1 * 2 ^ 24 + ·) := by
  induction hs generalizing s with
  | nil => simp
  | cons h hs ih => rw [List.foldl_cons, ih, rowsDone_unmaskRow, List.append_assoc, List.map_cons, List.singleton_append]

/-- The rows merged after UNMASK of the first k named rows are those before it and the named ones that were left. -/
theorem rowsDone_unmaskTo (d : Desc) (k : Nat) :
    (cohortOf (unmaskTo s d k).1 (dCtx d) (df d 36 4)).rowsDone =
      (cohortOf s (dCtx d) (df d 36 4)).rowsDone ++
        ((unmaskRows d k).filter (unmaskTodo s d)).map (df d 32 1 * 2 ^ 24 + ·) := by
  unfold unmaskTo
  extract_lets
  rw [← rowsDone_unmaskRows s d]
  split
  · exact rowsDone_mergedCohort ..
  · rfl

theorem mem_unmaskRows {d : Desc} {x : Nat} : x ∈ unmaskRows d (df d 44 4) ↔ ∃ h < df d 44 4, h + df d 40 4 = x := by
  simp [unmaskRows]

/-- Every row that UNMASK names is merged after it: it was before, or it was left and is merged now. -/
theorem mem_rowsDone_unmaskTo (d : Desc) {h : Nat} (hh : h < df d 44 4) :
    df d 32 1 * 2 ^ 24 + (h + df d 40 4) ∈ (cohortOf (unmaskTo s d (df d 44 4)).1 (dCtx d) (df d 36 4)).rowsDone := by
  rw [rowsDone_unmaskTo, List.mem_append]
  by_cases hdone : df d 32 1 * 2 ^ 24 + (h + df d 40 4) ∈ (cohortOf s (dCtx d) (df d 36 4)).rowsDone
  · exact .inl hdone
  · have htodo : unmaskTodo s d (h + df d 40 4) = true := by simpa [unmaskTodo] using hdone
    exact .inr (List.mem_map_of_mem (List.mem_filter.2 ⟨mem_unmaskRows.2 ⟨h, hh, rfl⟩, htodo⟩))

/-- UNMASK of a SHUT cohort with a buffer, whose named rows agree with their check values, goes through. -/
theorem unmaskEff_of_rowsOk {s : State} {d : Desc} (hshut : (cohortOf s (dCtx d) (df d 36 4)).st = .shut)
    (hbuf : (bufOf s (dCtx d) (df d 36 4)).isSome = true)
    (hrows : ∀ h, h < df d 44 4 → maskedRowOk s d (unmaskSum s d) (h + df d 40 4) = true) :
    unmaskEff d s = completeDesc (unmaskTo s d (df d 44 4)).1 d
      (if (unmaskTo s d (df d 44 4)).2 then stSaturated else stOk) (df d 44 4) := by
  have hagree : ((unmaskRows d (df d 44 4)).filter (unmaskTodo s d)).find?
      (fun h => !maskedRowOk s d (unmaskSum s d) h) = none := by
    refine List.find?_eq_none.2 fun x hx => ?_
    obtain ⟨h, hh, rfl⟩ := mem_unmaskRows.1 (List.mem_filter.1 hx).1
    simp [hrows h hh]
  have hnone : (bufOf s (dCtx d) (df d 36 4)).isNone = false := by simpa using hbuf
  simp only [unmaskEff, hshut, hnone, hagree, bne_self_eq_false, Bool.or_self, Bool.and_false, Bool.false_eq_true, if_false]

end Sys2Proof.Machine
end

section
/-! SUPPORT. O11: the Masked descriptors and messages do their part of the unmasking. -/

namespace Sys2Proof.Machine
open Sys2Proof

/-- Settles O11: a running descriptor answers with its effect; the lemmas above say what each effect leaves in the context. -/
theorem maskedCommandsUnmask : Obligations.MaskedCommandsUnmask := by
  unfold Obligations.MaskedCommandsUnmask
  refine ⟨?derive, ?mask, ?recon, ?unmask, ?bind, ?share⟩
  case derive =>
    intro i s d hruns hmode
    refine ⟨deriveElems s d (df d 44 4), runDescIf_of_runs hruns (by simpa using hmode), fun x => ?_, rdE_deriveElems ..⟩
    rw [derived_deriveElems, mem_append_new]
  case mask =>
    intro i s d b hruns hmode hb
    refine ⟨markChunks s d (maskNames s d).length, runDescIf_of_runs hruns (by simpa using hmode), ?_⟩
    rw [markChunks_of_bufOf hb, bufs_setBuf]
    exact ⟨_, tfind_tput_same .., rfl, rfl, fun y => mem_append_new⟩
  case recon =>
    intro i s d b hruns hb hagree
    refine ⟨_, (execSeedRecon_of_runs hruns).trans (congrArg _ (reconEff_agrees hb hagree)), ?_⟩
    rw [bufs_setBuf, tfind_tput_same]
  case unmask =>
    intro i s d hruns hshut hbuf hrows
    refine ⟨_, ?_, (unmaskTo s d (df d 44 4)).1,
      (runDescE_of_runs hruns).trans (congrArg _ (unmaskEff_of_rowsOk hshut hbuf hrows)), fun h => mem_rowsDone_unmaskTo s d⟩
    split
    · exact .inr rfl
    · exact .inl rfl
  case bind =>
    intro n k b rest s hfrozen hwait hmin hfree
    obtain ⟨hbind, hbufs⟩ := bindBuf_cx s n k b
    refine ⟨_, execShareBufferBind_binds hfrozen hwait hmin hfree, ?_, ?_⟩
    · simp [hbind]
    · rw [hbufs, tfind_tput_same]
  case share =>
    intro key m b s hfrozen hlive hkind hcheck hb
    obtain ⟨hctxs, hsent⟩ := replyMsg_ok (shareStored s key m b) key
    have hkey : keyOf (shareStored s key m b) key = keyOf s key := by simp [shareStored]
    have hbufs : (cx (replyMsg (shareStored s key m b) key stOk) (keyOf s key).ctx).bufs =
        tput (cx s (keyOf s key).ctx).bufs b.1 (withShare b.2 m (keyOf s key).peerHash) := by
      rw [cx, hctxs, ← cx]
      simp [shareStored]
    refine ⟨replyMsg (shareStored s key m b) key stOk, ?_, ?_, ?_⟩
    · simp [exec, execSeedSumShareMessage, hfrozen, shareIn_accepted _ hlive hkind hcheck hb]
    · rw [hbufs]
      exact ⟨_, tfind_tput_same .., tfind_tput_same .., tfind_tput_same ..⟩
    · rw [hsent, hkey]
      simp [shareStored]

end Sys2Proof.Machine
end

section
/-! SUPPORT. The arithmetic of a limb (R132, R133, R139, R140): powers, inverses, Montgomery products and bit reversal, and O12,
O13 and O16. -/

namespace Sys2Proof.Machine
open Sys2Proof

/-! ### Residues modulo p -/

section Residues
variable {p a b c d : Nat}

theorem mod_add_congr (hab : a % p = b % p) (hcd : c % p = d % p) : (a + c) % p = (b + d) % p := by
  rw [Nat.add_mod, hab, hcd, ← Nat.add_mod]

theorem mod_mul_congr (hab : a % p = b % p) (hcd : c % p = d % p) : a * c % p = b * d % p := by
  rw [Nat.mul_mod, hab, hcd, ← Nat.mul_mod]

theorem mod_pow_congr (hab : a % p = b % p) (e : Nat) : a ^ e % p = b ^ e % p := by
  rw [Nat.pow_mod, hab, ← Nat.pow_mod]

/-- A summand may be cancelled, as p - c % p is its negative modulo p. -/
theorem mod_add_right_cancel (hp : 0 < p) (h : (a + c) % p = (b + c) % p) : a % p = b % p := by
  have hneg : ∀ x, (x + c + (p - c % p)) % p = x % p := fun x => by
    have hlt := Nat.mod_lt c hp
    calc (x + c + (p - c % p)) % p
      _ = (x + c % p + (p - c % p)) % p := mod_add_congr (by rw [Nat.add_mod_mod]) rfl
      _ = (x + p) % p := by rw [Nat.add_assoc, Nat.add_sub_cancel' (Nat.le_of_lt hlt)]
      _ = x % p := Nat.add_mod_right x p
  rw [← hneg a, ← hneg b]
  exact mod_add_congr h rfl

/-- The inverses of ψ's powers are the powers of its inverse. -/
theorem pow_mul_pow_mod {φ ψ : Nat} (h : φ * ψ % p = 1 % p) (e : Nat) : φ ^ e * ψ ^ e % p = 1 % p := by
  rw [← Nat.mul_pow, mod_pow_congr h, Nat.one_pow]

end Residues

/-! ### Powers and inverses modulo p -/

/-- Repeated squaring computes the power, given fuel for the bits of the exponent. -/
theorem powMod_eq {fuel b e m : Nat} (he : e < 2 ^ fuel) : powMod fuel b e m = b ^ e % m := by
  induction fuel generalizing b e with
  | zero =>
    have h0 : e = 0 := Nat.lt_one_iff.1 he
    rw [h0, Nat.pow_zero, powMod]
  | succ f ih =>
    rw [powMod]
    split
    · next h0 => rw [h0, Nat.pow_zero]
    have hhalf : powMod f (b * b % m) (e / 2) m = b ^ (2 * (e / 2)) % m := by
      rw [ih (by rw [Nat.pow_succ] at he; omega), ← Nat.pow_mod, ← Nat.pow_two, ← Nat.pow_mul]
    simp only [hhalf]
    split
    · rw [Nat.mod_mul_mod, ← Nat.pow_succ, show (2 * (e / 2)).succ = e by omega]
    · rw [show 2 * (e / 2) = e by omega]

/-- A step of Euclid's algorithm keeps the coefficient of x beside its remainder. -/
theorem invGo_step {p r t r1 t1 x : Nat} (hp : 0 < p) (hr : t * x % p = r % p) (hr1 : t1 * x % p = r1 % p) :
    (t + (p - r / r1 * t1 % p)) % p * x % p = r % r1 % p := by
  have hlt : r / r1 * t1 % p < p := Nat.mod_lt _ hp
  refine mod_add_right_cancel hp (c := r / r1 * t1 * x) ?_
  calc ((t + (p - r / r1 * t1 % p)) % p * x + r / r1 * t1 * x) % p
    _ = ((t + (p - r / r1 * t1 % p)) * x + r / r1 * t1 % p * x) % p :=
      mod_add_congr (Nat.mod_mul_mod ..) (Nat.mod_mul_mod ..).symm
    _ = (t * x + p * x) % p := by
      rw [← Nat.add_mul, Nat.add_assoc, Nat.sub_add_cancel (Nat.le_of_lt hlt), Nat.add_mul]
    _ = (r % r1 + r / r1 * r1) % p := by rw [Nat.add_mul_mod_self_left, hr, Nat.mul_comm, Nat.mod_add_div]
    _ = (r % r1 + r / r1 * t1 * x) % p := by
      rw [Nat.mul_assoc]
      exact mod_add_congr rfl (mod_mul_congr rfl hr1.symm)

/-- The remainders of Euclid's algorithm halve their product at each step, so the fuel suffices to reach the greatest common
divisor, and the coefficient held with it is that of x. -/
theorem invGo_mul {p fuel r t r1 t1 x : Nat} (hp : 0 < p) (hlt : r1 < r) (hfuel : r * r1 < 2 ^ fuel)
    (hr : t * x % p = r % p) (hr1 : t1 * x % p = r1 % p) : invGo p fuel r t r1 t1 * x % p = Nat.gcd r r1 % p := by
  induction fuel generalizing r t r1 t1 with
  | zero =>
    have h0 : r1 = 0 := (Nat.mul_eq_zero.1 (Nat.lt_one_iff.1 hfuel)).resolve_left (by omega)
    rw [invGo, hr, h0, Nat.gcd_zero_right]
  | succ f ih =>
    rw [invGo]
    split
    · next h0 => rw [hr, h0, Nat.gcd_zero_right]
    next h0 =>
    have hhalf : 2 * (r % r1) ≤ r := by
      have hdiv : r1 * (r / r1) + r % r1 = r := Nat.div_add_mod r r1
      have hmod : r % r1 < r1 := Nat.mod_lt _ (Nat.pos_of_ne_zero h0)
      have : r1 * 1 ≤ r1 * (r / r1) := Nat.mul_le_mul_left _ (Nat.div_pos (Nat.le_of_lt hlt) (by omega))
      omega
    have hprod : 2 * (r1 * (r % r1)) ≤ r * r1 :=
      calc 2 * (r1 * (r % r1)) = r1 * (2 * (r % r1)) := Nat.mul_left_comm ..
        _ ≤ r1 * r := Nat.mul_le_mul_left _ hhalf
        _ = r * r1 := Nat.mul_comm ..
    rw [Nat.gcd_comm, Nat.gcd_rec, Nat.gcd_comm]
    exact ih (Nat.mod_lt _ (Nat.pos_of_ne_zero h0)) (by rw [Nat.pow_succ] at hfuel; omega) hr1 (invGo_step hp hr hr1)

/-- The inverse modulo p of a number prime to p (R139, R144). -/
theorem invMod_mul {p x : Nat} (hp : 0 < p) (hp64 : p < 2 ^ 64) (hx : Nat.Coprime x p) : invMod p x * x % p = 1 % p := by
  have hlt : x % p < p := Nat.mod_lt _ hp
  have hfuel : p * (x % p) < 2 ^ 128 :=
    calc p * (x % p) ≤ p * p := Nat.mul_le_mul_left _ (Nat.le_of_lt hlt)
      _ ≤ 2 ^ 64 * p := Nat.mul_le_mul_right _ (Nat.le_of_lt hp64)
      _ < 2 ^ 64 * 2 ^ 64 := Nat.mul_lt_mul_of_pos_left hp64 (Nat.two_pow_pos 64)
  have h := invGo_mul (x := x) (t := 0) (t1 := 1) hp hlt hfuel (by rw [Nat.zero_mul, Nat.mod_self, Nat.zero_mod])
    (by rw [Nat.one_mul, Nat.mod_mod])
  rwa [Nat.gcd_comm, ← Nat.gcd_rec, Nat.gcd_comm, hx.gcd_eq_one] at h

/-- A number with an inverse modulo p is prime to p. -/
theorem coprime_of_mul_mod {p x y : Nat} (h : y * x % p = 1) : Nat.Coprime x p := by
  have hx : Nat.gcd x p ∣ y * x := Nat.dvd_trans (Nat.gcd_dvd_left x p) (Nat.dvd_mul_left x y)
  have hone : Nat.gcd x p ∣ y * x % p := (Nat.dvd_mod_iff (Nat.gcd_dvd_right x p)).2 hx
  exact Nat.dvd_one.1 (h ▸ hone)

theorem coprime_two_of_odd {p : Nat} (hp : p % 2 = 1) : Nat.Coprime 2 p := by
  rw [Nat.Coprime, Nat.gcd_rec, hp, Nat.gcd_one_left]

/-! ### Montgomery products (R132) -/

/-- A modulus with its MONT, as R130 wants them. -/
structure MontEntry (p mont : Nat) : Prop where
  low : 2 ^ 30 < p
  high : p < 2 ^ 31
  odd : p % 2 = 1
  inverse : p * mont % 2 ^ 32 = 2 ^ 32 - 1

/-- The multiple of p that the steps add makes the product divisible by 2^32. -/
theorem mont_dvd {p mont t : Nat} (h : p * mont % 2 ^ 32 = 2 ^ 32 - 1) : 2 ^ 32 ∣ t + t % 2 ^ 32 * mont % 2 ^ 32 * p := by
  have hone : (1 + p * mont) % 2 ^ 32 = 0 := by omega
  refine Nat.dvd_of_mod_eq_zero ?_
  calc (t + t % 2 ^ 32 * mont % 2 ^ 32 * p) % 2 ^ 32
    _ = (t + t * mont * p) % 2 ^ 32 := by
      refine mod_add_congr rfl ((Nat.mod_mul_mod ..).trans (mod_mul_congr (Nat.mod_mul_mod ..) rfl))
    _ = t * (1 + p * mont) % 2 ^ 32 := by rw [Nat.mul_add, Nat.mul_one, Nat.mul_assoc, Nat.mul_comm mont]
    _ = 0 := by rw [Nat.mul_mod, hone, Nat.mul_zero, Nat.zero_mod]

/-- The reduced product lies below p. -/
theorem montMul_lt {p mont x y : Nat} (hx : x < 2 ^ 31) (hy : y < p) : montMul p mont x y < p := by
  have hxy : x * y ≤ 2 ^ 31 * y := Nat.mul_le_mul_right _ (Nat.le_of_lt hx)
  have hm : x * y % 2 ^ 32 * mont % 2 ^ 32 * p ≤ 2 ^ 32 * p :=
    Nat.mul_le_mul_right _ (Nat.le_of_lt (Nat.mod_lt _ (Nat.two_pow_pos 32)))
  have hu : (x * y + x * y % 2 ^ 32 * mont % 2 ^ 32 * p) / 2 ^ 32 < 2 * p := by
    rw [Nat.div_lt_iff_lt_mul (Nat.two_pow_pos 32)]
    omega
  simp only [montMul]
  split <;> omega

/-- 2^32 times the reduced product is the product modulo p. -/
theorem montMul_mod {p mont x y : Nat} (h : MontEntry p mont) : montMul p mont x y * 2 ^ 32 % p = x * y % p := by
  have hu : (x * y + x * y % 2 ^ 32 * mont % 2 ^ 32 * p) / 2 ^ 32 * 2 ^ 32 % p = x * y % p := by
    rw [Nat.div_mul_cancel (mont_dvd h.inverse), Nat.add_mul_mod_self_right]
  simp only [montMul]
  split
  · next hle =>
    rw [← hu]
    exact mod_mul_congr (Nat.mod_eq_sub_mod hle).symm rfl
  · exact hu

/-- 2^32 may be cancelled modulo p: with MONT, p has an inverse modulo 2^32, so 2^32 has one modulo p. -/
theorem MontEntry.cancel {p mont a b : Nat} (h : MontEntry p mont) (hab : a * 2 ^ 32 % p = b * 2 ^ 32 % p) : a % p = b % p := by
  have hmont : p * mont + 1 = 2 ^ 32 * (p * mont / 2 ^ 32 + 1) := by
    have := h.inverse
    omega
  have hinv : ∀ x, x * 2 ^ 32 * (p * mont / 2 ^ 32 + 1) % p = x % p := fun x => by
    rw [Nat.mul_assoc, ← hmont, Nat.mul_add, Nat.mul_one, Nat.mul_left_comm, Nat.mul_add_mod]
  rw [← hinv a, ← hinv b]
  exact mod_mul_congr hab rfl

/-- The product is the one number below p with that residue. -/
theorem montMul_eq {p mont x y c : Nat} (h : MontEntry p mont) (hx : x < 2 ^ 31) (hy : y < p) (hc : c < p)
    (hcong : c * 2 ^ 32 % p = x * y % p) : montMul p mont x y = c := by
  have hmod : montMul p mont x y % p = c % p := h.cancel ((montMul_mod h).trans hcong.symm)
  rwa [Nat.mod_eq_of_lt (montMul_lt hx hy), Nat.mod_eq_of_lt hc] at hmod

/-- What the checks of R130 say of an entry. -/
theorem basisOk_facts {w : Nat} (h : basisOk w = true) :
    MontEntry (fld w 0 4) (fld w 4 4) ∧ fld w 8 4 = 2 ^ 64 % fld w 0 4 ∧
      (fld w 12 4 ≠ 0 → fld w 12 4 ^ 2 ^ 17 % fld w 0 4 = fld w 0 4 - 1) := by
  simp only [basisOk, Bool.and_eq_true, Bool.or_eq_true, beq_iff_eq, decide_eq_true_eq] at h
  obtain ⟨⟨⟨⟨hodd, hlow, hhigh⟩, hmont⟩, hsq⟩, hroot⟩ := h
  refine ⟨⟨hlow, hhigh, hodd, by rw [Nat.mul_comm]; exact hmont⟩, hsq, fun hne => ?_⟩
  obtain ⟨-, hpow⟩ := hroot.resolve_left hne
  rwa [powMod_eq (by decide)] at hpow

/-! ### Bit reversal (R138) -/

theorem brv_lt (n i : Nat) : brv n i < 2 ^ n := by
  induction n generalizing i with
  | zero => simp [brv]
  | succ n ih =>
    have := ih (i / 2)
    rw [brv, Nat.pow_succ]
    have : i % 2 * 2 ^ n ≤ 1 * 2 ^ n := Nat.mul_le_mul_right _ (by omega)
    omega

/-- The bit on top becomes the lowest one. -/
theorem brv_succ_top {n b r : Nat} (hb : b < 2) (hr : r < 2 ^ n) : brv (n + 1) (b * 2 ^ n + r) = 2 * brv n r + b := by
  induction n generalizing r with
  | zero => simp [brv, show r = 0 by simpa using hr, Nat.mod_eq_of_lt hb]
  | succ n ih =>
    have htop : b * 2 ^ (n + 1) = 2 * (b * 2 ^ n) := by rw [Nat.pow_succ, ← Nat.mul_assoc, Nat.mul_comm]
    have hhalf : (b * 2 ^ (n + 1) + r) / 2 = b * 2 ^ n + r / 2 := by omega
    have hlow : (b * 2 ^ (n + 1) + r) % 2 = r % 2 := by omega
    rw [brv, hhalf, hlow, ih (by rw [Nat.pow_succ] at hr; omega), brv, Nat.mul_add]
    rw [Nat.pow_succ, ← Nat.mul_assoc, Nat.mul_comm _ 2, Nat.add_assoc]

/-- Reversing the bits twice is the identity. -/
theorem brv_brv {n i : Nat} (hi : i < 2 ^ n) : brv n (brv n i) = i := by
  induction n generalizing i with
  | zero => simp [brv, show i = 0 by simpa using hi]
  | succ n ih =>
    rw [show brv (n + 1) i = i % 2 * 2 ^ n + brv n (i / 2) from rfl, brv_succ_top (by omega) (brv_lt ..),
      ih (by rw [Nat.pow_succ] at hi; omega)]
    omega

/-! ### Source positions of AUTOMORPH (R140) -/

/-- The group of odd residues modulo 2N has exponent N. -/
theorem odd_pow_two_pow {k : Nat} (hk : k % 2 = 1) (n : Nat) : k ^ 2 ^ n % 2 ^ (n + 1) = 1 := by
  induction n with
  | zero => rw [Nat.pow_zero, Nat.pow_one, Nat.zero_add, Nat.pow_one, hk]
  | succ n ih =>
    have hdiv := Nat.div_add_mod (k ^ 2 ^ n) (2 ^ (n + 1))
    rw [ih] at hdiv
    generalize k ^ 2 ^ n / 2 ^ (n + 1) = m at hdiv
    have hsq : k ^ 2 ^ (n + 1) = 2 ^ (n + 1 + 1) * (2 ^ n * (m * m) + m) + 1 := by
      rw [Nat.pow_succ 2 n, Nat.pow_mul, Nat.pow_two, ← hdiv, Nat.pow_succ 2 (n + 1), Nat.pow_succ 2 n]
      generalize 2 ^ n = N
      grind
    rw [hsq, Nat.mul_add_mod, Nat.mod_eq_of_lt (Nat.one_lt_two_pow (Nat.succ_ne_zero _))]

/-- An odd k has the inverse k^(2^n - 1) modulo 2N. -/
theorem pow_mul_self_mod {n k : Nat} (hk : k % 2 = 1) : k ^ (2 ^ n - 1) * k % 2 ^ (n + 1) = 1 := by
  rw [Nat.pow_pred_mul (Nat.two_pow_pos n), odd_pow_two_pow hk]

/-- Coefficient t of the input, times X^k's exponent, lands on output position u, or on u + N with the sign turned. -/
theorem autoCoef_spec {n k u : Nat} (hn : n ≤ 17) (hk : k % 2 = 1) (hu : u < 2 ^ n) :
    (autoCoef n k u).1 < 2 ^ n ∧
      (autoCoef n k u).1 * k % 2 ^ (n + 1) = if (autoCoef n k u).2 then u + 2 ^ n else u := by
  have hpow : 2 ^ (n + 1) = 2 ^ n * 2 := Nat.pow_succ 2 n
  have hfuel : 2 ^ n - 1 < 2 ^ 40 := by
    have : 2 ^ n ≤ 2 ^ 17 := Nat.pow_le_pow_right (by decide) hn
    omega
  have hinv : u * (k ^ (2 ^ n - 1) % 2 ^ (n + 1)) % 2 ^ (n + 1) * k % 2 ^ (n + 1) = u :=
    calc u * (k ^ (2 ^ n - 1) % 2 ^ (n + 1)) % 2 ^ (n + 1) * k % 2 ^ (n + 1)
      _ = u * k ^ (2 ^ n - 1) * k % 2 ^ (n + 1) := by rw [Nat.mul_mod_mod, Nat.mod_mul_mod]
      _ = u * (k ^ (2 ^ n - 1) * k) % 2 ^ (n + 1) := by rw [Nat.mul_assoc]
      _ = u := by rw [Nat.mul_mod, pow_mul_self_mod hk, Nat.mul_one, Nat.mod_mod, Nat.mod_eq_of_lt (by omega)]
  simp only [autoCoef, powMod_eq hfuel]
  have hlt : u * (k ^ (2 ^ n - 1) % 2 ^ (n + 1)) % 2 ^ (n + 1) < 2 ^ (n + 1) := Nat.mod_lt _ (Nat.two_pow_pos _)
  generalize u * (k ^ (2 ^ n - 1) % 2 ^ (n + 1)) % 2 ^ (n + 1) = t at hinv hlt ⊢
  split
  · next ht =>
    refine ⟨ht, ?_⟩
    rw [if_neg Bool.false_ne_true]
    exact hinv
  · next ht =>
    refine ⟨show t - 2 ^ n < 2 ^ n by omega, ?_⟩
    rw [if_pos rfl, ← Nat.mod_eq_of_lt (show u + 2 ^ n < 2 ^ (n + 1) by omega)]
    refine mod_add_right_cancel (c := 2 ^ n * k) (Nat.two_pow_pos _) ?_
    have hodd : 2 ^ n * k % 2 ^ (n + 1) = 2 ^ n := by rw [hpow, Nat.mul_mod_mul_left, hk, Nat.mul_one]
    calc ((t - 2 ^ n) * k + 2 ^ n * k) % 2 ^ (n + 1)
      _ = t * k % 2 ^ (n + 1) := by rw [← Nat.add_mul, Nat.sub_add_cancel (by omega)]
      _ = (u + 2 ^ n + 2 ^ n) % 2 ^ (n + 1) := by
        rw [hinv, show u + 2 ^ n + 2 ^ n = u + 2 ^ (n + 1) by omega, Nat.add_mod_right, Nat.mod_eq_of_lt (by omega)]
      _ = (u + 2 ^ n + 2 ^ n * k) % 2 ^ (n + 1) := mod_add_congr rfl (by rw [hodd, Nat.mod_eq_of_lt (by omega)])

/-- Output slot i takes the input slot that stands for the k-th power of its root. -/
theorem autoSlot_spec {n k u : Nat} (hk : k % 2 = 1) :
    autoSlot n k u < 2 ^ n ∧ 2 * brv n (autoSlot n k u) + 1 = (2 * brv n u + 1) * k % 2 ^ (n + 1) := by
  have hpow : 2 ^ (n + 1) = 2 ^ n * 2 := Nat.pow_succ 2 n
  have hlt : (2 * brv n u + 1) * k % 2 ^ (n + 1) < 2 ^ n * 2 := hpow ▸ Nat.mod_lt _ (Nat.two_pow_pos _)
  have hodd : (2 * brv n u + 1) * k % 2 ^ (n + 1) % 2 = 1 := by
    rw [Nat.mod_mod_of_dvd _ (hpow ▸ Nat.dvd_mul_left 2 (2 ^ n)), Nat.mul_mod, hk]
    omega
  refine ⟨brv_lt .., ?_⟩
  rw [autoSlot, brv_brv (by omega)]
  omega

/-! ### The obligations -/

/-- Settles O12: `montMul_lt` bounds the product and `montMul_mod` gives its residue. -/
theorem montgomeryProduct : Obligations.MontgomeryProduct := by
  unfold Obligations.MontgomeryProduct
  intro p mont x y hlow hhigh hodd hinv hx hy
  exact ⟨montMul_lt hx hy, montMul_mod ⟨hlow, hhigh, hodd, hinv⟩, rfl⟩

/-- Settles O13: both products are the numbers below PRIME with the right residue, as MONT_SQ is that of 2^64. -/
theorem montgomeryFormRoundTrip : Obligations.MontgomeryFormRoundTrip := by
  unfold Obligations.MontgomeryFormRoundTrip
  intro w a hok ha
  obtain ⟨hentry, hsq, -⟩ := basisOk_facts hok
  have hlow := hentry.low
  have hhigh := hentry.high
  have hp : 0 < fld w 0 4 := by omega
  have hform : montMul (fld w 0 4) (fld w 4 4) a (fld w 8 4) = a * 2 ^ 32 % fld w 0 4 := by
    refine montMul_eq hentry (by omega) (hsq ▸ Nat.mod_lt _ hp) (Nat.mod_lt _ hp) ?_
    rw [hsq, Nat.mod_mul_mod, Nat.mul_mod_mod, Nat.mul_assoc, ← Nat.pow_add]
  refine ⟨hform, montMul_eq hentry ?_ (by omega) ha ?_⟩
  · rw [hform]
    exact Nat.lt_trans (Nat.mod_lt _ hp) hhigh
  · rw [hform, Nat.mul_one, Nat.mod_mod]

/-- Settles O16: coefficients by `autoCoef_spec`, slots by `autoSlot_spec`. -/
theorem automorphIsGaloisMap : Obligations.AutomorphIsGaloisMap := by
  unfold Obligations.AutomorphIsGaloisMap
  intro n k u _ hn hk hu
  obtain ⟨hlt, hpos⟩ := autoCoef_spec hn hk hu
  exact ⟨hlt, hpos, autoSlot_spec hk⟩

end Sys2Proof.Machine
end

section
/-! SUPPORT. The transform of a limb and its inverse (R128, R138, R139), over the residues modulo PRIME, and O17. -/

namespace Sys2Proof.Machine
open Sys2Proof

/-! ### Sums -/

/-- The sum of f over the first k indices. -/
def sumTo (f : Nat → Nat) : Nat → Nat
  | 0 => 0
  | k + 1 => sumTo f k + f k

section Sums
variable {p : Nat} {f g : Nat → Nat}

theorem sumTo_eq_list_sum (f : Nat → Nat) (k : Nat) : sumTo f k = ((List.range k).map f).sum := by
  induction k with
  | zero => rfl
  | succ k ih => rw [sumTo, ih, List.range_succ, List.map_append, List.sum_append_nat, List.map_singleton, List.sum_singleton]

/-- The model's reduced sum is the sum modulo p. -/
theorem sumMod_eq (p : Nat) (f : Nat → Nat) (k : Nat) : sumMod p f k = sumTo f k % p := by
  induction k with
  | zero => exact (Nat.zero_mod p).symm
  | succ k ih => rw [sumMod, ih, Nat.mod_add_mod, sumTo]

theorem sumTo_mod_congr {k : Nat} (h : ∀ i, i < k → f i % p = g i % p) : sumTo f k % p = sumTo g k % p := by
  induction k with
  | zero => rfl
  | succ k ih => exact mod_add_congr (ih fun i hi => h i (by omega)) (h k (by omega))

theorem sumTo_congr {k : Nat} (h : ∀ i, i < k → f i = g i) : sumTo f k = sumTo g k := by
  induction k with
  | zero => rfl
  | succ k ih => rw [sumTo, sumTo, ih fun i hi => h i (by omega), h k (by omega)]

theorem sumTo_mul_left (c : Nat) (f : Nat → Nat) (k : Nat) : sumTo (fun i => c * f i) k = c * sumTo f k := by
  induction k with
  | zero => rfl
  | succ k ih => rw [sumTo, sumTo, ih, Nat.mul_add]

theorem sumTo_mul_right (c : Nat) (f : Nat → Nat) (k : Nat) : sumTo (fun i => f i * c) k = sumTo f k * c := by
  rw [Nat.mul_comm, ← sumTo_mul_left]
  exact sumTo_congr fun i _ => Nat.mul_comm _ _

theorem sumTo_add (f g : Nat → Nat) (k : Nat) : sumTo (fun i => f i + g i) k = sumTo f k + sumTo g k := by
  induction k with
  | zero => rfl
  | succ k ih => rw [sumTo, sumTo, sumTo, ih, Nat.add_add_add_comm]

theorem sumTo_zero (k : Nat) : sumTo (fun _ => 0) k = 0 := by
  induction k with
  | zero => rfl
  | succ k ih => rw [sumTo, ih]

theorem sumTo_const (c k : Nat) : sumTo (fun _ => c) k = k * c := by
  induction k with
  | zero => rw [sumTo, Nat.zero_mul]
  | succ k ih => rw [sumTo, ih, Nat.succ_mul]

/-- A sum over k + l indices is the sum over the first k and that over the l behind them. -/
theorem sumTo_split (f : Nat → Nat) (k l : Nat) : sumTo f (k + l) = sumTo f k + sumTo (fun i => f (k + i)) l := by
  induction l with
  | zero => rfl
  | succ l ih => rw [← Nat.add_assoc, sumTo, ih, sumTo, Nat.add_assoc]

/-- A sum over 2 k indices, taken in pairs of neighbours. -/
theorem sumTo_pairs (f : Nat → Nat) (k : Nat) : sumTo f (2 * k) = sumTo (fun i => f (2 * i) + f (2 * i + 1)) k := by
  induction k with
  | zero => rfl
  | succ k ih => rw [Nat.mul_succ, sumTo, sumTo, ih, sumTo, Nat.add_assoc]

/-- The order of two sums may change. -/
theorem sumTo_comm (F : Nat → Nat → Nat) (k l : Nat) :
    sumTo (fun i => sumTo (F i) l) k = sumTo (fun s => sumTo (fun i => F i s) k) l := by
  induction k with
  | zero => exact (sumTo_zero l).symm
  | succ k ih =>
    rw [sumTo, ih, ← sumTo_add]
    rfl

/-- A sum with one term. -/
theorem sumTo_single {t k : Nat} (c : Nat) (ht : t < k) : sumTo (fun s => if s = t then c else 0) k = c := by
  obtain ⟨l, rfl⟩ : ∃ l, k = t + (1 + l) := ⟨k - t - 1, by omega⟩
  have hbelow : sumTo (fun s => if s = t then c else 0) t = 0 :=
    (sumTo_congr fun i hi => if_neg (by omega)).trans (sumTo_zero t)
  have habove : sumTo (fun i => if t + (1 + i) = t then c else 0) l = 0 :=
    (sumTo_congr fun i _ => if_neg (by omega)).trans (sumTo_zero l)
  rw [sumTo_split, hbelow, sumTo_split, habove, sumTo, sumTo, Nat.zero_add, Nat.zero_add,
    Nat.add_zero, Nat.add_zero, if_pos rfl]

/-- A geometric sum over twice as many terms. -/
theorem geom_sum_double (x n : Nat) :
    sumTo (fun j => x ^ j) (2 ^ (n + 1)) = (x ^ 2 ^ n + 1) * sumTo (fun j => x ^ j) (2 ^ n) := by
  rw [Nat.pow_succ, Nat.mul_two, sumTo_split, Nat.succ_mul, Nat.add_comm, ← sumTo_mul_left]
  simp only [Nat.pow_add]

/-- Bit reversal permutes the slots: the even and the odd ones land in the lower and the upper half. -/
theorem sumTo_brv (f : Nat → Nat) (n : Nat) : sumTo (fun i => f (brv n i)) (2 ^ n) = sumTo f (2 ^ n) := by
  induction n generalizing f with
  | zero => rfl
  | succ n ih =>
    have heven : ∀ i, brv (n + 1) (2 * i) = brv n i := fun i => by
      rw [brv, Nat.mul_mod_right, Nat.zero_mul, Nat.zero_add, Nat.mul_div_cancel_left i (by decide)]
    have hodd : ∀ i, brv (n + 1) (2 * i + 1) = 2 ^ n + brv n i := fun i => by
      rw [brv, show (2 * i + 1) % 2 = 1 by omega, Nat.one_mul, show (2 * i + 1) / 2 = i by omega]
    calc sumTo (fun i => f (brv (n + 1) i)) (2 ^ (n + 1))
      _ = sumTo (fun i => f (brv n i) + f (2 ^ n + brv n i)) (2 ^ n) := by
        rw [Nat.pow_succ, Nat.mul_comm, sumTo_pairs]
        exact sumTo_congr fun i _ => by rw [heven, hodd]
      _ = sumTo f (2 ^ n) + sumTo (fun j => f (2 ^ n + j)) (2 ^ n) := by rw [sumTo_add, ih, ih fun j => f (2 ^ n + j)]
      _ = sumTo f (2 ^ (n + 1)) := by rw [← sumTo_split, Nat.pow_succ, Nat.mul_two]

end Sums

/-! ### Roots of -1 modulo p -/

section Roots
variable {p : Nat} (hp : 0 < p)
include hp

/-- A number that is -1 modulo p is its own inverse. -/
theorem mul_self_of_neg_one {y : Nat} (hy : (y + 1) % p = 0) : y * y % p = 1 % p := by
  refine mod_add_right_cancel hp (c := y) ?_
  calc (y * y + y) % p = y * (y + 1) % p := by rw [Nat.mul_succ]
    _ = 0 := by rw [Nat.mul_mod, hy, Nat.mul_zero, Nat.zero_mod]
    _ = (1 + y) % p := by rw [Nat.add_comm, hy]

/-- Its odd powers are -1 again. -/
theorem odd_pow_of_neg_one {y d : Nat} (hy : (y + 1) % p = 0) (hd : d % 2 = 1) : (y ^ d + 1) % p = 0 := by
  have hpow : y ^ d % p = y % p := by
    rw [show d = 2 * (d / 2) + 1 by omega, Nat.pow_succ, Nat.pow_mul, Nat.pow_two]
    calc (y * y) ^ (d / 2) * y % p
      _ = 1 ^ (d / 2) * y % p := mod_mul_congr (mod_pow_congr (mul_self_of_neg_one hp hy) _) rfl
      _ = y % p := by rw [Nat.one_pow, Nat.one_mul]
  rw [mod_add_congr hpow rfl, hy]

omit hp in
/-- With ψ, its inverse is a root of X^m + 1. -/
theorem inverse_root {φ ψ m : Nat} (hψ : (ψ ^ m + 1) % p = 0) (hφ : φ * ψ % p = 1 % p) : (φ ^ m + 1) % p = 0 := by
  calc (φ ^ m + 1) % p
    _ = (φ ^ m + φ ^ m * ψ ^ m) % p := mod_add_congr rfl (pow_mul_pow_mod hφ m).symm
    _ = φ ^ m * (ψ ^ m + 1) % p := by rw [Nat.mul_succ, Nat.add_comm]
    _ = 0 := by rw [Nat.mul_mod, hψ, Nat.mul_zero, Nat.zero_mod]

/-- Exponents of a root of X^N + 1 count modulo 2N. -/
theorem pow_mod_two_mul {z n : Nat} (hz : (z ^ 2 ^ n + 1) % p = 0) (e : Nat) : z ^ (e % 2 ^ (n + 1)) % p = z ^ e % p := by
  have hone : z ^ 2 ^ (n + 1) % p = 1 % p := by rw [Nat.pow_succ, Nat.pow_mul, Nat.pow_two, mul_self_of_neg_one hp hz]
  calc z ^ (e % 2 ^ (n + 1)) % p
    _ = 1 ^ (e / 2 ^ (n + 1)) * z ^ (e % 2 ^ (n + 1)) % p := by rw [Nat.one_pow, Nat.one_mul]
    _ = (z ^ 2 ^ (n + 1)) ^ (e / 2 ^ (n + 1)) * z ^ (e % 2 ^ (n + 1)) % p :=
      mod_mul_congr (mod_pow_congr hone _).symm rfl
    _ = z ^ e % p := by rw [← Nat.pow_mul, ← Nat.pow_add, Nat.div_add_mod]

/-- Over N = 2^n terms the geometric sum of z^(2d), for a root z of X^N + 1, vanishes unless N divides d: with d even it is a
multiple of the sum for z^2 over half the terms, with d odd one of its factors is z^(N d) + 1. -/
theorem geom_sum_of_root {z n d : Nat} (hz : (z ^ 2 ^ n + 1) % p = 0) (hd0 : d ≠ 0) (hd : d < 2 ^ n) :
    sumTo (fun j => (z ^ (2 * d)) ^ j) (2 ^ n) % p = 0 := by
  induction n generalizing z d with
  | zero => omega
  | succ n ih =>
    rw [geom_sum_double, Nat.mul_mod]
    rcases Nat.mod_two_eq_zero_or_one d with heven | hodd
    · have hhalf : sumTo (fun j => (z ^ (2 * d)) ^ j) (2 ^ n) % p = 0 := by
        have hz2 : ((z ^ 2) ^ 2 ^ n + 1) % p = 0 := by rw [← Nat.pow_mul, Nat.mul_comm, ← Nat.pow_succ, hz]
        have h := ih hz2 (show d / 2 ≠ 0 by omega) (by rw [Nat.pow_succ] at hd; omega)
        rwa [← Nat.pow_mul, show 2 * (2 * (d / 2)) = 2 * d by omega] at h
      rw [hhalf, Nat.mul_zero, Nat.zero_mod]
    · have hfactor : ((z ^ (2 * d)) ^ 2 ^ n + 1) % p = 0 := by
        have h := odd_pow_of_neg_one hp hz hodd
        rwa [← Nat.pow_mul, Nat.pow_succ, Nat.mul_assoc, Nat.mul_comm, Nat.pow_mul] at h
      rw [hfactor, Nat.zero_mul, Nat.zero_mod]

/-- Odd powers of a root of X^N + 1, taken to a power d that is no multiple of N, sum to 0. -/
theorem sum_odd_pow_of_root {z n d : Nat} (hz : (z ^ 2 ^ n + 1) % p = 0) (hd0 : d ≠ 0) (hd : d < 2 ^ n) :
    sumTo (fun j => z ^ ((2 * j + 1) * d)) (2 ^ n) % p = 0 := by
  have hterm : ∀ j, z ^ ((2 * j + 1) * d) = z ^ d * (z ^ (2 * d)) ^ j := fun j => by
    rw [← Nat.pow_mul, ← Nat.pow_add, Nat.add_mul, Nat.one_mul, Nat.add_comm, Nat.mul_right_comm]
  simp only [hterm]
  rw [sumTo_mul_left, Nat.mul_mod, geom_sum_of_root hp hz hd0 hd, Nat.mul_zero, Nat.zero_mod]

/-! ### The transform and its inverse -/

variable {ψ φ n : Nat}

/-- The rows of the transform and of its inverse are orthogonal: their product is N on the diagonal and 0 elsewhere. -/
theorem sum_pow_mul_pow (hψ : (ψ ^ 2 ^ n + 1) % p = 0) (hφ : φ * ψ % p = 1 % p) {s t : Nat} (hs : s < 2 ^ n)
    (ht : t < 2 ^ n) :
    sumTo (fun j => ψ ^ ((2 * j + 1) * s) * φ ^ ((2 * j + 1) * t)) (2 ^ n) % p = (if s = t then 2 ^ n else 0) % p := by
  rcases Nat.lt_trichotomy s t with hlt | rfl | hlt
  · have hterm : ∀ j, ψ ^ ((2 * j + 1) * s) * φ ^ ((2 * j + 1) * t) % p = φ ^ ((2 * j + 1) * (t - s)) % p := fun j => by
      rw [show t = s + (t - s) by omega, Nat.mul_add, Nat.pow_add, ← Nat.mul_assoc, Nat.add_sub_cancel_left,
        Nat.mul_comm (ψ ^ _), mod_mul_congr (pow_mul_pow_mod hφ _) rfl, Nat.one_mul]
    rw [if_neg (by omega), sumTo_mod_congr fun j _ => hterm j, Nat.zero_mod]
    exact sum_odd_pow_of_root hp (inverse_root hψ hφ) (by omega) (by omega)
  · rw [if_pos rfl, sumTo_mod_congr (g := fun _ => 1) fun j _ => by rw [Nat.mul_comm, pow_mul_pow_mod hφ],
      sumTo_const, Nat.mul_one]
  · have hterm : ∀ j, ψ ^ ((2 * j + 1) * s) * φ ^ ((2 * j + 1) * t) % p = ψ ^ ((2 * j + 1) * (s - t)) % p := fun j => by
      rw [show s = (s - t) + t by omega, Nat.mul_add, Nat.pow_add, Nat.mul_assoc, Nat.add_sub_cancel,
        Nat.mul_comm (ψ ^ ((2 * j + 1) * t)), mod_mul_congr rfl (pow_mul_pow_mod hφ _), Nat.mul_one]
    rw [if_neg (by omega), sumTo_mod_congr fun j _ => hterm j, Nat.zero_mod]
    exact sum_odd_pow_of_root hp hψ (by omega) (by omega)

/-- The inverse transform of the transform of a, before the scaling, is N times a. -/
theorem inverse_transform (hψ : (ψ ^ 2 ^ n + 1) % p = 0) (hφ : φ * ψ % p = 1 % p) (a : Nat → Nat) {t : Nat}
    (ht : t < 2 ^ n) :
    sumTo (fun i => sumTo (fun s => a s * ψ ^ ((2 * brv n i + 1) * s)) (2 ^ n) * φ ^ ((2 * brv n i + 1) * t)) (2 ^ n) % p =
      a t * 2 ^ n % p := by
  rw [sumTo_brv fun j => sumTo (fun s => a s * ψ ^ ((2 * j + 1) * s)) (2 ^ n) * φ ^ ((2 * j + 1) * t)]
  have hswap : sumTo (fun j => sumTo (fun s => a s * ψ ^ ((2 * j + 1) * s)) (2 ^ n) * φ ^ ((2 * j + 1) * t)) (2 ^ n) =
      sumTo (fun s => a s * sumTo (fun j => ψ ^ ((2 * j + 1) * s) * φ ^ ((2 * j + 1) * t)) (2 ^ n)) (2 ^ n) := by
    simp only [← sumTo_mul_left, ← sumTo_mul_right, Nat.mul_assoc]
    exact sumTo_comm ..
  have hterm : ∀ s, s < 2 ^ n → a s * sumTo (fun j => ψ ^ ((2 * j + 1) * s) * φ ^ ((2 * j + 1) * t)) (2 ^ n) % p =
      (if s = t then a t * 2 ^ n else 0) % p := fun s hs => by
    rw [mod_mul_congr rfl (sum_pow_mul_pow hp hψ hφ hs ht)]
    split
    · next h => rw [h]
    · rw [Nat.mul_zero]
  rw [hswap, sumTo_mod_congr hterm, sumTo_single _ ht]

/-! ### The model's transforms as residues -/

/-- A twiddle factor of a limb is that power of its root. -/
theorem twiddle_eq {z : Nat} (hn : n ≤ 17) (hz : (z ^ 2 ^ n + 1) % p = 0) (e : Nat) :
    powMod 40 z (e % 2 ^ (n + 1)) p = z ^ e % p := by
  have hfuel : e % 2 ^ (n + 1) < 2 ^ 40 :=
    Nat.lt_of_lt_of_le (Nat.mod_lt _ (Nat.two_pow_pos _)) (Nat.pow_le_pow_right (by decide) (by omega))
  rw [powMod_eq hfuel, pow_mod_two_mul hp hz]

/-- Slot i of the transform (R138): the powers of ψ_N need no reduction of their exponents. -/
theorem nttAt_eq (hn : n ≤ 17) (hψ : (ψ ^ 2 ^ n + 1) % p = 0) (a : Nat → Nat) (i : Nat) :
    nttAt p ψ n a i = sumTo (fun t => a t * ψ ^ ((2 * brv n i + 1) * t)) (2 ^ n) % p := by
  rw [nttAt, sumMod_eq]
  exact sumTo_mod_congr fun t _ => by rw [twiddle_eq hp hn hψ, Nat.mul_mod_mod]

end Roots

/-- ψ_N of a usable entry with a root is a root of X^N + 1. -/
theorem psiN_root {w n : Nat} (hok : basisOk w = true) (hroot : fld w 12 4 ≠ 0) (hn : n ≤ 17) :
    (psiN (fld w 0 4) (fld w 12 4) n ^ 2 ^ n + 1) % fld w 0 4 = 0 := by
  obtain ⟨hentry, -, hpow⟩ := basisOk_facts hok
  have hlow := hentry.low
  have hfuel : 2 ^ (17 - n) < 2 ^ 40 := Nat.pow_lt_pow_right (by decide) (by omega)
  have hψ : psiN (fld w 0 4) (fld w 12 4) n ^ 2 ^ n % fld w 0 4 = fld w 0 4 - 1 := by
    rw [psiN, powMod_eq hfuel, ← Nat.pow_mod, ← Nat.pow_mul, ← Nat.pow_add, Nat.sub_add_cancel hn, hpow hroot]
  rw [← Nat.mod_add_mod, hψ, Nat.sub_add_cancel (by omega), Nat.mod_self]

/-- Settles O17: the inverse transform of the transform is N times the limb (`inverse_transform`), and N has an inverse modulo the
odd PRIME, as ψ_N has one, whose N-th power is -1. -/
theorem inttUndoesNtt : Obligations.InttUndoesNtt := by
  unfold Obligations.InttUndoesNtt
  intro w n a hok hroot _ hn ha t ht
  obtain ⟨hentry, -, -⟩ := basisOk_facts hok
  have hψ := psiN_root hok hroot hn
  obtain ⟨hlow, hhigh, hodd, -⟩ := hentry
  generalize fld w 0 4 = p at *
  generalize psiN p (fld w 12 4) n = ψ at *
  have hp : 0 < p := by omega
  have hψprime : Nat.Coprime ψ p := by
    refine coprime_of_mul_mod (y := ψ ^ 2 ^ n * ψ ^ (2 ^ n - 1)) ?_
    rw [Nat.mul_assoc, Nat.pow_pred_mul (Nat.two_pow_pos n), mul_self_of_neg_one hp hψ, Nat.mod_eq_of_lt (by omega)]
  have hφ : invMod p ψ * ψ % p = 1 % p := invMod_mul hp (by omega) hψprime
  have hN : invMod p (2 ^ n) * 2 ^ n % p = 1 % p := invMod_mul hp (by omega) ((coprime_two_of_odd hodd).pow_left n)
  calc inttAt p ψ n (nttAt p ψ n a) t
    _ = sumTo (fun i => nttAt p ψ n a i * powMod 40 (invMod p ψ) ((2 * brv n i + 1) * t % 2 ^ (n + 1)) p) (2 ^ n) *
        invMod p (2 ^ n) % p := by rw [inttAt, sumMod_eq, Nat.mod_mul_mod]
    _ = a t * 2 ^ n * invMod p (2 ^ n) % p := by
      refine mod_mul_congr ((sumTo_mod_congr fun i _ => ?_).trans (inverse_transform hp hψ hφ a ht)) rfl
      rw [nttAt_eq hp hn hψ, twiddle_eq hp hn (inverse_root hψ hφ), Nat.mul_mod_mod, Nat.mod_mul_mod]
    _ = a t * 1 % p := by
      rw [Nat.mul_assoc, Nat.mul_comm (2 ^ n)]
      exact mod_mul_congr rfl hN
    _ = a t := by rw [Nat.mul_one, Nat.mod_eq_of_lt (ha t ht)]

end Sys2Proof.Machine
end

section
/-! SUPPORT. The words of limbs in memory after a write (R135, R163), and what the checks of a modular descriptor say. -/

namespace Sys2Proof.Machine
open Sys2Proof

/-! ### Limbs in memory -/

/-- A number read depends on its own bytes alone. -/
theorem mrd_congr {m m' : Mem} {a n : Nat} (h : ∀ j, a ≤ j → j < a + n → mget m j = mget m' j) :
    mrd m a n = mrd m' a n := by
  induction n generalizing a with
  | zero => rfl
  | succ n ih =>
    rw [mrd, mrd, h a (Nat.le_refl _) (by omega), ih fun j hlow hhigh => h j (by omega) (by omega)]

/-- A word read depends on its own bytes alone. -/
theorem limbAt_congr {m m' : Mem} {a t : Nat} (h : ∀ j, a + 4 * t ≤ j → j < a + 4 * t + 4 → mget m j = mget m' j) :
    limbAt m a t = limbAt m' a t := mrd_congr h

theorem mget_limbWrite_outside (m : Mem) (f : Nat → Nat) {a k j : Nat} (h : j < a ∨ a + 4 * k ≤ j) :
    mget (limbWrite m a f k) j = mget m j := by
  induction k with
  | zero => rfl
  | succ k ih => rw [limbWrite, mget_mwr_outside _ _ _ _ _ (by omega), ih (by omega)]

/-- A word of a limb just written. -/
theorem limbAt_limbWrite (m : Mem) (a : Nat) (f : Nat → Nat) {k t : Nat} (h : t < k) :
    limbAt (limbWrite m a f k) a t = f t % 2 ^ 32 := by
  induction k with
  | zero => omega
  | succ k ih =>
    rw [limbWrite]
    rcases Nat.lt_succ_iff_lt_or_eq.1 h with hlt | rfl
    · rw [← ih hlt]
      exact limbAt_congr fun j _ _ => mget_mwr_outside _ _ _ _ _ (by omega)
    · exact mrd_mwr_same ..

section Limbs
variable {m : Mem} {base : Nat → Nat} {f : Nat → Nat → Nat} {c k : Nat}

/-- Writing limbs at several addresses leaves every byte outside them. -/
theorem mget_limbs_outside {a : Nat} (h : ∀ j, j < c → a < base j ∨ base j + 4 * k ≤ a) :
    mget ((List.range c).foldl (fun m j => limbWrite m (base j) (f j) k) m) a = mget m a := by
  induction c with
  | zero => rfl
  | succ c ih =>
    rw [List.range_succ, List.foldl_append, List.foldl_cons, List.foldl_nil, mget_limbWrite_outside _ _ (h c (by omega)),
      ih fun j hj => h j (by omega)]

/-- Of limbs written one behind the other each holds its words. -/
theorem limbAt_limbs {j t : Nat} (hbase : ∀ i, i < c → ∀ j, j < i → base j + 4 * k ≤ base i) (hj : j < c) (ht : t < k) :
    limbAt ((List.range c).foldl (fun m j => limbWrite m (base j) (f j) k) m) (base j) t = f j t % 2 ^ 32 := by
  induction c with
  | zero => omega
  | succ c ih =>
    rw [List.range_succ, List.foldl_append, List.foldl_cons, List.foldl_nil]
    rcases Nat.lt_succ_iff_lt_or_eq.1 hj with hlt | rfl
    · have hbelow := hbase c (by omega) j hlt
      rw [← ih (fun i hi => hbase i (by omega)) hlt]
      exact limbAt_congr fun a _ _ => mget_limbWrite_outside _ _ (by omega)
    · exact limbAt_limbWrite _ _ _ ht

end Limbs

/-! ### The checks of a modular descriptor (R147, R151) -/

/-- A check that passes: its own condition does not hold, and the checks behind it pass. -/
theorem check_passes {c : Prop} [Decidable c] {st : Nat} {rest : Option Nat} (h : (if c then some st else rest) = none) :
    ¬ c ∧ rest = none := by
  split at h
  · cases h
  · next hc => exact ⟨hc, h⟩

/-- What the checks say of the degree, the stride and the latched entries of a descriptor that passes them. -/
theorem modCheck_facts {s : State} {d : Desc} (h : modCheck s d = none) :
    df d 33 1 ≤ 17 ∧ 4 * 2 ^ df d 33 1 ≤ limbStride d ∧ ∀ j, j < df d 35 1 →
      basisOk (limbBasis d j) = true ∧ (dOp d ≤ 0x31 → fld (limbBasis d j) 12 4 ≠ 0) := by
  obtain ⟨-, h⟩ := check_passes h
  obtain ⟨hparam, -⟩ := check_passes h
  simp only [Bool.or_eq_true, Bool.and_eq_true, Bool.not_eq_true', decide_eq_true_eq, not_or, not_and, Nat.not_lt,
    Bool.not_eq_false, List.all_eq_true, List.any_eq_true, not_exists, beq_iff_eq] at hparam
  obtain ⟨⟨⟨⟨⟨⟨⟨⟨⟨⟨⟨⟨-, -, hdeg⟩, -⟩, -⟩, -⟩, -⟩, -⟩, -⟩, -⟩, -⟩, hbasis⟩, hroot⟩, hstride⟩ := hparam
  refine ⟨hdeg, hstride, fun j hj => ?_⟩
  have hnamed : df d 34 1 + j ∈ namedEntries d := by
    simp [namedEntries, hj, Nat.add_comm]
  exact ⟨hbasis _ hnamed, fun hop => hroot (.inl hop) _ hnamed⟩
end Sys2Proof.Machine
end

section
/-! SUPPORT. The modular descriptors write their results (R134, R138 to R145), and O14 and O15. -/

namespace Sys2Proof.Machine
open Sys2Proof

variable {s : State} {d : Desc}

/-- Without a hardware error a running descriptor has its effect. -/
theorem runDesc_of_runs {i op : Nat} {eff : Desc → State → State} (h : Runs s i op d) :
    runDesc s i op .none eff = .next (eff d s) := runDescE_of_runs h

/-! ### Writing limbs -/

/-- Writing an operand's memory and moving the counter of free values do not meet. -/
theorem setOpMem_withFree (s : State) (d : Desc) (die : Nat) (loft : Bool) (m : Mem) (k : Nat) :
    setOpMem { s with free := k } d die loft m = { setOpMem s d die loft m with free := k } := by
  cases loft <;> rfl

/-- The limbs that a descriptor writes, as the statements want them; the counter of free values may have moved before. -/
theorem limbsWritten_writeLimbs {c k : Nat} {f g : Nat → Nat → Nat} (hstride : 4 * 2 ^ df d 33 1 ≤ limbStride d)
    (hfg : ∀ j t, j < c → t < 2 ^ df d 33 1 → f j t = g j t) :
    LimbsWritten s (writeLimbs { s with free := k } d c f) d c g := by
  have hbase : ∀ i, i < c → ∀ j, j < i →
      df d 52 6 + j * limbStride d + 4 * 2 ^ df d 33 1 ≤ df d 52 6 + i * limbStride d := fun i _ j hj => by
    have := Nat.mul_le_mul_right (limbStride d) hj
    rw [Nat.succ_mul] at this
    omega
  refine ⟨_, ?_, fun j t hj ht => (limbAt_limbs (f := f) hbase hj ht).trans (by rw [hfg j t hj ht]), fun a ha =>
    mget_limbs_outside ha⟩
  simp only [writeLimbs, setOpMem_withFree]
  rfl

/-- A command that answers with the limbs f written completes OK with DETAIL c, and its limbs hold g where f agrees with g. -/
theorem writes_of_modFinish {r : Res} {t : State} {c k : Nat} {bad : Bool} {f g : Nat → Nat → Nat}
    (hcheck : modCheck s d = none) (hempty : modEmpty d = false) (hr : r = .next t)
    (ht : t = modFinish { s with free := k } d bad c f) (hbad : bad = false)
    (hfg : ∀ j t, j < c → t < 2 ^ df d 33 1 → f j t = g j t) :
    ∃ u, r = .next (completeDesc u d stOk c) ∧ LimbsWritten s u d c g := by
  obtain ⟨-, hstride, -⟩ := modCheck_facts hcheck
  refine ⟨_, ?_, limbsWritten_writeLimbs (k := k) hstride hfg⟩
  simp [hr, ht, modFinish, hempty, hbad]

/-- Words that all lie below their moduli pass the check of R134. -/
theorem wordsHigh_eq_false {f : Nat → Nat → Nat} {std : Bool}
    (h : ∀ j t, j < df d 35 1 → t < 2 ^ df d 33 1 → f j t < limbPrime d j) : wordsHigh d f std = false := by
  have hany : ∀ j t, j < df d 35 1 → t < 2 ^ df d 33 1 → f j t < latPrime d (df d 34 1 + j) := h
  simp only [wordsHigh, Bool.and_eq_false_imp, List.any_eq_false, List.mem_range, decide_eq_true_eq, not_exists, not_and,
    Nat.not_le, List.any_eq_true]
  exact fun _ j hj t ht => hany j t hj ht

/-! ### VMUL and VMAC (R143) -/

/-- The word at ADDR_B that an element-wise descriptor uses for word t of limb j: a scalar, a polynomial's word, or none. -/
def operandB (s : State) (d : Desc) (j t : Nat) : Nat :=
  if usesScalar d then scalarB s d j else if usesB d then limbB s d j t else 0

/-- The word that VMAC adds to. -/
def accumulator (s : State) (d : Desc) (j t : Nat) : Nat := if dOp d == 0x33 then limbD s d j t else 0

/-- Operands in range pass an element-wise descriptor's checks of R134. -/
theorem elementWise_wordsOk (std : Bool) (h : WordsInRange s d) :
    (wordsHigh d (limbA s d) std || ((usesB d || usesScalar d) && wordsHigh d (operandB s d) false) ||
      (dOp d == 0x33 && wordsHigh d (limbD s d) false)) = false := by
  obtain ⟨ha, hb, hscalar, hd⟩ := h
  simp only [Bool.or_eq_false_iff, Bool.and_eq_false_imp]
  refine ⟨⟨wordsHigh_eq_false ha, fun huse => wordsHigh_eq_false fun j t hj ht => ?_⟩, fun hop =>
    wordsHigh_eq_false fun j t hj ht => hd j t hj ht (by simpa using hop)⟩
  unfold operandB
  split
  · next hsc => exact hscalar j hj hsc
  · next hsc =>
    have hpoly : usesB d = true := by simpa [hsc] using huse
    rw [if_pos hpoly]
    exact hb j t hj ht hpoly

theorem operandB_of_polynomial (h : usesB d = true) (j t : Nat) : operandB s d j t = limbB s d j t := by
  have hscalar : usesScalar d = false := by
    simp only [usesB, usesScalar, Bool.or_eq_true, Bool.and_eq_true, Bool.or_eq_false_iff, Bool.and_eq_false_imp, beq_iff_eq,
      beq_eq_false_iff_ne] at h ⊢
    omega
  simp [operandB, hscalar, h]

theorem operandB_of_scalar (h : usesScalar d = true) (j t : Nat) : operandB s d j t = scalarB s d j := if_pos h

theorem accumulator_of_vmac (h : dOp d = 0x33) (j t : Nat) : accumulator s d j t = limbD s d j t := by simp [accumulator, h]

/-- An element-wise command that its descriptor selects writes its operation of the operands' words. -/
theorem elementWise_writes {i op : Nat} {sel : Desc → Bool} {std : Bool} {g : Nat → Nat → Nat → Nat → Nat → Nat → Nat}
    {h : Nat → Nat → Nat} (hruns : Runs s i op d) (hsel : sel d = true) (hcheck : modCheck s d = none)
    (hempty : modEmpty d = false) (hwords : WordsInRange s d)
    (hresult : ∀ j t, g (limbPrime d j) (limbMont d j) (fld (limbBasis d j) 8 4) (limbA s d j t) (operandB s d j t)
      (accumulator s d j t) = h j t) :
    ∃ u, runDescIf s i op sel .none (fun d => elementWise d std g) = .next (completeDesc u d stOk (df d 35 1)) ∧
      LimbsWritten s u d (df d 35 1) h :=
  writes_of_modFinish hcheck hempty (runDescIf_of_runs hruns hsel) rfl (elementWise_wordsOk std hwords) fun j t _ _ => hresult j t

/-- Settles O14: `elementWise_writes`, with the operands that each OP uses. -/
theorem elementWiseResults : Obligations.ElementWiseResults := by
  unfold Obligations.ElementWiseResults
  refine ⟨?product, ?scalar, ?add, ?subtract, ?toMontgomery, ?toStandard, ?addProduct, ?addScalar, ?subProduct, ?subScalar⟩ <;>
    intro i s d hruns hop hcheck hempty hwords <;> have ⟨_, hcode, _⟩ := hruns <;>
    refine elementWise_writes hruns (by simp [hop]) hcheck hempty hwords fun j t => ?_
  case product => rw [operandB_of_polynomial (by simp [usesB, hcode, hop])]
  case scalar => rw [operandB_of_scalar (by simp [usesScalar, hcode, hop])]
  case add => rw [operandB_of_polynomial (by simp [usesB, hcode, hop])]
  case subtract => rw [operandB_of_polynomial (by simp [usesB, hcode, hop])]
  case toMontgomery => rfl
  case toStandard => rfl
  case addProduct => rw [operandB_of_polynomial (by simp [usesB, hcode, hop]), accumulator_of_vmac hcode]
  case addScalar => rw [operandB_of_scalar (by simp [usesScalar, hcode, hop]), accumulator_of_vmac hcode]
  case subProduct => rw [operandB_of_polynomial (by simp [usesB, hcode, hop]), accumulator_of_vmac hcode]
  case subScalar => rw [operandB_of_scalar (by simp [usesScalar, hcode, hop]), accumulator_of_vmac hcode]

/-! ### The conversion table (R145) -/

/-- A byte read after a list of bytes written. -/
theorem mget_writeBytes (m : Mem) (a : Nat) (l : List Nat) (j : Nat) :
    mget (writeBytes m a l) j = if a ≤ j ∧ j < a + l.length then BitVec.ofNat 8 (l.getD (j - a) 0) else mget m j := by
  induction l generalizing m a with
  | nil =>
    rw [if_neg (by simp only [List.length_nil]; omega)]
    rfl
  | cons b r ih =>
    rw [writeBytes, ih, mget_mset, List.length_cons]
    rcases Nat.lt_trichotomy j a with hlt | rfl | hgt
    · rw [if_neg (by omega), if_neg (by omega), if_neg (by omega)]
    · rw [if_neg (by omega), if_pos rfl, if_pos (by omega), Nat.sub_self, List.getD_cons_zero]
    · obtain ⟨k, rfl⟩ : ∃ k, j = a + 1 + k := ⟨j - (a + 1), by omega⟩
      rw [if_neg (show a ≠ a + 1 + k by omega), show a + 1 + k - a = k + 1 by omega, Nat.add_sub_cancel_left,
        List.getD_cons_succ]
      by_cases hk : k < r.length
      · rw [if_pos (by omega), if_pos (by omega)]
      · rw [if_neg (by omega), if_neg (by omega)]

theorem length_bytesOf (v n : Nat) : (bytesOf v n).length = n := by
  induction n generalizing v with
  | zero => rfl
  | succ n ih => rw [bytesOf, List.length_cons, ih]

theorem length_flatMap_const {α β : Type} {l : List α} {f : α → List β} {c : Nat} (h : ∀ x, (f x).length = c) :
    (l.flatMap f).length = l.length * c := by
  induction l with
  | nil => exact (Nat.zero_mul c).symm
  | cons x r ih => rw [List.flatMap_cons, List.length_append, h, ih, List.length_cons, Nat.succ_mul, Nat.add_comm]

/-- The length of R145's table: header, c_i, the words for each pair and for each target, and the reciprocals. -/
theorem length_convTable (k sf : Nat) (src : List Nat) (tf : Nat) (tgt : List Nat) :
    (convTable k sf src tf tgt).length =
      64 + 4 * (src.length + src.length * tgt.length + tgt.length) + 8 * src.length := by
  simp only [convTable, List.length_append, List.length_cons, List.length_nil, List.length_replicate, length_bytesOf,
    length_flatMap_const fun _ => length_bytesOf _ _,
    length_flatMap_const fun _ => length_flatMap_const fun _ => length_bytesOf _ _,
    List.length_zipIdx, ← Nat.mul_assoc]
  omega

/-- The table ends within the bytes that PREPARE writes. -/
theorem length_convTable_le (k sf : Nat) (src : List Nat) (tf : Nat) (tgt : List Nat) :
    (convTable k sf src tf tgt).length ≤ convSize src.length tgt.length := by
  rw [length_convTable, convSize, cdiv]
  omega

/-- Bytes written into a cleared range that holds them: the rest of the range reads 0, and every other byte is as before. -/
theorem mget_writeBytes_mclear (m : Mem) {a n : Nat} {l : List Nat} (hl : l.length ≤ n) :
    (∀ k, k < n → mget (writeBytes (mclear m a n) a l) (a + k) = BitVec.ofNat 8 (l.getD k 0)) ∧
      ∀ j, (j < a ∨ a + n ≤ j) → mget (writeBytes (mclear m a n) a l) j = mget m j := by
  refine ⟨fun k hk => ?_, fun j hj => ?_⟩
  · rw [mget_writeBytes, Nat.add_sub_cancel_left]
    split
    · rfl
    · next hout =>
      rw [mget_mclear, if_pos (by omega), List.getD_eq_getElem?_getD, List.getElem?_eq_none (by omega)]
      rfl
  · rw [mget_writeBytes, if_neg (by omega), mget_mclear, if_neg (by omega)]

/-! ### Transforms, conversions and automorphisms -/

/-- Settles O15: the limbs by `writes_of_modFinish`, with `nttAt_eq` for the transform in the form of R138; the table of PREPARE by
`mget_writeBytes_mclear`. -/
theorem transformResults : Obligations.TransformResults := by
  unfold Obligations.TransformResults
  refine ⟨?ntt, ?intt, ?fast, ?exact, ?prepare, ?coefficient, ?slots⟩
  case ntt =>
    intro i s d hruns hcheck hempty hwords
    obtain ⟨hdeg, -, hbasis⟩ := modCheck_facts hcheck
    refine writes_of_modFinish (r := execNtt i .none s) (k := s.free) hcheck hempty (runDesc_of_runs hruns) rfl
      (wordsHigh_eq_false hwords.1) fun j x hj _ => ?_
    obtain ⟨hok, hroot⟩ := hbasis j hj
    have ⟨_, hcode, _⟩ := hruns
    have hlow := (basisOk_facts hok).1.low
    rw [← sumTo_eq_list_sum]
    exact nttAt_eq (Nat.lt_trans (by decide) hlow) hdeg (psiN_root hok (hroot (hcode ▸ by decide)) hdeg) _ _
  case intt =>
    intro i s d hruns hcheck hempty hwords
    exact writes_of_modFinish (r := execIntt i .none s) (k := s.free) hcheck hempty (runDesc_of_runs hruns) rfl
      (wordsHigh_eq_false hwords.1) fun _ _ _ _ => rfl
  case fast =>
    intro i s d hruns hop hcheck hempty hwords
    exact writes_of_modFinish hcheck hempty (runDescIf_of_runs hruns (by simp [hop])) rfl (wordsHigh_eq_false hwords.1)
      fun _ _ _ _ => rfl
  case exact =>
    intro i s d hruns hop hcheck hempty hwords
    exact writes_of_modFinish hcheck hempty (runDescIf_of_runs hruns (by simp [hop])) rfl (wordsHigh_eq_false hwords.1)
      fun _ _ _ _ => rfl
  case prepare =>
    intro i s d hruns hop _ hempty
    have hlen := length_convTable_le s.free (df d 34 1) ((List.range (df d 35 1)).map (fun x => latPrime d (df d 34 1 + x)))
      (df d 58 1) ((List.range (df d 59 1)).map (fun x => latPrime d (df d 58 1 + x)))
    simp only [List.length_map, List.length_range] at hlen
    exact ⟨_, (runDescIf_of_runs hruns (by simp [hop])).trans (congrArg _ (if_neg (by simp [hempty]))), _, rfl,
      mget_writeBytes_mclear _ hlen⟩
  case coefficient =>
    intro i s d hruns hop hcheck hempty hwords
    exact writes_of_modFinish (k := s.free) hcheck hempty (runDescIf_of_runs hruns (by simp [hop])) rfl
      (wordsHigh_eq_false hwords.1) fun _ _ _ _ => rfl
  case slots =>
    intro i s d hruns hop hcheck hempty hwords
    exact writes_of_modFinish (k := s.free) hcheck hempty (runDescIf_of_runs hruns (by simp [hop])) rfl
      (wordsHigh_eq_false hwords.1) fun _ _ _ _ => rfl

end Sys2Proof.Machine
end

section
/-! SUPPORT. The ciphertext descriptors write their result object (R163, R175, R178, R179), and O18. -/

namespace Sys2Proof.Machine
open Sys2Proof

variable {s : State} {d : Desc}

/-! ### Objects in memory (R163) -/

/-- The words of an object just written. -/
theorem objPoly_objWrite (m : Mem) (a k hdr : Nat) {parts l n : Nat} (c : CtPoly) {part i t : Nat} (hpart : part < parts)
    (hi : i ≤ l) (ht : t < 2 ^ n) : objPoly (objWrite m a k hdr parts l n c) a l n part i t = c part i t % 2 ^ 32 := by
  have hlimb : part * (l + 1) + i < parts * (l + 1) := by
    have := Nat.mul_le_mul_right (l + 1) (Nat.succ_le_of_lt hpart)
    rw [Nat.succ_mul] at this
    omega
  have hpartOf : (part * (l + 1) + i) / (l + 1) = part := by
    rw [Nat.mul_comm, Nat.mul_add_div (by omega), Nat.div_eq_of_lt (by omega), Nat.add_zero]
  have hlimbOf : (part * (l + 1) + i) % (l + 1) = i := by
    rw [Nat.mul_comm, Nat.mul_add_mod, Nat.mod_eq_of_lt (by omega)]
  have hbase : ∀ i, i < parts * (l + 1) → ∀ j, j < i → a + 4096 + j * 4 * 2 ^ n + 4 * 2 ^ n ≤ a + 4096 + i * 4 * 2 ^ n :=
    fun i _ j hj => by
      have := Nat.mul_le_mul_right (4 * 2 ^ n) (Nat.succ_le_of_lt hj)
      rw [Nat.succ_mul, ← Nat.mul_assoc, ← Nat.mul_assoc] at this
      omega
  exact (limbAt_limbs (f := fun i => c (i / (l + 1)) (i % (l + 1))) hbase hlimb ht).trans (by rw [hpartOf, hlimbOf])

/-- Writing an object leaves every byte outside it. -/
theorem mget_objWrite_outside (m : Mem) {a : Nat} (k hdr : Nat) {parts l n : Nat} (c : CtPoly) {j : Nat}
    (h : j < a ∨ a + (4096 + parts * (l + 1) * 4 * 2 ^ n) ≤ j) : mget (objWrite m a k hdr parts l n c) j = mget m j := by
  have hlimbs : ∀ i, i < parts * (l + 1) → j < a + 4096 + i * 4 * 2 ^ n ∨ a + 4096 + i * 4 * 2 ^ n + 4 * 2 ^ n ≤ j :=
    fun i hi => by
      have := Nat.mul_le_mul_right (4 * 2 ^ n) (Nat.succ_le_of_lt hi)
      rw [Nat.succ_mul, ← Nat.mul_assoc, ← Nat.mul_assoc] at this
      omega
  rw [objWrite, mget_limbs_outside (f := fun i => c (i / (l + 1)) (i % (l + 1))) hlimbs, mget_mwr_outside _ _ _ _ _ (by omega),
    mget_mfree_outside _ _ _ _ _ (by omega)]

theorem opMem_setOpMem (s : State) (d : Desc) (die : Nat) (loft : Bool) (m : Mem) :
    opMem (setOpMem s d die loft m) d die loft = m := by
  cases loft
  · exact vmOf_setVm ..
  · exact loftOf_setLoft ..

/-! ### Sum, product and drop (R175, R179) -/

/-- A ciphertext result is the object with its words, and nothing else changes. -/
theorem sResult_writes (s : State) (d : Desc) (count : Nat) (c : CtPoly) :
    ∃ u, sResult s d count c = completeDesc u d stOk 1 ∧ ObjectWritten s u d 2 c :=
  ⟨_, rfl, _, _, rfl, fun _ _ _ hpart hi ht => objPoly_objWrite _ _ _ _ c hpart hi ht, fun _ ha =>
    mget_objWrite_outside _ _ _ c ha⟩

/-- A command that answers with a ciphertext result completes OK with that object written. -/
theorem writes_of_sResult {r : Res} {t : State} {count : Nat} {c : CtPoly} (hr : r = .next t) (ht : t = sResult s d count c) :
    ∃ u, r = .next (completeDesc u d stOk 1) ∧ ObjectWritten s u d 2 c := by
  obtain ⟨u, hu, hobject⟩ := sResult_writes s d count c
  exact ⟨u, by rw [hr, ht, hu], hobject⟩

theorem ctAddEff_inRange (hreload : sReload s d = s) (ha : ctHigh s d (levelA s d) 2 (ctOperandA s d) = false)
    (hb : ctHigh s d (levelA s d) 2 (ctOperandB s d) = false) :
    ctAddEff d s = sResult s d (countAt s d (sLoftA d) (df d 36 6) + countAt s d (sLoftB d) (df d 42 6)) (fun part k t =>
      (ctOperandA s d part k t + ctOperandB s d part k t) % wPrime (limbWord s (dCtx d) (latBasis d) k)) := by
  simp only [ctOperandA, ctOperandB] at ha hb ⊢
  simp only [ctAddEff, hreload, ha, hb, Bool.or_self, Bool.false_eq_true, if_false]

theorem ctPmulEff_inRange (hreload : sReload s d = s) (ha : ctHigh s d (levelA s d) 2 (ctOperandA s d) = false)
    (hb : ctHigh s d (levelA s d) 1 (ctOperandB s d) = false) :
    ctPmulEff d s = sResult s d (countAt s d (sLoftA d) (df d 36 6)) (fun part k t =>
      wMul (limbWord s (dCtx d) (latBasis d) k) (ctOperandA s d part k t) (ctOperandB s d 0 k t)) := by
  simp only [ctOperandA, ctOperandB] at ha hb ⊢
  simp only [ctPmulEff, hreload, ha, hb, Bool.or_self, Bool.false_eq_true, if_false]

theorem moddropEff_inRange (hreload : sReload s d = s) (ha : ctHigh s d (levelA s d) 2 (ctOperandA s d) = false) :
    moddropEff d s = sResult s d (countAt s d (sLoftA d) (df d 36 6))
      (dropTo s (dCtx d) (latBasis d) (levelA s d) (df d 34 1) (ctOperandA s d)) := by
  simp only [ctOperandA] at ha ⊢
  simp only [moddropEff, hreload, ha, Bool.false_eq_true, if_false]

/-! ### Key switches (R162, R178) -/

/-- Every label of a chunk that the switch reads is right (R162). -/
abbrev LabelsOk (s : State) (d : Desc) : Prop :=
  (switchChunks s (dCtx d) (df d 54 2) (levelA s d)).all (labelOk s (dCtx d) (posOf s (dCtx d) (df d 32 1))) = true

/-- Every word of the switch key that the switch reads is below its prime (R134). -/
abbrev KeyWordsOk (s : State) (d : Desc) : Prop :=
  ∀ k ∈ switchLimbs s (dCtx d) (levelA s d), ∀ j t part, j < digitsUsed s (dCtx d) (levelA s d) →
    t < 2 ^ ksLogN s (dCtx d) → part < 2 →
      keyWord s (dCtx d) (df d 32 1) (df d 54 2) j part k t < wPrime (limbWord s (dCtx d) (latBasis d) k)

/-- Of a list whose every element passes, the longest passing front is the list. -/
theorem takeWhile_of_all {α : Type} {p : α → Bool} {l : List α} (h : l.all p = true) : l.takeWhile p = l := by
  induction l with
  | nil => rfl
  | cons x r ih =>
    rw [List.all_cons, Bool.and_eq_true] at h
    rw [List.takeWhile_cons_of_pos h.1, ih h.2]

/-- The ciphertext that a switch works on: the operand, or for a rotation its automorphism. -/
def switchInput (s : State) (d : Desc) (g : Option Nat) : CtPoly :=
  match g with
  | none => ctOperandA s d
  | some k => fun part i t => ctOperandA s d part i (autoSlot (ksLogN s (dCtx d)) k t)

/-- A switch whose keys are at hand, with labels and words right, writes the switched ciphertext. -/
theorem switchEff_writes (g : Option Nat) (hreload : sReload s d = s)
    (ha : ctHigh s d (levelA s d) 2 (ctOperandA s d) = false) (hlabels : LabelsOk s d) (hkeys : KeyWordsOk s d) :
    ∃ u, switchEff g d s = completeDesc u d stOk 1 ∧
      ∀ part k t, part < 2 → k ≤ levelA s d → t < 2 ^ ksLogN s (dCtx d) →
        objPoly (opMem u d (df d 32 1) (sLoftD d)) (df d 48 6) (levelA s d) (ksLogN s (dCtx d)) part k t =
          switchCt s (dCtx d) (df d 32 1) (df d 54 2) (latBasis d) (levelA s d) (switchInput s d g) part k t % 2 ^ 32 := by
  have hgood : (switchChunks s (dCtx d) (df d 54 2) (levelA s d)).takeWhile
      (labelOk s (dCtx d) (posOf s (dCtx d) (df d 32 1))) = switchChunks s (dCtx d) (df d 54 2) (levelA s d) :=
    takeWhile_of_all hlabels
  have hhigh : ((switchLimbs s (dCtx d) (levelA s d)).any fun i =>
      (List.range (digitsUsed s (dCtx d) (levelA s d))).any fun j => (List.range (2 ^ ksLogN s (dCtx d))).any fun t =>
        (List.range 2).any fun part => decide (wPrime (limbWord s (dCtx d) (latBasis d) i) ≤
          keyWord s (dCtx d) (df d 32 1) (df d 54 2) j part i t)) = false := by
    simp only [List.any_eq_false, List.any_eq_true, List.mem_range, decide_eq_true_eq, not_exists, not_and, Nat.not_le]
    exact fun k hk j hj t ht part hpart => hkeys k hk j t part hj ht hpart
  rw [ctOperandA] at ha
  simp only [switchEff, hreload, hgood, Nat.lt_irrefl, hhigh, ha, Bool.or_self, Bool.false_eq_true, if_false]
  exact ⟨_, rfl, fun part k t hpart hk ht =>
    (congrArg (objPoly · _ _ _ part k t) (opMem_setOpMem ..)).trans (objPoly_objWrite _ _ _ _ _ hpart hk ht)⟩

/-- A key switch that its command runs completes OK with the switched ciphertext. -/
theorem writes_of_switchEff {r : Res} {t : State} {g : Option Nat} (hr : r = .next t) (ht : t = switchEff g d s)
    (hreload : sReload s d = s) (ha : ctHigh s d (levelA s d) 2 (ctOperandA s d) = false) (hlabels : LabelsOk s d)
    (hkeys : KeyWordsOk s d) :
    ∃ u, r = .next (completeDesc u d stOk 1) ∧
      ∀ part k t, part < 2 → k ≤ levelA s d → t < 2 ^ ksLogN s (dCtx d) →
        objPoly (opMem u d (df d 32 1) (sLoftD d)) (df d 48 6) (levelA s d) (ksLogN s (dCtx d)) part k t =
          switchCt s (dCtx d) (df d 32 1) (df d 54 2) (latBasis d) (levelA s d) (switchInput s d g) part k t % 2 ^ 32 := by
  obtain ⟨u, hu, hwords⟩ := switchEff_writes g hreload ha hlabels hkeys
  exact ⟨u, by rw [hr, ht, hu], hwords⟩

/-- Settles O18: sum, product and drop by `writes_of_sResult`, the two switches by `writes_of_switchEff`. -/
theorem ciphertextResults : Obligations.CiphertextResults := by
  unfold Obligations.CiphertextResults
  refine ⟨?sum, ?product, ?drop, ?switch, ?rotation⟩
  case sum =>
    rintro i s d ⟨hruns, -, hreload, ha⟩ hb
    exact writes_of_sResult (runDesc_of_runs hruns) (ctAddEff_inRange hreload ha hb)
  case product =>
    rintro i s d ⟨hruns, -, hreload, ha⟩ hb
    exact writes_of_sResult (runDesc_of_runs hruns) (ctPmulEff_inRange hreload ha hb)
  case drop =>
    rintro i s d ⟨hruns, -, hreload, ha⟩
    exact writes_of_sResult (runDesc_of_runs hruns) (moddropEff_inRange hreload ha)
  case switch =>
    rintro i s d ⟨hruns, -, hreload, ha⟩ hlabels hkeys
    exact writes_of_switchEff (g := none) (runDesc_of_runs hruns) rfl hreload ha hlabels hkeys
  case rotation =>
    rintro i s d ⟨hruns, -, hreload, ha⟩ hlabels hkeys
    exact writes_of_switchEff (r := execRotate i .none s) (g := some (df d 56 8)) (runDesc_of_runs hruns) rfl hreload ha hlabels
      hkeys

end Sys2Proof.Machine
end

section
/-! SUPPORT. What an encryption, a decryption share and a key-share message leave (R163, R165, R180 to R182), and O19. -/

namespace Sys2Proof.Machine
open Sys2Proof

variable {s : State} {d : Desc}

/-! ### The TYPE of an object (R163) -/

theorem fld_type_ctHeader {ty : Nat} (hty : ty < 256) (logN level member id tag bound digest count : Nat) :
    fld (ctHeader ty logN level member id tag bound digest count) 0 1 = ty := by
  simp only [fld, ctHeader]
  omega

/-- The TYPE byte of an object just written is that of its header: the limbs begin 4,096 bytes later. -/
theorem type_objWrite (m : Mem) (a k hdr parts l n : Nat) (c : CtPoly) :
    mrd (objWrite m a k hdr parts l n c) a 1 = fld hdr 0 1 := by
  rw [objWrite, mrd_congr fun j _ _ => mget_limbs_outside fun i _ => .inl (by omega)]
  exact mrd_mwr_inside _ a 64 hdr 0 1 (by decide)

/-! ### Random words (R180, R480) -/

theorem rngEntries_pos {nbits : Nat} (h : 0 < nbits) : 0 < rngEntries nbits := by
  simp only [rngEntries, cdiv]
  omega

/-- A draw of at least one bit takes from a queue that holds something. -/
theorem rngDraw_shortens {nbits : Nat} (hqueue : s.rng.queue ≠ []) (hbits : 0 < nbits) :
    (rngDraw s nbits).rng.queue.length < s.rng.queue.length := by
  have hentries := rngEntries_pos hbits
  have hlength := List.length_pos_iff.2 hqueue
  simp only [rngDraw, rngTake, List.length_drop]
  omega

/-! ### Results that draw random words -/

/-- The state u holds an object of the type at ADDR_D, and fewer random words than s. -/
def ObjectDrawn (s u : State) (d : Desc) (ty : Nat) : Prop :=
  mrd (opMem u d (df d 32 1) (sLoftD d)) (df d 48 6) 1 = ty ∧ u.rng.queue.length < s.rng.queue.length

theorem rng_setOpMem (s : State) (d : Desc) (die : Nat) (loft : Bool) (m : Mem) : (setOpMem s d die loft m).rng = s.rng := by
  cases loft <;> rfl

/-- A result finished after a draw is an object of its type, and the draw took random words. -/
theorem sFinish_drawn {ty nbits : Nat} (hty : ty < 256) (hqueue : s.rng.queue ≠ []) (hbits : 0 < nbits)
    (k member id tag bound count st parts : Nat) (c : CtPoly) :
    ∃ u, sFinish { rngDraw s nbits with free := k } d ty member id tag bound count st parts c = completeDesc u d st 1 ∧
      ObjectDrawn s u d ty := by
  refine ⟨_, rfl, ?type, ?queue⟩
  case type =>
    exact (congrArg (mrd · _ 1) (opMem_setOpMem ..)).trans ((type_objWrite ..).trans (fld_type_ctHeader hty ..))
  case queue =>
    rw [rng_setOpMem]
    exact rngDraw_shortens hqueue hbits

/-! ### ENCRYPT_CLEAR and DECRYPT_SHARE (R180, R181) -/

/-- Every label of a public-key chunk that the encryption reads is right (R162). -/
abbrev PublicLabelsOk (s : State) (d : Desc) : Prop :=
  (publicChunks s (dCtx d) (df d 34 1)).all (labelOk s (dCtx d) (posOf s (dCtx d) (df d 32 1))) = true

theorem slotStatus_cases (l : List (Nat × Bool × Bool)) :
    slotStatus l = stOk ∨ slotStatus l = stInexact ∨ slotStatus l = stSaturated := by
  unfold slotStatus
  split
  · exact .inr (.inr rfl)
  · split
    · exact .inr (.inl rfl)
    · exact .inl rfl

/-- ENCRYPT_CLEAR of no row completes OK and changes nothing else. -/
theorem encryptEff_of_empty (hempty : sEmpty d = true) : encryptEff d s = completeDesc s d stOk 0 := by
  simp only [encryptEff, hempty, if_true]

/-- ENCRYPT_CLEAR with keys, labels and random words at hand leaves a ciphertext, with the status of its slots. -/
theorem encryptEff_drawn (hreload : sReload s d = s) (hempty : sEmpty d = false) (hqueue : s.rng.queue ≠ [])
    (hlabels : PublicLabelsOk s d) :
    ∃ st, (st = stOk ∨ st = stInexact ∨ st = stSaturated) ∧
      ∃ u, encryptEff d s = completeDesc u d st 1 ∧ ObjectDrawn s u d 0x43 := by
  have hbits : 0 < 2 ^ ksLogN s (dCtx d) * (2 + 4 * ksFld s (dCtx d) 0 19 1) := Nat.mul_pos (Nat.two_pow_pos _) (by omega)
  simp only [encryptEff, hempty, hreload, hqueue, hlabels, Bool.false_eq_true, Bool.true_eq_false, if_false]
  exact ⟨_, slotStatus_cases _, sFinish_drawn (by decide) hqueue hbits ..⟩

/-- An ENCRYPT_CLEAR that its descriptor selects answers with its ciphertext. -/
theorem encryptClear_drawn {i : Nat} {sel : Desc → Bool} (hruns : Runs s i 0x45 d) (hsel : sel d = true)
    (hreload : sReload s d = s) (hempty : sEmpty d = false) (hqueue : s.rng.queue ≠ [])
    (hlabels : PublicLabelsOk s d) :
    ∃ st, (st = stOk ∨ st = stInexact ∨ st = stSaturated) ∧
      ∃ u, runDescIf s i 0x45 sel .none encryptEff = .next (completeDesc u d st 1) ∧ ObjectDrawn s u d 0x43 := by
  obtain ⟨st, hst, u, hu, hdrawn⟩ := encryptEff_drawn hreload hempty hqueue hlabels
  exact ⟨st, hst, u, (runDescIf_of_runs hruns hsel).trans (congrArg _ hu), hdrawn⟩

/-- DECRYPT_SHARE of a ciphertext in range, with random words at hand, leaves a share object. -/
theorem decryptEff_drawn (hreload : sReload s d = s) (ha : ctHigh s d (levelA s d) 2 (ctOperandA s d) = false)
    (hqueue : s.rng.queue ≠ []) : ∃ u, decryptEff d s = completeDesc u d stOk 1 ∧ ObjectDrawn s u d 0x44 := by
  have hbits : 0 < 2 ^ ksLogN s (dCtx d) * (ksFld s (dCtx d) 0 37 1 + 1) := Nat.mul_pos (Nat.two_pow_pos _) (by omega)
  rw [ctOperandA] at ha
  simp only [decryptEff, hreload, hqueue, ha, Bool.false_eq_true, if_false]
  exact sFinish_drawn (by decide) hqueue hbits ..

/-! ### Key shares (R182) -/

/-- The state that holds an accepted key share in every copy of the area, before its answer. -/
def keyShareStored (s : State) (key : Nat) (m : KeyShareMsg) : State :=
  let n := (keyOf s key).ctx
  let s1 := (shareCopies s n).foldl (fun s x => writeShare s n m x) s
  wrE (setCx s1 n { cx s1 n with kshare := ((cx s1 n).kshare ++ shareCopies s n).eraseDups }) eKeyshareState n 1

theorem keyShareIn_accepted {key : Nat} {m : KeyShareMsg} (reply : State → Nat → State) (hlive : (keyOf s key).st = 1)
    (hkind : (keyOf s key).kind = 2) (hcheck : keyShareCheck s key m = none) :
    keyShareIn key m reply s = reply (keyShareStored s key m) stOk := by
  simp only [keyShareIn, hlive, hkind, hcheck, ne_eq, not_true_eq_false, if_false, keyShareStored]

/-- The copies lie in device memory alone: the key and what was sent are as before. -/
theorem keyShareStored_frame (s : State) (key : Nat) (m : KeyShareMsg) :
    keyOf (keyShareStored s key m) key = keyOf s key ∧ (keyShareStored s key m).sent = s.sent := by
  have hcopies := foldl_keeps (s := s) (fun t => (keyOf t key, t.sent)) (f := fun t x => writeShare t (keyOf s key).ctx m x)
    (fun _ _ => rfl) (shareCopies s (keyOf s key).ctx)
  exact Prod.mk.inj hcopies

theorem rdE_keyShareStored (s : State) (key : Nat) (m : KeyShareMsg) :
    rdE (keyShareStored s key m) eKeyshareState (keyOf s key).ctx = 1 := by
  simp [keyShareStored]

theorem rdE_replyMsg (s : State) (key code : Nat) (e : Ent) (n : Nat) : rdE (replyMsg s key code) e n = rdE s e n := rfl

theorem execKeyShareMessage_accepted {key : Nat} {m : KeyShareMsg} (hfrozen : s.pwr.frozen = false)
    (hlive : (keyOf s key).st = 1) (hkind : (keyOf s key).kind = 2) (hcheck : keyShareCheck s key m = none) :
    execKeyShareMessage key m s = .next (replyMsg (keyShareStored s key m) key stOk) := by
  rw [execKeyShareMessage, hfrozen, keyShareIn_accepted _ hlive hkind hcheck, if_neg (by decide)]

/-- Settles O19: both forms of ENCRYPT_CLEAR by `encryptClear_drawn`, the share by `decryptEff_drawn`; an accepted key share
stands in `keyShareStored` and is answered from there. -/
theorem encryptionAndShares : Obligations.EncryptionAndShares := by
  unfold Obligations.EncryptionAndShares
  refine ⟨?int32, ?fp32Pair, ?noRows, ?share, ?keyShare⟩
  case int32 =>
    intro i s d hruns hop _ hreload hempty hqueue hlabels
    exact encryptClear_drawn hruns (by simpa using hop) hreload hempty hqueue hlabels
  case fp32Pair =>
    intro i s d hruns hop _ hreload hempty hqueue hlabels
    exact encryptClear_drawn hruns (by simpa using hop) hreload hempty hqueue hlabels
  case noRows =>
    intro i s d hruns hop _ hempty
    exact ⟨s, (runDescIf_of_runs hruns (by simpa using hop)).trans (congrArg _ (encryptEff_of_empty hempty)), rfl⟩
  case share =>
    rintro i s d ⟨hruns, -, hreload, ha⟩ hqueue
    obtain ⟨u, hu, hdrawn⟩ := decryptEff_drawn hreload ha hqueue
    exact ⟨u, (runDesc_of_runs hruns).trans (congrArg _ hu), hdrawn⟩
  case keyShare =>
    intro key m s hfrozen hlive hkind hcheck
    obtain ⟨hkey, hsent⟩ := keyShareStored_frame s key m
    refine ⟨_, execKeyShareMessage_accepted hfrozen hlive hkind hcheck, ?_, ?_⟩
    · rw [rdE_replyMsg, rdE_keyShareStored]
    · rw [(replyMsg_ok _ key).2, hkey, hsent]

end Sys2Proof.Machine
end

section
/-! SUPPORT. The rows that a local Shared descriptor writes (R200 to R202), and O20. -/

namespace Sys2Proof.Machine
open Sys2Proof

variable {s : State} {d : Desc}

/-! ### Rows of 32-bit words -/

theorem rowWrite_append (m : Mem) (a b : Nat) (xs : List Nat) (x : Nat) :
    rowWrite m a b (xs ++ [x]) = mwr (rowWrite m a b xs) (a + b * xs.length) b x := by
  induction xs generalizing m a with
  | nil => simp [rowWrite]
  | cons y ys ih => simp [rowWrite, ih, Nat.mul_succ, Nat.add_assoc, Nat.add_comm b]

/-- A row of k words is written as a limb of k words is. -/
theorem rowWrite_map_range (m : Mem) (a : Nat) (f : Nat → Nat) (k : Nat) :
    rowWrite m a 4 ((List.range k).map f) = limbWrite m a f k := by
  induction k with
  | zero => rfl
  | succ k ih => simp [List.range_succ, rowWrite_append, ih, limbWrite]

/-- Two rows combined lane by lane. -/
theorem zipWith_map_range (f : Nat → Nat → Nat) (g h : Nat → Nat) (k : Nat) :
    List.zipWith f ((List.range k).map g) ((List.range k).map h) = (List.range k).map fun j => f (g j) (h j) := by
  rw [List.zipWith_map, List.zipWith_self]

theorem shRow_eq (s : State) (n a r : Nat) : shRow s n a r = (List.range 1024).map (shareWord s n a r) := rfl

theorem vmOf_setVm_ne (s : State) {n k : Nat} (m : Mem) (h : n ≠ k) : vmOf (setVm s n m) k = vmOf s k := by
  simp [vmOf, setVm, tget_tset, h]

/-! ### Writing rows of a share vector -/

/-- Row r of the vector at a of context n written with its words and its check value. -/
def putShareRow (n a : Nat) (w : Nat → Nat → Nat) (c : Nat → Nat) (s : State) (r : Nat) : State :=
  setChk (shPut s n a r ((List.range 1024).map (w r))) n (a + 4096 * r) (c r)

/-- Rows of a vector written one after another. -/
def putShareRows (s : State) (n a : Nat) (w : Nat → Nat → Nat) (c : Nat → Nat) (rows : List Nat) : State :=
  rows.foldl (putShareRow n a w c) s

section Rows
variable (s : State) (n a : Nat) (w : Nat → Nat → Nat) (c : Nat → Nat) (rows : List Nat)

/-- Only device memory and contexts change. -/
theorem putShareRows_frame :
    putShareRows s n a w c rows =
      { s with vm := (putShareRows s n a w c rows).vm, ctxs := (putShareRows s n a w c rows).ctxs } := by
  have hrest : ({ putShareRows s n a w c rows with vm := [], ctxs := [] } : State) = { s with vm := [], ctxs := [] } :=
    foldl_keeps (fun t : State => { t with vm := [], ctxs := [] }) (fun t r => by simp [putShareRow, setChk, shPut]) rows
  exact congrArg (fun t : State =>
    { t with vm := (putShareRows s n a w c rows).vm, ctxs := (putShareRows s n a w c rows).ctxs }) hrest

/-- Of the contexts only that of the vector changes. -/
theorem putShareRows_other {m : Nat} (hm : m ≠ n) :
    vmOf (putShareRows s n a w c rows) m = vmOf s m ∧ cx (putShareRows s n a w c rows) m = cx s m := by
  refine Prod.mk.inj (foldl_keeps (fun t => (vmOf t m, cx t m)) (fun t r => ?_) rows)
  simp [putShareRow, setChk, shPut, cx_setCx_ne _ _ hm.symm, vmOf_setVm_ne _ _ hm.symm]

/-- Of the vector's context only the check values change. -/
theorem putShareRows_cx :
    cx (putShareRows s n a w c rows) n = { cx s n with chk := (cx (putShareRows s n a w c rows) n).chk } :=
  congrArg (fun x : Ctx => { x with chk := (cx (putShareRows s n a w c rows) n).chk })
    (foldl_keeps (s := s) (fun t => { cx t n with chk := [] }) (fun t r => by simp [putShareRow, setChk, shPut]) rows)

/-- In the memory each row is a limb of 1,024 words. -/
theorem vmOf_putShareRows :
    vmOf (putShareRows s n a w c rows) n = rows.foldl (fun m r => limbWrite m (a + 4096 * r) (w r) 1024) (vmOf s n) :=
  (List.foldl_hom (vmOf · n) fun t r => by simp [putShareRow, setChk, shPut, rowWrite_map_range]).symm

end Rows

/-- The rows that d names, written at its destination. -/
theorem shareRowsWritten_putShareRows {w f : Nat → Nat → Nat} (c : Nat → Nat)
    (hwf : ∀ r j, w r j % 2 ^ 32 = f r j % 2 ^ 32) :
    ShareRowsWritten s (putShareRows s (dCtx d) (df d 54 6) w c (shRows d)) d f := by
  have hvm := vmOf_putShareRows s (dCtx d) (df d 54 6) w c (shRows d)
  simp only [shRows, List.foldl_map] at hvm
  refine ⟨putShareRows_frame .., fun n hn => putShareRows_other _ _ _ _ _ _ hn, putShareRows_cx .., ?words, ?outside⟩
  case words =>
    intro r j hlow hhigh hj
    have hword := limbAt_limbs (m := vmOf s (dCtx d)) (base := fun k => df d 54 6 + 4096 * (k + shFirst d))
      (f := fun k => w (k + shFirst d)) (c := shCount d) (j := r - shFirst d) (fun i _ k _ => by omega) (by omega) hj
    rw [Nat.sub_add_cancel hlow, hwf] at hword
    rw [shareWord, shRows, hvm]
    exact hword
  case outside =>
    intro b hb
    rw [shRows, hvm]
    exact mget_limbs_outside fun k _ => by omega

/-! ### The element-wise descriptors (R201) -/

/-- The word that lane j of row r takes from the second operand: SH_SCALE has none. -/
def secondWord (s : State) (d : Desc) (r j : Nat) : Nat :=
  if dOp d = 0x51 then 0 else shareWord s (dCtx d) (df d 48 6) r j

theorem secondRow_eq (s : State) (d : Desc) (r : Nat) :
    (if dOp d = 0x51 then List.replicate 1024 0 else (List.range 1024).map (shareWord s (dCtx d) (df d 48 6) r)) =
      (List.range 1024).map (secondWord s d r) := by
  by_cases hop : dOp d = 0x51
  · rw [if_pos hop, show secondWord s d r = fun _ => 0 from funext fun _ => if_pos hop, List.map_const', List.length_range]
  · rw [if_neg hop, show secondWord s d r = _ from funext fun _ => if_neg hop]

/-- An element-wise descriptor completes OK, and its rows hold f of its operands. -/
theorem shElementWise_writes {f g out : Nat → Nat → Nat}
    (hout : ∀ r j, f (shareWord s (dCtx d) (df d 42 6) r j) (secondWord s d r j) % 2 ^ 32 = out r j % 2 ^ 32) :
    ∃ u, shElementWise d f g s = completeDesc u d stOk (shCount d) ∧ ShareRowsWritten s u d out := by
  simp only [shElementWise, secondRow_eq, shRow_eq, zipWith_map_range]
  exact ⟨_, rfl, shareRowsWritten_putShareRows _ hout⟩

/-- A Shared descriptor that runs with its element-wise effect answers with its rows. -/
theorem next_shElementWise {r : Res} {f g out : Nat → Nat → Nat} (hr : r = .next (shElementWise d f g s))
    (hout : ∀ r j, f (shareWord s (dCtx d) (df d 42 6) r j) (secondWord s d r j) % 2 ^ 32 = out r j % 2 ^ 32) :
    ∃ u, r = .next (completeDesc u d stOk (shCount d)) ∧ ShareRowsWritten s u d out := by
  obtain ⟨u, hu, hrows⟩ := shElementWise_writes (g := g) hout
  exact ⟨u, hr.trans (congrArg _ hu), hrows⟩

/-- SH_ADD takes its second operand from ADDR_B. -/
theorem secondWord_of_runs {i r j : Nat} (h : Runs s i 0x50 d) : secondWord s d r j = shareWord s (dCtx d) (df d 48 6) r j := by
  obtain ⟨-, hop, -⟩ := h
  simp [secondWord, hop]

/-- Settles O20: each form is `shElementWise` of its operation, whose rows `shElementWise_writes` gives. -/
theorem sharedLocalResults : Obligations.SharedLocalResults := by
  unfold Obligations.SharedLocalResults
  refine ⟨?add, ?addPublic, ?subtract, ?scale⟩
  case add =>
    intro i s d hruns hform _
    refine next_shElementWise (runDescIf_of_runs hruns (by simp [hform])) fun r j => ?_
    rw [secondWord_of_runs hruns, add32, Nat.mod_mod]
  case addPublic =>
    intro i s d hruns hform _
    refine next_shElementWise (runDescIf_of_runs hruns (by simp [hform])) fun r j => ?_
    rw [secondWord_of_runs hruns]
    split
    · rw [add32, Nat.mod_mod]
    · rfl
  case subtract =>
    intro i s d hruns hform _
    refine next_shElementWise (runDescIf_of_runs hruns (by simp [hform])) fun r j => ?_
    rw [secondWord_of_runs hruns, sub32, Nat.mod_mod]
  case scale =>
    intro i s d hruns _
    exact next_shElementWise (runDesc_of_runs hruns) fun r j => Nat.mod_mod ..

end Sys2Proof.Machine
end

section
/-! SUPPORT. Where the table of session keys rises, as every write of it leaves it, an exchange sends its handshake to every
verified peer with a session and waits (R192, R208): the two clauses of O21 that `strayKeys` breaks. -/

namespace Sys2Proof.Machine
open Sys2Proof

variable {s : State} {d : Desc}

/-! ### The session of a party (R192) -/

theorem tget_of_keysFrom {α : Type} {t : Tbl α} {a k : Nat} (dflt : α) (h : keysFrom a t) (hk : k < a) : tget t dflt k = dflt := by
  induction t with
  | nil => rfl
  | cons c r ih =>
    have hc := h c (by simp)
    rw [tget, if_neg (by omega), ih fun x hx => h x (by simp [hx])]

/-- Rewriting the record of a LIVE key moves no search that the rewritten record passes as before. -/
theorem find?_tput_key {t : Tbl Key} {k : Nat} {x : Key} {p : Nat × Key → Bool} (hrise : keysRise t = true)
    (hlive : (tget t {} k).st = 1) (hp : p (k, x) = p (k, tget t {} k)) :
    ((tput t k x).find? p).map (·.1) = (t.find? p).map (·.1) := by
  induction t with
  | nil => simp [tget] at hlive
  | cons c r ih =>
    obtain ⟨hfrom, hr⟩ := (keysRise_cons c r).1 hrise
    unfold tput
    split
    · next hlt =>
      rw [tget, if_neg (by omega), tget_of_keysFrom _ hfrom (by omega)] at hlive
      exact absurd hlive (by decide)
    · split
      · next heq =>
        rw [tget, if_pos heq] at hp
        have hc : p (k, x) = p c := by rw [hp, ← heq]
        simp only [List.find?_cons, hc]
        cases p c <;> simp [← heq]
      · next hne =>
        rw [tget, if_neg hne] at hlive hp
        simp only [List.find?_cons]
        cases p c
        · exact ih hr hlive hp
        · rfl

/-- A message of the module's own counts in its key and joins those being sent. -/
theorem ownSend_frame (s : State) (key : Nat) (msg : Mem) (len : Nat) :
    ownSend s key msg len = { s with
      keys := (ownSend s key msg len).keys, txs := (ownSend s key msg len).txs, nextMsg := (ownSend s key msg len).nextMsg } := by
  simp only [ownSend]
  split <;> rfl

/-- Only a LIVE key counts. -/
theorem ownSend_keys (s : State) (key : Nat) (msg : Mem) (len : Nat) :
    (ownSend s key msg len).keys = s.keys ∨ (keyOf s key).st = 1 ∧
      (ownSend s key msg len).keys = tput s.keys key { keyOf s key with sendNext := (keyOf s key).sendNext + 1 } := by
  simp only [ownSend]
  split
  · exact .inl rfl
  · next h =>
    simp only [not_or, Decidable.not_not] at h
    obtain ⟨hlive, -⟩ := h
    refine .inr ⟨hlive, if_neg fun hnew => ?_⟩
    simpa [hlive] using congrArg Key.st hnew

/-- An entry in force is read from the dictionary and the round copies. -/
theorem cfgE_congr {t : State} (hod : t.od = s.od) (hctxs : t.ctxs = s.ctxs) : cfgE t = cfgE s := by
  funext e n
  unfold cfgE cfgEj roundSt rdE rdEj rcEj cx
  rw [hod, hctxs]

/-- The sessions of the parties are found in the table of keys by the configuration. -/
theorem partySession_congr {t : State} (hod : t.od = s.od) (hctxs : t.ctxs = s.ctxs)
    (hkeys : ∀ p : Nat × Key → Bool, (∀ k x m, p (k, { x with sendNext := m }) = p (k, x)) →
      (t.keys.find? p).map (·.1) = (s.keys.find? p).map (·.1)) (n q : Nat) : partySession t n q = partySession s n q := by
  have hkey : partyKey t n q = partyKey s n q := by
    unfold partyKey peerNo party parties
    rw [cfgE_congr hod hctxs]
  simp only [partySession, hkey]
  exact hkeys _ fun _ _ _ => rfl

/-- Where the table of keys rises it keeps rising, and every party keeps its session. -/
theorem ownSend_keeps_sessions (hrise : keysRise s.keys = true) (key : Nat) (msg : Mem) (len : Nat) :
    keysRise (ownSend s key msg len).keys = true ∧ ∀ n q, partySession (ownSend s key msg len) n q = partySession s n q := by
  have hframe := ownSend_frame s key msg len
  have hod := congrArg State.od hframe
  have hctxs := congrArg State.ctxs hframe
  rcases ownSend_keys s key msg len with hkeys | ⟨hlive, hkeys⟩
  · rw [hkeys]
    exact ⟨hrise, partySession_congr hod hctxs fun _ _ => by rw [hkeys]⟩
  · rw [hkeys]
    refine ⟨keysRise_tput _ _ _ hrise, partySession_congr hod hctxs fun p hp => ?_⟩
    rw [hkeys]
    exact find?_tput_key hrise hlive (hp ..)

/-! ### Sending to every verified peer (R192) -/

/-- A message m sent to party p of context n. -/
def sendParty (n : Nat) (m : ExchangeMsg) (s : State) (p : Nat) : State :=
  match partySession s n p with
  | some k => ownSend (emit s (.exchange k m)) k (exchangeBytes m) m.len
  | none => s

theorem xSend_eq (s : State) (n : Nat) (m : ExchangeMsg) :
    xSend s n m = ((peerList s n).filter fun p => bit (rdE s ePeerState n) (peerNo s n p - 1)).foldl (sendParty n m) s := rfl

/-- Sending leaves dictionary, contexts and descriptors. -/
theorem sendParty_frame (n : Nat) (m : ExchangeMsg) (s : State) (p : Nat) :
    ((sendParty n m s p).od, (sendParty n m s p).ctxs, (sendParty n m s p).descs) = (s.od, s.ctxs, s.descs) := by
  unfold sendParty
  split
  · rw [ownSend_frame]
    rfl
  · rfl

/-- What was sent stays, and a message to a party with a session is sent under its key. -/
theorem sent_sendParty (n : Nat) (m : ExchangeMsg) (s : State) (p : Nat) :
    s.sent ⊆ (sendParty n m s p).sent ∧ ∀ k, partySession s n p = some k → .exchange k m ∈ (sendParty n m s p).sent := by
  unfold sendParty
  split
  · next k hk =>
    have hsent := congrArg State.sent (ownSend_frame (emit s (.exchange k m)) k (exchangeBytes m) m.len)
    rw [hsent]
    simp [emit, hk]
  · next hnone => simp [hnone]

theorem sendParty_keeps_sessions (hrise : keysRise s.keys = true) (n : Nat) (m : ExchangeMsg) (p : Nat) :
    keysRise (sendParty n m s p).keys = true ∧ ∀ q, partySession (sendParty n m s p) n q = partySession s n q := by
  unfold sendParty
  split
  · next k _ =>
    obtain ⟨hkeys, hsessions⟩ := ownSend_keeps_sessions (s := emit s (.exchange k m)) hrise k (exchangeBytes m) m.len
    exact ⟨hkeys, hsessions n⟩
  · exact ⟨hrise, fun _ => rfl⟩

/-- Every party of a list that has a session is sent the message under its key. -/
theorem sent_sendParties (n : Nat) (m : ExchangeMsg) (ps : List Nat) (hrise : keysRise s.keys = true) :
    s.sent ⊆ (ps.foldl (sendParty n m) s).sent ∧
      ∀ p ∈ ps, ∀ k, partySession s n p = some k → .exchange k m ∈ (ps.foldl (sendParty n m) s).sent := by
  induction ps generalizing s with
  | nil => simp
  | cons q qs ih =>
    obtain ⟨hkeys, hsessions⟩ := sendParty_keeps_sessions hrise n m q
    obtain ⟨hstays, hrest⟩ := ih hkeys
    obtain ⟨hkeep, hsent⟩ := sent_sendParty n m s q
    refine ⟨List.Subset.trans hkeep hstays, fun p hp k hk => ?_⟩
    rcases List.mem_cons.1 hp with rfl | hp
    · exact hstays (hsent k hk)
    · exact hrest p hp k ((hsessions p).trans hk)

theorem xSend_frame (s : State) (n : Nat) (m : ExchangeMsg) :
    (xSend s n m).od = s.od ∧ (xSend s n m).ctxs = s.ctxs ∧ (xSend s n m).descs = s.descs := by
  rw [xSend_eq]
  have hkeeps := foldl_keeps (s := s) (fun t => (t.od, t.ctxs, t.descs)) (sendParty_frame n m)
    ((peerList s n).filter fun p => bit (rdE s ePeerState n) (peerNo s n p - 1))
  obtain ⟨hod, hrest⟩ := Prod.mk.inj hkeeps
  exact ⟨hod, Prod.mk.inj hrest⟩

/-- Every verified peer with a session is sent the message under its key. -/
theorem exchange_mem_xSend {n q k : Nat} {m : ExchangeMsg} (hrise : keysRise s.keys = true) (hq : q ∈ peerList s n)
    (hverified : bit (rdE s ePeerState n) (peerNo s n q - 1) = true) (hsession : partySession s n q = some k) :
    .exchange k m ∈ (xSend s n m).sent := by
  obtain ⟨-, hsent⟩ := sent_sendParties n m
    ((peerList s n).filter fun p => bit (rdE s ePeerState n) (peerNo s n p - 1)) hrise
  rw [xSend_eq]
  exact hsent q (List.mem_filter.2 ⟨hq, hverified⟩) k hsession

/-! ### The begin of an exchange (R208) -/

/-- A descriptor that waits for its peers' handshakes. -/
def atHandshake (d : Desc) : Desc := { d with phase := .waiting 1 }

theorem descOf_setDesc {i : Nat} {x : Desc} (hd : descOf s i = some d) (hid : x.id = d.id) : descOf (setDesc s x) i = some x := by
  have hi : d.id = i := by simpa using List.find?_some hd
  have hsame : ((fun y : Desc => y.id == i) ∘ fun y => if y.id = x.id then x else y) = fun y => y.id == i := by
    funext y
    by_cases hy : y.id = x.id <;> simp [hy]
  rw [descOf, setDesc, List.find?_map, hsame, show s.descs.find? (fun y => y.id == i) = some d from hd]
  simp [hid]

/-- With a handshake missing and none that differs, the descriptor waits on. -/
theorem xHandshakes_of_waiting {p : Nat} (hp : p ∈ peerList s (dCtx d)) (hnone : handOf s d p = none)
    (hagree : ∀ q ∈ peerList s (dCtx d), (handOf s d q).all (handAgrees (xMsg s d xHand [])) = true) :
    xHandshakes s d = s := by
  simp only [xHandshakes]
  rw [if_neg, if_pos]
  · exact List.any_eq_true.2 ⟨_, List.mem_map_of_mem hp, by simp [hnone]⟩
  · simp only [Bool.not_eq_true', Bool.not_eq_false, List.isEmpty_iff, List.filter_eq_nil_iff, List.mem_map, forall_exists_index,
      and_imp]
    rintro _ q hq rfl
    have hall := hagree q hq
    cases hhand : handOf s d q with
    | none => simp
    | some m => simpa [hhand] using hall

theorem xMsg_congr {t : State} (hod : t.od = s.od) (hctxs : t.ctxs = s.ctxs) : xMsg t = xMsg s := by
  funext d b w
  unfold xMsg party rdE rdEj
  rw [cfgE_congr hod hctxs, hod]

theorem peerList_congr {t : State} (hod : t.od = s.od) (hctxs : t.ctxs = s.ctxs) : peerList t = peerList s := by
  unfold peerList party parties
  rw [cfgE_congr hod hctxs]

/-- The state s after d has sent its handshake. -/
def handshakeSent (s : State) (d : Desc) : State := xSend (setDesc s (atHandshake d)) (dCtx d) (xMsg s d xHand [])

theorem handshakeSent_frame (s : State) (d : Desc) :
    (handshakeSent s d).od = s.od ∧ (handshakeSent s d).ctxs = s.ctxs ∧
      (handshakeSent s d).descs = (setDesc s (atHandshake d)).descs := xSend_frame ..

theorem handElse_handshakeSent (s : State) (d : Desc) : handElse (handshakeSent s d) (atHandshake d) = handElse s d := by
  obtain ⟨hod, hctxs, hdescs⟩ := handshakeSent_frame s d
  funext m
  rw [handElse, handElse, hdescs, setDesc, List.any_map, xMsg_congr hod hctxs]
  congr 1
  funext x
  by_cases hx : x.id = d.id
  · simp [atHandshake, hx]
  · simp [atHandshake, hx, dCtx, df]

/-- What has arrived of a party is as it was. -/
theorem handOf_handshakeSent (s : State) (d : Desc) : handOf (handshakeSent s d) (atHandshake d) = handOf s d := by
  obtain ⟨hod, hctxs, -⟩ := handshakeSent_frame s d
  unfold handOf cx
  rw [handElse_handshakeSent, xMsg_congr hod hctxs, hctxs]
  rfl

/-- An exchange of at least one row, with a peer's handshake missing and none that differs, sends its own and waits. -/
theorem xBegin_of_waiting {p : Nat} (hrows : shCount d ≠ 0) (hp : p ∈ peerList s (dCtx d)) (hnone : handOf s d p = none)
    (hagree : ∀ q ∈ peerList s (dCtx d), (handOf s d q).all (handAgrees (xMsg s d xHand [])) = true) :
    xBegin d s = handshakeSent s d := by
  obtain ⟨hod, hctxs, -⟩ := handshakeSent_frame s d
  rw [← handOf_handshakeSent] at hnone hagree
  rw [← peerList_congr hod hctxs] at hp hagree
  rw [← xMsg_congr hod hctxs] at hagree
  exact (if_neg hrows).trans (xHandshakes_of_waiting (d := atHandshake d) hp hnone hagree)

/-- Where the table of keys rises, SH_BEAVER and SH_OPEN begin as O21 asks. -/
theorem exchange_begins {i op p : Nat} (hrise : keysRise s.keys = true) (hruns : Runs s i op d) (hrows : shCount d ≠ 0)
    (hp : p ∈ peerList s (dCtx d)) (hnone : handOf s d p = none)
    (hagree : ∀ q ∈ peerList s (dCtx d), (handOf s d q).all (handAgrees (xMsg s d xHand [])) = true) :
    ∃ t, runDescE s i op .none xBegin xErr = .next t ∧ descOf t i = some { d with phase := .waiting 1 } ∧
      ∀ q k, q ∈ peerList s (dCtx d) → bit (rdE s ePeerState (dCtx d)) (peerNo s (dCtx d) q - 1) = true →
        partySession s (dCtx d) q = some k → .exchange k (xMsg s d xHand []) ∈ t.sent := by
  have hd := hruns.1
  obtain ⟨-, -, hdescs⟩ := handshakeSent_frame s d
  refine ⟨_, (runDescE_of_runs hruns).trans (congrArg _ (xBegin_of_waiting hrows hp hnone hagree)), ?_, fun q k hq hverified
    hsession => exchange_mem_xSend (s := setDesc s (atHandshake d)) hrise hq hverified hsession⟩
  rw [descOf, hdescs]
  exact descOf_setDesc hd rfl

end Sys2Proof.Machine
end

section
/-! SUPPORT. O21: a table of session keys out of its rising order, with a key listed twice, loses a handshake (R192). -/

namespace Sys2Proof.Machine
open Sys2Proof

/-- A LIVE session key of a partner with an identity key hash, of context 0. -/
def partnerKey (h : Nat) : Key := { st := 1, kind := 3, peerHash := h }

/-- SH_OPEN of row 0 in context 0, running. -/
def openRowZero : Desc := { id := 1, raw := 0x53 + 1 <<< (8 * 38), phase := .running }

/-- Context 0 is party 0 of three in a round at READY that holds one row; its peers have the identity key hashes h and
h + 1 and are verified. -/
def threeParties (h : Nat) : State :=
  let s := [(eRoundState, rsReady), (ePermittedModes, 8), (ePolicyLock, 1), (ePeerState, 3), (eMerged, 1000), (eDramCount, 1),
    (eVectorLength, 1), (ePartyCount, 3), (ePartnerSetId, 1), (ePeer1Key, h), (ePeer2Key, h + 1),
    (eShWorkBase, 2 ^ 30), (eShWorkSize, 2 ^ 26)].foldl (fun s x => wrE s x.1 0 x.2) State.reset
  { setCx s 0 { copy := s.od } with
    regions := [(1, { st := 1, access := 1, limit := 2 ^ 32 - 1 })]
    descs := [openRowZero] }

/-- The same, where key 7 comes before key 5 and key 5 is listed for both peers. A message to peer 1 under key 5 counts in a
copy of the first listing, which goes to the front of the table: from then on key 5 is found for peer 2 too. -/
def strayKeys (h : Nat) : State :=
  { threeParties h with keys := [(7, partnerKey (h + 1)), (5, partnerKey (h + 1)), (5, partnerKey h)] }

/-- The same with each key listed once, in rising order. -/
def risingKeys : State := { threeParties 7 with keys := [(5, partnerKey 7), (7, partnerKey 8)] }

/-- The identity key hash of a module out of reset. -/
def ownHash : Nat := Config.sha256 (bytesOf 0 60)

/-- Whatever the module's own hash is, one of two pairs of hashes for the peers avoids it. -/
theorem exists_peerHash (x : Nat) : ∃ h ∈ [7, 9], h ≠ x ∧ h + 1 ≠ x := by
  by_cases hx : x < 9
  · exact ⟨9, by decide, by omega, by omega⟩
  · exact ⟨7, by decide, by omega, by omega⟩

theorem peerKeys_strayKeys :
    ∀ h ∈ [7, 9], cfgE (strayKeys h) ePeer1Key 0 = h ∧ cfgE (strayKeys h) ePeer2Key 0 = h + 1 := by
  decide +kernel

theorem sharedOk_strayKeys {h : Nat} (hh : h ∈ [7, 9]) (hpeer1 : h ≠ ownHash) (hpeer2 : h + 1 ≠ ownHash) :
    sharedOk (strayKeys h) 0 = true := by
  obtain ⟨hk1, hk2⟩ := peerKeys_strayKeys h hh
  have hown : ownKeyHash (strayKeys h) = ownHash := rfl
  simp only [sharedOk, hk1, hk2, hown, bne_iff_ne.2 hpeer1, bne_iff_ne.2 hpeer2, Bool.and_true]
  clear hk1 hk2 hown hpeer1 hpeer2
  revert h
  decide +kernel

theorem runs_strayKeys : ∀ h ∈ [7, 9], Runs (strayKeys h) 1 0x53 openRowZero := by
  decide +kernel

theorem sharedCheck_strayKeys {h : Nat} (hh : h ∈ [7, 9]) (hpeer1 : h ≠ ownHash) (hpeer2 : h + 1 ≠ ownHash) :
    sharedCheck (strayKeys h) openRowZero = none := by
  rw [sharedCheck, shPairsOk, show dCtx openRowZero = 0 by decide +kernel, sharedOk_strayKeys hh hpeer1 hpeer2]
  clear hpeer1 hpeer2
  revert h
  decide +kernel

/-- No handshake of a peer has arrived. -/
theorem noHandshake_strayKeys :
    ∀ h ∈ [7, 9], 1 ∈ peerList (strayKeys h) 0 ∧ handOf (strayKeys h) openRowZero 1 = none ∧
      ∀ q ∈ peerList (strayKeys h) 0,
        (handOf (strayKeys h) openRowZero q).all (handAgrees (xMsg (strayKeys h) openRowZero xHand [])) = true := by
  decide +kernel

/-- Party 2 is a verified peer, and key 7 is its session. -/
theorem session_strayKeys :
    ∀ h ∈ [7, 9], 2 ∈ peerList (strayKeys h) 0 ∧
      bit (rdE (strayKeys h) ePeerState 0) (peerNo (strayKeys h) 0 2 - 1) = true ∧ partySession (strayKeys h) 0 2 = some 7 := by
  decide +kernel

/-- The keys under which exchange messages have left when a command has answered. -/
def exchangeKeys : Res → List Nat
  | .next t => t.sent.filterMap fun | .exchange k _ => some k | _ => none
  | _ => []

theorem mem_exchangeKeys {t : State} {k : Nat} {m : ExchangeMsg} (h : .exchange k m ∈ t.sent) : k ∈ exchangeKeys (.next t) :=
  List.mem_filterMap.2 ⟨_, h, rfl⟩

/-- Both handshakes leave under key 5. -/
theorem exchangeKeys_strayKeys : ∀ h ∈ [7, 9], exchangeKeys (exec (.shOpen 1 .none) (strayKeys h)) = [5, 5] := by
  decide +kernel

/-- In rising order `exchange_begins` applies, and each handshake leaves under its peer's own key. -/
theorem exchangeKeys_risingKeys :
    keysRise risingKeys.keys = true ∧ Runs risingKeys 1 0x53 openRowZero ∧
      exchangeKeys (exec (.shOpen 1 .none) risingKeys) = [5, 7] := by
  decide +kernel

/-- Refutes O21: in `strayKeys` the session of party 2 has key 7, but its handshake of SH_OPEN leaves under key 5. No write of
the table leaves such a state, and where the table rises the clause holds: `exchange_begins`. -/
theorem not_exchangesBeginAndStore : ¬ Obligations.ExchangesBeginAndStore := by
  unfold Obligations.ExchangesBeginAndStore
  rintro ⟨-, hopen, -⟩
  obtain ⟨h, hh, hpeer1, hpeer2⟩ := exists_peerHash ownHash
  obtain ⟨hp, hnone, hagree⟩ := noHandshake_strayKeys h hh
  obtain ⟨hq, hverified, hsession⟩ := session_strayKeys h hh
  obtain ⟨t, hexec, -, hsent⟩ := hopen 1 1 (strayKeys h) openRowZero (runs_strayKeys h hh)
    (sharedCheck_strayKeys hh hpeer1 hpeer2) (by decide +kernel) hp hnone hagree
  have hmem := mem_exchangeKeys (hsent 2 7 hq hverified hsession)
  rw [← hexec, exchangeKeys_strayKeys h hh] at hmem
  exact absurd hmem (by decide)

end Sys2Proof.Machine
end

section
/-! SUPPORT. The rows of a tile after an accumulation or a PRELOAD (R240, R241), and O22. -/

namespace Sys2Proof.Machine
open Sys2Proof

variable {s : State} {d : Desc}

/-! ### Folds over the named rows -/

/-- What no row of a fold changes stays. -/
theorem foldl_view_eq {α β : Type} {view : α → β} {row : α → Nat → α} {l : List Nat}
    (h : ∀ a, ∀ x ∈ l, view (row a x) = view a) (a : α) : view (l.foldl row a) = view a := by
  induction l generalizing a with
  | nil => rfl
  | cons x r ih =>
    exact (ih (fun a y hy => h a y (List.mem_cons_of_mem _ hy)) _).trans (h a x List.mem_cons_self)

theorem mem_aRows {x : Nat} : x ∈ aRows d ↔ Named d x := by
  simp only [aRows, List.mem_map, List.mem_range]
  constructor
  · rintro ⟨k, hk, rfl⟩
    omega
  · rintro ⟨hlow, hhigh⟩
    exact ⟨x - aFirst d, by omega, by omega⟩

theorem nodup_aRows (d : Desc) : (aRows d).Nodup :=
  List.pairwise_map.2 (List.nodup_range.imp fun hne h => hne (Nat.add_right_cancel h))

/-- A named row's view after all rows have run is what its own turn makes of the view it had at first. -/
theorem foldl_aRows_view {α β : Type} {view : α → β} {row : α → Nat → α} {x : Nat} {v : β} {a0 : α}
    (hrow : ∀ a, view a = view a0 → view (row a x) = v)
    (hother : ∀ a y, Named d y → y ≠ x → view (row a y) = view a) (hx : Named d x) :
    view ((aRows d).foldl row a0) = v := by
  obtain ⟨before, after, hsplit⟩ := List.append_of_mem (mem_aRows.2 hx)
  have hnodup := nodup_aRows d
  rw [hsplit, List.nodup_append, List.nodup_cons] at hnodup
  obtain ⟨-, ⟨hafter, -⟩, hbefore⟩ := hnodup
  have hmem : ∀ y, y ∈ before ∨ y ∈ after → Named d y ∧ y ≠ x := by
    rintro y (hy | hy)
    · exact ⟨mem_aRows.1 (hsplit ▸ List.mem_append_left _ hy), hbefore y hy x List.mem_cons_self⟩
    · refine ⟨mem_aRows.1 (hsplit ▸ List.mem_append_right _ (List.mem_cons_of_mem _ hy)), ?_⟩
      rintro rfl
      exact hafter hy
  rw [hsplit, List.foldl_append, List.foldl_cons]
  calc view (after.foldl row (row (before.foldl row a0) x))
    _ = view (row (before.foldl row a0) x) :=
      foldl_view_eq (fun a y hy => hother a y (hmem y (.inr hy)).1 (hmem y (.inr hy)).2) _
    _ = v := hrow _ (foldl_view_eq (fun a y hy => hother a y (hmem y (.inl hy)).1 (hmem y (.inl hy)).2) _)

/-! ### One row of a tile -/

/-- The word and the error word at row x, lane j. -/
def tPair (t : Tile) (x j : Nat) : Nat × Nat := (tw t x j, te t x j)

/-- t' is t but for row x, whose pairs are h of what they were, and for the flags and check values. -/
structure RowPut (t : Tile) (x : Nat) (h : Nat → Nat × Nat → Nat × Nat) (t' : Tile) : Prop where
  ty : t'.ty = t.ty
  laneW : t'.laneW = t.laneW
  pair : ∀ y j, j < 1024 → tPair t' y j = if y = x then h j (tPair t y j) else tPair t y j

theorem tget_tblRowSet (t : Tbl Nat) (e : Nat) (ws : List Nat) (k : Nat) :
    tget (tblRowSet t e ws) 0 k = if e ≤ k ∧ k < e + ws.length then ws.getD (k - e) 0 else tget t 0 k := by
  induction ws generalizing t e with
  | nil => rw [if_neg (by simp only [List.length_nil]; omega)]; rfl
  | cons w r ih =>
    rw [tblRowSet, ih, tget_tset, List.length_cons]
    rcases Nat.lt_trichotomy k e with hlt | rfl | hgt
    · rw [if_neg (by omega), if_neg (by omega), if_neg (by omega)]
    · rw [if_neg (by omega), if_pos rfl, if_pos (by omega), Nat.sub_self, List.getD_cons_zero]
    · obtain ⟨i, rfl⟩ : ∃ i, k = e + 1 + i := ⟨k - (e + 1), by omega⟩
      rw [if_neg (show e ≠ e + 1 + i by omega), show e + 1 + i - e = i + 1 by omega, Nat.add_sub_cancel_left,
        List.getD_cons_succ]
      by_cases hi : i < r.length
      · rw [if_pos (by omega), if_pos (by omega)]
      · rw [if_neg (by omega), if_neg (by omega)]

theorem length_map_lanes1024 (f : Nat → Nat) : (lanes1024.map f).length = 1024 := by
  rw [List.length_map, lanes1024, List.length_range]

theorem getD_map_lanes1024 (f : Nat → Nat) {j : Nat} (hj : j < 1024) : (lanes1024.map f).getD j 0 = f j := by
  rw [List.getD_eq_getElem?_getD, List.getElem?_map, lanes1024, List.getElem?_range hj, Option.map_some, Option.getD_some]

/-- A lane of the table after a row has been put. -/
theorem tget_row (t : Tbl Nat) (x y : Nat) (f : Nat → Nat) {j : Nat} (hj : j < 1024) :
    tget (tblRowSet t (1024 * x) (lanes1024.map f)) 0 (1024 * y + j) = if y = x then f j else tget t 0 (1024 * y + j) := by
  rw [tget_tblRowSet, length_map_lanes1024]
  by_cases h : y = x
  · subst h
    rw [if_pos (by omega), if_pos rfl, Nat.add_sub_cancel_left, getD_map_lanes1024 f hj]
  · rw [if_neg (by omega), if_neg h]

@[simp] theorem tPut_frame (t : Tile) (x : Nat) (ws : List Nat) :
    (tPut t x ws).ty = t.ty ∧ (tPut t x ws).laneW = t.laneW ∧ (tPut t x ws).errs = t.errs ∧
      (tPut t x ws).sat = t.sat ∧ (tPut t x ws).rangeF = t.rangeF := ⟨rfl, rfl, rfl, rfl, rfl⟩

@[simp] theorem tPutE_frame (t : Tile) (x : Nat) (ws : List Nat) :
    (tPutE t x ws).ty = t.ty ∧ (tPutE t x ws).laneW = t.laneW ∧ (tPutE t x ws).words = t.words ∧
      (tPutE t x ws).sat = t.sat ∧ (tPutE t x ws).rangeF = t.rangeF := ⟨rfl, rfl, rfl, rfl, rfl⟩

theorem rowPut_tPut (t : Tile) (x : Nat) (f : Nat → Nat) :
    RowPut t x (fun j p => (f j, p.2)) (tPut t x (lanes1024.map f)) := by
  obtain ⟨hty, hw, herrs, -⟩ := tPut_frame t x (lanes1024.map f)
  refine ⟨hty, hw, fun y j hj => ?_⟩
  rw [tPair, tw, te, herrs, tPut, tget_row _ _ _ _ hj]
  split <;> rfl

theorem rowPut_tPutE (t : Tile) (x : Nat) (g : Nat → Nat) :
    RowPut t x (fun j p => (p.1, g j)) (tPutE t x (lanes1024.map g)) := by
  obtain ⟨hty, hw, hwords, -⟩ := tPutE_frame t x (lanes1024.map g)
  refine ⟨hty, hw, fun y j hj => ?_⟩
  rw [tPair, tw, te, hwords, tPutE, tget_row _ _ _ _ hj]
  split <;> rfl

section Put
variable {t t' : Tile} {x : Nat} {h h' : Nat → Nat × Nat → Nat × Nat}

theorem RowPut.congr (ht : RowPut t x h t') (hh : ∀ j, j < 1024 → h j (tPair t x j) = h' j (tPair t x j)) :
    RowPut t x h' t' := by
  refine ⟨ht.ty, ht.laneW, fun y j hj => (ht.pair y j hj).trans ?_⟩
  split
  · next hy => rw [hy, hh j hj]
  · rfl

/-- A row put twice. -/
theorem RowPut.trans {t'' : Tile} (ht : RowPut t x h t') (ht' : RowPut t' x h' t'') :
    RowPut t x (fun j p => h' j (h j p)) t'' := by
  refine ⟨ht'.ty.trans ht.ty, ht'.laneW.trans ht.laneW, fun y j hj => ?_⟩
  rw [ht'.pair y j hj, ht.pair y j hj]
  split <;> rfl

theorem RowPut.tChk (ht : RowPut t x h t') (y v : Nat) : RowPut t x h (tChk t' y v) := ⟨ht.ty, ht.laneW, ht.pair⟩

theorem RowPut.tSat (ht : RowPut t x h t') (y : Nat) : RowPut t x h (tSat t' y) := by
  unfold Machine.tSat
  split
  · exact ht
  · exact ⟨ht.ty, ht.laneW, ht.pair⟩

theorem RowPut.tRange (ht : RowPut t x h t') (y : Nat) : RowPut t x h (tRange t' y) := by
  unfold Machine.tRange
  split
  · exact ht
  · exact ⟨ht.ty, ht.laneW, ht.pair⟩

/-- A source in round-total rows marks the tile and its flags alone (R254). -/
theorem RowPut.provRow (ht : RowPut t x h t') (s : State) (d : Desc) (y : Nat) : RowPut t x h (provRow s d t' y) := by
  unfold Machine.provRow
  extract_lets v t1 t2
  have h1 : RowPut t x h t1 := ⟨ht.ty, ht.laneW, ht.pair⟩
  have h2 : RowPut t x h t2 := by
    unfold t2
    split
    · exact h1.tSat y
    · exact h1
  split
  · split
    · exact h2.tRange y
    · exact h2
  · exact ht

end Put

/-- Rows put one after another, each from the pairs it had at first. -/
theorem tileRows_foldl {row : Tile → Nat → Tile} {h : Nat → Nat → Nat × Nat → Nat × Nat}
    (hrow : ∀ t x, RowPut t x (h x) (row t x)) (t0 : Tile) :
    TileRows d t0 ((aRows d).foldl row t0) (fun x j => (h x j (tPair t0 x j)).1) (fun x j => (h x j (tPair t0 x j)).2) := by
  have hother : ∀ t x y j, j < 1024 → y ≠ x → tPair (row t y) x j = tPair t x j := fun t x y j hj hy =>
    ((hrow t y).pair x j hj).trans (if_neg hy.symm)
  refine ⟨foldl_view_eq (fun t x _ => (hrow t x).ty) t0, foldl_view_eq (fun t x _ => (hrow t x).laneW) t0, fun x j hj =>
    ⟨fun hx => Prod.mk.inj ?named, fun hx => Prod.mk.inj ?unnamed⟩⟩
  case named =>
    refine foldl_aRows_view (view := (tPair · x j)) (fun t ht => ?_) (fun t y _ hy => hother t x y j hj hy) hx
    rw [(hrow t x).pair x j hj, if_pos rfl, ht]
  case unnamed =>
    refine foldl_view_eq (view := (tPair · x j)) (fun t y hy => hother t x y j hj ?_) t0
    rintro rfl
    exact hx (mem_aRows.1 hy)

/-- The rows that d names, put into its tile as the statements want them. -/
theorem tileWritten_foldl {row : Tile → Nat → Tile} {h : Nat → Nat → Nat × Nat → Nat × Nat} {t0 : Tile}
    {f g : Nat → Nat → Nat} (hrow : ∀ t x, RowPut t x (h x) (row t x))
    (hfg : ∀ x j, h x j (tPair t0 x j) = (f x j, g x j)) :
    TileWritten s (putTile s d ((aRows d).foldl row t0)) d t0 f g := by
  refine ⟨_, rfl, ?_⟩
  have hrows := tileRows_foldl (d := d) hrow t0
  simpa only [hfg] using hrows

/-! ### Accumulations (R241) -/

/-- ACC_INT of one lane: the clamped sum or difference; the error word stays. -/
def accIntLane (s : State) (d : Desc) (neg : Bool) (x j : Nat) (p : Nat × Nat) : Nat × Nat :=
  (ofS 40 (clampI lo40 hi40 (if neg then toS 40 p.1 - srcInt s d x j else toS 40 p.1 + srcInt s d x j)), p.2)

theorem rowPut_accIntRow (neg : Bool) (t : Tile) (x : Nat) : RowPut t x (accIntLane s d neg x) (accIntRow s d neg t x) := by
  unfold accIntRow
  extract_lets src exact out t1 t2
  have h1 : RowPut t x (accIntLane s d neg x) t1 := by
    simp only [t1, out, exact, List.map_map]
    exact (rowPut_tPut ..).congr fun _ _ => rfl
  refine RowPut.provRow ?_ s d x
  split
  · exact (h1.tChk ..).tSat x
  · exact h1.tChk ..

/-- ACC_INT answers with its rows, and SATURATED exactly when a lane clamps. -/
theorem answers_accInt {r : Res} (neg : Bool) (hr : r = .next (accIntEff neg d s)) :
    ∃ u, r = .next (completeDesc u d
        (if (aRows d).any (fun x => accIntClamps s d neg (tileNow s d) x) then stSaturated else stOk) (aCount d)) ∧
      TileWritten s u d (tileNow s d) (fun x j => (accIntLane s d neg x j (tPair (tileNow s d) x j)).1) (te (tileNow s d)) :=
  ⟨_, hr, tileWritten_foldl (rowPut_accIntRow neg) fun _ _ => rfl⟩

theorem rowPut_accFloatRow (t : Tile) (x : Nat) :
    RowPut t x (fun j p => fNode p (srcPair s d x j)) (accFloatRow s d t x) := by
  unfold accFloatRow
  simp only [List.map_map]
  exact ((((rowPut_tPut ..).trans (rowPut_tPutE ..)).congr fun _ _ => rfl).tChk ..).provRow s d x

theorem execAccFloat_of_runs {i : Nat} (h : Runs s i 0x11 d) : execAccFloat i .none s =
    .next (completeDesc (putTile s d ((aRows d).foldl (accFloatRow s d) (tileNow s d))) d stOk (aCount d)) := by
  rw [execAccFloat, runDesc_of_runs h]

theorem rowPut_accModRow (w : Nat) (neg : Bool) (t : Tile) (x : Nat) :
    RowPut t x (fun j p => (addMod (2 ^ w) neg p.1 (srcWord s d x j), p.2)) (accModRow s d w neg t x) :=
  (((rowPut_tPut ..).congr fun _ _ => rfl).tChk ..).provRow s d x

/-- A modular accumulation modulo 2^w answers with its rows. -/
theorem answers_accMod {r : Res} {neg : Bool} {w : Nat} {f : Nat → Nat → Nat} (hr : r = .next (accModEff neg d s))
    (hw : (if dOp d = 0x12 then aParam d else 32) = w)
    (hf : ∀ x j, addMod (2 ^ w) neg (tw (tileNow s d) x j) (srcWord s d x j) = f x j) :
    ∃ u, r = .next (completeDesc u d stOk (aCount d)) ∧ TileWritten s u d (tileNow s d) f (te (tileNow s d)) := by
  subst hw
  exact ⟨_, hr, tileWritten_foldl (rowPut_accModRow _ neg) fun x j => congrArg (·, te (tileNow s d) x j) (hf x j)⟩

/-! ### The checks and the source words (R239, R243) -/

/-- A descriptor that passes its checks has codes that R239 lists. -/
theorem aCodesOk_of_accCheck (h : accCheck s d = none) : aCodesOk d = true := by
  obtain ⟨hreserved, -⟩ := check_passes h
  simp only [aReservedOk, Bool.not_eq_true', Bool.not_eq_false, Bool.and_eq_true] at hreserved
  exact hreserved.2

/-- Lanes of ACC_MASKED are 16, 24 or 32 bits wide. -/
theorem aParam_of_masked (hop : dOp d = 0x12) (h : accCheck s d = none) : aParam d = 16 ∨ aParam d = 24 ∨ aParam d = 32 := by
  have hcodes := aCodesOk_of_accCheck h
  simp only [aCodesOk, hop, Nat.reduceEqDiff, if_true, if_false, Bool.and_eq_true, Bool.or_eq_true, beq_iff_eq, or_assoc]
    at hcodes
  exact hcodes.2

theorem mrd_lt (m : Mem) (a n : Nat) : mrd m a n < 2 ^ (8 * n) := by
  induction n generalizing a with
  | zero => exact Nat.one_pos
  | succ n ih =>
    have hbyte : (mget m a).toNat < 256 := (mget m a).isLt
    have hrest := ih (a + 1)
    rw [mrd, Nat.mul_succ, Nat.pow_add]
    omega

/-- A source word of a format without packed codes is a number of the element's bytes. -/
theorem srcWord_lt {b : Nat} (hop : dOp d ≠ 0x10) (hb : aRowBytes d = 1024 * b) (x j : Nat) :
    srcWord s d x j < 2 ^ (8 * b) := by
  simp only [srcWord, hop, false_and, if_false, hb, Nat.mul_div_cancel_left b (show 0 < 1024 by decide)]
  exact mrd_lt ..

theorem srcWord_lt_of_masked (hop : dOp d = 0x12) (h : accCheck s d = none) (x j : Nat) : srcWord s d x j < 2 ^ aParam d := by
  obtain ⟨b, hw⟩ : ∃ b, aParam d = 8 * b := by
    rcases aParam_of_masked hop h with hp | hp | hp <;> exact ⟨aParam d / 8, by omega⟩
  rw [hw]
  refine srcWord_lt (by omega) ?_ x j
  simp only [aRowBytes, hop, hw, Nat.reduceEqDiff, if_true, if_false]
  omega

theorem srcWord_lt_of_shared (hop : dOp d = 0x13) (x j : Nat) : srcWord s d x j < 2 ^ 32 :=
  srcWord_lt (b := 4) (by omega) (by simp [aRowBytes, hop]) x j

theorem addMod_add (q x y : Nat) : addMod q false x y = (x + y) % q := rfl

theorem addMod_sub {q x y : Nat} (hy : y < q) : addMod q true x y = (x + q - y) % q := by
  rw [addMod, if_pos rfl, Nat.mod_eq_of_lt hy, Nat.add_sub_assoc (Nat.le_of_lt hy)]

/-! ### PRELOAD (R241) -/

theorem map_const_lanes1024 (v : Nat) : lanes1024.map (fun _ => v) = List.replicate 1024 v := by
  rw [List.map_const', lanes1024, List.length_range]

theorem rowPut_zeroRow (t : Tile) (x v : Nat) :
    RowPut t x (fun _ _ => (0, 0)) (tChk (tPutE (tPut t x (List.replicate 1024 0)) x (List.replicate 1024 0)) x v) := by
  rw [← map_const_lanes1024]
  exact (((rowPut_tPut ..).trans (rowPut_tPutE ..)).congr fun _ _ => rfl).tChk ..

/-- PRELOAD LOAD of one lane: the source word in the layout of the tile's type. -/
def loadLane (s : State) (d : Desc) (x j : Nat) (p : Nat × Nat) : Nat × Nat :=
  let w := srcWord s d x j
  if wantTy d = 1 then (ofS 40 (toS 32 w), p.2) else if wantTy d = 2 then (w % 2 ^ 32, w / 2 ^ 32) else (w, p.2)

theorem rowPut_loadRow (t : Tile) (x : Nat) : RowPut t x (loadLane s d x) (loadRow s d t x) := by
  unfold loadRow
  extract_lets ws t1
  refine RowPut.provRow ?_ s d x
  unfold t1 ws
  split
  · next hint =>
    rw [List.map_map]
    exact ((rowPut_tPut ..).congr fun _ _ => by simp [loadLane, hint]).tChk ..
  · next hint =>
    split
    · next hpair =>
      rw [List.map_map, List.map_map]
      exact (((rowPut_tPut ..).trans (rowPut_tPutE ..)).congr fun _ _ => by simp [loadLane, hpair]).tChk ..
    · next hpair => exact ((rowPut_tPut ..).congr fun _ _ => by simp [loadLane, hint, hpair]).tChk ..

/-- Settles O22: a running descriptor answers with its effect, whose rows `tileWritten_foldl` gives from what it makes
of one lane. -/
theorem accumulationsWriteTheirRows : Obligations.AccumulationsWriteTheirRows := by
  unfold Obligations.AccumulationsWriteTheirRows
  refine ⟨?intAdd, ?intSubtract, ?float, ?maskedAdd, ?maskedSubtract, ?sharedAdd, ?sharedSubtract, ?zero, ?load⟩
  case intAdd =>
    intro i s d hruns hop _
    exact answers_accInt false (runDescIf_of_runs hruns (by simpa using hop))
  case intSubtract =>
    intro i s d hruns hop _
    exact answers_accInt true (runDescIf_of_runs hruns (by simpa using hop))
  case float =>
    intro i s d hruns _
    exact ⟨_, execAccFloat_of_runs hruns, tileWritten_foldl rowPut_accFloatRow fun _ _ => rfl⟩
  case maskedAdd =>
    intro i s d hruns hop _
    have ⟨_, hcode, _⟩ := hruns
    exact answers_accMod (runDescIf_of_runs hruns (by simpa using hop)) (if_pos hcode) fun x j => addMod_add ..
  case maskedSubtract =>
    intro i s d hruns hop hcheck
    have ⟨_, hcode, _⟩ := hruns
    exact answers_accMod (runDescIf_of_runs hruns (by simpa using hop)) (if_pos hcode) fun x j =>
      addMod_sub (srcWord_lt_of_masked hcode hcheck x j)
  case sharedAdd =>
    intro i s d hruns hop _
    have ⟨_, hcode, _⟩ := hruns
    exact answers_accMod (runDescIf_of_runs hruns (by simpa using hop)) (if_neg (by omega)) fun x j => addMod_add ..
  case sharedSubtract =>
    intro i s d hruns hop _
    have ⟨_, hcode, _⟩ := hruns
    exact answers_accMod (runDescIf_of_runs hruns (by simpa using hop)) (if_neg (by omega)) fun x j =>
      addMod_sub (srcWord_lt_of_shared hcode x j)
  case zero =>
    intro i s d hruns hop _ hcount
    exact ⟨_, (runDescIf_of_runs hruns (by simpa using hop)).trans (congrArg _ (if_neg hcount)),
      tileWritten_foldl (fun t x => rowPut_zeroRow t x _) fun _ _ => rfl⟩
  case load =>
    intro i s d hruns hop _ hcount
    refine ⟨_, (runDescIf_of_runs hruns (by simpa using hop)).trans (congrArg _ (if_neg hcount)),
      tileWritten_foldl rowPut_loadRow fun x j => ?_⟩
    unfold loadLane
    split
    · next hint => simp [hint, tPair]
    · split <;> rfl

end Sys2Proof.Machine
end

section
/-! SUPPORT. The rows that DRAIN and SAVE write to memory and that RESTORE takes from it (R244 to R253), and O23. -/

namespace Sys2Proof.Machine
open Sys2Proof

variable {s : State} {d : Desc}

/-! ### Rows of elements in memory -/

theorem mget_rowWrite_outside (m : Mem) {a b : Nat} {ws : List Nat} {j : Nat} (h : j < a ∨ a + b * ws.length ≤ j) :
    mget (rowWrite m a b ws) j = mget m j := by
  induction ws generalizing m a with
  | nil => rfl
  | cons w r ih =>
    rw [List.length_cons, Nat.mul_succ] at h
    rw [rowWrite, ih _ (by omega), mget_mwr_outside _ _ _ _ _ (by omega)]

/-- An element of a row just written. -/
theorem mrd_rowWrite (m : Mem) (a b : Nat) {ws : List Nat} {j : Nat} (hj : j < ws.length) :
    mrd (rowWrite m a b ws) (a + b * j) b = ws.getD j 0 % 2 ^ (8 * b) := by
  induction ws generalizing m a j with
  | nil => exact absurd hj (Nat.not_lt_zero j)
  | cons w r ih =>
    rw [rowWrite]
    cases j with
    | zero =>
      rw [Nat.mul_zero, Nat.add_zero, List.getD_cons_zero, ← mrd_mwr_same m a b w]
      exact mrd_congr fun i _ _ => mget_rowWrite_outside _ (by omega)
    | succ j =>
      rw [List.getD_cons_succ, ← ih (mwr m a b w) (a + b) (by simpa using hj), Nat.mul_succ]
      congr 1
      omega

theorem mrd_rowWrite_lanes1024 (m : Mem) (a b : Nat) (f : Nat → Nat) {j : Nat} (hj : j < 1024) :
    mrd (rowWrite m a b (lanes1024.map f)) (a + b * j) b = f j % 2 ^ (8 * b) := by
  rw [mrd_rowWrite m a b (by rwa [length_map_lanes1024]), getD_map_lanes1024 f hj]

/-- Rows of one size lie apart. -/
theorem rows_apart {x y : Nat} (hx : Named d x) (hy : Named d y) (hne : y ≠ x) (a b : Nat) :
    a + (y - aFirst d) * b + b ≤ a + (x - aFirst d) * b ∨ a + (x - aFirst d) * b + b ≤ a + (y - aFirst d) * b := by
  rcases Nat.lt_or_gt_of_ne hne with hlt | hgt
  · have := Nat.mul_le_mul_right b (show y - aFirst d + 1 ≤ x - aFirst d by omega)
    rw [Nat.succ_mul] at this
    omega
  · have := Nat.mul_le_mul_right b (show x - aFirst d + 1 ≤ y - aFirst d by omega)
    rw [Nat.succ_mul] at this
    omega

/-- When each row writes its own b bytes alone, what a named row's turn puts there is read there after all rows. -/
theorem mrd_foldl_rows {α : Type} {mem : α → Mem} {row : α → Nat → α} {a b o n v x : Nat} (u : α)
    (hout : ∀ u y i, i < a + (y - aFirst d) * b ∨ a + (y - aFirst d) * b + b ≤ i →
      mget (mem (row u y)) i = mget (mem u) i)
    (hin : ∀ u, mrd (mem (row u x)) (a + (x - aFirst d) * b + o) n = v) (ho : o + n ≤ b) (hx : Named d x) :
    mrd (mem ((aRows d).foldl row u)) (a + (x - aFirst d) * b + o) n = v :=
  foldl_aRows_view (view := fun u => mrd (mem u) (a + (x - aFirst d) * b + o) n) (fun u _ => hin u)
    (fun u y hy hne => mrd_congr fun i hlow hhigh => hout u y i (by
      have := rows_apart hx hy hne a b
      omega)) hx

/-! ### DRAIN (R245, R249, R250) -/

/-- Without an output control block its fields are 0 (R246). -/
theorem ocb_absent (h : aX d = 0) (off len : Nat) : ocb s d off len = 0 := if_pos h

theorem aRowBytes_of_drain (h : dOp d = 0x15) : aRowBytes d = drainSize (aFmt d) * 1024 := by
  simp only [aRowBytes, h, Nat.reduceEqDiff, if_true, if_false, Nat.mul_comm]

/-- Only a FUSED DRAIN has a safety exponent (R248). -/
theorem safetyExp_of_notFused (h : aOp d ≠ 3) (x : Nat) : safetyExp s d x = 0 := by
  simp [safetyExp, safetyOn, h]

/-- Every element is exported but for the padding of round-total rows (R76). -/
theorem padLane_eq_false {x j : Nat} (hj : j < 1024)
    (h : (tileNow s d).prov = false ∨ 1024 * drainGlobal s d x + j < cfgE s eVectorLength (dCtx d)) :
    padLane s d x j = false := by
  rcases h with hprov | hlength
  · rw [padLane, hprov, Bool.false_and]
  · have hcounted : (countedLanes s d x).contains j = true := by
      simp [countedLanes, lanes1024, hj, hlength]
    rw [padLane, hcounted, Bool.not_true, Bool.and_false]

/-- The element that a DRAIN writes at row x, lane j, with the free values from k on. -/
def drainLane (s : State) (d : Desc) (k x j : Nat) : Nat :=
  if padLane s d x j then Config.freeNat (k + j) % 2 ^ (8 * drainSize (aFmt d)) else (drainOut s d x (safetyExp s d x) j).1

section DrainRow
variable (u : State) (x : Nat)

/-- Without an output control block a row's turn writes its elements alone. -/
theorem opMem_drainRow (h : aX d = 0) : opMem (drainRow s d u x) d (df d 32 1) (aLoft d) =
    rowWrite (opMem u d (df d 32 1) (aLoft d)) (aAddr d + (x - aFirst d) * aRowBytes d) (drainSize (aFmt d))
      (lanes1024.map (drainLane s d u.free x)) := by
  unfold drainRow
  extract_lets n die hx out k s1 s2 s3 s4
  have hout : out = lanes1024.map (drainLane s d u.free x) := List.map_congr_left fun _ _ => rfl
  have h1 : opMem s1 d die (aLoft d) = rowWrite (opMem u d die (aLoft d)) (aAddr d + k * aRowBytes d) (drainSize (aFmt d)) out :=
    opMem_setOpMem ..
  have h2 : s2 = s1 := if_pos (.inl (ocb_absent h ..))
  have h3 : s3 = s2 := if_pos (ocb_absent h ..)
  have h4 : opMem s4 d die (aLoft d) = opMem s3 d die (aLoft d) := rfl
  rw [← hout, ← h1, ← h2, ← h3, ← h4]
  split <;> rfl

/-- Where the elements go to Loft, a row's turn writes its statistics record alone to device memory. -/
theorem vmOf_drainRow (hloft : aLoft d = true) (hop : aOp d ≠ 3) (hstats : ocb s d 16 8 ≠ 0) :
    vmOf (drainRow s d u x) (dCtx d) =
      mwr (vmOf u (dCtx d)) (ocb s d 16 8 + 32 * (x - aFirst d)) 32 (drainStat s d x 0) := by
  unfold drainRow
  extract_lets n die hx out k s1 s2 s3 s4
  have hzero : hx = 0 := safetyExp_of_notFused hop x
  have h1 : vmOf s1 n = vmOf u n := by
    unfold s1 setOpMem
    rw [if_pos hloft]
    simp
  have h2 : s2 = s1 := if_pos (.inr hop)
  have h3 : vmOf s3 n = mwr (vmOf u n) (ocb s d 16 8 + 32 * k) 32 (drainStat s d x 0) := by
    rw [show s3 = _ from if_neg hstats, vmOf_setVm, h2, h1, hzero]
  have h4 : vmOf s4 n = vmOf s3 n := rfl
  rw [← h3, ← h4]
  split <;> rfl

/-- No other context's memory changes. -/
theorem vmOf_drainRow_ne {n : Nat} (hn : n ≠ dCtx d) : vmOf (drainRow s d u x) n = vmOf u n := by
  unfold drainRow
  extract_lets m die h out k s1 s2 s3 s4
  have h1 : vmOf s1 n = vmOf u n := by
    unfold s1 setOpMem
    split
    · simp
    · exact vmOf_setVm_ne _ _ hn.symm
  have h2 : vmOf s2 n = vmOf s1 n := by
    unfold s2
    split
    · rfl
    · exact vmOf_setVm_ne _ _ hn.symm
  have h3 : vmOf s3 n = vmOf s2 n := by
    unfold s3
    split
    · rfl
    · exact vmOf_setVm_ne _ _ hn.symm
  have h4 : vmOf s4 n = vmOf u n := h3.trans (h2.trans h1)
  split <;> exact h4

end DrainRow

/-- The state in which a DRAIN has written its rows. -/
def drained (s : State) (d : Desc) : State := (aRows d).foldl (drainRow s d) s

/-- An exported element stands at its row and lane. -/
theorem mrd_drained (hop : dOp d = 0x15) (hX : aX d = 0) {x j : Nat} (hx : Named d x) (hj : j < 1024)
    (hpad : padLane s d x j = false) :
    mrd (opMem (drained s d) d (df d 32 1) (aLoft d))
        (aAddr d + (x - aFirst d) * aRowBytes d + j * drainSize (aFmt d)) (drainSize (aFmt d)) =
      (drainOut s d x (safetyExp s d x) j).1 % 2 ^ (8 * drainSize (aFmt d)) := by
  have hrow := aRowBytes_of_drain hop
  refine mrd_foldl_rows (mem := (opMem · d (df d 32 1) (aLoft d))) s (fun u y i hi => ?_) (fun u => ?_) ?_ hx
  · rw [opMem_drainRow u y hX]
    exact mget_rowWrite_outside _ (by rwa [length_map_lanes1024, ← hrow])
  · rw [opMem_drainRow u x hX, Nat.mul_comm j, mrd_rowWrite_lanes1024 _ _ _ _ hj, drainLane, hpad, if_neg (by decide)]
  · have := Nat.mul_le_mul_right (drainSize (aFmt d)) (Nat.succ_le_of_lt hj)
    rw [Nat.succ_mul] at this
    omega

/-- A row's statistics record stands in the table. -/
theorem mrd_drained_stats (hloft : aLoft d = true) (hop : aOp d ≠ 3) (hstats : ocb s d 16 8 ≠ 0) {x : Nat} (hx : Named d x) :
    mrd (vmOf (drained s d) (dCtx d)) (ocb s d 16 8 + 32 * (x - aFirst d)) 32 = drainStat s d x 0 % 2 ^ 256 := by
  rw [Nat.mul_comm]
  refine mrd_foldl_rows (mem := (vmOf · (dCtx d))) (o := 0) s (fun u y i hi => ?_) (fun u => ?_) (Nat.le_refl _) hx
  · rw [vmOf_drainRow u y hloft hop hstats, Nat.mul_comm 32]
    exact mget_mwr_outside _ _ _ _ _ hi
  · rw [vmOf_drainRow u x hloft hop hstats, Nat.mul_comm 32]
    exact mrd_mwr_same ..

theorem vmOf_drained_ne {n : Nat} (hn : n ≠ dCtx d) : vmOf (drained s d) n = vmOf s n :=
  foldl_keeps (vmOf · n) (fun u x => vmOf_drainRow_ne u x hn) _

/-- A DRAIN whose command its OP selects answers with its rows and the status of R249. -/
theorem exec_drain {c : Instr} {i : Nat} (h : Runs s i 0x15 d)
    (hc : (c = .drainNative i .none ∧ aOp d = 0) ∨ (c = .drainDequant i .none ∧ aOp d = 1) ∨
      (c = .drainMean i .none ∧ aOp d = 2) ∨ (c = .drainFused i .none ∧ aOp d = 3)) :
    exec c s = .next (completeDesc (drained s d) d (drainStatus s d) (aCount d)) := by
  obtain ⟨rfl, hop⟩ | ⟨rfl, hop⟩ | ⟨rfl, hop⟩ | ⟨rfl, hop⟩ := hc <;> exact runDescIf_of_runs h (by simp [hop])

/-! ### SAVE (R252) -/

theorem writeBytes_append (m : Mem) (a : Nat) (l r : List Nat) :
    writeBytes m a (l ++ r) = writeBytes (writeBytes m a l) (a + l.length) r := by
  induction l generalizing m a with
  | nil => rfl
  | cons b l ih => rw [List.cons_append, writeBytes, ih, writeBytes, List.length_cons, Nat.add_assoc, Nat.add_comm 1]

/-- Writing the bytes of a number is writing the number. -/
theorem writeBytes_bytesOf (m : Mem) (a v n : Nat) : writeBytes m a (bytesOf v n) = mwr m a n v := by
  induction n generalizing m a v with
  | zero => rfl
  | succ n ih => rw [bytesOf, writeBytes, ih, mwr]

/-- Writing the bytes of several numbers is writing a row of them. -/
theorem writeBytes_flatMap (m : Mem) (a b : Nat) (f : Nat → Nat) (l : List Nat) :
    writeBytes m a (l.flatMap fun j => bytesOf (f j) b) = rowWrite m a b (l.map f) := by
  induction l generalizing m a with
  | nil => rfl
  | cons x r ih =>
    rw [List.flatMap_cons, writeBytes_append, writeBytes_bytesOf, length_bytesOf, ih, List.map_cons, rowWrite]

/-- The bytes of a record before its data: type, width, flags, check value and reserved bytes. -/
def writeHeader (m : Mem) (a : Nat) (t : Tile) (x : Nat) : Mem :=
  writeBytes (mwr (writeBytes m a [t.ty, t.laneW, b2n (t.sat.contains x) + 2 * b2n (t.rangeF.contains x), 0]) (a + 4) 4
    (crc32c (rowBytes t x))) (a + 8) (List.replicate 56 0)

/-- A record is its header and a row of 1,024 words of 8 bytes. -/
theorem writeBytes_saveRecord (m : Mem) (a : Nat) (t : Tile) (x : Nat) :
    writeBytes m a (saveRecord t x) = rowWrite (writeHeader m a t x) (a + 64) 8 (lanes1024.map (tRaw t x)) := by
  rw [saveRecord, writeBytes_append, writeBytes_append, writeBytes_append, writeBytes_bytesOf, writeHeader]
  simp only [List.length_append, length_bytesOf, List.length_replicate, List.length_cons, List.length_nil]
  exact writeBytes_flatMap ..

/-- Outside its 8,256 bytes a record changes nothing. -/
theorem mget_saveRecord_outside (m : Mem) {a : Nat} (t : Tile) (x : Nat) {i : Nat} (h : i < a ∨ a + 8256 ≤ i) :
    mget (writeBytes m a (saveRecord t x)) i = mget m i := by
  rw [writeBytes_saveRecord, mget_rowWrite_outside _ (by rw [length_map_lanes1024]; omega), writeHeader, mget_writeBytes,
    List.length_replicate, if_neg (by omega), mget_mwr_outside _ _ _ _ _ (by omega), mget_writeBytes,
    if_neg (by simp only [List.length_cons, List.length_nil]; omega)]

/-- The check value and what stands before it are left by the bytes behind. -/
theorem mget_saveRecord_header (m : Mem) (a : Nat) (t : Tile) (x : Nat) {i : Nat} (h : i < a + 8) :
    mget (writeBytes m a (saveRecord t x)) i =
      mget (mwr (writeBytes m a [t.ty, t.laneW, b2n (t.sat.contains x) + 2 * b2n (t.rangeF.contains x), 0]) (a + 4) 4
        (crc32c (rowBytes t x))) i := by
  rw [writeBytes_saveRecord, mget_rowWrite_outside _ (by omega), writeHeader, mget_writeBytes, if_neg (by omega)]

/-- Four bytes read after they were written one by one. -/
theorem mrd_writeBytes_four (m : Mem) (a b0 b1 b2 b3 : Nat) :
    mrd (writeBytes m a [b0, b1, b2, b3]) a 4 = b0 % 256 + 256 * (b1 % 256 + 256 * (b2 % 256 + 256 * (b3 % 256))) := by
  simp [writeBytes, mrd, mget_mset, show a + 1 + 1 + 1 ≠ a by omega, show a + 1 + 1 ≠ a by omega]

theorem b2n_le (b : Bool) : b2n b ≤ 1 := by cases b <;> decide

theorem mrd_saveRecord_type (m : Mem) (a : Nat) (t : Tile) (x : Nat) :
    mrd (writeBytes m a (saveRecord t x)) a 4 = t.ty % 256 + 256 * (t.laneW % 256) +
      65536 * (b2n (t.sat.contains x) + 2 * b2n (t.rangeF.contains x)) := by
  have hsat := b2n_le (t.sat.contains x)
  have hrange := b2n_le (t.rangeF.contains x)
  rw [mrd_congr fun i _ hi => (mget_saveRecord_header m a t x (by omega)).trans (mget_mwr_outside _ _ _ _ _ (by omega)),
    mrd_writeBytes_four]
  omega

theorem mrd_saveRecord_check (m : Mem) (a : Nat) (t : Tile) (x : Nat) :
    mrd (writeBytes m a (saveRecord t x)) (a + 4) 4 = crc32c (rowBytes t x) % 2 ^ 32 :=
  (mrd_congr fun i _ hi => mget_saveRecord_header m a t x (by omega)).trans (mrd_mwr_same ..)

theorem mrd_saveRecord_word (m : Mem) (a : Nat) (t : Tile) (x : Nat) {j : Nat} (hj : j < 1024) :
    mrd (writeBytes m a (saveRecord t x)) (a + (64 + 8 * j)) 8 = tRaw t x j % 2 ^ 64 := by
  rw [writeBytes_saveRecord, ← Nat.add_assoc]
  exact mrd_rowWrite_lanes1024 _ _ _ _ hj

/-- The records of the named rows of a tile, written from ADDR on. -/
def writeRecords (d : Desc) (t : Tile) (m : Mem) : Mem :=
  (aRows d).foldl (fun m x => writeBytes m (recAt d x) (saveRecord t x)) m

/-- Of the records written each holds its fields. -/
theorem mrd_writeRecords {t : Tile} {x o n v : Nat} (m : Mem)
    (hin : ∀ m, mrd (writeBytes m (recAt d x) (saveRecord t x)) (recAt d x + o) n = v) (ho : o + n ≤ 8256) (hx : Named d x) :
    mrd (writeRecords d t m) (recAt d x + o) n = v := by
  simp only [writeRecords, recAt, Nat.mul_comm 8256] at hin ⊢
  refine mrd_foldl_rows (mem := fun m => m) (row := fun m x => writeBytes m (aAddr d + (x - aFirst d) * 8256) (saveRecord t x))
    m (fun m y i hi => ?_) hin ho hx
  exact mget_saveRecord_outside m t y hi

theorem execSave_of_runs {i : Nat} (h : Runs s i 0x16 d) :
    execSave i .none s = .next (completeDesc (setOpMem s d (df d 32 1) (aLoft d)
      (writeRecords d (tileNow s d) (opMem s d (df d 32 1) (aLoft d)))) d stOk (aCount d)) := by
  rw [execSave, runDesc_of_runs h]
  simp only [writeRecords, recAt]

/-! ### RESTORE (R253) -/

/-- RESTORE of one lane: the saved word in the layout of the tile's type. -/
def restoreLane (m : Mem) (d : Desc) (ty x j : Nat) (p : Nat × Nat) : Nat × Nat :=
  let w := mrd m (recAt d x + 64 + 8 * j) 8
  if ty = 1 then (w % 2 ^ 40, p.2) else if ty = 2 then (w % 2 ^ 32, w / 2 ^ 32) else (w, p.2)

theorem RowPut.withFlags {t t' : Tile} {x : Nat} {h : Nat → Nat × Nat → Nat × Nat} (ht : RowPut t x h t')
    (sat rangeF : List Nat) : RowPut t x h { t' with sat := sat, rangeF := rangeF } := ⟨ht.ty, ht.laneW, ht.pair⟩

/-- A restored row: its pairs, and the two flags as the record has them. -/
theorem restoreRow_spec (m : Mem) (d : Desc) (t : Tile) (x : Nat) :
    RowPut t x (restoreLane m d t.ty x) (restoreRow m d t x) ∧
      (restoreRow m d t x).sat = t.sat.filter (· != x) ++ (if bit (mrd m (recAt d x + 2) 1) 0 then [x] else []) ∧
      (restoreRow m d t x).rangeF = t.rangeF.filter (· != x) ++ (if bit (mrd m (recAt d x + 2) 1) 1 then [x] else []) := by
  unfold restoreRow
  extract_lets a word t1 fl v
  have h1 : RowPut t x (restoreLane m d t.ty x) t1 ∧ t1.sat = t.sat ∧ t1.rangeF = t.rangeF := by
    unfold t1
    split
    · next hint => exact ⟨(rowPut_tPut ..).congr fun _ _ => by simp [restoreLane, hint, word, a], by simp⟩
    · next hint =>
      split
      · next hpair =>
        exact ⟨((rowPut_tPut ..).trans (rowPut_tPutE ..)).congr fun _ _ => by simp [restoreLane, hpair, word, a], by simp⟩
      · next hpair => exact ⟨(rowPut_tPut ..).congr fun _ _ => by simp [restoreLane, hint, hpair, word, a], by simp⟩
  clear_value t1 v
  obtain ⟨hput, hsat, hrange⟩ := h1
  exact ⟨(hput.tChk x v).withFlags .., by rw [hsat], by rw [hrange]⟩

/-- The tile of a RESTORE whose records are good. -/
def restored (m : Mem) (d : Desc) (t : Tile) : Tile :=
  (aRows d).foldl (restoreRow m d) (retype t (aCount d) (mrd m (aAddr d) 1) (mrd m (aAddr d + 1) 1))

/-- The memory that a descriptor's records are read from. -/
def recordMem (s : State) (d : Desc) : Mem := srcMem s d (df d 32 1) (aLoft d) (aAddr d) (aBytes d)

theorem execRestore_of_runs {i : Nat} (h : Runs s i 0x17 d) (hcount : aCount d ≠ 0) :
    execRestore i .none s = .next (if restoreOk (recordMem s d) d (tileNow s d) then
        completeDesc (putTile s d (restored (recordMem s d) d (tileNow s d))) d stOk (aCount d)
      else completeDesc (putTile s d {}) d stIntegrity 0) := by
  rw [execRestore, runDesc_of_runs h, if_neg hcount]
  rfl

/-- A word of a tile from its pair (R221). -/
theorem tRaw_eq (t : Tile) (x j : Nat) : tRaw t x j = if t.ty = 1 then ofS 64 (toS 40 (tPair t x j).1)
    else if t.ty = 2 then (tPair t x j).1 + 2 ^ 32 * (tPair t x j).2 else (tPair t x j).1 := rfl

/-- A restored word has the bits of the saved one, an INT40 word those of its 40 low bits. -/
theorem tRaw_restored (m : Mem) (t : Tile) {x j : Nat} (hx : Named d x) (hj : j < 1024) :
    tRaw (restored m d t) x j = if (restored m d t).ty = 1 then ofS 64 (toS 40 (mrd m (recAt d x + 64 + 8 * j) 8 % 2 ^ 40))
      else mrd m (recAt d x + 64 + 8 * j) 8 := by
  obtain ⟨t0, ht0⟩ : ∃ t0, t0 = retype t (aCount d) (mrd m (aAddr d) 1) (mrd m (aAddr d + 1) 1) := ⟨_, rfl⟩
  have hview : ((restored m d t).ty, tPair (restored m d t) x j) = (t0.ty, restoreLane m d t0.ty x j (tPair t0 x j)) := by
    rw [restored, ← ht0]
    refine foldl_aRows_view (view := fun t => (t.ty, tPair t x j)) (fun t ht => ?_) (fun t y _ hy => ?_) hx
    · obtain ⟨hput, -⟩ := restoreRow_spec m d t x
      obtain ⟨hty0, hpair0⟩ := Prod.mk.inj ht
      rw [hput.ty, hput.pair x j hj, if_pos rfl, hty0, hpair0]
    · obtain ⟨hput, -⟩ := restoreRow_spec m d t y
      rw [hput.ty, hput.pair x j hj, if_neg hy.symm]
  obtain ⟨hty, hpair⟩ := Prod.mk.inj hview
  rw [tRaw_eq, hty, hpair, restoreLane]
  split
  · rfl
  · split
    · exact Nat.mod_add_div ..
    · rfl

/-- A flag that each row's turn takes from bit k of its record is as saved after all rows. -/
theorem mem_flags_restored {flags : Tile → List Nat} {m : Mem} {k x : Nat}
    (hrow : ∀ t y, flags (restoreRow m d t y) =
      (flags t).filter (· != y) ++ (if bit (mrd m (recAt d y + 2) 1) k then [y] else [])) (t : Tile) (hx : Named d x) :
    x ∈ flags (restored m d t) ↔ bit (mrd m (recAt d x + 2) 1) k = true := by
  refine Iff.of_eq (foldl_aRows_view (view := fun t => x ∈ flags t) (fun t _ => ?_) (fun t y _ hy => ?_) hx)
  · rw [hrow]
    split
    · next hbit => simp [hbit]
    · next hbit => simp [hbit]
  · rw [hrow]
    split <;> simp [hy.symm]

/-- Settles O23: a DRAIN's rows by `mrd_drained` and `mrd_drained_stats`, the records of SAVE by `mrd_writeRecords`, and the
tile of a good RESTORE by `tRaw_restored` and `mem_flags_restored`. -/
theorem tileRowsLeaveAndReturn : Obligations.TileRowsLeaveAndReturn := by
  unfold Obligations.TileRowsLeaveAndReturn
  refine ⟨?drain, ?save, ?restore, ?badRecord⟩
  case drain =>
    intro c i s d hruns _ hc
    have ⟨_, hop, _⟩ := hruns
    exact ⟨drained s d, exec_drain hruns hc,
      fun hX x j hx hj hexport => mrd_drained hop hX hx hj (padLane_eq_false hj hexport),
      fun hloft hform hstats x hx => mrd_drained_stats hloft hform hstats hx, fun n hn => vmOf_drained_ne hn⟩
  case save =>
    intro i s d hruns _
    refine ⟨_, execSave_of_runs hruns, _, rfl, fun x hx => ⟨?_, ?_, fun j hj => ?_⟩⟩
    · exact mrd_writeRecords (o := 0) _ (fun m => mrd_saveRecord_type ..) (by decide) hx
    · exact mrd_writeRecords _ (fun m => mrd_saveRecord_check ..) (by decide) hx
    · rw [Nat.add_assoc]
      exact mrd_writeRecords _ (fun m => mrd_saveRecord_word _ _ _ _ hj) (by omega) hx
  case restore =>
    intro i s d hruns _ hcount hok
    refine ⟨_, (execRestore_of_runs hruns hcount).trans (congrArg _ (if_pos hok)), _, rfl, fun x hx =>
      ⟨fun j hj => tRaw_restored _ _ hx hj, mem_flags_restored (fun t y => ?_) _ hx,
        mem_flags_restored (fun t y => ?_) _ hx⟩⟩
    · obtain ⟨-, hsat, -⟩ := restoreRow_spec (recordMem s d) d t y
      exact hsat
    · obtain ⟨-, -, hrange⟩ := restoreRow_spec (recordMem s d) d t y
      exact hrange
  case badRecord =>
    intro i s d hruns _ hcount hbad
    exact ⟨_, (execRestore_of_runs hruns hcount).trans (congrArg _ (if_neg (by simp [recordMem, hbad]))), rfl⟩

end Sys2Proof.Machine
end

section
/-! SUPPORT. The winner of a reduction and its record (R255 to R257), and O24. -/

namespace Sys2Proof.Machine
open Sys2Proof

variable {s : State} {d : Desc}

/-- Element q takes the lead from element p: it stands after p for REDUCE_MAX, before p for REDUCE_MIN (R255). -/
def overtakes (s : State) (d : Desc) (mx : Bool) (q p : Nat) : Bool :=
  if mx then keyLt (redKey (aFmt d) (redElem s d p)) (redKey (aFmt d) (redElem s d q))
  else keyLt (redKey (aFmt d) (redElem s d q)) (redKey (aFmt d) (redElem s d p))

/-! ### The scan, element by element -/

theorem redScan_succ_nan {mx : Bool} {k : Nat} (h : redNan (aFmt d) (redElem s d k) = true) :
    redScan s d mx (k + 1) = ((redScan s d mx k).1, (redScan s d mx k).2 + 1) := by
  simp only [redScan, h, if_true]

/-- The first element that counts leads. -/
theorem redScan_succ_first {mx : Bool} {k : Nat} (h : redNan (aFmt d) (redElem s d k) = false)
    (hnone : (redScan s d mx k).1 = none) :
    redScan s d mx (k + 1) = (some (k, redElem s d k), (redScan s d mx k).2) := by
  simp only [redScan, h, hnone, Bool.false_eq_true, if_false]

theorem redScan_succ_overtakes {mx : Bool} {k b : Nat} (h : redNan (aFmt d) (redElem s d k) = false)
    (hlead : (redScan s d mx k).1 = some (b, redElem s d b)) (hover : overtakes s d mx k b = true) :
    redScan s d mx (k + 1) = (some (k, redElem s d k), (redScan s d mx k).2) := by
  rw [overtakes] at hover
  simp only [redScan, h, hlead, hover, if_true, if_false, Bool.false_eq_true]

theorem redScan_succ_stays {mx : Bool} {k b : Nat} (h : redNan (aFmt d) (redElem s d k) = false)
    (hlead : (redScan s d mx k).1 = some (b, redElem s d b)) (hover : overtakes s d mx k b = false) :
    redScan s d mx (k + 1) = (some (b, redElem s d b), (redScan s d mx k).2) := by
  rw [overtakes] at hover
  simp only [redScan, h, hlead, hover, if_false, Bool.false_eq_true]

/-- An element that counts adds no NaN. -/
theorem redScan_succ_snd {mx : Bool} {k : Nat} (h : redNan (aFmt d) (redElem s d k) = false) :
    (redScan s d mx (k + 1)).2 = (redScan s d mx k).2 := by
  simp only [redScan, h, Bool.false_eq_true, if_false]
  split <;> rfl

/-! ### What the scan has found -/

/-- The NaNs below k are counted, whatever leads. -/
theorem redScan_nans (mx : Bool) (k : Nat) :
    (redScan s d mx k).2 = ((List.range k).filter (fun p => redNan (aFmt d) (redElem s d p))).length := by
  induction k with
  | zero => rfl
  | succ k ih =>
    rw [List.range_succ, List.filter_append, List.length_append, ← ih]
    cases h : redNan (aFmt d) (redElem s d k) with
    | true => simp [redScan_succ_nan h, h]
    | false => simp [redScan_succ_snd h, h]

theorem redScan_rCount_snd (mx : Bool) : (redScan s d mx (rCount d)).2 = nanCount s d := redScan_nans ..

/-- What leads is an element that counts, from below k. -/
theorem redScan_leader (mx : Bool) (k : Nat) :
    (redScan s d mx k).1 = none ∨
      ∃ b < k, redNan (aFmt d) (redElem s d b) = false ∧ (redScan s d mx k).1 = some (b, redElem s d b) := by
  induction k with
  | zero => exact .inl rfl
  | succ k ih =>
    cases h : redNan (aFmt d) (redElem s d k) with
    | true =>
      rw [redScan_succ_nan h]
      exact ih.imp_right fun ⟨b, hb, hlead⟩ => ⟨b, by omega, hlead⟩
    | false =>
      obtain hnone | ⟨b, hb, hnan, hlead⟩ := ih
      · exact .inr ⟨k, by omega, h, by rw [redScan_succ_first h hnone]⟩
      · cases hover : overtakes s d mx k b with
        | true => exact .inr ⟨k, by omega, h, by rw [redScan_succ_overtakes h hlead hover]⟩
        | false => exact .inr ⟨b, by omega, hnan, by rw [redScan_succ_stays h hlead hover]⟩

/-- Without an element that counts nothing leads. -/
theorem redScan_none {mx : Bool} (h : ∀ q, ¬ Counts s d q) : (redScan s d mx (rCount d)).1 = none := by
  obtain hnone | ⟨b, hb, hnan, -⟩ := redScan_leader mx (rCount d)
  · exact hnone
  · exact absurd ⟨hb, hnan⟩ (h b)

/-- An element that overtakes every earlier one, and that no element overtakes, leads from its own turn to the end. -/
theorem redScan_winner {mx : Bool} {p : Nat} (hp : Counts s d p) (hlast : ∀ q, Counts s d q → overtakes s d mx q p = false)
    (hfirst : ∀ q, q < p → Counts s d q → overtakes s d mx p q = true) {k : Nat} (hpk : p < k) (hk : k ≤ rCount d) :
    (redScan s d mx k).1 = some (p, redElem s d p) := by
  obtain ⟨hcount, hnan⟩ := hp
  induction k with
  | zero => exact absurd hpk (Nat.not_lt_zero p)
  | succ k ih =>
    rcases Nat.lt_succ_iff_lt_or_eq.1 hpk with hlt | rfl
    · have hlead := ih hlt (by omega)
      cases h : redNan (aFmt d) (redElem s d k) with
      | true => rw [redScan_succ_nan h, hlead]
      | false => rw [redScan_succ_stays h hlead (hlast k ⟨by omega, h⟩)]
    · obtain hnone | ⟨b, hb, hbnan, hlead⟩ := redScan_leader (s := s) (d := d) mx p
      · rw [redScan_succ_first hnan hnone]
      · rw [redScan_succ_overtakes hnan hlead (hfirst b hb ⟨by omega, hbnan⟩)]

/-! ### The record (R255, R257) -/

/-- A reduction with a winner completes OK with its value and index. -/
theorem reduceEff_winner {mx : Bool} {p : Nat} (hp : Counts s d p) (hlast : ∀ q, Counts s d q → overtakes s d mx q p = false)
    (hfirst : ∀ q, q < p → Counts s d q → overtakes s d mx p q = true) :
    ∃ u, reduceEff mx d s = completeDesc u d stOk (rCount d) ∧
      ResultWritten s u d (redValue (aFmt d) (redElem s d p)) (rBase d + p) := by
  have hlead := redScan_winner hp hlast hfirst hp.1 (Nat.le_refl _)
  refine ⟨_, ?_, rfl⟩
  simp [reduceEff, hlead, redScan_rCount_snd]

/-- A reduction in which no element counts completes EMPTY with the neutral extreme. -/
theorem reduceEff_empty {mx : Bool} (h : ∀ q, ¬ Counts s d q) :
    ∃ u, reduceEff mx d s = completeDesc u d stEmpty (rCount d) ∧
      ResultWritten s u d (redNeutral (aFmt d) mx) 0xFFFFFFFF := by
  refine ⟨_, ?_, rfl⟩
  simp [reduceEff, redScan_none h, redScan_rCount_snd]

theorem execReduceMax_of_runs {i : Nat} (h : Runs s i 0x60 d) : execReduceMax i .none s = .next (reduceEff true d s) := by
  rw [execReduceMax, runDesc_of_runs h]

theorem execReduceMin_of_runs {i : Nat} (h : Runs s i 0x61 d) : execReduceMin i .none s = .next (reduceEff false d s) := by
  rw [execReduceMin, runDesc_of_runs h]

/-- Settles O24: the scan ends with the winner by `redScan_winner`, and with nothing by `redScan_none`. -/
theorem reductionsFindTheFirstWinner : Obligations.ReductionsFindTheFirstWinner := by
  unfold Obligations.ReductionsFindTheFirstWinner
  refine ⟨?max, ?min, ?maxEmpty, ?minEmpty⟩
  case max =>
    intro i p s d hruns _ hp hlast hfirst
    obtain ⟨u, hu, hrecord⟩ := reduceEff_winner (mx := true) hp (fun q hq => Bool.eq_false_iff.2 (hlast q hq)) hfirst
    exact ⟨u, (execReduceMax_of_runs hruns).trans (congrArg _ hu), hrecord⟩
  case min =>
    intro i p s d hruns _ hp hlast hfirst
    obtain ⟨u, hu, hrecord⟩ := reduceEff_winner (mx := false) hp (fun q hq => Bool.eq_false_iff.2 (hlast q hq)) hfirst
    exact ⟨u, (execReduceMin_of_runs hruns).trans (congrArg _ hu), hrecord⟩
  case maxEmpty =>
    intro i s d hruns _ hnone
    obtain ⟨u, hu, hrecord⟩ := reduceEff_empty (mx := true) hnone
    exact ⟨u, (execReduceMax_of_runs hruns).trans (congrArg _ hu), hrecord⟩
  case minEmpty =>
    intro i s d hruns _ hnone
    obtain ⟨u, hu, hrecord⟩ := reduceEff_empty (mx := false) hnone
    exact ⟨u, (execReduceMin_of_runs hruns).trans (congrArg _ hu), hrecord⟩

end Sys2Proof.Machine
end

section
/-! SUPPORT. The queue of waiting commands and the reset state (log 1, log 6): O1 and O5. -/

namespace Sys2Proof.Machine
open Sys2Proof

/-- Settles O1: the command in front is the one that the step takes. -/
theorem stepRunsFrontCommand : Obligations.StepRunsFrontCommand := by
  unfold Obligations.StepRunsFrontCommand
  intro c s rest
  rfl

/-- Settles O5: at reset no memory lists a byte. -/
theorem memoryFormAtReset : Obligations.MemoryFormAtReset := by
  unfold Obligations.MemoryFormAtReset
  exact ⟨rfl, fun _ => rfl, fun _ => rfl, fun _ => rfl, rfl⟩

end Sys2Proof.Machine
end

section
/-! SUPPORT. The health tests of the random number generator (R472 to R477), and O44. -/

namespace Sys2Proof.Machine
open Sys2Proof

variable {s t : State}

/-! ### Counters and fault records -/

/-- A BAR2 counter after it counted. -/
theorem rdB_bumpB_same (s : State) (off k x : Nat) :
    rdB (bumpB s off k x) off 0 = satAdd (2 ^ (8 * k) - 1) (rdB s off 0) x := by
  simp [bumpB, rdB, wrB]

@[simp] theorem rdB_wrB_same (s : State) (off dflt v : Nat) : rdB (wrB s off dflt v) off dflt = v := by simp [rdB, wrB]

theorem rdB_wrB_ne (s : State) {off off' : Nat} (dflt dflt' v : Nat) (h : off ≠ off') :
    rdB (wrB s off dflt v) off' dflt' = rdB s off' dflt' := by
  simp only [rdB, wrB]
  unfold tset
  split
  · induction s.bar2 with
    | nil => rfl
    | cons c r ih =>
      by_cases hc : c.1 = off <;> by_cases hc' : c.1 = off' <;> simp_all [terase, tget]
  · rw [tget_tput, if_neg h]

theorem rdB_bumpB_ne (s : State) {off off' : Nat} (k x dflt : Nat) (h : off ≠ off') :
    rdB (bumpB s off k x) off' dflt = rdB s off' dflt := rdB_wrB_ne s _ _ _ h

theorem rdB_writeFault (s : State) (r : FaultRec) (off dflt : Nat) : rdB (writeFault s r) off dflt = rdB s off dflt := by simp

theorem writeFault_faultSeq (s : State) (r : FaultRec) : (writeFault s r).faultSeq = s.faultSeq + 1 := by
  unfold writeFault
  simp only []
  (repeat' split) <;> simp

/-! ### Failures (R477) -/

theorem rngFail_rng (c : Nat) : (rngFail s c).rng =
    { s.rng with st := rngHalted, failCause := c, queue := [], tail := 0, seeds := [], drbg := 0, instantiated := false, cond := [], win := [] } := by
  simp [rngFail, rngZero]

theorem rngFail_faultSeq (c : Nat) : (rngFail s c).faultSeq = s.faultSeq + 1 := by
  simp [rngFail, writeFault_faultSeq, rngZero]

/-- A failure counts in RNG_FAILURES; what was flushed counts elsewhere. -/
theorem rngFail_counted (c : Nat) : CountedB s (rngFail s c) rFailures 4 := by
  have hflushed : rdB (rngZero s) rFailures 0 = rdB s rFailures 0 := rdB_bumpB_ne s 4 s.rng.queue.length 0 (by decide)
  exact (rdB_writeFault ..).trans ((rdB_bumpB_same ..).trans (congrArg (satAdd (2 ^ (8 * 4) - 1) · 1) hflushed))

/-- A failure of s, seen from a state that differs in the generator and in other registers only. -/
theorem rngFailed_rngFail (c : Nat) (hreg : rdB t rFailures 0 = rdB s rFailures 0) (hseq : t.faultSeq = s.faultSeq) :
    RngFailed s (rngFail t c) c := by
  have hcount := rngFail_counted (s := t) c
  rw [CountedB, hreg] at hcount
  rw [RngFailed, rngFail_rng, rngFail_faultSeq, hseq]
  exact ⟨rfl, rfl, rfl, rfl, rfl, hcount, rfl⟩

/-! ### Samples (R471, R475) -/

/-- The generator with the results of the tests of a sample. -/
def testedRng (r : Rng) (x : Nat) : Rng :=
  { r with last := x, run := rctRun r x, aptFirst := (aptStep r x).1, aptCount := (aptStep r x).2.1, aptIdx := (aptStep r x).2.2 }

theorem execRngSample_of_live {b : Byte} (hlive : RngLive s) (hst : s.rng.st < rngHalted) : execRngSample b s =
    .next (if 81 ≤ rctRun s.rng b.toNat then rngFail { s with rng := testedRng s.rng b.toNat } 1
      else if 441 ≤ (aptStep s.rng b.toNat).2.1 then rngFail { s with rng := testedRng s.rng b.toNat } 2
      else takeSample { s with rng := testedRng s.rng b.toNat } b.toNat) := by
  obtain ⟨hfrozen, hreset⟩ := hlive
  simp only [execRngSample, hfrozen, hreset, Nat.not_le.2 hst, Bool.false_eq_true, or_self, if_false]
  split
  · rfl
  · split <;> rfl

/-- A sample taken joins the window and the conditioner, and leaves the state of the generator and its queue. -/
theorem takeSample_keeps (x : Nat) : takeSample s x = { s with rng := (takeSample s x).rng } ∧
    (takeSample s x).rng = { s.rng with
      win := if s.rng.win.length < (if s.rng.st = rngStartup then 1024 else 4096) then s.rng.win ++ [x] else s.rng.win
      raw := (takeSample s x).rng.raw
      cond := (takeSample s x).rng.cond
      seeds := (takeSample s x).rng.seeds } := by
  unfold takeSample
  extract_lets r cap r1
  by_cases hcapture : r.capture = true
  · rw [if_pos hcapture]
    exact ⟨rfl, rfl⟩
  rw [if_neg hcapture]
  split
  · exact ⟨rfl, rfl⟩
  · split <;> exact ⟨rfl, rfl⟩

/-! ### Estimates and start-up (R472 to R476) -/

/-- Both estimates of the window are published, and the window is empty. -/
def estimatesShown (s : State) : State :=
  let s1 := wrB (wrB s rBias 0x8000 (rngBias s.rng.win)) rAutocorr 0 (ofS 16 (rngAutocorr s.rng.win))
  { s1 with rng := { s1.rng with win := [] } }

theorem estimatesShown_bias : rdB (estimatesShown s) rBias 0x8000 = rngBias s.rng.win :=
  (rdB_wrB_ne _ _ _ _ (by decide)).trans (rdB_wrB_same ..)

theorem estimatesShown_autocorr : rdB (estimatesShown s) rAutocorr 0 = ofS 16 (rngAutocorr s.rng.win) := rdB_wrB_same ..

theorem estimatesShown_failures : rdB (estimatesShown s) rFailures 0 = rdB s rFailures 0 :=
  (rdB_wrB_ne _ _ _ _ (by decide)).trans (rdB_wrB_ne _ _ _ _ (by decide))

/-- A failure leaves every register but its two counters. -/
theorem rdB_rngFail_ne (c dflt : Nat) {off : Nat} (hflushed : rFlushed ≠ off) (hfailures : rFailures ≠ off) :
    rdB (rngFail s c) off dflt = rdB s off dflt :=
  (rdB_writeFault ..).trans ((rdB_bumpB_ne _ _ _ _ hfailures).trans (rdB_bumpB_ne s 4 s.rng.queue.length dflt hflushed))

theorem execRngEstimateWindow_of_window (hlive : RngLive s) (hst : s.rng.st = rngReady ∨ s.rng.st = rngBlocked)
    (hwin : s.rng.win.length = 4096) : execRngEstimateWindow s =
    .next (((estimateFail s.rng.win).map (rngFail (estimatesShown s))).getD (estimatesShown s)) := by
  obtain ⟨hfrozen, hreset⟩ := hlive
  have hon : ¬ ((s.rng.st ≠ rngReady ∧ s.rng.st ≠ rngBlocked) ∨ s.rng.win.length ≠ 4096) := by
    rintro (⟨hready, hblocked⟩ | hlen)
    · exact hst.elim hready hblocked
    · exact hlen hwin
  simp only [execRngEstimateWindow, hfrozen, hreset, hon, Bool.false_eq_true, or_self, if_false]
  cases estimateFail s.rng.win <;> rfl

theorem execRngStartupComplete_of_window (ok : Bool) (hlive : RngLive s) (hst : s.rng.st = rngStartup)
    (hwin : s.rng.win.length = 1024) : execRngStartupComplete ok s = .next (if ok = false then rngFail s 5
      else ((estimateFail s.rng.win).map (rngFail s)).getD (rngInstantiate s)) := by
  obtain ⟨hfrozen, hreset⟩ := hlive
  simp only [execRngStartupComplete, hfrozen, hreset, hst, hwin, Bool.false_eq_true, ne_eq, not_true, or_self, if_false]
  split
  · rfl
  · cases estimateFail s.rng.win <;> rfl

/-- Settles O44: what a sample, a window and the end of the start-up tests answer is read off the lemmas above. -/
theorem rngHealthTests : Obligations.RngHealthTests := by
  unfold Obligations.RngHealthTests
  refine ⟨?sample, ?repetition, ?proportion, ?window, ?startup⟩
  case sample =>
    intro x s hlive hst hrun hcount
    refine ⟨_, (execRngSample_of_live hlive hst).trans
      (congrArg _ ((if_neg (Nat.not_le.2 hrun)).trans (if_neg (Nat.not_le.2 hcount)))), ?_⟩
    obtain ⟨hstate, hrng⟩ := takeSample_keeps (s := { s with rng := testedRng s.rng x.toNat }) x.toNat
    refine ⟨hstate, ?_⟩
    rw [hrng]
    exact ⟨rfl, rfl, rfl, rfl, rfl, rfl⟩
  case repetition =>
    intro x s hlive hst hrun
    exact ⟨_, (execRngSample_of_live hlive hst).trans (congrArg _ (if_pos hrun)), rngFailed_rngFail 1 rfl rfl⟩
  case proportion =>
    intro x s hlive hst hrun hcount
    exact ⟨_, (execRngSample_of_live hlive hst).trans (congrArg _ ((if_neg (Nat.not_le.2 hrun)).trans (if_pos hcount))),
      rngFailed_rngFail 2 rfl rfl⟩
  case window =>
    intro s hlive hst hwin
    refine ⟨_, execRngEstimateWindow_of_window hlive hst hwin, ?_⟩
    cases estimateFail s.rng.win with
    | none => exact ⟨estimatesShown_bias, estimatesShown_autocorr, rfl⟩
    | some c => exact ⟨(rdB_rngFail_ne c _ (by decide) (by decide)).trans estimatesShown_bias,
        (rdB_rngFail_ne c _ (by decide) (by decide)).trans estimatesShown_autocorr,
        rngFailed_rngFail c estimatesShown_failures rfl⟩
  case startup =>
    intro s hlive hst hwin
    refine ⟨⟨_, (execRngStartupComplete_of_window false hlive hst hwin).trans (congrArg _ (if_pos rfl)),
      rngFailed_rngFail 5 rfl rfl⟩, _, (execRngStartupComplete_of_window true hlive hst hwin).trans
      (congrArg _ (if_neg nofun)), ?_⟩
    cases estimateFail s.rng.win with
    | none => exact ⟨rfl, rfl, rfl, rfl, rfl⟩
    | some c => exact rngFailed_rngFail c rfl rfl

end Sys2Proof.Machine
end

section
/-! SUPPORT. The DRBG and its consumers (R478 to R486), and O45. -/

namespace Sys2Proof.Machine
open Sys2Proof

variable {s t : State}

theorem not_off_of_live (h : RngLive s) : ¬ (s.pwr.frozen = true ∨ s.pwr.inReset = true) := by simp [h]

theorem odCmd_of_accepted {src : Src} {e : Ent} {n v : Nat} {rule : State → Nat × State} (h : Accepted s src e n v)
    (hok : (rule s).1 = stOk) : odCmd s src e n v rule = .next (answer (rule s).2 src stOk) := odRun_of_accepted h hok

theorem rdE_congr {u : State} (h : t.od = u.od) (e : Ent) (n : Nat) : rdE t e n = rdE u e n := by rw [rdE, rdE, rdEj, rdEj, h]

/-- A fault record writes its number, and may count a lost one. -/
theorem writeFault_od (s : State) (r : FaultRec) : ∃ u, (u.od = s.od ∨ u.od = (bumpE s eFaultLost 0).od) ∧
    (writeFault s r).od = (wrE u eFaultNewest 0 (s.faultSeq + 1)).od := by
  unfold writeFault
  extract_lets _ s1 s2 s3 _ s4 s5 _ s6
  refine ⟨s4, ?_, ?_⟩
  · have h4 : s4.od = s2.od := by
      unfold s4
      split <;> rfl
    rw [h4]
    unfold s2
    split
    · exact .inr rfl
    · exact .inl rfl
  · have h6 : s6.od = s5.od := by simp [s6]
    split
    · simpa using h6
    · exact h6

/-- A fault record leaves every dictionary entry but its number and the count of lost records. -/
theorem rdE_writeFault (s : State) (r : FaultRec) {e : Ent} {n : Nat} (hlost : entKey eFaultLost 0 0 ≠ entKey e n 0)
    (hnewest : entKey eFaultNewest 0 0 ≠ entKey e n 0) : rdE (writeFault s r) e n = rdE s e n := by
  obtain ⟨u, hu, hod⟩ := writeFault_od s r
  rw [rdE_congr hod, rdE_wrE_ne _ _ hnewest]
  obtain hu | hu := hu
  · exact rdE_congr hu e n
  · exact (rdE_congr hu e n).trans (rdE_wrE_ne _ _ hlost)

/-! ### The DRBG (R478 to R480) -/

/-- Four blocks of a request fill one entry of the queue. -/
theorem rngRequest_of_tail (htail : s.rng.tail = 0) : rngRequest s = { s with rng := { s.rng with
    queue := s.rng.queue ++ [(Config.drbgOut s.rng.drbg).1], tail := 0, drbg := (Config.drbgOut s.rng.drbg).2 } } := by
  simp [rngRequest, rngBlock, htail, fullTag]

theorem execDrbgGenerate_of_ready (hlive : RngLive s) (hst : s.rng.st = rngReady) (hinst : s.rng.instantiated = true)
    (hroom : s.rng.queue.length < 64) (hserved : s.rng.served < s.rng.ri) : execDrbgGenerate s =
    .next (bumpB { rngRequest s with rng := { (rngRequest s).rng with served := (rngRequest s).rng.served + 1 } } rBytesOut 8 64) := by
  obtain ⟨hfrozen, hreset⟩ := hlive
  simp [execDrbgGenerate, hfrozen, hreset, hst, hinst, hroom, hserved]

theorem rngReseed_rng : (rngReseed s).rng = { s.rng with
    seeds := s.rng.seeds.drop 1, drbg := Config.drbgReseed s.rng.drbg (s.rng.seeds.headD 0), served := 0 } := rfl

theorem rngReseed_counted : CountedB s (rngReseed s) rReseeds 4 := rdB_bumpB_same ..

theorem execReseedIntervalExpiry_of_end (hlive : RngLive s) (hst : s.rng.st = rngReady) (hend : s.rng.ri ≤ s.rng.served) :
    execReseedIntervalExpiry s = .next (if s.rng.seeds ≠ [] then { rngReseed s with rng := { (rngReseed s).rng with
        ri := if 2 ≤ (rngReseed s).rng.seeds.length then max 16384 (s.rng.ri / 2) else s.rng.ri } }
      else if s.rng.ri < 1048576 then bumpB { s with rng := { s.rng with ri := 2 * s.rng.ri } } rStretches 4 1
      else { s with rng := { s.rng with st := rngBlocked } }) := by
  obtain ⟨hfrozen, hreset⟩ := hlive
  simp only [execReseedIntervalExpiry, hfrozen, hreset, hst, Nat.not_lt.2 hend, Bool.false_eq_true, ne_eq, not_true, or_self, if_false]
  split
  · rfl
  · split <;> rfl

/-! ### Consumers (R481, R482) -/

/-- The consumers that wait once c has read. -/
def waitingWith (s : State) (c : Nat) : List Nat := if s.rng.waiting.contains c then s.rng.waiting else s.rng.waiting ++ [c]

theorem mem_waitingWith (s : State) (c : Nat) : c ∈ waitingWith s c := by
  unfold waitingWith
  split <;> simp_all

theorem headD_waitingWith {c : Nat} (h : s.rng.waiting = [] ∨ s.rng.waiting.head? = some c) : (waitingWith s c).headD c = c := by
  obtain h | h := h
  · simp [waitingWith, h]
  · obtain ⟨l, hl⟩ := List.head?_eq_some_iff.1 h
    simp [waitingWith, hl]

theorem execRngQueueRead_of_pointer (hlive : RngLive s) (c x : Nat) : execRngQueueRead ⟨c, some x⟩ s =
    .next (emit (writeFault (bumpE (bumpB { s with rng := { s.rng with queue := [], tail := 0, waiting := waitingWith s c } } rFlushed 4
      s.rng.queue.length) eHsPtrFaults 0) (plainFault ftQueuePtr 0 0 unitRng unitRng)) (.rngEntry c 0 0)) := by
  obtain ⟨hfrozen, hreset⟩ := hlive
  simp [execRngQueueRead, hfrozen, hreset, waitingWith]

theorem execRngQueueRead_of_whole (hlive : RngLive s) (c : Nat) : execRngQueueRead ⟨c, none⟩ s =
    .next (if s.rng.queue ≠ [] ∧ (waitingWith s c).headD c = c then
        emit { s with rng := { s.rng with queue := s.rng.queue.drop 1, waiting := (waitingWith s c).filter (· != c) } }
          (.rngEntry c fullTag (s.rng.queue.headD 0))
      else emit { s with rng := { s.rng with waiting := waitingWith s c } } (.rngEntry c 0 0)) := by
  rw [apply_ite Host.Outcome.next]
  exact (if_neg (not_off_of_live hlive)).trans (if_neg nofun)

/-! ### The statement -/

theorem not_mem_filter_ne (l : List Nat) (c : Nat) : c ∉ l.filter (· != c) := by simp

/-- Settles O45: what each command of the DRBG answers is read off the lemmas above. -/
theorem drbgServesAndReseeds : Obligations.DrbgServesAndReseeds := by
  unfold Obligations.DrbgServesAndReseeds
  refine ⟨?generate, ?reseed, ?stretch, ?arrival, ?read, ?wait, ?pointer, ?limit, ?restart, ?restartOd, ?capture, ?captureEnd⟩
  case generate =>
    intro s hlive hst hinst htail hroom hserved
    refine ⟨_, execDrbgGenerate_of_ready hlive hst hinst hroom hserved, ⟨_, _, rfl, ?_⟩, ?_⟩
    · rw [rngRequest_of_tail htail]
      simp [bumpB, wrB, htail]
    · rw [rngRequest_of_tail htail]
      exact rdB_bumpB_same ..
  case reseed =>
    intro s hlive hst hend hseeds
    refine ⟨_, (execReseedIntervalExpiry_of_end hlive hst hend).trans (congrArg _ (if_pos hseeds)), rfl, rfl, hst, ?_,
      rngReseed_counted⟩
    have hlen : 2 ≤ (s.rng.seeds.drop 1).length ↔ 3 ≤ s.rng.seeds.length := by
      rw [List.length_drop]
      omega
    simp only [rngReseed_rng, hlen]
  case stretch =>
    intro s hlive hst hend hseeds
    refine ⟨_, (execReseedIntervalExpiry_of_end hlive hst hend).trans (congrArg _ (if_neg (not_not.2 hseeds))), ?_⟩
    by_cases hri : s.rng.ri < 1048576
    · rw [if_pos hri, if_pos hri]
      exact ⟨rfl, rdB_bumpB_same ..⟩
    · rw [if_neg hri, if_neg hri]
  case arrival =>
    intro s ⟨hfrozen, hreset⟩ hst hseeds
    refine ⟨{ rngReseed s with rng := { (rngReseed s).rng with st := rngReady } }, ?_, rfl, rfl, rfl, rfl, rngReseed_counted⟩
    simp [exec, execSeedBlockArrivalReseed, hfrozen, hreset, hst, hseeds]
  case read =>
    intro c s hlive hqueue hfirst
    exact ⟨_, (execRngQueueRead_of_whole hlive c).trans (congrArg _ (if_pos ⟨hqueue, headD_waitingWith hfirst⟩)), rfl, rfl,
      not_mem_filter_ne _ c, rfl⟩
  case wait =>
    intro c s hlive hqueue
    exact ⟨_, (execRngQueueRead_of_whole hlive c).trans (congrArg _ (if_neg fun h => h.1 hqueue)), rfl, hqueue, mem_waitingWith s c, rfl⟩
  case pointer =>
    intro c x s hlive
    refine ⟨_, execRngQueueRead_of_pointer hlive c x, ?_, ?_, ?_, ?_⟩
    · simp
    · exact (rdE_writeFault _ _ (by decide) (by decide)).trans (rdE_addE_same ..)
    · exact writeFault_faultSeq ..
    · simp [emit]
  case limit =>
    intro c s ⟨hfrozen, hreset⟩ hmem
    refine ⟨bumpB { s with rng := { s.rng with waiting := s.rng.waiting.filter (· != c) } } rUnavail 4 1, ?_,
      not_mem_filter_ne _ c, rfl, rdB_bumpB_same ..⟩
    simp [exec, execRngWaitLimitExpiry, hfrozen, hreset, hmem]
  case restart =>
    intro s hup hst htamper
    refine ⟨bumpB (rngStart s) rRestarts 4 1, ?_, rfl, rfl, rfl, rdB_bumpB_same ..⟩
    simp [exec, execRngRestart, hup, rngRestartRule, hst, htamper]
  case restartOd =>
    intro src s hacc hst htamper
    have hrule : rngRestartRule s = (stOk, bumpB (rngStart s) rRestarts 4 1) := by simp [rngRestartRule, hst, htamper]
    refine ⟨(rngRestartRule s).2, odCmd_of_accepted hacc (by rw [hrule]), ?_⟩
    rw [hrule]
    exact ⟨rfl, rdB_bumpB_same ..⟩
  case capture =>
    intro s hup hlc
    exact ⟨_, if_pos ⟨hup, hlc⟩, rfl⟩
  case captureEnd =>
    intro s hup hcapture
    exact ⟨_, if_pos ⟨hup, hcapture⟩, rfl, rfl, rfl, rfl, rfl⟩

end Sys2Proof.Machine
end

section
/-! SUPPORT. The boot sequence and firmware images (R434 to R437, R530), and O40. -/

namespace Sys2Proof.Machine
open Sys2Proof

variable {s : State}

/-! ### The boot sequence (R434) -/

/-- The supplies, REFCLK and the thermal state let the module leave its reset. -/
def bootAllowed (s : State) : Prop := s.pwr.inReset = true ∧ s.pwr.tripped = false ∧ s.pwr.aux = true ∧ s.pwr.v48 = true ∧
  s.pwr.pwrGood = true ∧ s.pwr.refclk = true

theorem execResetNDeassert_of_allowed (h : bootAllowed s) (b : BootEnv) : exec (.resetNDeassert b) s = .next (bootSequence b s) :=
  if_pos h

/-- The ports' addresses are dictionary entries. -/
theorem bootMacs_keeps {β : Type} (g : State → β) (hg : ∀ s e n j v, g (wrEj s e n j v) = g s) (s : State) : g (bootMacs s) = g s :=
  foldl_keeps g (fun s _ => hg s ..) _

theorem bootFuses_boot : (bootFuses s).boot.lc = fusedLc s.fuses.lifecycle ∧ (bootFuses s).mram.bootCount = s.mram.bootCount ∧
    (bootFuses s).mram.tamperLatch = s.mram.tamperLatch ∧ (bootFuses s).fuses = s.fuses ∧ (bootFuses s).pwr = s.pwr := by
  unfold bootFuses
  extract_lets lc _ m
  have hm : m.bootCount = s.mram.bootCount ∧ m.tamperLatch = s.mram.tamperLatch := by
    unfold m
    split
    · split <;> exact ⟨rfl, rfl⟩
    · exact ⟨rfl, rfl⟩
  refine ⟨?_, ?_, ?_, ?_, ?_⟩
  · exact bootMacs_keeps (·.boot.lc) (fun _ _ _ _ _ => rfl) _
  · exact (bootMacs_keeps (·.mram.bootCount) (fun _ _ _ _ _ => rfl) _).trans hm.1
  · exact (bootMacs_keeps (·.mram.tamperLatch) (fun _ _ _ _ _ => rfl) _).trans hm.2
  · exact bootMacs_keeps (·.fuses) (fun _ _ _ _ _ => rfl) _
  · exact bootMacs_keeps (·.pwr) (fun _ _ _ _ _ => rfl) _

/-- The wrap key fills a vault slot and changes nothing else. -/
theorem wrapSlot_eq : ∃ v, wrapSlot s = { s with vault := v } := by
  unfold wrapSlot installKey
  split <;> exact ⟨_, rfl⟩

/-- The draws of the boot empty the queue of an instantiated generator. -/
theorem bootDraw_rngInstantiate (salt : Nat) : ∃ u, bootDraw (rngInstantiate s) salt = u ∧ u.boot = { s.boot with st := 1, salt := salt } ∧
    u.pwr = s.pwr ∧ u.mram = s.mram ∧ u.rng.st = rngReady ∧ u.rng.queue = [] := by
  obtain ⟨v, hv⟩ := wrapSlot_eq (s := rngTake (rngInstantiate s) 1)
  refine ⟨_, rfl, ?_⟩
  unfold bootDraw
  rw [hv]
  exact ⟨rfl, rfl, rfl, rfl, rfl⟩

/-- The module once RESET_N is released: out of reset, its generator starting. -/
def released (s : State) : State :=
  rngStart { s with
    pwr := { s.pwr with inReset := false }
    dbg := { s.dbg with ir := if s.dbg.ir = 0 ∨ s.dbg.ir = 3 ∨ s.dbg.ir = 4 then 0xFF else s.dbg.ir } }

/-- The module once its fuses are sensed and its dies counted. -/
def sensed (ids : Nat) (s : State) : State :=
  { bootFuses (released s) with fuses := { (bootFuses (released s)).fuses with dieIds := ids } }

theorem sensed_mram (ids : Nat) : (sensed ids s).mram.bootCount = s.mram.bootCount ∧
    (sensed ids s).mram.tamperLatch = s.mram.tamperLatch := by
  obtain ⟨-, hcount, hlatch, -, -⟩ := bootFuses_boot (s := released s)
  exact ⟨hcount, hlatch⟩

theorem bootHalt_mram (e : Nat) : (bootHalt s e).mram = s.mram := rfl

theorem bootHalt_rng (e : Nat) : (bootHalt s e).rng = s.rng := rfl

/-- With its fuses in order the boot goes on to the in-package links, MRAM and the generator. -/
theorem bootSequence_of_fuses {b : BootEnv} (hfuses : b.fusesOk = true) : bootSequence b s =
    if b.linksOk = false ∨ Config.sha256 (bytesOf (b.dieIds % 2 ^ 576) 72) ≠ s.fuses.manifest then bootHalt (sensed (b.dieIds % 2 ^ 576) s) 7
    else if b.mramOk = false ∨ s.mram.bootCount = 0xFFFFFFFF then bootHalt (sensed (b.dieIds % 2 ^ 576) s) 8
    else if b.rngCause ≠ 0 then bootHalt (rngFail (bootMram (sensed (b.dieIds % 2 ^ 576) s)) b.rngCause) 6
    else if s.mram.tamperLatch = true then tamperResponse (bootDraw (rngInstantiate (bootMram (sensed (b.dieIds % 2 ^ 576) s))) (b.salt % 2 ^ 256))
    else bootDraw (rngInstantiate (bootMram (sensed (b.dieIds % 2 ^ 576) s))) (b.salt % 2 ^ 256) := by
  have hmanifest : (sensed (b.dieIds % 2 ^ 576) s).fuses.manifest = s.fuses.manifest :=
    congrArg (·.manifest) (bootFuses_boot (s := released s)).2.2.2.1
  obtain ⟨hcount, hlatch⟩ := sensed_mram (s := s) (b.dieIds % 2 ^ 576)
  have hdraw : (bootDraw (rngInstantiate (bootMram (sensed (b.dieIds % 2 ^ 576) s))) (b.salt % 2 ^ 256)).mram.tamperLatch = s.mram.tamperLatch := by
    obtain ⟨u, hu, -, -, hmram, -⟩ := bootDraw_rngInstantiate (s := bootMram (sensed (b.dieIds % 2 ^ 576) s)) (b.salt % 2 ^ 256)
    rw [hu, hmram]
    exact hlatch
  rw [← hmanifest, ← hcount, ← hdraw]
  exact if_neg (by simp [hfuses])

/-- With the package of the manifest and MRAM in order it goes on to the generator. -/
theorem bootSequence_of_package {b : BootEnv} (hfuses : b.fusesOk = true) (hlinks : b.linksOk = true)
    (hmanifest : Config.sha256 (bytesOf (b.dieIds % 2 ^ 576) 72) = s.fuses.manifest) (hmram : b.mramOk = true)
    (hcount : s.mram.bootCount ≠ 0xFFFFFFFF) : bootSequence b s =
    if b.rngCause ≠ 0 then bootHalt (rngFail (bootMram (sensed (b.dieIds % 2 ^ 576) s)) b.rngCause) 6
    else if s.mram.tamperLatch = true then
      tamperResponse (bootDraw (rngInstantiate (bootMram (sensed (b.dieIds % 2 ^ 576) s))) (b.salt % 2 ^ 256))
    else bootDraw (rngInstantiate (bootMram (sensed (b.dieIds % 2 ^ 576) s))) (b.salt % 2 ^ 256) :=
  (bootSequence_of_fuses hfuses).trans ((if_neg (not_or.2 ⟨Bool.not_eq_false _ ▸ hlinks, not_not.2 hmanifest⟩)).trans
    (if_neg (not_or.2 ⟨Bool.not_eq_false _ ▸ hmram, hcount⟩)))

/-- Past its links and MRAM the module is out of reset with the lifecycle of its fuses and BOOT_COUNT one higher. -/
theorem bootMram_sensed (ids : Nat) : (bootMram (sensed ids s)).boot.lc = fusedLc s.fuses.lifecycle ∧
    (bootMram (sensed ids s)).pwr.inReset = false ∧ (bootMram (sensed ids s)).mram.bootCount = s.mram.bootCount + 1 := by
  obtain ⟨hlc, hcount, -, -, hpwr⟩ := bootFuses_boot (s := released s)
  exact ⟨hlc, congrArg (·.inReset) hpwr, congrArg (· + 1) hcount⟩

/-! ### Firmware images (R435 to R437) -/

/-- A boot reserves its index (`bootAlias`): neither the image nor the measurements change. -/
theorem bootAlias_keeps (s : State) : ∃ m i, bootAlias s = { s with mram := m, boot := { s.boot with aliasIdx := i } } := by
  unfold bootAlias
  split <;> exact ⟨_, _, rfl⟩

/-- An image that passes its checks. -/
theorem bootImage_of_good {len : Nat} {a b : Bool} (h : imageErr s len (imageOf s.boot.win a b) = none) :
    ∃ m i, bootImage s len a b = { extendMr s 1 (mbytes s.boot.win 0 256) with
      mram := m
      boot := { s.boot with
        win := [], written := 0, claim := 0, st := 3, error := 0
        svn := mrd s.boot.win 12 4, build := mrd s.boot.win 16 4, aliasIdx := i } } := by
  unfold bootImage
  extract_lets i _ s0
  rw [h]
  obtain ⟨m, x, hx⟩ := bootAlias_keeps { extendMr s0 1 (mbytes s.boot.win 0 256) with
    boot := { (extendMr s0 1 (mbytes s.boot.win 0 256)).boot with st := 3, error := 0, svn := i.svn, build := i.build } }
  exact ⟨m, x, hx⟩

/-- An image that fails one. -/
theorem bootImage_of_bad {len e : Nat} {a b : Bool} (h : imageErr s len (imageOf s.boot.win a b) = some e) :
    bootImage s len a b = { s with boot := { s.boot with
      win := [], written := 0, claim := 0, error := e, refusals := satAdd 255 s.boot.refusals 1 } } := by
  unfold bootImage
  extract_lets i _ s0
  rw [h]

/-! ### The statement -/

/-- Settles O40: what each command of the boot answers is read off the lemmas above. -/
theorem bootRunsAndTakesAnImage : Obligations.BootRunsAndTakesAnImage := by
  unfold Obligations.BootRunsAndTakesAnImage
  refine ⟨?boot, ?links, ?rng, ?commit, ?refused, ?port⟩
  case boot =>
    intro b s hreset htripped haux h48 hgood hclk hfuses hlinks hmanifest hmram hcount hcause hlatch
    refine ⟨_, (execResetNDeassert_of_allowed ⟨hreset, htripped, haux, h48, hgood, hclk⟩ b).trans
      (congrArg Host.Outcome.next ((bootSequence_of_package hfuses hlinks hmanifest hmram hcount).trans ((if_neg (not_not.2 hcause)).trans
        (if_neg (ne_true_of_eq_false hlatch))))), ?_⟩
    obtain ⟨u, hu, hboot, hpwr, hmram', hst, hqueue⟩ := bootDraw_rngInstantiate (s := bootMram (sensed (b.dieIds % 2 ^ 576) s)) (b.salt % 2 ^ 256)
    obtain ⟨hlc, hin, hcount'⟩ := bootMram_sensed (s := s) (b.dieIds % 2 ^ 576)
    rw [hu, hboot, hpwr, hmram']
    exact ⟨rfl, hin, hcount', hlc, rfl, hst, hqueue⟩
  case links =>
    intro b s hreset htripped haux h48 hgood hclk hfuses hlinks
    refine ⟨_, execResetNDeassert_of_allowed ⟨hreset, htripped, haux, h48, hgood, hclk⟩ b, ?_⟩
    rw [bootSequence_of_fuses hfuses, if_pos (.inl hlinks)]
    rw [bootHalt_mram]
    exact ⟨rfl, rfl, (sensed_mram _).1⟩
  case rng =>
    intro b s hreset htripped haux h48 hgood hclk hfuses hlinks hmanifest hmram hcount hcause
    refine ⟨_, (execResetNDeassert_of_allowed ⟨hreset, htripped, haux, h48, hgood, hclk⟩ b).trans
      (congrArg Host.Outcome.next ((bootSequence_of_package hfuses hlinks hmanifest hmram hcount).trans (if_pos hcause))), ?_⟩
    rw [bootHalt_rng, rngFail_rng]
    exact ⟨rfl, rfl, rfl, rfl⟩
  case commit =>
    intro len a b s hst hclaim hfrozen hup hgood
    obtain ⟨m, i, himage⟩ := bootImage_of_good hgood
    refine ⟨_, (if_pos ⟨hst, hclaim, hfrozen, hup⟩ : exec (.bootCommit len ⟨a, b⟩) s = _), ?_⟩
    rw [himage]
    exact ⟨rfl, rfl, rfl, rfl, rfl, rfl, rdEj_wrEj_same ..⟩
  case refused =>
    intro len e a b s hst hclaim hfrozen hup hbad
    refine ⟨_, (if_pos ⟨hst, hclaim, hfrozen, hup⟩ : exec (.bootCommit len ⟨a, b⟩) s = _), ?_⟩
    rw [bootImage_of_bad hbad]
    exact ⟨hst, rfl, rfl, rfl, rfl, rfl⟩
  case port =>
    intro len a b s hacc hclaim hgood
    obtain ⟨m, i, himage⟩ := bootImage_of_good hgood
    have hrule : imageCommitRule len a b s = (stOk, bootImage s len a b) := if_neg hclaim
    refine ⟨bootImage s len a b, (odCmd_of_accepted hacc (rule := imageCommitRule len a b) (congrArg (·.1) hrule)).trans
      (by rw [hrule]), ?_⟩
    rw [himage]
    exact ⟨rfl, rfl, rfl⟩

end Sys2Proof.Machine
end

section
/-! SUPPORT. Signing keys, the version floor and the measurement registers (R437 to R454), and O41. -/

namespace Sys2Proof.Machine
open Sys2Proof

variable {s t : State}

/-! ### Signing keys -/

/-- The next tree moves the leaf and MRAM's marks, and no other part of the boot state. -/
theorem nextTree_keeps (s : State) : ∃ m l, nextTree s = { s with mram := m, boot := { s.boot with idLeaf := l } } ∧
    m.aliasNext = s.mram.aliasNext := by
  unfold nextTree
  split
  · split <;> exact ⟨_, _, rfl, rfl⟩
  · exact ⟨_, _, rfl, rfl⟩

theorem useIdentity_keeps (s : State) : ∃ m l, useIdentity s = { s with mram := m, boot := { s.boot with idLeaf := l } } ∧
    m.aliasNext = s.mram.aliasNext := nextTree_keeps _

theorem useIdentity_alias (s : State) : (useIdentity s).boot.aliasLeaf = s.boot.aliasLeaf ∧
    (useIdentity s).boot.aliasIdx = s.boot.aliasIdx ∧ (useIdentity s).mram.aliasNext = s.mram.aliasNext := by
  obtain ⟨m, l, h, hm⟩ := useIdentity_keeps s
  rw [h]
  exact ⟨rfl, rfl, hm⟩

theorem rdE_useIdentity (s : State) (e : Ent) (n : Nat) : rdE (useIdentity s) e n = rdE s e n := by
  obtain ⟨m, l, h, -⟩ := useIdentity_keeps s
  rw [h]
  rfl

/-- The dictionary is no part of the boot state or of MRAM. -/
theorem rdE_withBoot (s : State) (b : Boot) (e : Ent) (n : Nat) : rdE { s with boot := b } e n = rdE s e n := rfl

theorem nextAlias_of_left (h : s.boot.aliasLeaf < 1024) : nextAlias s = s := if_neg fun hend => Nat.not_le.2 h hend.1

theorem nextTree_of_left (h : s.boot.idLeaf < 32768) : nextTree s = s := by
  unfold nextTree
  split
  · exact if_neg (Nat.not_le.2 h)
  · rfl

/-- The key of this boot (`aliasPubOf`), certified by the identity. -/
def aliasCertified (s : State) (idx : Nat) : State :=
  let pub := aliasPubOf s idx
  let s1 := wrE s eAliasCert 0 (aliasCert s idx pub)
  let s2 := useIdentity s1
  { s2 with boot := { s2.boot with keysReady := true, aliasPub := pub, aliasLeaf := 0 } }

/-- The state that certifies the successor. -/
def successorCertified (s : State) (idx : Nat) : State :=
  useIdentity (wrE (reserveAlias s) eAliasNextCert 0 (aliasCert s idx (aliasPubOf s idx)))

theorem execAliasTreeGenerated_of_ready (hfrozen : s.pwr.frozen = false) (hup : vaultUp s = true) (hid : idReady s = true)
    (hkeys : s.boot.keysReady = false) : execAliasTreeGenerated s.boot.aliasIdx s = .next (aliasCertified s s.boot.aliasIdx) :=
  (if_neg (ne_true_of_eq_false hfrozen)).trans (if_pos ⟨hup, hid, hkeys, rfl⟩)

theorem successorCertified_keeps (s : State) (idx : Nat) : (successorCertified s idx).boot.aliasLeaf = s.boot.aliasLeaf ∧
    (successorCertified s idx).boot.aliasIdx = s.boot.aliasIdx ∧ (successorCertified s idx).mram.aliasNext = s.mram.aliasNext + 1 := by
  simp [successorCertified, useIdentity_alias, reserveAlias]

theorem execAliasRotation_of_ready (hfrozen : s.pwr.frozen = false) (hup : vaultUp s = true) (hid : idReady s = true)
    (hkeys : s.boot.keysReady = true) (hlate : 768 < s.boot.aliasLeaf) (hleft : s.boot.aliasLeaf < 1024)
    (hnext : s.boot.nextReady = false) : exec (.aliasRotation s.mram.aliasNext) s =
    .next { successorCertified s s.mram.aliasNext with boot := { (successorCertified s s.mram.aliasNext).boot with
      nextReady := true, nextIdx := s.mram.aliasNext, nextPub := aliasPubOf s s.mram.aliasNext } } := by
  obtain ⟨hleaf, -, -⟩ := successorCertified_keeps s s.mram.aliasNext
  rw [← hleaf] at hleft
  exact (if_neg (ne_true_of_eq_false hfrozen)).trans ((if_pos ⟨hup, hid, hkeys, hlate, hnext, rfl⟩).trans
    (congrArg Host.Outcome.next (nextAlias_of_left hleft)))

theorem execIdentityTreeGeneration_of_late (hfrozen : s.pwr.frozen = false) (hup : vaultUp s = true) (hlc : effLc s = 1 ∨ effLc s = 2)
    (hlate : 24576 ≤ s.boot.idLeaf) (hleft : s.boot.idLeaf < 32768) (hnext : s.mram.nextNodes = none)
    (hroom : s.mram.idTree + 1 < 2 ^ 20) : exec (.identityTreeGeneration (s.mram.idTree + 1)) s = .next { s with mram := { s.mram with
      nextNodes := some (idNodesOf s.fuses.dus (effLc s) (s.mram.idTree + 1)).2 } } :=
  (if_neg (ne_true_of_eq_false hfrozen)).trans ((if_pos ⟨hup, hlc, hlate, hnext, hroom, rfl⟩).trans (congrArg _ (nextTree_of_left hleft)))

/-! ### Measurement registers -/

/-- A measurement register alone takes what extends it. -/
theorem extendMr_keeps (s : State) (r : Nat) (data : List Nat) : extendMr s r data = { s with od := (extendMr s r data).od } ∧
    ∀ k, k ≠ r → rdEj (extendMr s r data) eMrK 0 k = rdEj s eMrK 0 k := by
  refine ⟨rfl, fun k hk => rdEj_wrEj_ne s _ ?_⟩
  simp only [entKey]
  omega

/-! ### The statement -/

/-- Settles O41: what each command of the signing keys and the measurement registers answers is read off the lemmas above. -/
theorem identityCommandsTakeEffect : Obligations.IdentityCommandsTakeEffect := by
  unfold Obligations.IdentityCommandsTakeEffect
  refine ⟨?certified, ?rotation, ?tree, ?floor, ?extend, ?fabric⟩
  case certified =>
    intro s hfrozen hup hid hkeys
    refine ⟨_, execAliasTreeGenerated_of_ready hfrozen hup hid hkeys, rfl, rfl, rfl, ?_⟩
    rw [aliasCertified, rdE_withBoot, rdE_useIdentity, rdE_wrE_same]
  case rotation =>
    intro s hfrozen hup hid hkeys hlate hleft hnext
    obtain ⟨-, hidx, hreserved⟩ := successorCertified_keeps s s.mram.aliasNext
    refine ⟨_, execAliasRotation_of_ready hfrozen hup hid hkeys hlate hleft hnext, rfl, rfl, rfl, hreserved, hidx, ?_⟩
    rw [rdE_withBoot, successorCertified, rdE_useIdentity, rdE_wrE_same]
  case tree =>
    intro s hfrozen hup hlc hlate hleft hnext hroom
    exact ⟨_, execIdentityTreeGeneration_of_late hfrozen hup hlc hlate hleft hnext hroom, rfl⟩
  case floor =>
    intro src v s hacc hfloor hsvn
    have hrule : svnCommitRule v s = (stOk, { s with fuses := { s.fuses with svnFloor := v } }) :=
      if_neg (not_or.2 ⟨Nat.not_le.2 hfloor, Nat.not_lt.2 hsvn⟩)
    exact ⟨_, odCmd_of_accepted hacc (congrArg Prod.fst hrule), congrArg Prod.snd hrule⟩
  case extend =>
    intro src r data s hacc hlo hhi hdata
    have hrule : mrExtendRule r data s = (stOk, extendMr s r (bytesOf data 32)) := if_pos ⟨hlo, hhi⟩
    obtain ⟨hframe, hrest⟩ := extendMr_keeps s r (bytesOf data 32)
    have hr : r % 256 = r := Nat.mod_eq_of_lt (by omega)
    have hd : data % 2 ^ 256 = data := Nat.mod_eq_of_lt hdata
    refine ⟨extendMr s r (bytesOf data 32), ?_, hframe, rdEj_wrEj_same .., hrest⟩
    have hrun := odRun_of_accepted hacc (rule := mrExtendRule r data) (congrArg Prod.fst hrule)
    rw [hrule] at hrun
    simpa only [exec, execMrExtend, hr, hd] using hrun
  case fabric =>
    intro src s hacc
    exact ⟨_, odCmd_of_accepted hacc (rule := fabricLockRule 1) rfl, rdE_wrE_same .., (rdEj_wrEj_ne _ _ (by decide)).trans (rdEj_wrEj_same ..)⟩

end Sys2Proof.Machine
end

section
/-! SUPPORT. The vault's slots, quotes and policy bundles (R441 to R460), and O42. -/

namespace Sys2Proof.Machine
open Sys2Proof

variable {s t : State}

/-! ### Slots (R443 to R447) -/

@[simp] theorem vslot_setV (s : State) (i : Nat) (v : VSlot) : vslot (setV s i v) i = v := tget_tset_same ..

theorem vslot_setV_ne (s : State) {i k : Nat} (v : VSlot) (h : k ≠ i) : vslot (setV s i v) k = vslot s k :=
  tget_tset_ne _ _ _ (Ne.symm h)

/-- A table whose values change by a function that keeps the default. -/
theorem tget_map {α β : Type} (t : Tbl α) (f : α → β) (d : α) (k : Nat) :
    tget (t.map (fun c => (c.1, f c.2))) (f d) k = f (tget t d k) := by
  induction t with
  | nil => rfl
  | cons c r ih =>
    by_cases hc : c.1 = k
    · simp [tget, hc]
    · simpa [tget, hc] using ih

/-- A slot that slot v replaces when it is activated (R445). -/
def replacedBy (v w : VSlot) : Bool :=
  w.st == 2 && w.moduleOwned == v.moduleOwned && w.owner == v.owner && w.purpose == v.purpose &&
    w.port == v.port && w.rights == v.rights && v.purpose != pMgmt

/-- What the activation of slot v makes of another slot. -/
def afterActivation (v w : VSlot) : VSlot := if replacedBy v w then { w with st := 3 } else w

theorem vslot_activateSlot_same (i : Nat) : vslot (activateSlot s i) i = { vslot s i with st := 2 } := vslot_setV ..

theorem vslot_activateSlot_ne {i k : Nat} (h : k ≠ i) : vslot (activateSlot s i) k = afterActivation (vslot s i) (vslot s k) :=
  (vslot_setV_ne _ _ h).trans (tget_map s.vault (afterActivation (vslot s i)) {} k)

theorem afterActivation_cases (v w : VSlot) :
    ((afterActivation v w).st = w.st ∨ (w.st = 2 ∧ (afterActivation v w).st = 3)) ∧ (afterActivation v w).gen = w.gen := by
  unfold afterActivation
  split
  · rename_i h
    refine ⟨.inr ⟨?_, rfl⟩, rfl⟩
    simp only [replacedBy, Bool.and_eq_true, beq_iff_eq] at h
    exact h.1.1.1.1.1.1
  · exact ⟨.inl rfl, rfl⟩

/-- A remask pass changes masks only. -/
theorem tget_remask (k : Nat) (t : Tbl VSlot) (i : Nat) :
    { tget (remask k t) {} i with mask := (tget t {} i).mask } = tget t {} i := by
  induction t generalizing k with
  | nil => rfl
  | cons c r ih =>
    by_cases hc : c.1 = i
    · simp only [remask, tget, hc, if_true]
      split <;> rfl
    · simpa [remask, tget, hc] using ih (k + 1)

/-- The state from which an install fills its slot: a drawn key has taken its word. -/
def drawnFor (s : State) (purpose : Nat) : State :=
  if drawnPurpose purpose then { s with rng := { s.rng with queue := s.rng.queue.drop 1 } } else s

theorem drawnFor_keeps (s : State) (purpose : Nat) : (drawnFor s purpose).vault = s.vault ∧
    (drawnFor s purpose).rng.queue = s.rng.queue.drop (if purpose = pWrap then 1 else 0) := by
  by_cases h : purpose = pWrap
  · simp [drawnFor, drawnPurpose, h]
  · simp [drawnFor, drawnPurpose, h]

theorem execVaultInstall_of_empty {slot purpose owner port rights : Nat} (hfrozen : s.pwr.frozen = false) (hup : vaultUp s = true)
    (hslot : slot < 256) (hpurpose : purposeAllowed s purpose = true) (hempty : (vslot s slot).st = 0)
    (hdraw : purpose = pWrap → s.rng.queue ≠ []) : execVaultInstall slot purpose owner port rights false s =
    .next (fillSlot (freshNext (drawnFor s purpose)) slot purpose owner port rights false (installedKey s purpose owner)) := by
  refine (if_neg (ne_true_of_eq_false hfrozen)).trans ((if_neg ?_).trans (if_neg ?_))
  · simp [hup, hslot, hpurpose, hempty]
  · simp only [drawnPurpose, Bool.and_eq_true, beq_iff_eq, List.isEmpty_iff, not_and]
    exact hdraw

theorem execRemaskPass_of_words (hfrozen : s.pwr.frozen = false) (hup : vaultUp s = true) (hst : s.rng.st ≠ rngStopped) :
    execRemaskPass s = if s.rng.queue = [] then .next (bumpB (bumpE s eRemaskSkipped 0) rUnavail 4 1) else .next { s with
      rng := { s.rng with queue := s.rng.queue.drop 128 }
      vault := remask s.free s.vault
      boot := { s.boot with
        dusMask := Config.freeNat (s.free + s.vault.length), seedMask := Config.freeNat (s.free + s.vault.length + 1) }
      free := s.free + s.vault.length + 2 } :=
  (if_neg (ne_true_of_eq_false hfrozen)).trans (if_neg (by simp [hup, hst]))

/-! ### Quotes (R456, R457) -/

theorem tfind_terase_same {α : Type} (t : Tbl α) (k : Nat) : tfind (terase t k) k = none := by
  induction t with
  | nil => rfl
  | cons c r ih =>
    by_cases hc : c.1 = k
    · simpa [terase, hc] using ih
    · simpa [terase, tfind, hc] using ih

/-- A quote request of function f waits for its token. -/
def quoteNoted (s : State) (f nonce n : Nat) : State :=
  wrE { s with boot := { s.boot with quotes := tput s.boot.quotes f (nonce, n) } } eQuoteStatus f 1

/-- A context of the function itself may be quoted where the lifecycle signs. -/
theorem quoteRule_of_own {f nonce n : Nat} (hf : f < 64) (hn : n < 256) (hst : rdE s eCtxState n ≠ cxFree) (howner : (cx s n).owner = f)
    (hlc : effLc s = 1 ∨ effLc s = 2) : quoteRule (.mailbox f) nonce n s =
    (stOk, quoteNoted s f nonce n) := by
  have hown : (n == 0xFFFF || (decide (n < 256) && rdE s eCtxState n != cxFree && (cx s n).owner == f)) = true := by
    simp [hn, hst, howner]
  have hlc' : ¬ (effLc s ≠ 1 ∧ effLc s ≠ 2) := fun h => hlc.elim h.1 h.2
  simp only [quoteRule, quoteFn, srcFn, hown, Bool.true_eq_false, hlc', hf, quoteNoted, if_true, if_false]

/-- The state once function f's quote is signed, before it stands in QUOTE. -/
def quoteTaken (s : State) (f : Nat) : State :=
  let s1 := freshNext (useIdentity s)
  { s1 with boot := { s1.boot with quoteSeq := s1.boot.quoteSeq + 1, quotes := terase s1.boot.quotes f } }

theorem execQuoteSign_of_waiting {f nonce n : Nat} (hfrozen : s.pwr.frozen = false) (hf : f < 64)
    (hwait : s.boot.quotes.find? (fun q => q.1 == f) = some (f, nonce, n)) (hup : vaultUp s = true) (hid : idReady s = true) :
    execQuoteSign f s = .next (wrE (wrE (quoteTaken s f) eQuote f (quoteOf s f nonce n)) eQuoteStatus f 2) := by
  have hq : quoteWaiting s f = some (f, nonce, n) := by simp [quoteWaiting, hwait]
  simp only [execQuoteSign, hfrozen, hq, hup, hid, hf, quoteTaken, Bool.and_self, Bool.not_true, Bool.false_eq_true, if_true, if_false]

theorem quoteTaken_boot (s : State) (f : Nat) : (quoteTaken s f).boot.quoteSeq = s.boot.quoteSeq + 1 ∧
    (quoteTaken s f).boot.quotes = terase s.boot.quotes f := by
  obtain ⟨m, l, h, -⟩ := useIdentity_keeps s
  rw [quoteTaken, h]
  exact ⟨rfl, rfl⟩

/-! ### The statement -/

/-- Settles O42: what each command of the vault, of quotes and of bundles answers is read off the lemmas above. -/
theorem vaultAndQuotes : Obligations.VaultAndQuotes := by
  unfold Obligations.VaultAndQuotes
  refine ⟨?install, ?activate, ?quarantine, ?remask, ?skipped, ?request, ?sign, ?bundle⟩
  case install =>
    intro slot purpose owner port rights s hfrozen hup hslot hpurpose hempty hdraw
    obtain ⟨hvault, hqueue⟩ := drawnFor_keeps s purpose
    have hsame (k : Nat) : vslot (freshNext (drawnFor s purpose)) k = vslot s k := congrArg (fun v => tget v ({} : VSlot) k) hvault
    refine ⟨_, execVaultInstall_of_empty hfrozen hup hslot hpurpose hempty hdraw, ?_⟩
    rw [fillSlot, vslot_setV, hsame]
    exact ⟨rfl, rfl, rfl, rfl, rfl, rfl, fun k hk => (vslot_setV_ne _ _ hk).trans (hsame k), hqueue⟩
  case activate =>
    intro slot s hfrozen hup hst hpurpose
    refine ⟨activateSlot s slot, (if_neg (ne_true_of_eq_false hfrozen)).trans (if_pos ⟨hup, hst, hpurpose⟩), ?_⟩
    rw [vslot_activateSlot_same]
    refine ⟨rfl, rfl, fun k hk => ?_⟩
    rw [vslot_activateSlot_ne hk]
    exact afterActivation_cases ..
  case quarantine =>
    intro slot s hfrozen hst
    exact ⟨_, (if_neg (ne_true_of_eq_false hfrozen)).trans (if_pos hst), rfl, vslot_setV ..⟩
  case remask =>
    intro s hfrozen hup hst hqueue
    exact ⟨_, (execRemaskPass_of_words hfrozen hup hst).trans (if_neg hqueue), rfl, fun k => tget_remask s.free s.vault k⟩
  case skipped =>
    intro s hfrozen hup hst hqueue
    exact ⟨_, (execRemaskPass_of_words hfrozen hup hst).trans (if_pos hqueue), rfl, rdE_addE_same .., rdB_bumpB_same ..⟩
  case request =>
    intro f nonce n s hacc hf hn hnonce hst howner hlc
    have hrule := quoteRule_of_own hf (nonce := nonce) hn hst howner hlc
    have hn' : n % 65536 = n := Nat.mod_eq_of_lt (by omega)
    refine ⟨quoteNoted s f nonce n, ?_, ?_, rdE_wrE_same ..⟩
    · simp only [exec, execQuoteRequest, Nat.mod_eq_of_lt hnonce, hn', srcFn]
      exact (odRun_of_accepted hacc (congrArg Prod.fst hrule)).trans (by rw [hrule])
    · simp [quoteNoted]
  case sign =>
    intro f nonce n s hfrozen hf hwait hup hid
    obtain ⟨hseq, hquotes⟩ := quoteTaken_boot s f
    refine ⟨_, execQuoteSign_of_waiting hfrozen hf hwait hup hid, ?_, rdE_wrE_same .., hseq, ?_⟩
    · rw [rdE_wrE_ne, rdE_wrE_same]
      simp [entKey, eQuoteStatus, eQuote]
    · exact (congrArg (tfind · f) hquotes).trans (tfind_terase_same ..)
  case bundle =>
    intro src m ok b s hacc hb hst
    subst hb
    have hrule : bundleRule src (bundleOf m ok) s = (stOk, wrE (policyLockRule (bundleOf m ok).context
        ((bundleOf m ok).entries.foldl bundleWrite s)).2 eBundleStatus 0 stOk) := by
      simp only [bundleRule, hst, if_true]
    have hrun := odRun_of_accepted hacc (rule := bundleRule src (bundleOf m ok)) (congrArg Prod.fst hrule)
    rw [hrule] at hrun
    refine ⟨_, hrun, ?_, rdE_wrE_same .., ?_⟩
    · rw [rdE_wrE_ne, policyLockRule, rdE_wrE_ne, rdE_wrE_same]
      · simp [entKey, ePolicyLock, ePolicyDigest]
      · simp only [entKey, eBundleStatus, ePolicyLock, Bool.false_eq_true, if_false]
        omega
    · rw [rdE_wrE_ne, policyLockRule, rdE_wrE_same]
      simp only [entKey, eBundleStatus, ePolicyDigest, Bool.false_eq_true, if_false]
      omega

end Sys2Proof.Machine
end

section
/-! SUPPORT. What ending work leaves alone: completions, transports, contributions, rounds, endpoints and keys (R39, R303, R396, R397). -/

namespace Sys2Proof.Machine
open Sys2Proof

/-- The state without what work changes as it ends: areas of memory, tiles, contexts, messages received, events, messages sent, and the
width and power of the PCIe link. The dictionary, descriptors, messages in transmission, endpoints, keys and Loft stay in it. -/
def inert (s : State) : State :=
  { s with
    msixPend := [], vm := [], tiles := [], ctxs := [], evqs := [], trigs := [], firedWait := [], syn := [], rxs := [], ctxKeyGen := []
    parked := [], lru := [], abortsSeen := [], sent := [], free := 0, pcie := { s.pcie with width := 0, l1 := false } }

/-- Entries of a context that the end of its work writes. -/
def tornEnts : List Ent := [eRoundState, eAwaiting, eTriplesHeld, eOpenCohorts, eAbortCause, eAbortOrigin]

/-- Entries that the end of a message or a key writes, whatever context it names. -/
def strayEnts : List Ent := [eReversed, eSpecInflight, ePeerState, ePrkDropTimeout]

/-- What the end of its messages leaves of an endpoint. -/
def epFace (x : Ep) : Ep := { x with streams := [], slots := [], recFree := 0, resident := false, fetching := false }

/-- A property of states that the end of work keeps. -/
structure Steady where
  Holds : State → Prop
  /-- Contexts whose entries it does not read. -/
  ctx : Nat → Prop
  /-- Endpoints whose state it does not read. -/
  ep : Nat → Prop
  /-- It does not read Loft. -/
  junk : Prop
  keep : ∀ {s t : State}, Holds s → inert t = inert s → Holds t
  ended : ∀ {s : State} {l : List Desc}, Holds s → (∀ x ∈ l, ∃ y ∈ s.descs, SameButAux x y) → Holds { s with descs := l }
  dropped : ∀ {s : State} {l : List TxMsg}, Holds s → l ⊆ s.txs → Holds { s with txs := l }
  loft : ∀ {s : State} {d : Nat} {m : Mem}, junk → Holds s → Holds (setLoft s d m)
  retired : ∀ {s : State} {k : Nat} {x : Key}, x.st = 2 → Holds s → Holds (setKey s k x)
  eps : ∀ {s : State} {l : Tbl Ep}, Holds s → (∀ k, epFace (tget l {} k) = epFace (epOf s k)) → Holds { s with eps := l }
  epEnds : ∀ {s : State} {e : Nat} {x : Ep}, ep e → Holds s → Holds (setEp s e x)
  torn : ∀ {s : State} {e : Ent} {n : Nat} (v : Nat), Holds s → e ∈ tornEnts → ctx n → Holds (wrE s e n v)
  stray : ∀ {s : State} {e : Ent} {n : Nat} (v : Nat), Holds s → e ∈ strayEnts → Holds (wrE s e n v)

namespace Steady.Holds

variable {I : Steady} {s : State}

theorem ite {c : Prop} [Decidable c] {s t : State} (h : I.Holds s) (h' : I.Holds t) : I.Holds (if c then s else t) := by
  split
  · exact h
  · exact h'

theorem foldl {α : Type} {f : State → α → State} {l : List α} (h : I.Holds s) (hf : ∀ t x, I.Holds t → I.Holds (f t x)) :
    I.Holds (l.foldl f s) := by
  induction l generalizing s with
  | nil => exact h
  | cons x r ih => exact ih (hf _ _ h)

/-- A fold whose step may rest on where its element comes from. -/
theorem foldlMem {α : Type} {f : State → α → State} {l : List α} (h : I.Holds s)
    (hf : ∀ t, ∀ x ∈ l, I.Holds t → I.Holds (f t x)) : I.Holds (l.foldl f s) := by
  induction l generalizing s with
  | nil => exact h
  | cons x r ih => exact ih (hf _ _ (by simp) h) fun t y hy => hf t y (by simp [hy])

theorem setVm {n m} (h : I.Holds s) : I.Holds (setVm s n m) := I.keep h rfl
theorem setEvq {f e v} (h : I.Holds s) : I.Holds (setEvq s f e v) := I.keep h rfl
theorem emit {o} (h : I.Holds s) : I.Holds (emit s o) := I.keep h rfl
theorem setCx {n c} (h : I.Holds s) : I.Holds (setCx s n c) := I.keep h rfl
theorem setCohort {n k c} (h : I.Holds s) : I.Holds (setCohort s n k c) := I.keep h rfl
theorem freshNext (h : I.Holds s) : I.Holds (freshNext s) := I.keep h rfl
theorem clearTiles {p} (h : I.Holds s) : I.Holds (clearTiles s p) := I.keep h rfl
theorem dropProv {n} (h : I.Holds s) : I.Holds (dropProv s n) := I.keep h rfl
theorem scrubRange {n a len} (h : I.Holds s) : I.Holds (scrubRange s n a len) := I.keep h rfl
theorem dropTrigger {f slot} (h : I.Holds s) : I.Holds (dropTrigger s f slot) := I.keep h rfl

/-- An endpoint whose streams, slots, records or residence change. -/
theorem setEp {e x} (h : I.Holds s) (hx : epFace x = epFace (epOf s e)) : I.Holds (setEp s e x) := by
  refine I.eps h fun k => ?_
  by_cases hk : e = k
  · subst hk
    simpa using hx
  · rw [tget_tset_ne _ _ _ hk]
    rfl

/-! ### Events and completions -/

theorem raiseMsix {f v} (h : I.Holds s) : I.Holds (raiseMsix s f v) := ite (I.keep h rfl) (I.keep h rfl)

theorem postEvent {f e ent} (h : I.Holds s) : I.Holds (postEvent s f e ent) := by
  unfold Machine.postEvent
  extract_lets _ _ s1
  have h1 : I.Holds s1 := .setEvq h
  exact .ite h (.ite (.setEvq h) (.ite (.setEvq h) (.ite (.raiseMsix h1) h1)))

theorem ctxEvent {n ty st d0} (h : I.Holds s) : I.Holds (ctxEvent s n ty st d0) := .postEvent h

theorem markWaits {c} (h : I.Holds s) : I.Holds (markWaits s c) := by
  obtain ⟨f, hf, hl⟩ := markWaits_descs s c
  have hs : Machine.markWaits s c = { s with descs := s.descs.map f } := by rw [← hl]; rfl
  rw [hs]
  exact I.ended h fun x hx => by
    obtain ⟨y, hy, rfl⟩ := List.mem_map.1 hx
    exact ⟨y, hy, hf y⟩

theorem markTriggers {c} (h : I.Holds s) : I.Holds (markTriggers s c) := .foldl h fun _ _ h => I.keep h rfl

theorem synSet {c v} (h : I.Holds s) : I.Holds (synSet s c v) := .markTriggers (.markWaits (I.keep h rfl))

theorem synAdd {c x} (h : I.Holds s) : I.Holds (synAdd s c x) := by
  unfold Machine.synAdd
  extract_lets _ s1
  have h1 : I.Holds s1 := .synSet h
  exact .ite h1 (.ite (.postEvent h1) h1)

theorem signalOf {d} (h : I.Holds s) : I.Holds (signalOf s d) := .ite (.synSet h) (.synAdd h)

theorem completeDesc {d st detail} (h : I.Holds s) : I.Holds (completeDesc s d st detail) := by
  unfold Machine.completeDesc
  extract_lets s1 s2 s3
  have h1 : I.Holds s1 := .ite (.setVm h) h
  have h2 : I.Holds s2 := I.keep (I.ended h1 fun x hx => ⟨x, List.mem_of_mem_filter hx, rfl⟩) rfl
  have h3 : I.Holds s3 := .ite (.signalOf h2) h2
  exact .ite (.postEvent h3) h3

theorem refuseDesc {d st} (h : I.Holds s) : I.Holds (refuseDesc s d st) := .completeDesc h

/-! ### Transports -/

theorem setStrm {e x} (h : I.Holds s) : I.Holds (setStrm s e x) := .setEp h rfl

theorem settleTx {t} (h : I.Holds s) : I.Holds (settleTx s t) := by
  unfold Machine.settleTx
  split
  · exact h
  · exact .setStrm h

theorem dropTx {t} (h : I.Holds s) : I.Holds (dropTx s t) := by
  have h1 := I.dropped h (l := s.txs.filter (fun x => x.id != t.id)) (List.filter_subset_self _)
  exact .ite h1 (.settleTx h1)

theorem endTransport {d st} (h : I.Holds s) : I.Holds (endTransport s d st) := by
  unfold Machine.endTransport
  split
  · exact .completeDesc h
  · exact .completeDesc (.dropTx h)

theorem setOpMem {d die loft m} (hI : I.junk) (h : I.Holds s) : I.Holds (setOpMem s d die loft m) :=
  .ite (I.loft hI h) (.setVm h)

theorem junkDest {d} (hI : I.junk) (h : I.Holds s) : I.Holds (junkDest s d) :=
  .foldl (.foldl h fun _ _ h => I.keep (.setOpMem hI h) rfl) fun _ _ h => by
    split
    · exact h
    · exact I.keep h rfl

/-- Only the operands of a compute descriptor in Loft end with free contents. -/
theorem endAt {d st k} (hI : isTransport (dOp d) = true ∨ I.junk) (h : I.Holds s) : I.Holds (endAt s d st k) := by
  by_cases ht : isTransport (dOp d) = true
  · exact (congrArg I.Holds (if_pos ht)).mpr (.endTransport h)
  · exact .ite (.endTransport h) (.ite (.completeDesc (.junkDest (hI.resolve_left ht) h)) (.completeDesc h))

theorem endDesc {d st} (hI : isTransport (dOp d) = true ∨ I.junk) (h : I.Holds s) : I.Holds (endDesc s d st) :=
  .endAt hI (.freshNext h)

theorem completeAll {p st} (hI : (∀ d, p d = true → isTransport (dOp d) = true) ∨ I.junk) (h : I.Holds s) :
    I.Holds (completeAll s p st) :=
  .foldlMem h fun _ d hd h => .ite (.refuseDesc h) (.endDesc (hI.imp_left fun hp => hp d (List.mem_filter.1 hd).2) h)

/-! ### Contributions and rounds -/

theorem settle {n k} (h : I.Holds s) : I.Holds (settle s n k) :=
  .ite (.ite (.setCx (.setCohort h)) (.setCohort h)) h

theorem settleAll {n} (h : I.Holds s) : I.Holds (settleAll s n) := .foldl h fun _ _ h => .settle h

theorem showStage {n k r} (h : I.Holds s) : I.Holds (showStage s n k r) := by
  unfold Machine.showStage
  extract_lets
  split
  · exact h
  · exact I.keep h rfl

theorem accAddPiece {n k mode m neg rp} (h : I.Holds s) : I.Holds (accAddPiece s n k mode m neg rp) :=
  .ite (.showStage (.setCohort h)) h

theorem reverseOne {x} (h : I.Holds s) : I.Holds (reverseOne s x) := by
  unfold Machine.reverseOne
  extract_lets s0
  have h0 : I.Holds s0 := I.keep h rfl
  split
  · exact .settleAll h0
  · extract_lets s1 _ s2 _ s3 s4
    have h1 : I.Holds s1 := .foldl h0 fun _ _ h => .accAddPiece h
    have h3 : I.Holds s3 := .setCx (.setCohort h1)
    have h4 : I.Holds s4 := I.stray _ (I.stray _ h3 (by simp [strayEnts])) (by simp [strayEnts])
    exact .settle h4

theorem reverseAll {n p} (h : I.Holds s) : I.Holds (reverseAll s n p) := .foldl h fun _ _ h => .reverseOne h

theorem setRound {n st status} (hn : I.ctx n) (h : I.Holds s) : I.Holds (setRound s n st status) :=
  .ctxEvent (I.torn _ h (by simp [tornEnts]) hn)

theorem dropRoundData {n} (hn : I.ctx n) (h : I.Holds s) : I.Holds (dropRoundData s n) :=
  .foldlMem (.setCx (.foldl h fun _ _ h => .scrubRange h)) fun _ e he h => I.torn _ h
    ((show [eAwaiting, eTriplesHeld, eOpenCohorts] ⊆ tornEnts by simp [tornEnts]) he) hn

theorem abandonBy {n st ownSt ev own} (hI : I.junk) (hn : I.ctx n) (h : I.Holds s) : I.Holds (abandonBy s n st ownSt ev own) :=
  .setRound hn (.dropRoundData hn (.dropProv (.reverseAll (.completeAll (.inr hI) (.completeAll (.inr hI) h)))))

theorem tryAbandon {n st} (hI : I.junk) (hn : I.ctx n) (h : I.Holds s) : I.Holds (tryAbandon s n st) := .ite (.abandonBy hI hn h) h

theorem sendAborts {n cause origin except} (hn : I.ctx n) (h : I.Holds s) : I.Holds (sendAborts s n cause origin except) :=
  I.keep (I.torn _ (I.torn _ (.foldl h fun _ _ h => .emit h) (by simp [tornEnts]) hn) (by simp [tornEnts]) hn) rfl

theorem jobAbort {n cause} (hn : I.ctx n) (h : I.Holds s) : I.Holds (jobAbort s n cause) := .ite h (.sendAborts hn h)

/-! ### Endpoints and keys -/

theorem settleRx {e key peer seq} (h : I.Holds s) : I.Holds (settleRx s e key peer seq) := by
  unfold Machine.settleRx
  split
  · exact h
  · exact .setStrm h

theorem dropRx {x} (h : I.Holds s) : I.Holds (dropRx s x) := .setEp (I.keep h rfl) rfl

theorem endRx {x} (h : I.Holds s) : I.Holds (endRx s x) := .dropRx (.ite h (.settleRx h))

theorem flushRx {e} (h : I.Holds s) : I.Holds (flushRx s e) := .foldl h fun _ _ h => .ite (.reverseOne h) (.endRx h)

theorem flushEp {e} (h : I.Holds s) : I.Holds (flushEp s e) :=
  .flushRx (.foldl (.completeAll (.inl fun d hd => by simp only [descOfEp, Bool.and_eq_true] at hd; exact hd.1.1) h)
    fun _ _ h => .dropTx h)

theorem epError {e} (he : I.ep e) (h : I.Holds s) : I.Holds (epError s e) := .ite (.flushEp (I.epEnds he h)) h

theorem endStreams {k} (h : I.Holds s) : I.Holds (endStreams s k) := by
  unfold Machine.endStreams
  extract_lets s1
  have h1 : I.Holds s1 := .foldl h fun _ _ h => .dropRx h
  refine I.eps (I.dropped h1 (List.filter_subset_self _)) fun j => ?_
  exact (congrArg epFace (tget_map s1.eps (fun x : Ep => { x with streams := x.streams.filter (fun y => y.key != k) }) {} j)).trans rfl

theorem clearPeerBit {x} (h : I.Holds s) : I.Holds (clearPeerBit s x) :=
  .ite (I.stray _ h (by simp [strayEnts])) (.ite (I.stray _ h (by simp [strayEnts])) h)

theorem retireKey {k} (h : I.Holds s) : I.Holds (retireKey s k) :=
  .ite h (.clearPeerBit (I.retired rfl (.endStreams (.completeAll
    (.inl fun d hd => by simp only [Bool.and_eq_true] at hd; exact hd.1.1) h))))

theorem advanceCtxKey {n} (h : I.Holds s) : I.Holds (advanceCtxKey s n) := I.keep (.foldl h fun _ _ h => .retireKey h) rfl

theorem dropResident {e} (h : I.Holds s) : I.Holds (dropResident s e) :=
  I.keep (.setEp (x := { epOf s e with resident := false, fetching := false }) h rfl) rfl

theorem dropParked {die p} (h : I.Holds s) : I.Holds (dropParked s die p) := I.stray _ (I.keep h rfl) (by simp [strayEnts])

theorem destroyEp {e} (he : I.ep e) (h : I.Holds s) : I.Holds (destroyEp s e) :=
  I.epEnds he (.dropParked (.dropResident (.flushEp (I.epEnds he (I.stray _ h (by simp [strayEnts]))))))

end Steady.Holds

end Sys2Proof.Machine
end

section
/-! SUPPORT. The fence of a function (R494, R495). -/

namespace Sys2Proof.Machine
open Sys2Proof

/-- The state without what a fence hands back: vault slots, domains, regions and queues. -/
def handed (s : State) : State := { s with vault := [], pds := [], regions := [], cqs := [], stream := [] }

/-- The first step of a fence before the jobs are aborted: the function is FENCED, its interfaces closed. -/
def fenceMark (s : State) (f cause : Nat) : State :=
  let s1 := bumpE (wrE (wrE s eFnState f fnFenced) eFenceCause f cause) eFenceCount f
  let s2 := setFn s1 f { step := 1, stage := 3 }
  { s2 with
    panel := { s2.panel with scrubErrMark := scrubErrs s }
    pcie := { s2.pcie with tdisp := if tget s2.pcie.tdisp 0 f = 0 then s2.pcie.tdisp else tput s2.pcie.tdisp f 3 } }

theorem fenceStep1_eq (s : State) (f cause : Nat) : fenceStep1 s f cause =
    (fnCtxs (fenceMark s f cause) f).foldl (fun s n => jobAbort s n 5) (fenceMark s f cause) := rfl

/-- A property of states that the last step of a fence keeps. -/
structure RestSteady extends Steady where
  /-- Functions whose progress through a fence it does not read. -/
  row : Nat → Prop
  handed : ∀ {s t : State}, Holds s → handed t = handed s → Holds t
  setFn : ∀ {s : State} {f : Nat} {x : FnSt}, row f → Holds s → Holds (setFn s f x)
  tgen : ∀ {s : State} {f v : Nat}, Holds s → Holds (wrE s eTgen f v)
  active : ∀ {s : State} {v : Nat}, Holds s → Holds (wrE s eScrubActive 0 v)
  ends : ∀ e, ep e

/-- A property of states that fences keep. -/
structure FenceSteady extends RestSteady where
  /-- Functions whose fence may begin. -/
  own : Nat → Prop
  mark : ∀ {s : State} {f cause : Nat}, own f → Holds s → Holds (fenceMark s f cause)
  ctxs : ∀ n, n < 256 → ctx n
  noLoft : junk

theorem lt_of_mem_fnCtxs {s : State} {f n : Nat} (h : n ∈ fnCtxs s f) : n < 256 :=
  List.mem_range.1 (List.mem_of_mem_filter h)

namespace Steady.Holds

variable {I : FenceSteady} {s : State}

theorem fenceStep1 {f cause} (hf : I.own f) (h : I.Holds s) : I.Holds (fenceStep1 s f cause) :=
  .foldlMem (I.mark hf h) fun _ _ hn h => .jobAbort (I.ctxs _ (lt_of_mem_fnCtxs hn)) h

theorem stopQueues {f} (h : I.Holds s) : I.Holds (stopQueues s f) := I.handed h rfl

theorem setStream {x} (h : I.Holds s) : I.Holds { s with stream := x } := I.handed h rfl

theorem fenceStep2_of {f} (h : I.Holds (Machine.completeAll s (fun d => d.fn == f && d.started == []) stFenced)) :
    I.Holds (fenceStep2 s f) := by
  unfold Machine.fenceStep2
  extract_lets s0 s1 s2 s3 s4
  have h0 : I.Holds s0 := h
  have h1 : I.Holds s1 := .foldlMem h0 fun _ _ hn h => .tryAbandon I.noLoft (I.ctxs _ (lt_of_mem_fnCtxs hn)) h
  have h2 : I.Holds s2 := .foldl h1 fun _ _ h => .epError (I.ends _) h
  have h3 : I.Holds s3 := .foldl h2 fun _ _ h => .reverseAll h
  have h4 : I.Holds s4 := .foldl h3 fun _ _ h => .dropTrigger h
  exact .stopQueues (.setStream h4)

theorem fenceStep2 {f} (h : I.Holds s) : I.Holds (fenceStep2 s f) := .fenceStep2_of (.completeAll (.inr I.noLoft) h)

theorem fenceStep3 {f us} (h : I.Holds s) : I.Holds (fenceStep3 s f us) := .completeAll (.inr I.noLoft) h

theorem fenceStep4 {I : RestSteady} {f} (hf : I.row f) (h : I.Holds s) : I.Holds (fenceStep4 s f) := by
  unfold Machine.fenceStep4
  extract_lets s1 s2 s3 s4 s5 s6 s7
  have h2 : I.Holds s2 := .foldl (.foldl h fun _ _ h => .advanceCtxKey h) fun _ _ h => .retireKey h
  have h4 : I.Holds s4 := I.tgen (I.handed h2 rfl)
  have h6 : I.Holds s6 := I.handed (.foldl h4 fun _ _ h => .destroyEp (I.ends _) h) rfl
  exact I.active (I.setFn hf h6)

theorem beginFence {f cause stuck} (hown : I.own f) (hrow : I.row f) (h : I.Holds s) : I.Holds (beginFence s f cause stuck) := by
  unfold Machine.beginFence
  extract_lets us s1
  have h1 : I.Holds s1 := .fenceStep3 (.fenceStep2 (.fenceStep1 hown h))
  exact .ite h (.ite (.fenceStep4 hrow h1) (I.setFn hrow h1))

theorem fenceAll {stuck} (hown : ∀ f, I.own f) (hrow : ∀ f, I.row f) (h : I.Holds s) : I.Holds (fenceAll s stuck) :=
  .foldl h fun _ f h => .beginFence (hown f) (hrow f) h

end Steady.Holds

/-! ### Properties that fences keep -/

/-- The state without what ends with work, descriptors, dictionary and tables of endpoints and keys included. -/
def outer (s : State) : State := { inert s with od := [], descs := [], txs := [], loft := [], eps := [], keys := [] }

theorem outer_of_inert {s t : State} (h : inert t = inert s) : outer t = outer s :=
  congrArg (fun x : State => { x with od := [], descs := [], txs := [], loft := [], eps := [], keys := [] }) h

/-- A property of what no work changes. -/
def Steady.ofOuter (P : State → Prop) (hP : ∀ {s t}, P s → outer t = outer s → P t) : Steady where
  Holds := P
  ctx _ := True
  ep _ := True
  junk := True
  keep h he := hP h (outer_of_inert he)
  ended h _ := hP h rfl
  dropped h _ := hP h rfl
  loft _ h := hP h rfl
  retired _ h := hP h rfl
  eps h _ := hP h rfl
  epEnds _ h := hP h rfl
  torn _ h _ _ := hP h rfl
  stray _ h _ := hP h rfl

/-- The state without what a fence hands back or marks. -/
def unfenced (s : State) : State := handed { outer s with fns := [], panel := {}, pcie := { (outer s).pcie with tdisp := [] } }

theorem unfenced_of_handed {s t : State} (h : handed t = handed s) : unfenced t = unfenced s :=
  (congrArg unfenced h : unfenced (handed t) = unfenced (handed s))

theorem unfenced_of_outer {s t : State} (h : outer t = outer s) : unfenced t = unfenced s :=
  (congrArg unfenced h : unfenced (outer t) = unfenced (outer s))

/-- A property of what no fence changes. -/
def FenceSteady.ofUnfenced (P : State → Prop) (hP : ∀ {s t : State}, P s → unfenced t = unfenced s → P t) : FenceSteady where
  toSteady := .ofOuter P fun hs h => hP hs (unfenced_of_outer h)
  row _ := True
  own _ := True
  handed h he := hP h (unfenced_of_handed he)
  setFn _ h := hP h rfl
  mark _ h := hP h rfl
  tgen h := hP h rfl
  active h := hP h rfl
  ctxs _ _ := trivial
  ends _ := trivial
  noLoft := trivial

end Sys2Proof.Machine
end

section
/-! SUPPORT. What a fence leaves of the function's record, its progress and its descriptors (R494, R495). -/

namespace Sys2Proof.Machine
open Sys2Proof

/-! ### Properties of one entry, of one function's progress, of the descriptors -/

/-- No write of one of the entries, for record m, meets record n of entry e. -/
def ClearOf (es : List Ent) (e : Ent) (n m : Nat) : Prop := ∀ e' ∈ es, entKey e' m 0 ≠ entKey e n 0

/-- A property of one dictionary entry. -/
def Steady.ofEntry (e : Ent) (n : Nat) (P : Nat → Prop) (hstray : ∀ m, ClearOf strayEnts e n m) : Steady where
  Holds s := P (rdE s e n)
  ctx := ClearOf tornEnts e n
  ep _ := True
  junk := True
  keep {s t} h he := by
    have hod : t.od = s.od := (congrArg State.od he :)
    rwa [rdE_congr hod]
  ended h _ := h
  dropped h _ := h
  loft _ h := h
  retired _ h := h
  eps h _ := h
  epEnds _ h := h
  torn _ h he hn := by rwa [rdE_wrE_ne _ _ (hn _ he)]
  stray _ h he := by rwa [rdE_wrE_ne _ _ (hstray _ _ he)]

/-- The record of a function that its fence writes. -/
def fenceEnts : List Ent := [eFnState, eFenceCause, eFenceCount]

theorem rdE_fenceMark {s : State} {g cause n : Nat} {e : Ent} (h : ClearOf fenceEnts e n g) :
    rdE (fenceMark s g cause) e n = rdE s e n :=
  (rdE_wrE_ne _ _ (h eFenceCount (by simp [fenceEnts]))).trans ((rdE_wrE_ne _ _ (h eFenceCause (by simp [fenceEnts]))).trans
    (rdE_wrE_ne _ _ (h eFnState (by simp [fenceEnts]))))

def FenceSteady.ofEntry (e : Ent) (n : Nat) (P : Nat → Prop) (hstray : ∀ m, ClearOf strayEnts e n m)
    (htorn : ∀ m, m < 256 → ClearOf tornEnts e n m) (htgen : ∀ m, ClearOf [eTgen] e n m)
    (hactive : ClearOf [eScrubActive] e n 0) : FenceSteady where
  toSteady := .ofEntry e n P hstray
  row _ := True
  own := ClearOf fenceEnts e n
  handed {s t} h he := by
    have hod : t.od = s.od := (congrArg State.od he :)
    exact (congrArg P (rdE_congr hod e n)).mpr h
  setFn _ h := h
  mark hown h := (congrArg P (rdE_fenceMark hown)).mpr h
  tgen h := (congrArg P (rdE_wrE_ne _ _ (htgen _ _ (by simp)))).mpr h
  active h := (congrArg P (rdE_wrE_ne _ _ (hactive _ (by simp)))).mpr h
  ctxs := htorn
  ends _ := trivial
  noLoft := trivial

theorem fnSt_fenceMark_ne {s : State} {g f cause : Nat} (h : g ≠ f) : fnSt (fenceMark s g cause) f = fnSt s f :=
  tget_tset_ne s.fns ({} : FnSt) { step := 1, stage := 3 } h

/-- A property of one function's progress through a fence. -/
def FenceSteady.ofFn (f : Nat) (P : FnSt → Prop) : FenceSteady where
  toSteady := .ofOuter (fun s => P (fnSt s f)) fun {s t} h he => by
    have hfns : t.fns = s.fns := (congrArg State.fns he :)
    rwa [fnSt, hfns]
  row g := g ≠ f
  own g := g ≠ f
  handed {s t} h he := by
    have hfns : t.fns = s.fns := (congrArg State.fns he :)
    exact (congrArg (fun l => P (tget l {} f)) hfns).mpr h
  setFn hg h := (congrArg P (tget_tset_ne _ _ _ hg)).mpr h
  mark hg h := (congrArg P (fnSt_fenceMark_ne hg)).mpr h
  tgen h := h
  active h := h
  ctxs _ _ := trivial
  ends _ := trivial
  noLoft := trivial

theorem FenceSteady.ofFn_holds {f : Nat} {P : FnSt → Prop} {s : State} : (FenceSteady.ofFn f P).Holds s ↔ P (fnSt s f) := Iff.rfl

/-- A property of every descriptor that holds with and without the mark of a wait. -/
def Steady.ofDescs (Q : Desc → Prop) (hQ : ∀ x y, SameButAux x y → Q y → Q x) : Steady where
  Holds s := ∀ d ∈ s.descs, Q d
  ctx _ := True
  ep _ := True
  junk := True
  keep {s t} h he := by
    have hd : t.descs = s.descs := (congrArg State.descs he :)
    rwa [hd]
  ended h hl d hd := by
    obtain ⟨y, hy, hs⟩ := hl d hd
    exact hQ _ _ hs (h y hy)
  dropped h _ := h
  loft _ h := h
  retired _ h := h
  eps h _ := h
  epEnds _ h := h
  torn _ h _ _ := h
  stray _ h _ := h

def FenceSteady.ofDescs (Q : Desc → Prop) (hQ : ∀ x y, SameButAux x y → Q y → Q x) : FenceSteady where
  toSteady := .ofDescs Q hQ
  row _ := True
  own _ := True
  handed {s t} h he := by
    have hd : t.descs = s.descs := (congrArg State.descs he :)
    exact (congrArg (fun l : List Desc => ∀ d ∈ l, Q d) hd).mpr h
  setFn _ h := h
  mark _ h := h
  tgen h := h
  active h := h
  ctxs _ _ := trivial
  ends _ := trivial
  noLoft := trivial

/-! ### Completions -/

theorem mem_completeDesc_ne {s : State} {d x : Desc} {st detail : Nat} (hx : x ∈ (completeDesc s d st detail).descs) : x.id ≠ d.id := by
  obtain ⟨y, -, hid, hs⟩ := mem_completeDesc_descs _ _ _ _ hx
  rw [hs]
  exact hid

theorem mem_endTransport_ne {s : State} {d x : Desc} {st : Nat} (hx : x ∈ (endTransport s d st).descs) : x.id ≠ d.id := by
  unfold endTransport at hx
  split at hx
  · exact mem_completeDesc_ne hx
  · exact mem_completeDesc_ne hx

/-- A descriptor that ends is gone. -/
theorem mem_endAt_ne {s : State} {d x : Desc} {st k : Nat} (hx : x ∈ (endAt s d st k).descs) : x.id ≠ d.id := by
  unfold endAt at hx
  split at hx
  · exact mem_endTransport_ne hx
  · split at hx
    · exact mem_completeDesc_ne hx
    · exact mem_completeDesc_ne hx

theorem mem_completeOne_ne {s : State} {d x : Desc} {st : Nat}
    (hx : x ∈ (if d.started.isEmpty then refuseDesc s d st else endDesc s d st).descs) : x.id ≠ d.id := by
  split at hx
  · have h := mem_completeDesc_ne hx
    exact h
  · rw [endDesc] at hx
    exact mem_endAt_ne hx

/-- Descriptors with one identifier gone. -/
def idGone (i : Nat) : Steady := .ofDescs (fun x => x.id ≠ i) fun x y hs hy => by rwa [hs]

/-- Every descriptor that a mass completion names is gone. -/
theorem completeAll_gone {s : State} {p : Desc → Bool} {st : Nat} (hp : ∀ x y, SameButAux x y → p x = p y) :
    ∀ x ∈ (completeAll s p st).descs, p x = false := by
  have hsub : ∀ x ∈ (completeAll s p st).descs, ∃ y ∈ s.descs, SameButAux x y :=
    (Steady.Holds.completeAll (I := .ofDescs (fun x => ∃ y ∈ s.descs, SameButAux x y) fun x y hs ⟨z, hz, hy⟩ => ⟨z, hz, by
      rw [SameButAux] at hs hy ⊢
      rw [hs, hy]⟩) (.inr trivial) (fun x hx => ⟨x, hx, rfl⟩) :)
  intro x hx
  obtain ⟨y, hy, hs⟩ := hsub x hx
  by_contra hpx
  have hpy : y ∈ s.descs.filter p := List.mem_filter.2 ⟨hy, by rw [← hp x y hs]; simpa using hpx⟩
  obtain ⟨l, r, hl⟩ := List.append_of_mem hpy
  have hgone : (idGone y.id).Holds (completeAll s p st) := by
    unfold completeAll
    rw [hl, List.foldl_append, List.foldl_cons]
    exact .foldl (fun _ h => mem_completeOne_ne h) fun _ _ h => .ite (.refuseDesc h) (.endDesc (.inr trivial) h)
  exact hgone x hx (by rw [hs])

/-! ### The fence of one function -/

variable {s : State} {f cause : Nat} {stuck : List Nat}

theorem beginFence_of_running (h : (fnSt s f).stage ≠ 0) : beginFence s f cause stuck = s := if_pos h

/-- The state from which step 4 of a fence begins, or waits for the units named. -/
def fenced (s : State) (f cause : Nat) (stuck : List Nat) : State :=
  fenceStep3 (fenceStep2 (fenceStep1 s f cause) f) f (stuckUnits s stuck (fun d => d.fn == f))

theorem beginFence_of_idle (h : (fnSt s f).stage = 0) : beginFence s f cause stuck =
    if (stuckUnits s stuck (fun d => d.fn == f)).isEmpty then fenceStep4 (fenced s f cause stuck) f
    else setFn (fenced s f cause stuck) f { fnSt (fenced s f cause stuck) f with
      step := 2, stuck := stuckUnits s stuck (fun d => d.fn == f) } := if_neg (not_not.2 h)

/-- What holds once a function is marked holds as its fence runs. -/
theorem fenced_holds {I : FenceSteady} (h : I.Holds (fenceMark s f cause)) : I.Holds (fenced s f cause stuck) :=
  .fenceStep3 (.fenceStep2 (.foldlMem h fun _ _ hn h => .jobAbort (I.ctxs _ (lt_of_mem_fnCtxs hn)) h))

theorem beginFence_of_fenced {I : FenceSteady} (hidle : (fnSt s f).stage = 0) (hrow : I.row f) (h : I.Holds (fenced s f cause stuck)) :
    I.Holds (beginFence s f cause stuck) := by
  rw [beginFence_of_idle hidle]
  exact .ite (.fenceStep4 hrow h) (I.setFn hrow h)

theorem beginFence_holds {I : FenceSteady} (hidle : (fnSt s f).stage = 0) (hrow : I.row f) (h : I.Holds (fenceMark s f cause)) :
    I.Holds (beginFence s f cause stuck) := beginFence_of_fenced hidle hrow (fenced_holds h)

/-- The entries of a function's own record stand apart from what a fence writes on the way. -/
theorem fenceEnts_apart {e : Ent} (he : e ∈ fenceEnts) (f : Nat) : (∀ m, ClearOf strayEnts e f m) ∧
    (∀ m, m < 256 → ClearOf tornEnts e f m) ∧ (∀ m, ClearOf [eTgen] e f m) ∧ ClearOf [eScrubActive] e f 0 := by
  simp only [fenceEnts, List.mem_cons, List.not_mem_nil, or_false] at he
  rcases he with rfl | rfl | rfl <;>
  · simp only [ClearOf, strayEnts, tornEnts, List.forall_mem_cons, entKey, eFnState, eFenceCause, eFenceCount, eReversed, eSpecInflight,
      ePeerState, ePrkDropTimeout, eRoundState, eAwaiting, eTriplesHeld, eOpenCohorts, eAbortCause, eAbortOrigin, eTgen, eScrubActive,
      List.not_mem_nil, false_imp_iff, implies_true, and_true, Bool.false_eq_true, if_false]
    refine ⟨fun m => ?_, fun m hm => ?_, fun m => ?_, ?_⟩ <;> omega

/-- A property of one entry of a function's own record. -/
def FenceSteady.ofFenceEnt (e : Ent) (f : Nat) (P : Nat → Prop) (he : e ∈ fenceEnts) : FenceSteady :=
  .ofEntry e f P (fenceEnts_apart he f).1 (fenceEnts_apart he f).2.1 (fenceEnts_apart he f).2.2.1 (fenceEnts_apart he f).2.2.2

theorem clearOf_fenceEnts_ne {e : Ent} (he : e ∈ fenceEnts) {f g : Nat} (h : g ≠ f) : ClearOf fenceEnts e f g := by
  simp only [fenceEnts, List.mem_cons, List.not_mem_nil, or_false] at he
  rcases he with rfl | rfl | rfl <;>
  · simp only [ClearOf, fenceEnts, List.forall_mem_cons, entKey, eFnState, eFenceCause, eFenceCount]
    simp
    omega

/-- FN_STATE, FENCE_CAUSE and FENCE_COUNT once a fence has begun. -/
theorem beginFence_record (hidle : (fnSt s f).stage = 0) : rdE (beginFence s f cause stuck) eFnState f = fnFenced ∧
    rdE (beginFence s f cause stuck) eFenceCause f = cause ∧ Counted s (beginFence s f cause stuck) eFenceCount f := by
  refine ⟨?_, ?_, ?_⟩
  · refine beginFence_holds (I := .ofFenceEnt eFnState f (· = fnFenced) (by simp [fenceEnts])) hidle trivial ?_
    exact (rdE_wrE_ne _ _ (by simp [entKey, eFnState, eFenceCount])).trans ((rdE_wrE_ne _ _ (by simp [entKey, eFnState, eFenceCause])).trans
      (rdE_wrE_same ..))
  · refine beginFence_holds (I := .ofFenceEnt eFenceCause f (· = cause) (by simp [fenceEnts])) hidle trivial ?_
    exact (rdE_wrE_ne _ _ (by simp [entKey, eFenceCause, eFenceCount])).trans (rdE_wrE_same ..)
  · refine beginFence_holds (I := .ofFenceEnt eFenceCount f (· = satAdd (2 ^ (8 * tyLen eFenceCount.ty) - 1) (rdE s eFenceCount f) 1)
      (by simp [fenceEnts])) hidle trivial ?_
    refine (rdE_addE_same ..).trans ?_
    rw [rdE_wrE_ne, rdE_wrE_ne]
    · simp [entKey, eFnState, eFenceCount]
    · simp [entKey, eFenceCause, eFenceCount]

theorem fnSt_fenceMark (s : State) (f cause : Nat) : fnSt (fenceMark s f cause) f = { step := 1, stage := 3 } :=
  tget_tset_same s.fns ({} : FnSt) f { step := 1, stage := 3 }

theorem fnSt_wrE (s : State) (e : Ent) (n v g : Nat) : fnSt (wrE s e n v) g = fnSt s g := rfl

theorem fnSt_fenceStep4 : (fnSt (fenceStep4 s f) f).stage = 5 ∧ (fnSt (fenceStep4 s f) f).step = 4 := by
  unfold fenceStep4
  extract_lets s1 s2 s3 s4 s5 s6 x s7
  have h7 : fnSt s7 f = { x with step := 4, stage := 5, stuck := [] } := fnSt_setFn ..
  rw [fnSt_wrE, h7]
  exact ⟨rfl, rfl⟩

/-- The progress of a function whose fence has begun. -/
theorem fnSt_beginFence (hidle : (fnSt s f).stage = 0) : (stuckUnits s stuck (fun d => d.fn == f) = [] →
      (fnSt (beginFence s f cause stuck) f).stage = 5 ∧ (fnSt (beginFence s f cause stuck) f).step = 4) ∧
    (stuckUnits s stuck (fun d => d.fn == f) ≠ [] → (fnSt (beginFence s f cause stuck) f).stage = 3) := by
  rw [beginFence_of_idle hidle]
  refine ⟨fun hus => ?_, fun hus => ?_⟩
  · rw [if_pos (List.isEmpty_iff.2 hus)]
    exact fnSt_fenceStep4
  · rw [if_neg (mt List.isEmpty_iff.1 hus), fnSt_setFn]
    have hmark : (fnSt (fenceMark s f cause) f).stage = 3 := by rw [fnSt_fenceMark]
    have h := (FenceSteady.ofFn_holds (P := (·.stage = 3))).1 (fenced_holds (stuck := stuck) (FenceSteady.ofFn_holds.2 hmark))
    simpa only using h

/-- Descriptors of function f that have not started are gone. -/
def unstartedGone (f : Nat) : FenceSteady :=
  .ofDescs (fun d => (d.fn == f && d.started == []) = false) fun _ _ hs hy => by rw [hs]; exact hy

/-- Descriptors of function f run on the units us only. -/
def runsOnly (f : Nat) (us : List Nat) : FenceSteady :=
  .ofDescs (fun d => d.fn = f → d.started ≠ [] ∧ onUnits us d = true) fun _ _ hs hy => by rw [hs]; exact hy

theorem unstartedGone_fenceStep2 : (unstartedGone f).Holds (fenceStep2 s f) :=
  .fenceStep2_of (completeAll_gone fun x y hs => by rw [hs])

theorem runsOnly_fenceStep3 {us : List Nat} (h : (unstartedGone f).Holds s) : (runsOnly f us).Holds (fenceStep3 s f us) := fun d hd hf => by
  have hstart : (d.fn == f && d.started == []) = false := Steady.Holds.fenceStep3 h d hd
  have hon : (d.fn == f && !onUnits us d) = false := completeAll_gone (fun x y hs => by rw [hs]; rfl) d hd
  simp_all

/-- Only descriptors on the units named outlive a fence that has begun. -/
theorem mem_beginFence_descs (hidle : (fnSt s f).stage = 0) :
    (runsOnly f (stuckUnits s stuck (fun d => d.fn == f))).Holds (beginFence s f cause stuck) :=
  beginFence_of_fenced hidle trivial (runsOnly_fenceStep3 unstartedGone_fenceStep2)

end Sys2Proof.Machine
end

section
/-! SUPPORT. Engine resets that start, the scrub and the release of a function (R444, R446, R495 to R497, R512), and O47. -/

namespace Sys2Proof.Machine
open Sys2Proof

variable {s : State}

/-! ### Engine resets that start (R512) -/

/-- An engine reset joins those that run. -/
theorem startReset_eq (s : State) (u : Nat) (host : Bool) : ∃ l, startReset s u host = { s with resets := s.resets ++ l } := by
  unfold startReset
  split
  · exact ⟨[], by simp⟩
  · exact ⟨_, rfl⟩

theorem resetRuns_startReset {u : Nat} (host : Bool) (hexists : unitExists u = true) (hu : u < 256) (hin : inService s (u / 32) = true) :
    ResetRuns (startReset s u host) u := by
  by_cases hrun : s.resets.any (fun r => if r.die then r.id == u / 32 else r.id == u) = true
  · obtain ⟨r, hr, hr'⟩ := List.any_eq_true.1 hrun
    rw [startReset, if_pos (.inr (.inr (.inr hrun)))]
    refine ⟨r, hr, ?_⟩
    split <;> simp_all
  · refine ⟨{ die := false, id := u, host := host, escalated := false, retire := false }, ?_, by simp⟩
    rw [startReset, if_neg (by simp_all)]
    simp

/-- The resets that a fence or a teardown starts. -/
theorem foldl_startReset (us : List Nat) (s : State) : ∃ l, us.foldl (fun s u => startReset s u false) s = { s with resets := s.resets ++ l } ∧
    ∀ u ∈ us, unitExists u = true → u < 256 → inService s (u / 32) = true →
      ResetRuns (us.foldl (fun s u => startReset s u false) s) u := by
  induction us generalizing s with
  | nil => exact ⟨[], by simp, nofun⟩
  | cons u us ih =>
    obtain ⟨l, hl⟩ := startReset_eq s u false
    obtain ⟨l', hl', hruns⟩ := ih (startReset s u false)
    rw [List.foldl_cons]
    refine ⟨l ++ l', ?_, fun v hv hexists hlt hin => ?_⟩
    · rw [hl', hl]
      simp
    · obtain rfl | hv := List.mem_cons.1 hv
      · obtain ⟨r, hr, hid⟩ := resetRuns_startReset false hexists hlt hin
        exact ⟨r, by rw [hl']; exact List.mem_append_left _ hr, hid⟩
      · exact hruns v hv hexists hlt (by rw [hl]; exact hin)

/-! ### The scrub of a context (R497) -/

/-- The state without what the scrub of a context writes, but for its table entry and its dictionary entries. -/
def unscrubbed (s : State) : State :=
  { s with
    msixPend := [], vm := [], loft := [], tiles := [], evqs := [], keys := [], mboxes := [], mboxMem := [], sent := [], free := 0
    pcie := { s.pcie with width := 0, l1 := false } }

/-- A property of states that the scrub of context n keeps. -/
structure ScrubSteady (n : Nat) where
  Holds : State → Prop
  keep : ∀ {s t : State}, Holds s → unscrubbed t = unscrubbed s → Holds t
  cx : ∀ {s : State} {c : Ctx}, Holds s → Holds (setCx s n c)
  entry : ∀ {s : State} {e : Ent} (v : Nat), e ∈ [eAwaiting, eRoundState, eCtxState] → Holds s → Holds (wrE s e n v)
  drop : ∀ {s : State}, Holds s → Holds (dropCtxEntries s n)

namespace ScrubSteady.Holds

variable {n : Nat} {I : ScrubSteady n}

theorem ite {c : Prop} [Decidable c] {s t : State} (h : I.Holds s) (h' : I.Holds t) : I.Holds (if c then s else t) := by
  split
  · exact h
  · exact h'

theorem foldl {α : Type} {f : State → α → State} {l : List α} (h : I.Holds s) (hf : ∀ t x, I.Holds t → I.Holds (f t x)) :
    I.Holds (l.foldl f s) := by
  induction l generalizing s with
  | nil => exact h
  | cons x r ih => exact ih (hf _ _ h)

theorem scrubRange {m a len} (h : I.Holds s) : I.Holds (scrubRange s m a len) := I.keep h rfl

theorem dropBuf {k} (h : I.Holds s) : I.Holds (dropBuf s n k) :=
  I.entry _ (by simp) (I.cx (.foldl h fun _ _ h => .scrubRange h))

theorem scrubAreas (h : I.Holds s) : I.Holds (scrubAreas s n) := by
  unfold Machine.scrubAreas
  extract_lets s1 s2 s3
  have h1 : I.Holds s1 := .foldl h fun _ _ h => .dropBuf h
  have h2 : I.Holds s2 := .ite h1 (.scrubRange h1)
  have h3 : I.Holds s3 := .ite (.scrubRange h2) h2
  exact .foldl h3 fun _ _ h => .scrubRange h

theorem clearLoft {m} (h : I.Holds s) : I.Holds (clearLoft s m) := .ite h (.foldl h fun _ _ h => I.keep h rfl)

theorem raiseMsix {f v} (h : I.Holds s) : I.Holds (raiseMsix s f v) := .ite (I.keep h rfl) (I.keep h rfl)

theorem answerWith {src st value len read more} (h : I.Holds s) : I.Holds (answerWith s src st value len read more) := by
  unfold Machine.answerWith
  extract_lets s1
  have h1 : I.Holds s1 := .ite h (I.keep h rfl)
  clear_value s1
  split
  · extract_lets m hdr b s2
    have h2 : I.Holds s2 := I.keep h1 rfl
    exact .ite (.ite (.raiseMsix h2) h2) (I.keep h rfl)
  · exact h1

theorem postEvent {f e ent} (h : I.Holds s) : I.Holds (postEvent s f e ent) := by
  unfold Machine.postEvent
  extract_lets _ _ s1
  have h1 : I.Holds s1 := I.keep h rfl
  exact .ite h (.ite (I.keep h rfl) (.ite (I.keep h rfl) (.ite (.raiseMsix h1) h1)))

theorem setRound {st status} (h : I.Holds s) : I.Holds (setRound s n st status) := .postEvent (I.entry _ (by simp) h)

theorem scrubCtx (h : I.Holds s) : I.Holds (scrubCtx s n) := by
  unfold Machine.scrubCtx
  extract_lets dies first cnt s1 s2 s3 s4 s5
  have h2 : I.Holds s2 := I.keep (.scrubAreas h) rfl
  have h3 : I.Holds s3 := .foldl (I.keep (.clearLoft h2) rfl) fun _ _ h => .answerWith h
  have h4 : I.Holds s4 := .ite h3 (.setRound h3)
  exact I.entry _ (by simp) (I.cx (I.drop h4))

end ScrubSteady.Holds

/-- What a scrubbed context shows: it is in QUARANTINE without cohorts. -/
def Scrubbed (s : State) (n : Nat) : Prop := rdE s eCtxState n = cxQuarantine ∧ (cx s n).cohorts = []

theorem scrubbed_scrubCtx (s : State) (n : Nat) : Scrubbed (scrubCtx s n) n := by
  unfold scrubCtx
  extract_lets dies first cnt s1 s2 s3 s4 s5
  exact ⟨rdE_wrE_same .., congrArg Ctx.cohorts (cx_setCx (dropCtxEntries s4 n) n { owner := (cx s n).owner })⟩

theorem rdE_dropCtxEntries {e : Ent} {k n : Nat} (h : ctxOfIndex (entKey e k 0 / 256) ≠ some n) :
    rdE (dropCtxEntries s n) e k = rdE s e k := by
  refine (tget_filter_keys s.od _ (fun c => ctxOfIndex (c / 256) != some n) _).trans (if_pos ?_)
  simpa using h

/-- One context's scrub leaves what another's has left. -/
def scrubbedSteady (n m : Nat) (hn : n < 256) (hm : m < 256) (hne : m ≠ n) : ScrubSteady m where
  Holds s := Scrubbed s n
  keep {s t} h he := by
    have hod : t.od = s.od := (congrArg State.od he :)
    have hctxs : t.ctxs = s.ctxs := (congrArg State.ctxs he :)
    obtain ⟨hst, hco⟩ := h
    exact ⟨(rdE_congr hod ..).trans hst, (congrArg (fun l => (tget l ({} : Ctx) n).cohorts) hctxs).trans hco⟩
  cx h := ⟨h.1, (congrArg Ctx.cohorts (cx_setCx_ne _ _ hne)).trans h.2⟩
  entry v he h := by
    refine ⟨(rdE_wrE_ne _ v ?_).trans h.1, h.2⟩
    simp only [List.mem_cons, List.not_mem_nil, or_false] at he
    rcases he with rfl | rfl | rfl <;> simp [entKey, eAwaiting, eRoundState, eCtxState] <;> omega
  drop h := by
    refine ⟨(rdE_dropCtxEntries ?_).trans h.1, h.2⟩
    have hkey : entKey eCtxState n 0 / 256 = 0x5100 + n := by simp [entKey, eCtxState]; omega
    rw [hkey, ctxOfIndex, if_pos (.inl (by omega))]
    simp
    omega

theorem scrubbed_foldl_of_scrubbed {l : List Nat} (hl : ∀ m ∈ l, m < 256) {n : Nat} (hn : n < 256) (h : Scrubbed s n) :
    Scrubbed (l.foldl scrubCtx s) n := by
  induction l generalizing s with
  | nil => exact h
  | cons m l ih =>
    refine ih (fun k hk => hl k (by simp [hk])) ?_
    by_cases hm : m = n
    · exact hm ▸ scrubbed_scrubCtx s m
    · exact ScrubSteady.Holds.scrubCtx (I := scrubbedSteady n m hn (hl m (by simp)) hm) h

/-- Every context of a list is scrubbed. -/
theorem scrubbed_foldl {l : List Nat} (hl : ∀ m ∈ l, m < 256) {n : Nat} (hn : n ∈ l) (s : State) : Scrubbed (l.foldl scrubCtx s) n := by
  obtain ⟨a, b, rfl⟩ := List.append_of_mem hn
  rw [List.foldl_append, List.foldl_cons]
  exact scrubbed_foldl_of_scrubbed (fun m hm => hl m (by simp [hm])) (hl n hn) (scrubbed_scrubCtx _ n)

theorem rdEj_dropCtxEntries {e : Ent} {k j n : Nat} (h : ctxOfIndex (entKey e k j / 256) ≠ some n) :
    rdEj (dropCtxEntries s n) e k j = rdEj s e k j := by
  refine (tget_filter_keys s.od _ (fun c => ctxOfIndex (c / 256) != some n) _).trans (if_pos ?_)
  simpa using h

/-- What lies in DRAM under which function's keys, and which function owns which sync counters. -/
def ownersKept (s : State) (m : Nat) (hm : m < 256) : ScrubSteady m where
  Holds t := t.vmFn = s.vmFn ∧ ∀ k, synOwnerOf t k = synOwnerOf s k
  keep {u t} h he := by
    have hod : t.od = u.od := (congrArg State.od he :)
    have hvm : t.vmFn = u.vmFn := (congrArg State.vmFn he :)
    refine ⟨hvm.trans h.1, fun k => Eq.trans ?_ (h.2 k)⟩
    rw [synOwnerOf, synOwnerOf, rdEj, rdEj, rdEj, rdEj, hod]
  cx h := h
  entry {u e} v he h := by
    refine ⟨h.1, fun k => Eq.trans ?_ (h.2 k)⟩
    have hlo (j : Nat) : rdEj (wrE u e m v) eSynBlockLo 0 j = rdEj u eSynBlockLo 0 j := by
      refine rdEj_wrEj_ne u v ?_
      simp only [List.mem_cons, List.not_mem_nil, or_false] at he
      rcases he with rfl | rfl | rfl <;> simp [entKey, eAwaiting, eRoundState, eCtxState, eSynBlockLo] <;> omega
    have hhi (j : Nat) : rdEj (wrE u e m v) eSynBlockHi 0 j = rdEj u eSynBlockHi 0 j := by
      refine rdEj_wrEj_ne u v ?_
      simp only [List.mem_cons, List.not_mem_nil, or_false] at he
      rcases he with rfl | rfl | rfl <;> simp [entKey, eAwaiting, eRoundState, eCtxState, eSynBlockHi] <;> omega
    rw [synOwnerOf, synOwnerOf, hlo, hhi]
  drop {u} h := by
    refine ⟨h.1, fun k => Eq.trans ?_ (h.2 k)⟩
    have hout (i : Nat) (hi : 0x8200 * 256 ≤ i) : ctxOfIndex (i / 256) ≠ some m := by
      rw [ctxOfIndex, if_neg (by omega)]
      nofun
    rw [synOwnerOf, synOwnerOf, rdEj_dropCtxEntries (hout _ (by simp [entKey, eSynBlockLo])),
      rdEj_dropCtxEntries (hout _ (by simp [entKey, eSynBlockHi]; omega))]

theorem ownersKept_foldl {l : List Nat} (hl : ∀ m ∈ l, m < 256) {t : State} (h : t.vmFn = s.vmFn ∧ ∀ k, synOwnerOf t k = synOwnerOf s k) :
    (l.foldl scrubCtx t).vmFn = s.vmFn ∧ ∀ k, synOwnerOf (l.foldl scrubCtx t) k = synOwnerOf s k := by
  induction l generalizing t with
  | nil => exact h
  | cons m l ih =>
    exact ih (fun k hk => hl k (by simp [hk])) (ScrubSteady.Holds.scrubCtx (I := ownersKept s m (hl m (by simp))) h)

/-! ### The scrub of a function -/

/-- What the read-back of a unit that failed leaves alone. -/
theorem foldl_scrubBad_keeps {β : Type} (g : State → β) (f : Nat) (herr : ∀ s, g (bumpE s eScrubErrors f) = g s)
    (hbad : ∀ s v, g (wrE s eDramBad 0 v) = g s) (hfault : ∀ s r, g (writeFault s r) = g s) (bad : List (Nat × Nat)) (s : State) :
    g (bad.foldl (scrubBad f) s) = g s := by
  refine foldl_keeps g (fun s x => ?_) bad
  unfold scrubBad
  extract_lets lo s1 s2
  split
  · exact (hfault ..).trans ((hbad ..).trans (herr _))
  · rfl

/-- The function's memory and queues once its contexts are scrubbed. -/
def scrubbedFn (s : State) (f : Nat) : State := scrubQueues (scrubDram ((fnCtxs s f).foldl scrubCtx s) f) f

/-- The function once its scrub has been read back. -/
def fnScrubbed (s : State) (f : Nat) (bad : List (Nat × Nat)) : State :=
  let s2 := bad.foldl (scrubBad f) (scrubbedFn s f)
  let s3 := setFn s2 f { fnSt s2 f with step := 5 }
  wrE s3 eScrubActive 0 (putBit (rdE s3 eScrubActive 0) f false)

theorem execFenceScrub_of_awake {f : Nat} {bad : List (Nat × Nat)} (hstage : (fnSt s f).stage = 5) (hstep : (fnSt s f).step = 4)
    (hfrozen : s.pwr.frozen = false) (hawake : sleepingDies s = []) : execFenceScrub f bad s = .next (fnScrubbed s f bad) := by
  refine (if_neg ?_).trans (if_neg (not_not.2 hawake))
  simp [hstage, hstep, hfrozen]

theorem fnScrubbed_keeps {β : Type} (g : State → β) (f : Nat) (herr : ∀ s, g (bumpE s eScrubErrors f) = g s)
    (hbad : ∀ s v, g (wrE s eDramBad 0 v) = g s) (hfault : ∀ s r, g (writeFault s r) = g s) (hfn : ∀ s x, g (setFn s f x) = g s)
    (hactive : ∀ s v, g (wrE s eScrubActive 0 v) = g s) (bad : List (Nat × Nat)) (s : State) :
    g (fnScrubbed s f bad) = g (scrubbedFn s f) :=
  (hactive ..).trans ((hfn ..).trans (foldl_scrubBad_keeps g f herr hbad hfault bad _))

theorem fnScrubbed_scrubbed {f n : Nat} {bad : List (Nat × Nat)} (hn : n ∈ fnCtxs s f) : Scrubbed (fnScrubbed s f bad) n := by
  have hlt := lt_of_mem_fnCtxs hn
  obtain ⟨hst, hco⟩ := scrubbed_foldl (fun _ => lt_of_mem_fnCtxs) hn s
  have hkey {e : Ent} (he : e = eScrubErrors ∨ e = eDramBad ∨ e = eScrubActive ∨ e = eFaultLost ∨ e = eFaultNewest) (m : Nat) :
      entKey e m 0 ≠ entKey eCtxState n 0 := by
    rcases he with rfl | rfl | rfl | rfl | rfl <;>
      simp [entKey, eScrubErrors, eDramBad, eScrubActive, eFaultLost, eFaultNewest, eCtxState] <;> omega
  refine ⟨Eq.trans ?_ hst, Eq.trans ?_ hco⟩
  · exact fnScrubbed_keeps (rdE · eCtxState n) f (fun s => rdE_wrE_ne s _ (hkey (by simp) f)) (fun s v => rdE_wrE_ne s v (hkey (by simp) 0))
      (fun s r => rdE_writeFault s r (hkey (by simp) 0) (hkey (by simp) 0)) (fun _ _ => rfl) (fun s v => rdE_wrE_ne s v (hkey (by simp) 0)) bad s
  · exact fnScrubbed_keeps (fun t => (cx t n).cohorts) f (fun _ => rfl) (fun _ _ => rfl) (fun s r => by simp) (fun _ _ => rfl) (fun _ _ => rfl) bad s

/-- Device memory and queues of a scrubbed function. -/
theorem fnScrubbed_memory {f : Nat} {bad : List (Nat × Nat)} : (∀ n, tget s.vmFn 0 n = f + 1 → vmOf (fnScrubbed s f bad) n = []) ∧
    (∀ q, q < 64 → cq (fnScrubbed s f bad) f q = {}) ∧ ∀ c, synOwnerOf s (c / 64) = f → synGet (fnScrubbed s f bad) c = 0 := by
  obtain ⟨hvm, hsyn⟩ := ownersKept_foldl (s := s) (t := s) (fun m => lt_of_mem_fnCtxs (s := s) (f := f)) ⟨rfl, fun _ => rfl⟩
  refine ⟨fun n hn => ?_, fun q hq => ?_, fun c hc => ?_⟩
  · refine (fnScrubbed_keeps (vmOf · n) f (fun _ => rfl) (fun _ _ => rfl) (fun s r => by simp) (fun _ _ => rfl) (fun _ _ => rfl) bad s).trans ?_
    refine (tget_filter_keys _ _ (fun k => tget ((fnCtxs s f).foldl scrubCtx s).vmFn 0 k != f + 1) n).trans (if_neg ?_)
    simp [hvm, hn]
  · refine (fnScrubbed_keeps (cq · f q) f (fun _ => rfl) (fun _ _ => rfl) (fun s r => by simp) (fun _ _ => rfl) (fun _ _ => rfl) bad s).trans ?_
    refine (tget_filter_keys _ _ (fun k => k / 64 != f) (f * 64 + q)).trans (if_neg ?_)
    simp
    omega
  · refine (fnScrubbed_keeps (synGet · c) f (fun _ => rfl) (fun _ _ => rfl) (fun s r => by simp [synGet]) (fun _ _ => rfl) (fun _ _ => rfl) bad s).trans ?_
    refine (tget_filter_keys _ _ (fun k => synOwnerOf (scrubDram ((fnCtxs s f).foldl scrubCtx s) f) (k / 64) != f) c).trans (if_neg ?_)
    have h : synOwnerOf (scrubDram ((fnCtxs s f).foldl scrubCtx s) f) (c / 64) = f := (hsyn _).trans hc
    simp [h]

theorem bit_putBit_false (v i : Nat) : bit (putBit v i false) i = false := by
  have hput : putBit v i false = v - 2 ^ i * (v / 2 ^ i % 2) := by
    simp [putBit, putBits, bits, b2n, Nat.mul_comm]
  rw [bit, hput, Nat.testBit_eq_decide_div_mod_eq, Nat.sub_mul_div, decide_eq_false_iff_not]
  omega

/-! ### RELEASE (R446, R496) -/

theorem installKey_keeps {t : State} {purpose owner port rights key : Nat} {mod : Bool}
    (h : installKey s purpose owner port rights mod key = some t) : ∃ v, t = { s with vault := v } := by
  unfold installKey at h
  split at h
  · cases h
  · exact ⟨_, (Option.some.inj h).symm⟩

/-- The tenant keys fill vault slots and change nothing else. -/
theorem releaseKeys_keeps {t : State} {f : Nat} (h : releaseKeys s f = some t) : ∃ v, t = { s with vault := v } := by
  unfold releaseKeys at h
  split at h
  · obtain ⟨s1, h1, h2⟩ := Option.bind_eq_some_iff.1 h
    obtain ⟨v1, rfl⟩ := installKey_keeps h1
    obtain ⟨v2, rfl⟩ := installKey_keeps h2
    exact ⟨v2, rfl⟩
  · exact ⟨_, (Option.some.inj h).symm⟩

/-- Messages that leave change what an endpoint's interrupts show only. -/
theorem flushMsix_keeps {β : Type} (g : State → β) (hg : ∀ s p v, g (emit (linkWork { s with msixPend := p }) v) = g s) (s : State) (f : Nat) :
    g (flushMsix s f) = g s := by
  refine foldl_keeps g (fun s x => ?_) _
  split
  · rfl
  · exact hg ..

/-- The function once it is released. -/
def releasedFn (s : State) (f : Nat) : State :=
  flushMsix (setFn (wrE s eFnState f fnOpen) f { fnSt s f with scrubDone := false }) f

theorem releaseFnRule_of_keys {f : Nat} {t : State} (hdone : (fnSt s f).scrubDone = true) (hup : vaultUp s = true)
    (hkeys : releaseKeys s f = some t) : releaseFnRule f s = (stOk, releasedFn t f) := by
  unfold releaseFnRule
  rw [if_neg (by simp [hdone, hup]), hkeys]
  rfl

theorem onUnits_mono {us vs : List Nat} {d : Desc} (h : us ⊆ vs) (hon : onUnits us d = true) : onUnits vs d = true := by
  simp only [onUnits, Bool.or_eq_true, Bool.and_eq_true, List.any_eq_true, List.contains_iff_mem] at hon ⊢
  exact hon.imp (fun ⟨x, hx, hm⟩ => ⟨x, hx, h hm⟩) fun ⟨hs, hm⟩ => ⟨hs, h hm⟩

/-! ### The statement -/

/-- Settles O47: a fence runs through `beginFence_record`, `fnSt_beginFence` and `mem_beginFence_descs`; its scrub and its end, and the
release, are read off the lemmas above. -/
theorem fencesRunAndFunctionsRelease : Obligations.FencesRunAndFunctionsRelease := by
  unfold Obligations.FencesRunAndFunctionsRelease
  refine ⟨?flash, ?reset, ?timeout, ?scrub, ?done, ?release⟩
  case flash =>
    intro src f s hacc hidle
    obtain ⟨hst, hcause, hcount⟩ := beginFence_record (cause := 1) (stuck := []) hidle
    obtain ⟨hstage, hstep⟩ := (fnSt_beginFence (cause := 1) (stuck := []) hidle).1 rfl
    refine ⟨_, odCmd_of_accepted hacc rfl, hst, hcause, hcount, hstage, hstep, fun d hd hf => ?_⟩
    exact absurd (mem_beginFence_descs hidle d hd hf).2 (by simp [stuckUnits, onUnits])
  case reset =>
    intro f stuck s hup hexists hidle
    obtain ⟨hst, hcause, hcount⟩ := beginFence_record (cause := 2) (stuck := stuck) hidle
    refine ⟨_, if_pos ⟨hup, hexists⟩, hst, hcause, hcount, ?_, fun d hd hf => ?_⟩
    · obtain ⟨hnone, hsome⟩ := fnSt_beginFence (cause := 2) (stuck := stuck) hidle
      by_cases hus : stuckUnits s stuck (fun d => d.fn == f) = []
      · rw [(hnone hus).1]
        decide
      · rw [hsome hus]
        decide
    · obtain ⟨hstart, hon⟩ := mem_beginFence_descs hidle d hd hf
      exact ⟨hstart, onUnits_mono (List.filter_subset_self _) hon⟩
  case timeout =>
    intro f s hstage hfrozen
    obtain ⟨l, hl, hruns⟩ := foldl_startReset (fnSt s f).stuck s
    exact ⟨_, if_pos ⟨hstage, hfrozen⟩, by rw [hl], hruns⟩
  case scrub =>
    intro f bad s hstage hstep hfrozen hawake
    obtain ⟨hvm, hcq, hsyn⟩ := fnScrubbed_memory (s := s) (f := f) (bad := bad)
    refine ⟨_, execFenceScrub_of_awake hstage hstep hfrozen hawake, ?_, ?_, fun n hn => fnScrubbed_scrubbed hn, hvm, hcq, hsyn⟩
    · exact congrArg FnSt.step (fnSt_setFn ..)
    · rw [fnScrubbed, rdE_wrE_same, bit_putBit_false]
  case done =>
    intro f s hstage hstep hfrozen hlc
    refine ⟨_, (if_neg (by simp [hstage, hstep, hfrozen])).trans (congrArg _ (if_neg (by simp [hlc]))), ?_, ?_, ?_, ?_⟩
    · simp
    · simp
    · simp [writeFault_faultSeq]
    · simp
  case release =>
    intro src f s hacc hdone hup hkeys
    obtain ⟨t, ht⟩ := Option.isSome_iff_exists.1 hkeys
    obtain ⟨v, hv⟩ := releaseKeys_keeps ht
    have hrule := releaseFnRule_of_keys hdone hup ht
    have hnone : ¬ ((fnSt s f).scrubDone && (releaseKeys s f).isNone) = true := by simp [ht]
    refine ⟨releasedFn t f, (if_neg hnone).trans ((odCmd_of_accepted hacc (congrArg Prod.fst hrule)).trans (by rw [hrule])), ?_, ?_, ?_, ?_⟩
    · exact (flushMsix_keeps (rdE · eFnState f) (fun _ _ _ => rfl) _ f).trans (rdE_wrE_same t eFnState f fnOpen)
    · exact (flushMsix_keeps (fun t => (fnSt t f).scrubDone) (fun _ _ _ => rfl) _ f).trans (congrArg FnSt.scrubDone (fnSt_setFn ..))
    · exact (flushMsix_keeps State.descs (fun _ _ _ => rfl) _ f).trans (by rw [hv]; rfl)
    · exact (flushMsix_keeps State.vm (fun _ _ _ => rfl) _ f).trans (by rw [hv]; rfl)

end Sys2Proof.Machine
end

section
/-! SUPPORT. Grants, quotas and virtual functions (R490, R491, R527), and O48. -/

namespace Sys2Proof.Machine
open Sys2Proof

variable {s : State}

/-! ### Fences of several functions -/

/-- Function f is FENCED, or no fence of it runs. -/
def MayFence (f : Nat) (s : State) : Prop := rdE s eFnState f = fnFenced ∨ (fnSt s f).stage = 0

theorem mayFence_own {f cause : Nat} {stuck : List Nat} (h : MayFence f s) : rdE (beginFence s f cause stuck) eFnState f = fnFenced := by
  by_cases hidle : (fnSt s f).stage = 0
  · exact (beginFence_record hidle).1
  · rw [beginFence_of_running hidle]
    exact h.resolve_right hidle

/-- A function that is FENCED stays so through every fence. -/
theorem fnFenced_beginFence {f g cause : Nat} {stuck : List Nat} (h : rdE s eFnState f = fnFenced) :
    rdE (beginFence s g cause stuck) eFnState f = fnFenced := by
  by_cases hg : g = f
  · exact hg ▸ mayFence_own (.inl (hg ▸ h))
  · exact Steady.Holds.beginFence (I := .ofFenceEnt eFnState f (· = fnFenced) (by simp [fenceEnts]))
      (clearOf_fenceEnts_ne (by simp [fenceEnts]) hg) trivial h

theorem mayFence_beginFence {f g cause : Nat} {stuck : List Nat} (h : MayFence f s) : MayFence f (beginFence s g cause stuck) := by
  rcases h with h | h
  · exact .inl (fnFenced_beginFence h)
  · by_cases hg : g = f
    · exact .inl (hg ▸ mayFence_own (.inr (hg ▸ h)))
    · exact .inr (Steady.Holds.beginFence (I := .ofFn f (·.stage = 0)) hg hg h)

/-- Every function of a list whose fence may begin is FENCED. -/
theorem foldl_beginFence {l : List Nat} {cause : Nat} {stuck : List Nat} {f : Nat} (hf : f ∈ l) (h : MayFence f s) :
    rdE (l.foldl (fun s g => beginFence s g cause stuck) s) eFnState f = fnFenced := by
  obtain ⟨a, b, rfl⟩ := List.append_of_mem hf
  rw [List.foldl_append, List.foldl_cons]
  have ha : MayFence f (a.foldl (fun s g => beginFence s g cause stuck) s) := by
    clear hf
    induction a generalizing s with
    | nil => exact h
    | cons g a ih => exact ih (mayFence_beginFence h)
  have hb := mayFence_own (cause := cause) (stuck := stuck) ha
  generalize beginFence (a.foldl (fun s g => beginFence s g cause stuck) s) f cause stuck = u at hb
  clear hf ha h
  induction b generalizing u with
  | nil => exact hb
  | cons g b ih => exact ih _ (fnFenced_beginFence hb)

/-! ### Grants and quotas (R491) -/

/-- A grant that is written, with its effect on FN_STATE. -/
def granted (s : State) (e : Ent) (f v : Nat) : State :=
  if rdE s eFnState f = fnFenced then setFn (wrE (wrE s e f v) eFnState f fnUnclean) f { fnSt (wrE s e f v) f with scrubDone := false }
  else wrE s e f v

theorem grantRule_of_free {e : Ent} {f v first cnt : Nat} (he : e = eDramFirst ∧ first = v ∧ cnt = rdE s eDramCount f ∨
      e = eDramCount ∧ first = rdE s eDramFirst f ∧ cnt = v) (hopen : rdE s eFnState f ≠ fnOpen) (hfit : first + cnt ≤ 240)
    (hfree : grantFree s f first cnt = true) : grantRule e f v s = (stOk, granted s e f v) := by
  have hne : eDramCount ≠ eDramFirst := by decide
  have hfit' : ¬ 240 < first + cnt := Nat.not_lt.2 hfit
  obtain ⟨rfl, rfl, rfl⟩ | ⟨rfl, rfl, rfl⟩ := he <;>
    simp only [grantRule, granted, hopen, hne, hne.symm, hfit', hfree, Bool.not_true, Bool.false_eq_true, true_or, or_true, if_true, if_false]

theorem granted_reads {e : Ent} {f v : Nat} (he : entKey eFnState f 0 ≠ entKey e f 0) : rdE (granted s e f v) e f = v ∧
    rdE (granted s e f v) eFnState f = if rdE s eFnState f = fnFenced then fnUnclean else rdE s eFnState f := by
  unfold granted
  split
  · have hval : rdE (wrE (wrE s e f v) eFnState f fnUnclean) e f = v := (rdE_wrE_ne (wrE s e f v) fnUnclean he).trans (rdE_wrE_same s e f v)
    exact ⟨hval, rdE_wrE_same (wrE s e f v) eFnState f fnUnclean⟩
  · exact ⟨rdE_wrE_same s e f v, rdE_wrE_ne s v he.symm⟩

/-- Subindices 5 and up of the tenancy record name quotas. -/
theorem grantEnt_quota {sub : Nat} {e : Ent} (hsub : 5 ≤ sub) (h : grantEnt sub = some e) : e ≠ eDramFirst ∧ e ≠ eDramCount := by
  obtain ⟨k, rfl⟩ := Nat.exists_eq_add_of_le hsub
  have hk : k = 0 ∨ k = 1 ∨ k = 2 ∨ k = 3 ∨ 4 ≤ k := by omega
  rcases hk with rfl | rfl | rfl | rfl | hk
  · cases h; decide
  · cases h; decide
  · cases h; decide
  · cases h; decide
  · have hlen : [eDramFirst, eDramCount, eQuotaPd, eQuotaRegions, eQuotaEndpoints, eQuotaKeys].length ≤ 5 + k - 3 := by
      simp
      omega
    rw [grantEnt, List.getElem?_eq_none hlen] at h
    cases h

theorem grantRule_of_quota {e : Ent} {f v : Nat} (he : e ≠ eDramFirst ∧ e ≠ eDramCount) (hopen : rdE s eFnState f ≠ fnOpen)
    (hheld : objHeld s f (quotaKind e) ≤ v) (hsum : quotaSum s e f v ≤ objCount (quotaKind e)) :
    grantRule e f v s = (stOk, wrE s e f v) :=
  (if_neg hopen).trans ((if_neg (not_or.2 he)).trans (if_neg (not_or.2 ⟨Nat.not_lt.2 hheld, Nat.not_lt.2 hsum⟩)))

/-! ### Virtual functions (R527) -/

/-- A new virtual function is UNCLEAN. -/
def newFn (s : State) (f : Nat) : State := setFn (wrE s eFnState f fnUnclean) f { fnSt s f with scrubDone := false }

/-- Function f is UNCLEAN and not scrubbed. -/
def IsNew (f : Nat) (s : State) : Prop := rdE s eFnState f = fnUnclean ∧ (fnSt s f).scrubDone = false

theorem isNew_newFn (s : State) (f : Nat) : IsNew f (newFn s f) := ⟨rdE_wrE_same s eFnState f fnUnclean, congrArg FnSt.scrubDone (fnSt_setFn ..)⟩

theorem isNew_newFn_of_isNew {f g : Nat} (h : IsNew f s) : IsNew f (newFn s g) := by
  by_cases hg : g = f
  · exact hg ▸ isNew_newFn s g
  · have hkey : entKey eFnState g 0 ≠ entKey eFnState f 0 := by simp [entKey, eFnState, hg]
    exact ⟨(rdE_wrE_ne s fnUnclean hkey).trans h.1, (congrArg FnSt.scrubDone (tget_tset_ne _ _ _ hg)).trans h.2⟩

theorem isNew_foldl {l : List Nat} {f : Nat} (hf : f ∈ l) (s : State) : IsNew f (l.foldl newFn s) := by
  obtain ⟨a, b, rfl⟩ := List.append_of_mem hf
  rw [List.foldl_append, List.foldl_cons]
  have h := isNew_newFn (a.foldl newFn s) f
  generalize newFn (a.foldl newFn s) f = u at h
  clear hf
  induction b generalizing u with
  | nil => exact h
  | cons g b ih => exact ih _ (isNew_newFn_of_isNew h)

theorem mem_fnsAbove {lo n f : Nat} : f ∈ (List.range (n - lo)).map (· + lo + 1) ↔ lo < f ∧ f ≤ n := by
  simp only [List.mem_map, List.mem_range]
  constructor
  · rintro ⟨a, ha, rfl⟩
    omega
  · intro h
    exact ⟨f - lo - 1, by omega, by omega⟩

/-! ### The statement -/

/-- Settles O48: grants and quotas by what their rule writes, VF_REMOVAL by `foldl_beginFence`. -/
theorem grantsAndVirtualFunctions : Obligations.GrantsAndVirtualFunctions := by
  unfold Obligations.GrantsAndVirtualFunctions
  refine ⟨?first, ?count, ?quota, ?enable, ?removal⟩
  case first =>
    intro src f v s hacc hopen hfit hfree
    have hrule := grantRule_of_free (.inl ⟨rfl, rfl, rfl⟩) hopen hfit hfree
    refine ⟨granted s eDramFirst f v, (odCmd_of_accepted hacc (congrArg Prod.fst hrule)).trans (by rw [hrule]), granted_reads ?_⟩
    simp [entKey, eFnState, eDramFirst]
  case count =>
    intro src f v s hacc hopen hfit hfree
    have hrule := grantRule_of_free (.inr ⟨rfl, rfl, rfl⟩) hopen hfit hfree
    refine ⟨granted s eDramCount f v, (odCmd_of_accepted hacc (congrArg Prod.fst hrule)).trans (by rw [hrule]), granted_reads ?_⟩
    simp [entKey, eFnState, eDramCount]
  case quota =>
    intro src f sub v e s hsub he hacc hopen hheld hsum
    have hrule := grantRule_of_quota (grantEnt_quota hsub he) hopen hheld hsum
    refine ⟨wrE s e f v, ?_, rfl⟩
    simp only [exec, execGrantWrite, he]
    exact (odCmd_of_accepted hacc (congrArg Prod.fst hrule)).trans (by rw [hrule])
  case enable =>
    intro num s hup hoff hnum
    have hexec : exec (.vfEnable num) s = .next (((List.range (num - 0)).map (· + 0 + 1)).foldl newFn
        { s with pcie := { s.pcie with vfEnable := true, numVfs := num } }) := by
      simp only [exec, execVfEnable, hoff, hup, Bool.false_eq_true, if_false]
      exact if_neg (by simp [hnum])
    refine ⟨_, hexec, ?_, ?_, fun f hlo hhi => isNew_foldl (mem_fnsAbove.2 ⟨hlo, hhi⟩) _⟩
    · exact foldl_keeps (f := newFn) (fun s => s.pcie.vfEnable) (fun _ _ => rfl) _
    · exact foldl_keeps (f := newFn) (fun s => s.pcie.numVfs) (fun _ _ => rfl) _
  case removal =>
    intro num s hup hon hlt h64
    have hexec : vfRemove s num = _ := if_neg (not_or.2 ⟨ne_false_of_eq_true hon, Nat.not_le.2 hlt⟩)
    refine ⟨vfRemove s num, if_pos hup, ?_, ?_, fun f hlo hhi => ?_⟩
    · rw [hexec]
    · rw [hexec]
      simp
    · have hmem := mem_fnsAbove.2 ⟨hlo, hhi⟩
      refine ⟨?_, fun hidle => ?_⟩
      · rw [hexec]
        intro hin
        have hkept := (List.mem_filter.1 hin).2
        rw [List.contains_iff_mem.2 hmem] at hkept
        cases hkept
      · rw [hexec]
        exact foldl_beginFence hmem (.inr hidle)

end Sys2Proof.Machine
end

section
/-! SUPPORT. The challenge of a debug unlock where its mailbox does not answer (R464, R529, R553), and O43. -/

namespace Sys2Proof.Machine
open Sys2Proof

/-- A read of the challenge waits in the physical function's mailbox, and the function's memory space is off. -/
def unmappedMailbox : State := { boot := { st := 3 }, pwr := { inReset := false }, mboxes := [(0, { busy := true })] }

/-- The response of a mailbox that does not answer is discarded. -/
theorem answerWith_unmapped {s : State} {f : Nat} (h : mboxUp s f = false) (st value len : Nat) (read more : Bool) :
    answerWith s (.mailbox f) st value len read more = setMbox s f { mboxOf s f with busy := false } := by
  simp [answerWith, h]

theorem execDebugChallenge_of_live {s : State} {f : Nat} (h : srcLive s (.mailbox f) = true) (now : Nat) : execDebugChallenge (.mailbox f) now s =
    .next (answerWith (challengeNow s now).2 (.mailbox f) stOk (challengeNow s now).1 48 true false) := by
  simp [execDebugChallenge, h]

/-- Refutes O43: a challenge that is read while the memory space of the mailbox's function is off stands, but its response is discarded. -/
theorem not_lifecycleCommandsTakeEffect : ¬ Obligations.LifecycleCommandsTakeEffect := by
  unfold Obligations.LifecycleCommandsTakeEffect
  intro h
  obtain ⟨-, -, -, hchallenge, -⟩ := h
  obtain ⟨t, hexec, -, c, -, -, -, hsent⟩ := hchallenge 0 0 unmappedMailbox (by decide) rfl
  have hrun := execDebugChallenge_of_live (s := unmappedMailbox) (f := 0) (by decide) 0
  rw [answerWith_unmapped (by decide)] at hrun
  rw [show exec (.debugChallenge (.mailbox 0) 0) unmappedMailbox = _ from hrun] at hexec
  have hnone : t.sent = [] := (congrArg State.sent (Host.Outcome.next.inj hexec)).symm
  rw [hnone] at hsent
  cases hsent

end Sys2Proof.Machine
end

section
/-! SUPPORT. The opening and the end of sessions (R375, R377, R403 to R407, R437, R550), and O39. -/

namespace Sys2Proof.Machine
open Sys2Proof

variable {s : State}

/-! ### Handshakes -/

theorem hsOf_id {i : Nat} {x : Hs} (h : hsOf s i = some x) : x.id = i := by
  simpa using List.find?_some h

theorem hsOf_congr {t : State} (h : t.hss = s.hss) (i : Nat) : hsOf t i = hsOf s i := by
  rw [hsOf, hsOf, h]

theorem hsOf_dropHs (s : State) (i : Nat) : hsOf (dropHs s i) i = none :=
  List.find?_eq_none.2 fun x hx => by simpa using (List.mem_filter.1 hx).2

theorem hsOf_setHs {i : Nat} {x y : Hs} (h : hsOf s i = some x) (hy : y.id = i) : hsOf (setHs s y) i = some y := by
  unfold hsOf setHs mapIf at *
  generalize s.hss = l at h
  induction l with
  | nil => cases h
  | cons z r ih =>
    by_cases hz : z.id = i
    · simp [hz, hy]
    · simp only [List.map_cons, hy, hz, List.find?_cons, beq_iff_eq, if_false, beq_eq_false_iff_ne.2 hz] at h ⊢
      simpa [hy] using ih h

/-! ### Signatures and credentials -/

theorem nextAlias_keeps (s : State) : (nextAlias s).hss = s.hss ∧ (nextAlias s).sent = s.sent := by
  unfold nextAlias
  split <;> exact ⟨rfl, rfl⟩

/-- A signature (`useAlias`) leaves handshakes and messages sent. -/
theorem useAlias_keeps (s : State) : (useAlias s).hss = s.hss ∧ (useAlias s).sent = s.sent := nextAlias_keeps _

/-- Every message of a list is a part of the module's bundle for handshake i. -/
abbrev Credentials (i : Nat) (l : List Out) : Prop := ∀ o ∈ l, ∃ p c, o = .credential i p c

theorem foldl_emit {α : Type} {P : Out → Prop} {f : State → α → Out} (hf : ∀ s x, P (f s x)) (l : List α) (s : State) :
    ∃ o, l.foldl (fun s x => emit s (f s x)) s = { s with sent := s.sent ++ o } ∧ ∀ x ∈ o, P x := by
  induction l generalizing s with
  | nil => exact ⟨[], by simp, by simp⟩
  | cons x r ih =>
    obtain ⟨o, ho, hP⟩ := ih (emit s (f s x))
    refine ⟨f s x :: o, ?_, List.forall_mem_cons.2 ⟨hf s x, hP⟩⟩
    rw [List.foldl_cons, ho]
    simp [emit]

theorem sendCreds_keeps (s : State) (i kind : Nat) : ∃ l, sendCreds s i kind = { s with sent := s.sent ++ l } ∧ Credentials i l :=
  foldl_emit (f := fun s p => .credential i p (credBytes kind p (ownBundle s))) (fun _ p => ⟨p, _, rfl⟩) (List.range 3) s

/-- A part of the peer's bundle joins its handshake, which stays where the bundle is good or not yet complete. -/
theorem execCredential_joins {i part : Nat} {c : Credential} {x : Hs} (hrun : running s = true) (hfrozen : s.pwr.frozen = false) (hpart : part < 3)
    (hx : hsOf s i = some x) (hgood : (part = 2 ∧ c.aliasOk = true ∧ c.lifecycle = effLc s) ∨ x.credParts.length < 2) :
    ∃ t, execCredential i part c s = .next t ∧ ∃ y, hsOf t i = some y ∧ part ∈ y.credParts ∧ (part = 2 → y.cred = c) ∧ t.keys = s.keys := by
  unfold execCredential
  rw [if_neg (by simp [hrun, hfrozen, hpart])]
  simp only [hx, Option.getD_some, Option.isSome_some, if_true]
  have hkept : ¬ ((if x.credParts.contains part then x.credParts else x.credParts ++ [part]).length = 3 ∧
      ((if part = 2 then c else x.cred).aliasOk = false ∨ (if part = 2 then c else x.cred).lifecycle ≠ effLc s)) := by
    rcases hgood with ⟨rfl, halias, hlc⟩ | hfew
    · simp [halias, hlc]
    · rintro ⟨hlen, -⟩
      split at hlen
      · omega
      · rw [List.length_append, List.length_singleton] at hlen
        omega
  have hid : x.id = i := hsOf_id hx
  refine ⟨_, if_neg hkept, _, hsOf_setHs hx hid, ?_, fun h => if_pos h, rfl⟩
  change part ∈ if x.credParts.contains part then x.credParts else x.credParts ++ [part]
  split
  next h => exact List.contains_iff_mem.1 h
  next => simp

/-- A handshake whose FINISH is sent. -/
def replyStep (s : State) (x : Hs) (keyId keyGen ep : Nat) : Hs :=
  { x with
    step := 3
    keyId := keyId
    keyGen := keyGen
    peerEp := ep
    t := replyTranscript s x keyId keyGen ep
    ss := Config.freeNat (s.free + 3) }

/-- The state that signs it. -/
def replied (s : State) (x : Hs) (keyId keyGen ep : Nat) : State :=
  { setHs s (replyStep s x keyId keyGen ep) with free := s.free + 4 }

/-! ### HELLO -/

/-- A HELLO that can be answered. -/
theorem helloReply_answers {die : Nat} {h : HelloMsg} (hok : helloOk s die h = true) : ∃ x ∈ (helloReply s die h).hss,
    x.id = s.nextHs ∧ x.step = 2 ∧ x.hello = h ∧ freeKeyId s = some x.keyId ∧ helloEp s die h = some x.localEp ∧
      ∃ l b, Credentials x.id l ∧
        (helloReply s die h).sent = s.sent ++ l ++ [.reply x.id x.keyId (((keyOf s x.keyId).gen + 1) % 65536) x.localEp b] := by
  simp only [helloOk, Bool.and_eq_true] at hok
  obtain ⟨e, he⟩ := Option.isSome_iff_exists.1 hok.1.1.1.2
  obtain ⟨k, hk⟩ := Option.isSome_iff_exists.1 hok.1.1.2
  unfold helloReply
  rw [he, hk]
  extract_lets e' k' cred s1 gen head pc t x s2 s3
  have hs1 : s1.nextHs = s.nextHs ∧ s1.keys = s.keys ∧ s1.sent = s.sent := by
    unfold s1
    split
    · split <;> exact ⟨rfl, rfl, rfl⟩
    · exact ⟨rfl, rfl, rfl⟩
  obtain ⟨hnext, hkeys, hsent⟩ := hs1
  have hgen : gen = ((keyOf s k).gen + 1) % 65536 := by
    unfold gen
    rw [keyOf, hkeys]
    rfl
  obtain ⟨hhss2, hsent2⟩ := useAlias_keeps { s1 with hss := s1.hss ++ [x], nextHs := s1.nextHs + 1, free := s1.free + 4 }
  have hs3 : x ∈ s3.hss ∧ ∃ l, s3.sent = s.sent ++ l ∧ Credentials x.id l := by
    have hx : x ∈ s2.hss := by
      rw [show s2.hss = _ from hhss2]
      simp
    have hs2 : s2.sent = s.sent := hsent2.trans hsent
    unfold s3
    split
    · obtain ⟨l, hl, hcred⟩ := sendCreds_keeps s2 x.id h.kind
      rw [hl]
      exact ⟨hx, l, congrArg (· ++ l) hs2, hcred⟩
    · exact ⟨hx, [], by rw [hs2, List.append_nil], fun _ ho => absurd ho List.not_mem_nil⟩
  obtain ⟨hx, l, hl, hcred⟩ := hs3
  refine ⟨x, hx, hnext, rfl, rfl, rfl, rfl, l, head ++ aliasSig s (bytesOf t 32), hcred, ?_⟩
  change s3.sent ++ [.reply x.id k gen e _] = _
  rw [hl, hgen]
  rfl

/-- The module's own start of a session. -/
theorem helloStart_sends {die e : Nat} {h : HelloMsg} (he : helloEp s die h = some e) :
    (∃ x ∈ (helloStart s die h).hss, x.id = s.nextHs ∧ x.initiator = true ∧ x.step = 1 ∧ x.localEp = e) ∧
      ∃ l b, Credentials s.nextHs l ∧ (helloStart s die h).sent = s.sent ++ l ++ [.hello h.peerModule h.kind h.context e b] := by
  unfold helloStart
  rw [he]
  dsimp -zeta only
  extract_lets h1 x s1
  obtain ⟨l, hl, hcred⟩ := sendCreds_keeps { s with hss := s.hss ++ [x], nextHs := s.nextHs + 1, free := s.free + 3 } x.id h.kind
  have hs1 : s1 = _ := hl
  refine ⟨⟨x, ?_, rfl, rfl, rfl, rfl⟩, l, helloBytes h1, hcred, ?_⟩
  · change x ∈ s1.hss
    rw [hs1]
    simp
  · change s1.sent ++ _ = _
    rw [hs1]

/-! ### Installation and retirement -/

/-- The session's key is LIVE with what the handshake agreed; nothing is sent, and no handshake changes. -/
theorem installSession_installs (s : State) (x : Hs) (k gen hash dst : Nat) :
    ((keyOf (installSession s x k gen hash dst) k).st = 1 ∧ (keyOf (installSession s x k gen hash dst) k).kind = x.hello.kind ∧
      (keyOf (installSession s x k gen hash dst) k).gen = gen ∧ (keyOf (installSession s x k gen hash dst) k).ctx = x.hello.context ∧
      (keyOf (installSession s x k gen hash dst) k).peerHash = hash ∧ (keyOf (installSession s x k gen hash dst) k).dstEp = dst) ∧
    (installSession s x k gen hash dst).hss = s.hss ∧ (installSession s x k gen hash dst).sent = s.sent := by
  unfold installSession
  extract_lets h p key s1 s2
  have hs2 : keyOf s2 k = key ∧ s2.hss = s.hss ∧ s2.sent = s.sent := by
    have hkey : keyOf s1 k = key := tget_tset_same s.keys {} k key
    unfold s2
    split <;> exact ⟨hkey, rfl, rfl⟩
  have hinstall : ∀ t, keyOf t k = key ∧ t.hss = s.hss ∧ t.sent = s.sent →
      ((keyOf t k).st = 1 ∧ (keyOf t k).kind = x.hello.kind ∧ (keyOf t k).gen = gen ∧ (keyOf t k).ctx = x.hello.context ∧
        (keyOf t k).peerHash = hash ∧ (keyOf t k).dstEp = dst) ∧ t.hss = s.hss ∧ t.sent = s.sent := by
    rintro t ⟨hkey, hhss, hsent⟩
    rw [hkey]
    exact ⟨⟨rfl, rfl, rfl, rfl, rfl, rfl⟩, hhss, hsent⟩
  refine hinstall _ ?_
  clear_value s2
  split
  · cases hv : installKey s2 pMgmt 0 0 0 true (freshVal s2) with
    | none => exact hs2
    | some t =>
      obtain ⟨v, rfl⟩ := installKey_keeps hv
      exact hs2
  · exact hs2

theorem keyOf_clearPeerBit (s : State) (x : Key) (k : Nat) : keyOf (clearPeerBit s x) k = keyOf s k := by
  unfold clearPeerBit
  (repeat' split) <;> rfl

/-- A LIVE key that retires is in quarantine, and stays what it was otherwise. -/
theorem keyOf_retireKey {k : Nat} (h : (keyOf s k).st = 1) : keyOf (retireKey s k) k = { keyOf s k with st := 2, quar := true } := by
  unfold retireKey
  extract_lets x s1 s2
  rw [if_neg (by simpa using h), keyOf_clearPeerBit]
  exact tget_tset_same s2.keys {} k { x with st := 2, quar := true }

theorem keyOf_endSession {k : Nat} (h : (keyOf s k).st = 1) : (keyOf (endSession s k) k).st = 2 := by
  have hretire : (keyOf (retireKey s k) k).st = 2 := congrArg Key.st (keyOf_retireKey h)
  unfold endSession
  extract_lets s1 i
  split <;> exact hretire

theorem sessionFail_counted (s : State) : Counted s (sessionFail s) eSessionFails 0 := rdE_wrE_same ..

/-! ### The statement -/

/-- Settles O39: HELLO by `helloReply_answers` and `helloStart_sends`, keys by `installSession_installs` and `keyOf_endSession`. -/
theorem sessionsOpenAndClose : Obligations.SessionsOpenAndClose := by
  unfold Obligations.SessionsOpenAndClose
  refine ⟨?hello, ?start, ?fail, ?credential, ?finish, ?finishFails, ?reply, ?accept, ?close, ?timeout⟩
  case hello =>
    intro die h s hup hkind hside hrng hsecret hok hroom
    have hexec : exec (.hello die h) s = .next (helloReply s die h) :=
      (if_neg (by simp [hup]; exact hkind)).trans ((if_neg (by simp [hside])).trans ((if_neg (by simp [hrng])).trans
        ((if_neg (by simp [hsecret])).trans ((if_neg (by simp [hok])).trans (if_neg (by omega))))))
    exact ⟨_, hexec, helloReply_answers hok⟩
  case start =>
    intro die e h s hup hkind hmodule hinit halias hrng he
    have hexec : exec (.hello die h) s = .next (helloStart s die h) :=
      (if_neg (by simp [hup]; exact hkind)).trans ((if_pos (by simp [hmodule, hinit])).trans (congrArg _ (if_pos ⟨halias, hrng⟩)))
    exact ⟨_, hexec, helloStart_sends he⟩
  case fail =>
    intro die h s hup hkind hside hrng hbad
    have hexec : exec (.hello die h) s = .next (sessionFail s) := by
      refine (if_neg (by simp [hup]; exact hkind)).trans ((if_neg (by simp [hside])).trans ((if_neg (by simp [hrng])).trans ?_))
      by_cases hsecret : h.secretOk = false
      · exact if_pos hsecret
      · exact (if_neg hsecret).trans (if_pos (by simp [hbad.resolve_right hsecret]))
    exact ⟨_, hexec, rfl, sessionFail_counted s⟩
  case credential =>
    intro i part c x s hrun hfrozen hpart hx hgood
    obtain ⟨t, hexec, y, hy⟩ := execCredential_joins hrun hfrozen hpart hx hgood
    exact ⟨t, hexec, y, hy⟩
  case finish =>
    intro i pub x s hx hstep hinit hup hok
    have hexec : exec (.finish i true true pub) s = .next (freshNext (emit
        (installSession (dropHs s i) x x.keyId (((keyOf s x.keyId).gen + 1) % 65536) (peerHashOf x pub) x.hello.initEp)
        (.accept x.keyId (((keyOf s x.keyId).gen + 1) % 65536) stOk (acceptBytes stOk x.keyId (((keyOf s x.keyId).gen + 1) % 65536))))) := by
      simp [exec, execFinish, hx, hstep, hinit, hup, hok]
    obtain ⟨⟨hst, hkind, hgen, hctx, hhash, -⟩, hhss, hsent⟩ :=
      installSession_installs (dropHs s i) x x.keyId (((keyOf s x.keyId).gen + 1) % 65536) (peerHashOf x pub) x.hello.initEp
    generalize installSession (dropHs s i) x x.keyId (((keyOf s x.keyId).gen + 1) % 65536) (peerHashOf x pub) x.hello.initEp = u at *
    exact ⟨_, hexec, hst, hkind, hgen, hctx, hhash, (hsOf_congr hhss i).trans (hsOf_dropHs s i), congrArg (· ++ _) hsent⟩
  case finishFails =>
    intro i pub a b x s hx hstep hinit hup hok
    have hexec : exec (.finish i a b pub) s = .next (sessionFail (dropHs s i)) := by
      simp [exec, execFinish, hx, hstep, hinit, hup, hok]
    exact ⟨_, hexec, rfl, hsOf_dropHs s i, rfl, sessionFail_counted _⟩
  case reply =>
    intro i keyId keyGen dstEp x s hx hstep hinit hup halias hparts hcred hident hquota hlt hfree hquar
    have hexec : exec (.reply i keyId keyGen dstEp true true) s = .next (emit (useAlias (replied s x keyId keyGen dstEp))
        (.finish i keyId (ownFinish s (replyStep s x keyId keyGen dstEp)))) := by
      simp [exec, execReply, hx, hstep, hinit, hup, halias, hparts, hcred, hident, hquota, hlt, hfree, hquar, replied, replyStep]
    have hid : x.id = i := hsOf_id hx
    obtain ⟨hhss, hsent⟩ := useAlias_keeps (replied s x keyId keyGen dstEp)
    refine ⟨_, hexec, ⟨_, congrArg (· ++ _) hsent⟩, replyStep s x keyId keyGen dstEp, ?_, rfl, rfl, rfl, rfl⟩
    exact (hsOf_congr hhss i).trans (hsOf_setHs hx hid)
  case accept =>
    intro i x s hx hstep hinit hup hep hfree
    have hexec : exec (.accept i stOk true) s =
        .next (freshNext (installSession (dropHs s i) x x.keyId x.keyGen x.cred.identity x.peerEp)) := by
      simp [exec, execAccept, hx, hstep, hinit, hup, hep, hfree]
    obtain ⟨⟨hst, -, hgen, -, -, hdst⟩, hhss, -⟩ := installSession_installs (dropHs s i) x x.keyId x.keyGen x.cred.identity x.peerEp
    generalize installSession (dropHs s i) x x.keyId x.keyGen x.cred.identity x.peerEp = u at *
    exact ⟨_, hexec, hst, hgen, hdst, (hsOf_congr hhss i).trans (hsOf_dropHs s i)⟩
  case close =>
    intro k s hrun hfrozen hlive
    have hup : ¬ (!running s || s.pwr.frozen || (keyOf s k).st != 1) = true := by simp [hrun, hfrozen, hlive]
    exact ⟨⟨_, (if_neg hup).trans (if_neg (by decide)), keyOf_endSession hlive⟩,
      ⟨_, (if_neg hup).trans (if_pos rfl), rfl, rdE_wrE_same ..⟩⟩
  case timeout =>
    intro i x s hx hstep
    have hexec : exec (.handshakeTimeout i) s = .next (dropHs s i) := by
      simp [exec, execHandshakeTimeout, hx, hstep]
    exact ⟨_, hexec, hsOf_dropHs s i, rfl⟩

end Sys2Proof.Machine
end

section
/-! SUPPORT. The TAP, the debug unlock and the debug commands (R465, R584 to R591, R598), and O54. -/

namespace Sys2Proof.Machine
open Sys2Proof

variable {s : State}

/-! ### The debug unlock (R464, R465) -/

/-- An action that waits for the fences of every function. -/
theorem beginLc_begins (s : State) (act : Nat) (src : Option Src) : (beginLc s act src).lcWait = act ∧ (beginLc s act src).lcSrc = src ∧
    ∀ f, f < 64 → (fnSt s f).stage = 0 → rdE (beginLc s act src) eFnState f = fnFenced := by
  have hwait := Steady.Holds.fenceAll (I := .ofUnfenced (fun t => t.lcWait = act ∧ t.lcSrc = src) fun {s t} h he => by
    have hw : t.lcWait = s.lcWait := (congrArg State.lcWait he :)
    have hs : t.lcSrc = s.lcSrc := (congrArg State.lcSrc he :)
    rwa [hw, hs]) (stuck := []) (s := { s with lcWait := act, lcSrc := src }) (fun _ => trivial) (fun _ => trivial) ⟨rfl, rfl⟩
  exact ⟨hwait.1, hwait.2, fun f hf hidle => foldl_beginFence (List.mem_range.2 hf) (.inr hidle)⟩

/-- The challenge in force is the one returned; the debug port and what is sent stay. -/
theorem challengeNow_keeps (s : State) (now : Nat) : (challengeNow s now).2.boot.challenge = some (challengeNow s now).1 ∧
    (challengeNow s now).2.dbg = s.dbg ∧ (challengeNow s now).2.sent = s.sent := by
  unfold challengeNow
  cases h : s.boot.challenge with
  | none => exact ⟨rfl, rfl, rfl⟩
  | some c =>
    dsimp only
    split
    · exact ⟨h, rfl, rfl⟩
    · exact ⟨rfl, rfl, rfl⟩

theorem unlockRule_of_good {src : Option Src} {now pub : Nat} {ok : Bool} (hlc : effLc s = 2) (hwait : s.lcWait = 0)
    (hfails : rdE s eUnlockFails 0 < 3) (hok : unlockOk s now pub ok = true) : unlockRule src now pub ok s = (stOk, beginLc s 2 src) :=
  (if_neg (by simp [hlc, hwait])).trans (if_neg (by simp [hok, hfails]))

theorem unlockRule_of_bad {src : Option Src} {now pub : Nat} {ok : Bool} (hlc : effLc s = 2) (hwait : s.lcWait = 0)
    (hok : unlockOk s now pub ok = false) :
    unlockRule src now pub ok s = (stPolicy, wrE (bumpE s eUnlockFails 0) eLcStatus 0 stPolicy) :=
  (if_neg (by simp [hlc, hwait])).trans (if_pos (.inr hok))

/-! ### The TAP (R584, R586) -/

/-- The state with an instruction loaded: BYPASS where it is not permitted. -/
def irLoaded (s : State) (code : Nat) : State := { s with dbg := { s.dbg with ir := if irPermitted s code then code else 0xFF } }

theorem execTapInstructionLoad_of_challenge {code : Nat} (now : Nat) (hup : pinsUp s = true)
    (h : (irLoaded s code).dbg.ir = 0x11 ∧ s.pwr.frozen = false) : exec (.tapInstructionLoad code now) s =
      .next (emit (challengeNow (irLoaded s code) now).2 (.tap (challengeNow (irLoaded s code) now).1)) :=
  (if_neg (by simp [hup])).trans (if_pos h)

theorem execTapInstructionLoad_of_other {code : Nat} (now : Nat) (hup : pinsUp s = true)
    (h : ¬ ((irLoaded s code).dbg.ir = 0x11 ∧ s.pwr.frozen = false)) : exec (.tapInstructionLoad code now) s =
      .next (emit (freshNext (irLoaded s code)) (.tap (tapData (irLoaded s code)))) :=
  (if_neg (by simp [hup])).trans (if_neg h)

/-! ### Debug commands (R587 to R591) -/

/-- A command that its own check accepts takes its effect. -/
theorem dbgRun_of_accepted {w : DbgWord} {reads : Bool} {check : Option Nat} {eff : State → State} (hacc : DbgAccepted s w)
    (hreads : w.freeze = false ∨ reads = true) (hcheck : check = none) : dbgRun s w reads check eff = .next (eff s) := by
  obtain ⟨hissued, hok⟩ := hacc
  have hread : ¬ (w.freeze = true ∧ reads = false) := by
    rintro ⟨hf, hr⟩
    rcases hreads with h | h
    · rw [h] at hf
      cases hf
    · rw [h] at hr
      cases hr
  simp only [dbgRun, hissued, hok, hcheck, hread, Bool.not_true, Bool.false_eq_true, if_false]

/-- A command that its own check refuses ends with the status. -/
theorem dbgRun_of_refused {w : DbgWord} {reads : Bool} {st : Nat} {eff : State → State} (hacc : DbgAccepted s w)
    (hreads : w.freeze = false) : dbgRun s w reads (some st) eff = .next (dbgDone s st 0) := by
  obtain ⟨hissued, hok⟩ := hacc
  simp [dbgRun, hissued, hok, hreads]

/-- A command whose fields are in error ends with the status of the error. -/
theorem dbgRun_of_bad {w : DbgWord} {check : Option Nat} {st : Nat} {eff : State → State} (hissued : dbgIssued s w = true)
    (hbad : dbgCheck w = some st) : dbgRun s w true check eff = .next (dbgDone s st 0) := by
  simp [dbgRun, hissued, hbad]

theorem haltable_of_lt {w : DbgWord} (h : w.target < 264) : haltable w = none := if_pos h

theorem bpSlotOk_of_slot {w : DbgWord} (h : w.target < 256 ∧ w.slot < 4 ∨ 256 ≤ w.target ∧ w.target < 264 ∧ w.slot < 12) : bpSlotOk w = none := by
  rcases h with ⟨ht, hs⟩ | ⟨hlo, hhi, hs⟩
  · exact (if_pos ht).trans (if_pos hs)
  · exact (if_neg (Nat.not_lt.2 hlo)).trans ((if_pos hhi).trans (if_pos hs))

/-- What STATUS shows of a unit: whether it is halted, and of a sequencer whether it holds a descriptor and the steps it has taken. -/
theorem dbgStatusWord_fields (s : State) (u : Nat) : (dbgStatusWord s u % 2 ^ 32 % 2 = 1 ↔ u ∈ s.dbg.halted) ∧
    (u < 256 → (dbgStatusWord s u % 2 ^ 32 / 2 % 2 = 1 ↔ (heldDesc s u).isSome = true) ∧
      dbgStatusWord s u % 2 ^ 32 / 2 ^ 16 = tget s.dbg.steps 0 u % 2 ^ 16) := by
  have hop : ∀ d : Desc, dOp d < 256 := fun d => Nat.mod_lt _ (by decide)
  unfold dbgStatusWord
  extract_lets h
  have hbit : h = 0 ∧ u ∉ s.dbg.halted ∨ h = 1 ∧ u ∈ s.dbg.halted := by
    unfold h
    by_cases hin : u ∈ s.dbg.halted <;> simp [hin, b2n]
  clear_value h
  split
  next hcore =>
    generalize freshVal s = x
    refine ⟨?_, fun hlt => absurd hlt (Nat.not_lt.2 hcore)⟩
    rcases hbit with ⟨rfl, hin⟩ | ⟨rfl, hin⟩ <;> simp only [hin, iff_true, iff_false] <;> omega
  next =>
    generalize tget s.dbg.steps 0 u = x
    cases heldDesc s u with
    | none =>
      simp only [Option.isSome_none, Bool.false_eq_true, iff_false]
      rcases hbit with ⟨rfl, hin⟩ | ⟨rfl, hin⟩ <;> simp only [hin, iff_true, iff_false] <;> omega
    | some d =>
      dsimp only
      have hd := hop d
      generalize dOp d = o at hd ⊢
      simp only [Option.isSome_some, iff_true]
      rcases hbit with ⟨rfl, hin⟩ | ⟨rfl, hin⟩ <;> simp only [hin, iff_true, iff_false] <;> omega

theorem setBp_bps (s : State) (w : DbgWord) (v : Nat) :
    tget (setBp s w v).dbg.bps 0 (w.target * 16 + w.slot) = v ∧
      ∀ k, k ≠ w.target * 16 + w.slot → tget (setBp s w v).dbg.bps 0 k = tget s.dbg.bps 0 k :=
  ⟨tget_tset_same s.dbg.bps 0 _ v, fun _ hk => tget_tset_ne s.dbg.bps 0 v hk.symm⟩

theorem setHalt_steps (s : State) (l : List Nat) (u n : Nat) : tget (setHalt s l u n).dbg.steps 0 u = n := tget_tset_same s.dbg.steps 0 u n

/-! ### The statement -/

/-- Settles O54: the unlock by `beginLc_begins`, the debug commands by `dbgRun_of_accepted` and what each does. -/
theorem debugPortActs : Obligations.DebugPortActs := by
  unfold Obligations.DebugPortActs
  refine ⟨?tap, ?load, ?unlock, ?fails, ?bad, ?nop, ?readLoft, ?readCore, ?writeLoft, ?halt, ?resume, ?step, ?noStep, ?status, ?breakpoint⟩
  case tap => exact fun s hup => ⟨_, if_pos hup, rfl, rfl, rfl, rfl⟩
  case load =>
    intro code now s hup
    by_cases h : (irLoaded s code).dbg.ir = 0x11 ∧ s.pwr.frozen = false
    · obtain ⟨hchallenge, hdbg, hsent⟩ := challengeNow_keeps (irLoaded s code) now
      have hir := h.1
      have hperm : irPermitted s code = true ∧ code = 0x11 := by
        by_cases hp : irPermitted s code = true
        · exact ⟨hp, (if_pos hp).symm.trans hir⟩
        · exact absurd ((if_neg hp).symm.trans hir) (by decide)
      refine ⟨_, execTapInstructionLoad_of_challenge now hup h, congrArg Dbg.ir hdbg, ?_, ?_, fun _ _ _ => ⟨_, hchallenge, ?_⟩⟩
      · rintro rfl
        exact absurd hperm.2 (by decide)
      · intro hno
        rw [hperm.1] at hno
        cases hno
      · exact List.mem_append_right _ (List.mem_singleton_self _)
    · refine ⟨_, execTapInstructionLoad_of_other now hup h, rfl, ?_, ?_, ?_⟩
      · rintro rfl
        rfl
      · intro hno
        have hir : (irLoaded s code).dbg.ir = 0xFF := if_neg (by simp [hno])
        have hdata : tapData (irLoaded s code) = 0 := by simp [tapData, hir]
        rw [hdata]
        rfl
      · rintro rfl hp hfrozen
        exact absurd ⟨if_pos hp, hfrozen⟩ h
  case unlock =>
    intro now pub s hup hir hlc hwait hfails hok
    have hrule := unlockRule_of_good (src := none) hlc hwait hfails hok
    have hexec : execUnlockResponse now pub true s = .next (beginLc s 2 none) :=
      (if_pos ⟨hup, hir⟩).trans (by rw [hrule])
    exact ⟨_, hexec, beginLc_begins s 2 none⟩
  case fails =>
    intro now pub ok s hup hir hlc hwait hok
    have hrule := unlockRule_of_bad (src := none) hlc hwait hok
    have hstatus := rdE_wrE_same (bumpE s eUnlockFails 0) eLcStatus 0 stPolicy
    have hexec : execUnlockResponse now pub ok s = .next (wrE (bumpE s eUnlockFails 0) eLcStatus 0 stPolicy) :=
      (if_pos ⟨hup, hir⟩).trans (congrArg _ (congrArg Prod.snd hrule))
    refine ⟨_, hexec, ?_, hstatus, rfl⟩
    have hkey : entKey eLcStatus 0 0 ≠ entKey eUnlockFails 0 0 := by decide
    exact (rdE_wrE_ne (bumpE s eUnlockFails 0) stPolicy hkey).trans (rdE_wrE_same s eUnlockFails 0 _)
  case bad =>
    intro w st s hissued hbad
    exact ⟨dbgRun_of_bad (check := dbgAccess s w) (eff := fun s => dbgDone (freshNext s) stOk (dbgWordAt s w)) hissued hbad,
      dbgRun_of_bad (check := haltable w) (eff := fun s => dbgDone (freshNext s) stOk (dbgStatusWord s w.target)) hissued hbad⟩
  case nop =>
    intro w s hacc hf
    have hexec : execDbgNop w s = .next (dbgDone s stOk 0) :=
      dbgRun_of_accepted hacc (.inl hf) rfl
    exact ⟨_, hexec, rfl, rfl, rfl, rfl⟩
  case readLoft =>
    intro w s hacc hcheck hspace hon
    have hword : dbgWordAt s w = mrd (loftOf s (w.target / 32)) w.addr 4 := by
      simp [dbgWordAt, hspace, hon]
    have hexec : execDbgRead32 w s = .next (dbgDone (freshNext s) stOk (dbgWordAt s w)) :=
      dbgRun_of_accepted hacc (.inr rfl) hcheck
    refine ⟨_, hexec, ?_, rfl, ?_, rfl⟩
    · exact congrArg (· % 2 ^ 32) hword
    · rw [hword]
      rfl
  case readCore =>
    intro w s hacc hcheck hspace hon ht
    have hword : dbgWordAt s w = mrd s.dbg.coreMem (w.target * 2 ^ 48 + w.addr) 4 := by
      have hopen : dbgSecret w = false := decide_eq_false (Nat.not_le.2 ht)
      simp [dbgWordAt, hspace, hon, hopen]
    have hexec : execDbgRead32 w s = .next (dbgDone (freshNext s) stOk (dbgWordAt s w)) :=
      dbgRun_of_accepted hacc (.inr rfl) hcheck
    refine ⟨_, hexec, ?_, rfl, ?_, rfl⟩
    · exact congrArg (· % 2 ^ 32) hword
    · rw [hword]
      rfl
  case writeLoft =>
    intro w s hacc hf hcheck hspace
    have hstore : dbgStore s w = setLoft s (w.target / 32) (mwr (loftOf s (w.target / 32)) w.addr 4 w.data) := by
      simp [dbgStore, hspace]
    have hexec : execDbgWrite32 w s = .next (dbgDone (dbgStore s w) stOk 0) :=
      dbgRun_of_accepted hacc (.inl hf) hcheck
    refine ⟨_, hexec, rfl, rfl, ?_⟩
    rw [hstore]
    refine ⟨rfl, ?_, fun a ha => ?_, fun d hd => ?_⟩
    · exact (congrArg (mrd · w.addr 4) (loftOf_setLoft ..)).trans (mrd_mwr_same ..)
    · exact (congrArg (mget · a) (loftOf_setLoft ..)).trans (mget_mwr_outside _ _ _ _ _ ha)
    · exact tget_tset_ne _ _ _ hd.symm
  case halt =>
    intro w s hacc hf ht
    have hexec : execDbgHalt w s = .next (dbgDone (if s.dbg.halted.contains w.target then s else setHalt s (s.dbg.halted ++ [w.target]) w.target 0) stOk 0) :=
      dbgRun_of_accepted hacc (.inl hf) (haltable_of_lt ht)
    refine ⟨_, hexec, rfl, rfl, ?_⟩
    by_cases hin : s.dbg.halted.contains w.target
    · rw [if_pos hin]
      have hmem := List.contains_iff_mem.1 hin
      exact ⟨rfl, fun u => ⟨.inl, fun h => h.elim id fun h => h ▸ hmem⟩, fun hno => absurd hmem hno⟩
    · rw [if_neg hin]
      exact ⟨rfl, fun u => by simp [dbgDone, setHalt, emit], fun _ => setHalt_steps s (s.dbg.halted ++ [w.target]) w.target 0⟩
  case resume =>
    intro w s hacc hf ht
    have hexec : execDbgResume w s = .next (dbgDone (setHalt s (s.dbg.halted.filter (· != w.target)) w.target 0) stOk 0) :=
      dbgRun_of_accepted hacc (.inl hf) (haltable_of_lt ht)
    exact ⟨_, hexec, rfl, rfl, rfl, fun u => by simp [dbgDone, setHalt, emit]⟩
  case step =>
    intro w d s hacc hf ht hslot hin hheld
    have hcheck : (if w.slot = 0 then some stParam else haltable w) = none := (if_neg hslot).trans (haltable_of_lt ht)
    have hexec : execDbgStep w s = .next (dbgDone (if s.dbg.halted.contains w.target ∧ (heldDesc s w.target).isSome then
        setHalt s s.dbg.halted w.target (satAdd 65535 (tget s.dbg.steps 0 w.target) (w.slot % 256)) else s) stOk 0) :=
      dbgRun_of_accepted hacc (.inl hf) hcheck
    refine ⟨_, hexec, rfl, rfl, ?_⟩
    rw [if_pos ⟨List.contains_iff_mem.2 hin, by rw [hheld]; rfl⟩]
    exact ⟨rfl, setHalt_steps s s.dbg.halted w.target _, rfl⟩
  case noStep =>
    intro w s hacc hf hslot
    simp only [exec, execDbgStep, if_pos hslot]
    exact dbgRun_of_refused hacc hf
  case status =>
    intro w s hacc ht
    obtain ⟨hhalted, hunit⟩ := dbgStatusWord_fields s w.target
    have hexec : execDbgStatus w s = .next (dbgDone (freshNext s) stOk (dbgStatusWord s w.target)) :=
      dbgRun_of_accepted hacc (.inr rfl) (haltable_of_lt ht)
    exact ⟨_, hexec, rfl, hhalted, hunit⟩
  case breakpoint =>
    intro w s hacc hf hslot
    have hset : execDbgSetBp w s = .next (dbgDone (setBp s w (bpValue w)) stOk 0) :=
      dbgRun_of_accepted hacc (.inl hf) (bpSlotOk_of_slot hslot)
    have hclear : execDbgClearBp w s = .next (dbgDone (setBp s w 0) stOk 0) :=
      dbgRun_of_accepted hacc (.inl hf) (bpSlotOk_of_slot hslot)
    have hvalue : bpValue w = 2 ^ 48 + (if w.target < 256 then w.data % 2 ^ 32 else w.addr) := by
      unfold bpValue
      split <;> rfl
    exact ⟨⟨_, hset, rfl, rfl, rfl, (setBp_bps s w _).1.trans hvalue, (setBp_bps s w _).2⟩,
      ⟨_, hclear, rfl, rfl, rfl, setBp_bps s w 0⟩⟩

end Sys2Proof.Machine
end

section
/-! SUPPORT. The PCIe endpoint: link power, TDISP, IDE, SPDM, timeouts and snapshots (R445, R452, R526, R534 to R538, R544), and O53. -/

namespace Sys2Proof.Machine
open Sys2Proof

variable {s : State}

/-! ### Completions that fail (R534) -/

theorem junkDest_keeps (s : State) (d : Desc) : (junkDest s d).descs = s.descs ∧ (junkDest s d).od = s.od := by
  have hmem : ∀ (t : State) (die : Nat) (loft : Bool) (m : Mem), (setOpMem t d die loft m).descs = t.descs ∧ (setOpMem t d die loft m).od = t.od := by
    intro t die loft m
    unfold setOpMem
    split <;> exact ⟨rfl, rfl⟩
  unfold junkDest
  extract_lets s1
  have hdescs : s1.descs = s.descs := foldl_keeps State.descs (fun t r => by exact (hmem t ..).1) (destOf s d)
  have hod : s1.od = s.od := foldl_keeps State.od (fun t r => by exact (hmem t ..).2) (destOf s d)
  constructor
  · refine (foldl_keeps State.descs (fun t row => ?_) _).trans hdescs
    split <;> rfl
  · refine (foldl_keeps State.od (fun t row => ?_) _).trans hod
    split <;> rfl

/-- A descriptor other than a transport ends with its completion, its destination junk where it had begun. -/
theorem endDesc_completes {d : Desc} (st : Nat) (h : isTransport (dOp d) = false) :
    ∃ n u, endDesc s d st = completeDesc u d st n ∧ u.descs = s.descs ∧ u.od = s.od := by
  have hopen : ¬ isTransport (dOp d) = true := ne_true_of_eq_false h
  by_cases hstarted : d.started.isEmpty = false
  · exact ⟨_, _, (if_neg hopen).trans (if_pos hstarted), junkDest_keeps (freshNext s) d⟩
  · exact ⟨_, freshNext s, (if_neg hopen).trans (if_neg hstarted), rfl, rfl⟩

theorem queueError_stops (s : State) (f q st : Nat) : cq (queueError s f q st) f q = { cq s f q with fetchErr := true } ∧
    (queueError s f q st).descs = s.descs :=
  ⟨by simp [queueError], by simp [queueError, setCq]⟩

/-! ### TDISP (R538) -/

/-- One function's interface is in ERROR; a fence of any function leaves it so. -/
def tdispFailed (f : Nat) : FenceSteady where
  toSteady := .ofOuter (fun s => tdispSt s f = 3) fun {s t} h he => by
    have hpcie : t.pcie.tdisp = s.pcie.tdisp := (congrArg (fun x : State => x.pcie.tdisp) he :)
    exact (congrArg (fun l => tget l 0 f) hpcie).trans h
  row _ := True
  own _ := True
  handed {s t} h he := by
    have hpcie : t.pcie.tdisp = s.pcie.tdisp := (congrArg (fun x : State => x.pcie.tdisp) he :)
    exact (congrArg (fun l => tget l 0 f) hpcie).trans h
  setFn _ h := h
  mark {s g cause} _ h := by
    change tget (if tget s.pcie.tdisp 0 g = 0 then s.pcie.tdisp else tput s.pcie.tdisp g 3) 0 f = 3
    split
    · exact h
    · rw [tget_tput]
      split
      · rfl
      · exact h
  tgen h := h
  active h := h
  ctxs _ _ := trivial
  ends _ := trivial
  noLoft := trivial

/-- A fence of a function whose interface is locked. -/
theorem beginFence_of_locked {f cause : Nat} {stuck : List Nat} (hidle : (fnSt s f).stage = 0) (h : tdispSt s f = 1 ∨ tdispSt s f = 2) :
    tdispSt (beginFence s f cause stuck) f = 3 ∧ rdE (beginFence s f cause stuck) eFnState f = fnFenced := by
  have hmark : (tdispFailed f).Holds (fenceMark s f cause) := by
    change tget (if tget s.pcie.tdisp 0 f = 0 then s.pcie.tdisp else tput s.pcie.tdisp f 3) 0 f = 3
    have hlocked : tget s.pcie.tdisp 0 f ≠ 0 := by
      intro h0
      rcases h with h | h <;> exact absurd (h0.symm.trans h) (by decide)
    rw [if_neg hlocked, tget_tput, if_pos rfl]
  exact ⟨beginFence_holds (I := tdispFailed f) hidle trivial hmark, (beginFence_record hidle).1⟩

theorem tdispSt_setTdisp (s : State) (f v : Nat) : tdispSt (setTdisp s f v) f = v ∧ ∀ g, g ≠ f → tdispSt (setTdisp s f v) g = tdispSt s g :=
  ⟨tget_tset_same s.pcie.tdisp 0 f v, fun _ hg => tget_tset_ne s.pcie.tdisp 0 v hg.symm⟩

/-! ### IDE and SPDM (R445, R452, R536, R537) -/

theorem nextIdeSlot_pending {f i : Nat} (h : nextIdeSlot s f = some i) :
    (vslot s i).st = 1 ∧ (vslot s i).purpose = pIde ∧ (vslot s i).moduleOwned = false ∧ (vslot s i).owner = f := by
  simpa [and_assoc] using List.find?_some h

theorem afterActivation_of_replaced {v w : VSlot} (h : replacedBy v w = true) : afterActivation v w = { w with st := 3 } := if_pos h

/-- A signature before the last leaf (`useAlias`). -/
theorem useAlias_of_left (h : s.boot.aliasLeaf < 1023) : (useAlias s).sent = s.sent ∧ (useAlias s).boot.aliasLeaf = s.boot.aliasLeaf + 1 ∧
    (s.boot.aliasLeaf ≤ s.mram.aliasMark → (useAlias s).boot.aliasLeaf ≤ (useAlias s).mram.aliasMark) := by
  have hstay : useAlias s = { s with
      mram := { s.mram with aliasMark := if s.boot.aliasLeaf = s.mram.aliasMark then s.boot.aliasLeaf + 256 else s.mram.aliasMark }
      boot := { s.boot with aliasLeaf := s.boot.aliasLeaf + 1 } } :=
    nextAlias_of_left (Nat.add_lt_add_right h 1)
  rw [hstay]
  refine ⟨rfl, rfl, fun hmark => ?_⟩
  change s.boot.aliasLeaf + 1 ≤ if s.boot.aliasLeaf = s.mram.aliasMark then s.boot.aliasLeaf + 256 else s.mram.aliasMark
  split <;> omega

/-! ### Snapshots (R544) -/

theorem tget_tset_other {t : Tbl Nat} {d d' k j v : Nat} (h : k ≠ j) : tget (tset t d k v) d' j = tget t d' j := by
  unfold tset
  split
  · rw [tget_terase, if_neg h]
  · rw [tget_tput, if_neg h]

/-- A stored counter in the holding copy. -/
theorem tget_countersNow {k : Nat} (d : Nat) (hcounter : isCounterKey k = true) (hresets : k ≠ entKey eModuleResets 0 0)
    (hfailures : k ≠ entKey eRngFailuresCopy 0 0) : tget (countersNow s) d k = tget s.od d k := by
  unfold countersNow
  rw [tget_tset_other hfailures.symm, tget_tset_other hresets.symm, tget_filter_keys, if_pos hcounter]

theorem snapTake_counted (s : State) : Counted s (snapTake s) eSnapSeq 0 := rdE_wrE_same ..

/-! ### The statement -/

/-- Settles O53: interfaces by `beginFence_of_locked`, timeouts by `endDesc_completes`, a refreshed key by `vslot_activateSlot_ne`,
a snapshot by `tget_countersNow`. -/
theorem pcieEndpointActs : Obligations.PcieEndpointActs := by
  unfold Obligations.PcieEndpointActs
  refine ⟨?width, ?aspm, ?timeout, ?ring, ?lock, ?noLock, ?start, ?noStart, ?stopDone, ?stop, ?error, ?report, ?misrouted, ?routed, ?setGo,
    ?spdmBad, ?spdm, ?spdmSigned, ?snap, ?snapOd⟩
  case width => exact fun s hlive hl1 hw => if_pos ⟨hlive, hl1, hw⟩
  case aspm => exact fun s hlive => if_pos hlive
  case timeout =>
    intro i d s hd hphase hstall htrans
    obtain ⟨n, u, hend, hdescs, hod⟩ := endDesc_completes (s := s) stTimeout htrans
    have hexec : exec (.pcieCompletionTimeout (.desc i)) s = .next (endDesc s d stTimeout) := by
      simp only [exec, execPcieCompletionTimeout, hd]
      exact if_pos ⟨hphase, hstall⟩
    exact ⟨n, u, hexec.trans (congrArg _ hend), hdescs, hod⟩
  case ring =>
    intro f q s hq hen herr hhead hspace hup hopen
    obtain ⟨hcq, hdescs⟩ := queueError_stops s f q stTimeout
    exact ⟨_, if_pos ⟨hq, hen, herr, hhead, hspace, hup, hopen⟩, hcq, hdescs⟩
  case lock =>
    intro f s hup hst hopen
    exact ⟨setTdisp s f 1, (if_neg (by simp [hup])).trans (if_pos ⟨hst, hopen⟩), rfl, tdispSt_setTdisp s f 1⟩
  case noLock =>
    intro f s hup hbad
    exact (if_neg (by simp [hup])).trans (if_neg fun h => hbad.elim (absurd h.1) fun hb => absurd (hb.symm.trans h.2) (by decide))
  case start =>
    intro f s hup hst
    exact ⟨setTdisp s f 2, (if_neg (by simp [hup])).trans (if_pos hst), rfl, tdispSt_setTdisp s f 2⟩
  case noStart => exact fun f s hup hst => (if_neg (by simp [hup])).trans (if_neg hst)
  case stopDone =>
    intro f s hup hdone
    exact ⟨setTdisp s f 0, (if_neg (by simp [hup])).trans (if_pos hdone), rfl, (tdispSt_setTdisp s f 0).1⟩
  case stop =>
    intro f s hup hdone hlocked hidle
    exact ⟨beginFence s f 3 [], (if_neg (by simp [hup])).trans ((if_neg (by simp [hdone])).trans (if_pos hlocked)), beginFence_of_locked hidle hlocked⟩
  case error =>
    intro f r s hup hlocked hidle
    obtain ⟨htdisp, hst⟩ := beginFence_of_locked (cause := 3) (stuck := []) hidle hlocked
    have hexec : execTdispError f r s = .next (if r then emit (beginFence s f 3 []) (.regData 0) else beginFence s f 3 []) :=
      if_pos ⟨hup, hlocked⟩
    generalize beginFence s f 3 [] = u at *
    cases r with
    | true => exact ⟨_, hexec, htdisp, hst, fun _ => List.mem_append_right _ (List.mem_singleton_self _)⟩
    | false => exact ⟨_, hexec, htdisp, hst, fun h => Bool.noConfusion h⟩
  case report => exact fun f s hup => if_pos hup
  case misrouted =>
    intro k f s hup hne
    exact ⟨bumpE s eIdeMisrouted 0, if_pos ⟨hup, hne⟩, rdE_wrE_same ..⟩
  case routed => exact fun k f s hf => if_neg fun h => h.2 hf
  case setGo =>
    intro k f i s hup hfrozen hf hi
    obtain ⟨hst, hpurpose, hmod, howner⟩ := nextIdeSlot_pending hi
    have hexec : exec (.kSetGo k) s = .next (activateSlot s i) := by
      simp [exec, execKSetGo, hup, hfrozen, hf, hi]
    refine ⟨_, hexec, rfl, vslot_activateSlot_same i, fun j hj hst2 hp ho hm hport hrights => ?_⟩
    have hreplaced : replacedBy (vslot s i) (vslot s j) = true := by
      simp only [replacedBy, hst2, hp, ho, hm, hport, hrights, hpurpose, hmod, howner]
      simp [pIde, pMgmt]
    rw [vslot_activateSlot_ne hj, afterActivation_of_replaced hreplaced]
  case spdmBad =>
    intro code offered s hlive hbad
    exact (if_neg (by simpa [linkLive] using hlive)).trans (if_pos hbad)
  case spdm =>
    intro code s hlive hsigned
    exact (if_neg (by simpa [linkLive] using hlive)).trans ((if_neg (by simp [hsigned])).trans (by rw [hsigned]; rfl))
  case spdmSigned =>
    intro code s hlive hsigned halias hleft
    have hexec : execSpdmRequest code true s = .next (useAlias (emit s (.spdm code true (spdmData s code)))) :=
      (if_neg (by simpa [linkLive] using hlive)).trans ((if_neg (by simp [halias])).trans (by rw [hsigned]; rfl))
    exact ⟨_, hexec, useAlias_of_left (s := emit s (.spdm code true (spdmData s code))) hleft⟩
  case snap =>
    intro s hup
    exact ⟨snapTake s, if_pos hup, snapTake_counted s, fun e n hc hr hf => tget_countersNow _ hc hr hf⟩
  case snapOd =>
    intro src s hacc
    exact ⟨snapTake s, odCmd_of_accepted hacc rfl, snapTake_counted s, rfl⟩

end Sys2Proof.Machine
end

section
/-! SUPPORT. Supplies, clocks, temperature, the freeze and the panel (R559, R567 to R583, R593, R594), and O52. -/

namespace Sys2Proof.Machine
open Sys2Proof

variable {s : State}

/-! ### Logic at reset -/

theorem logicLost_coldState (s : State) : LogicLost s (coldState s) :=
  ⟨rfl, rfl, rfl, rfl, rfl, rfl, rfl, rfl, rfl, rfl, rfl, rfl⟩

/-- The aborts of a reset leave the fuses. -/
theorem fuses_resetAborts (s : State) : (resetAborts s).fuses = s.fuses :=
  Steady.Holds.foldl (I := .ofOuter (·.fuses = s.fuses) fun h he => (congrArg State.fuses he :).trans h) rfl
    fun _ _ h => .jobAbort trivial h

/-! ### Temperature (R567) -/

theorem mem_diesAt {temps : List Nat} {t d : Nat} : d ∈ diesAt temps t ↔ Reads temps d t := by
  simp [diesAt, Reads]

theorem alertAfter_of_hot {old : Bool} {temps : List Nat} {d : Nat} (h : Reads temps d 100) : alertAfter old temps = true := by
  have hne : diesAt temps 100 ≠ [] := List.ne_nil_of_mem (mem_diesAt.2 h)
  simp [alertAfter, hne]

theorem alertAfter_of_cool {old : Bool} {temps : List Nat} (h : ∀ d, ¬ Reads temps d 95) : alertAfter old temps = false := by
  have h95 : diesAt temps 95 = [] := List.eq_nil_iff_forall_not_mem.2 fun d hd => h d (mem_diesAt.1 hd)
  have h100 : diesAt temps 100 = [] := List.eq_nil_iff_forall_not_mem.2 fun d hd => by
    obtain ⟨hlt, hread⟩ := mem_diesAt.1 hd
    exact h d ⟨hlt, by omega⟩
  simp [alertAfter, h95, h100]

/-- A record that is written where c holds. -/
theorem writeFaultIf_keeps (s : State) (r : FaultRec) (c : Prop) [Decidable c] : (if c then writeFault s r else s).pwr = s.pwr ∧
    (if c then writeFault s r else s).fuses = s.fuses ∧ rdE (if c then writeFault s r else s) eThermTrips 0 = rdE s eThermTrips 0 ∧
    (if c then writeFault s r else s).faultSeq = s.faultSeq + if c then 1 else 0 := by
  split
  · exact ⟨by simp, by simp, rdE_writeFault s r (by decide) (by decide), writeFault_faultSeq s r⟩
  · exact ⟨rfl, rfl, rfl, rfl⟩

/-- The state with a sample taken, before a trip. -/
def sampled (s : State) (temps : List Nat) : State :=
  let a := alertAfter s.pwr.thermAlert temps
  let s1 := { s with pwr := { s.pwr with temps := temps, thermAlert := a, hot := diesAt temps 115 } }
  if a ∧ s.pwr.thermAlert = false then writeFault s1 (plainFault ftThermal 0 0 noUnit ((diesAt temps 100).headD 0)) else s1

theorem sampled_keeps (s : State) (temps : List Nat) :
    (sampled s temps).pwr = { s.pwr with temps := temps, thermAlert := alertAfter s.pwr.thermAlert temps, hot := diesAt temps 115 } ∧
    (sampled s temps).fuses = s.fuses ∧ rdE (sampled s temps) eThermTrips 0 = rdE s eThermTrips 0 ∧
    (sampled s temps).faultSeq = s.faultSeq + (if alertAfter s.pwr.thermAlert temps = true ∧ s.pwr.thermAlert = false then 1 else 0) :=
  writeFaultIf_keeps { s with pwr := { s.pwr with temps := temps, thermAlert := alertAfter s.pwr.thermAlert temps, hot := diesAt temps 115 } }
    (plainFault ftThermal 0 0 noUnit ((diesAt temps 100).headD 0)) (alertAfter s.pwr.thermAlert temps = true ∧ s.pwr.thermAlert = false)

theorem execThermalSample_of_live {temps : List Nat} (hlen : temps.length = 9) (hfrozen : s.pwr.frozen = false)
    (hreset : s.pwr.inReset = false) (hv : s.pwr.v48 = true) : exec (.thermalSample temps) s =
      match (diesAt temps 115).find? s.pwr.hot.contains with
      | some d => .next (thermalTrip (sampled s temps) d)
      | none => .next (sampled s temps) :=
  if_neg (by simp [hlen, hfrozen, hreset, hv])

/-- A thermal trip holds the module in reset; its count lives through that reset. -/
theorem thermalTrip_resets (s : State) (d : Nat) : (thermalTrip s d).pwr.tripped = true ∧ (thermalTrip s d).pwr.inReset = true ∧
    (thermalTrip s d).boot.st = 0 ∧ (thermalTrip s d).vm = [] ∧ (thermalTrip s d).keys = [] ∧ Counted s (thermalTrip s d) eThermTrips 0 ∧
    (thermalTrip s d).fuses = s.fuses := by
  have hfault : (writeFault s (plainFault ftThermal 0 3 noUnit d)).fuses = s.fuses := by simp
  have hfuses := (fuses_resetAborts (writeFault s (plainFault ftThermal 0 3 noUnit d))).trans hfault
  exact ⟨rfl, rfl, rfl, rfl, rfl, rdE_wrE_same .., hfuses⟩

/-! ### The statement -/

/-- Settles O52: the resets by `logicLost_coldState` and `thermalTrip_resets`, a sample by `sampled_keeps`. -/
theorem suppliesAndPanel : Obligations.SuppliesAndPanel := by
  unfold Obligations.SuppliesAndPanel
  refine ⟨?power, ?resetN, ?noAux, ?good, fun _ => rfl, fun _ => rfl, fun _ => rfl, fun _ => ⟨_, rfl, rfl, rfl⟩, ?trim, ?sample, ?trip, ?recovery,
    ?comparator, ?noComparator, ?freeze, ?noFreeze, ?press, ?leds, ?locate⟩
  case power =>
    intro s
    obtain ⟨hreset, hfuses, hmram, hhost, hpending, hod, hkeys, hvault, hvm, hloft, htiles, hboot⟩ := logicLost_coldState s
    exact ⟨_, rfl, ⟨hreset, hfuses, hmram, hhost, hpending, hod, hkeys, hvault, hvm, hloft, htiles, hboot⟩, rfl, rfl, rfl, rfl⟩
  case resetN => exact fun s haux => ⟨coldState s, if_pos haux, logicLost_coldState s, rfl, rfl⟩
  case noAux =>
    intro s haux
    have hoff : ¬ s.pwr.aux = true := ne_true_of_eq_false haux
    exact ⟨if_neg hoff, if_neg hoff, if_neg hoff⟩
  case good => exact fun s haux => if_pos haux
  case trim => exact fun s href hfrozen => if_pos ⟨href, hfrozen⟩
  case sample =>
    intro temps s hlen hfrozen hreset hv hcool
    obtain ⟨hpwr, -, -, hseq⟩ := sampled_keeps s temps
    have hnone : (diesAt temps 115).find? s.pwr.hot.contains = none := List.find?_eq_none.2 fun d hd hin =>
      hcool d (List.contains_iff_mem.1 hin) (mem_diesAt.1 hd)
    have hexec := execThermalSample_of_live hlen hfrozen hreset hv
    rw [hnone] at hexec
    refine ⟨_, hexec, ?_⟩
    rw [hpwr]
    exact ⟨rfl, fun d => mem_diesAt, fun ⟨d, hd⟩ => alertAfter_of_hot hd, fun h => alertAfter_of_cool h, hseq⟩
  case trip =>
    intro temps d s hlen hfrozen hreset hv hhot hread
    obtain ⟨-, hfuses, htrips, -⟩ := sampled_keeps s temps
    have hsome : ((diesAt temps 115).find? s.pwr.hot.contains).isSome = true :=
      List.find?_isSome.2 ⟨d, mem_diesAt.2 hread, List.contains_iff_mem.2 hhot⟩
    obtain ⟨x, hx⟩ := Option.isSome_iff_exists.1 hsome
    have hexec := execThermalSample_of_live hlen hfrozen hreset hv
    rw [hx] at hexec
    obtain ⟨htripped, hin, hboot, hvm, hkeys, hcount, hkept⟩ := thermalTrip_resets (sampled s temps) x
    refine ⟨_, hexec, htripped, hin, hboot, hvm, hkeys, ?_, hkept.trans hfuses⟩
    rwa [Counted, htrips] at hcount
  case recovery =>
    intro temps s htripped hlen hcool
    have h95 : diesAt temps 95 = [] := List.eq_nil_iff_forall_not_mem.2 fun d hd => hcool d (mem_diesAt.1 hd)
    exact ⟨_, if_pos ⟨htripped, hlen, h95⟩, rfl, rfl, rfl⟩
  case comparator =>
    intro die s hfrozen
    refine ⟨_, if_pos hfrozen, rfl, fun d => ?_⟩
    change d ∈ (if s.pwr.logicOff.contains die then s.pwr.logicOff else s.pwr.logicOff ++ [die]) ↔ _
    split
    next h => exact ⟨.inl, fun hd => hd.elim id fun he => he ▸ List.contains_iff_mem.1 h⟩
    next => simp
  case noComparator => exact fun die s hfrozen => if_neg (ne_true_of_eq_false hfrozen)
  case freeze =>
    intro s hpins hopen hreset
    by_cases hfrozen : s.pwr.frozen = false
    · exact ⟨_, if_pos ⟨hpins, hopen, hreset, hfrozen⟩, rfl, fun _ => rfl, rfl, rfl⟩
    · exact ⟨s, if_neg fun h => hfrozen h.2.2.2, by simpa using hfrozen, fun h => absurd h hfrozen, rfl, rfl⟩
  case noFreeze => exact fun s hclosed => if_neg fun h => by simp [hclosed] at h
  case press => exact fun now s hpins hreset hfrozen => ⟨_, if_pos ⟨hpins, hreset, hfrozen⟩, rfl, rfl, rfl⟩
  case leds =>
    intro s hfrozen
    have hlive : ¬ s.pwr.frozen = true := ne_true_of_eq_false hfrozen
    exact ⟨if_neg hlive, if_neg hlive⟩
  case locate => exact fun src v s hacc => ⟨_, odCmd_of_accepted hacc rfl, rfl⟩

end Sys2Proof.Machine
end

section
/-! SUPPORT. Wake sources and D-states (R535, R557, R562 to R565), and O51. -/

namespace Sys2Proof.Machine
open Sys2Proof

variable {s : State}

/-! ### Wakes on demand (R558, R575) -/

/-- Die d sleeps, or is on its way to Idle. -/
def MayWake (d : Nat) (s : State) : Prop := WakeComing s d ∨ 2 ≤ dieState s d

theorem entering_wakeOnDemand_ne {d g : Nat} (h : g ≠ d) : tget (wakeOnDemand s g).pwr.entering 0 d = tget s.pwr.entering 0 d := by
  unfold wakeOnDemand
  extract_lets e
  split
  · rfl
  · exact (tget_tput ..).trans (if_neg h)

theorem wakeComing_wakeOnDemand {d : Nat} (h : MayWake d s) : WakeComing (wakeOnDemand s d) d := by
  unfold wakeOnDemand
  extract_lets e
  split
  next hno =>
    rcases hno with hawake | hone | hfour
    · exact h.resolve_right (Nat.not_le.2 hawake)
    · exact .inl hone
    · exact .inr hfour
  next hyes =>
    have hnew : tget (tput s.pwr.entering d (if e = 0 then 1 else e + 4)) 0 d = if e = 0 then 1 else e + 4 := (tget_tput ..).trans (if_pos rfl)
    change tget (tput s.pwr.entering d (if e = 0 then 1 else e + 4)) 0 d = 1 ∨ 4 ≤ tget (tput s.pwr.entering d (if e = 0 then 1 else e + 4)) 0 d
    rw [hnew]
    split
    · exact .inl rfl
    · exact .inr (Nat.le_add_left 4 e)

theorem mayWake_wakeOnDemand {d g : Nat} (h : MayWake d s) : MayWake d (wakeOnDemand s g) := by
  by_cases hg : g = d
  · exact .inl (hg ▸ wakeComing_wakeOnDemand (hg ▸ h))
  · have hsame := entering_wakeOnDemand_ne (s := s) hg
    have hdie : (wakeOnDemand s g).pwr.die = s.pwr.die := by
      unfold wakeOnDemand
      extract_lets e
      split <;> rfl
    simpa only [MayWake, WakeComing, dieState, hsame, hdie] using h

theorem wakeComing_wakeOnDemand_of_coming {d g : Nat} (h : WakeComing s d) : WakeComing (wakeOnDemand s g) d := by
  by_cases hg : g = d
  · exact hg ▸ wakeComing_wakeOnDemand (hg ▸ .inl h)
  · simpa only [WakeComing, entering_wakeOnDemand_ne (s := s) hg] using h

/-- Every die of a list that sleeps is on its way to Idle. -/
theorem wakeComing_foldl {l : List Nat} {d : Nat} (hd : d ∈ l) (h : MayWake d s) : WakeComing (l.foldl wakeOnDemand s) d := by
  induction l generalizing s with
  | nil => cases hd
  | cons g r ih =>
    rcases List.mem_cons.1 hd with rfl | hr
    · have hw := wakeComing_wakeOnDemand h
      rw [List.foldl_cons]
      generalize wakeOnDemand s d = u at hw
      clear ih hd h
      induction r generalizing u with
      | nil => exact hw
      | cons x r ih => exact ih _ (wakeComing_wakeOnDemand_of_coming hw)
    · exact ih hr (mayWake_wakeOnDemand h)

/-! ### Wakes of the module (R562, R565) -/

theorem tellHost_keeps (s : State) : (tellHost s).od = s.od ∧ (tellHost s).pwr = s.pwr := by
  unfold tellHost
  (repeat' split) <;> exact ⟨rfl, rfl⟩

theorem tellHost_of_d0 (h : s.pcie.dstate = 0) : tellHost s = s := by
  simp [tellHost, h]

theorem inService_congr {t : State} (h : t.od = s.od) (d : Nat) : inService t d = inService s d := by
  rw [inService, inService, rdE_congr h]

theorem dieState_congr {t : State} (h : t.pwr = s.pwr) (d : Nat) : dieState t d = dieState s d := by
  rw [dieState, dieState, h]

/-- A wake of the module that begins where the dictionary and the power states are those of s. -/
theorem wakesAll_moduleWake {t : State} (hod : t.od = s.od) (hpwr : t.pwr = s.pwr) (cause : Nat) : WakesAll s (moduleWake t cause) cause := by
  obtain ⟨htell, hpower⟩ := tellHost_keeps t
  refine ⟨rdE_wrE_same (wakeAll (tellHost t)) eWakeCause 0 cause, fun d hd hin hsleep => ?_⟩
  have hmem : d ∈ (dieRt :: List.range 8).filter (inService (tellHost t)) := by
    refine List.mem_filter.2 ⟨?_, (inService_congr (htell.trans hod) d).trans hin⟩
    rcases Nat.lt_or_eq_of_le hd with hlt | rfl
    · exact List.mem_cons_of_mem _ (List.mem_range.2 hlt)
    · exact List.mem_cons_self
  have hmay : MayWake d (tellHost t) := .inr (le_of_le_of_eq hsleep (dieState_congr (hpower.trans hpwr) d).symm)
  exact wakeComing_foldl hmem hmay

theorem wakeBy_of_enabled {k : Nat} (halive : alive s = true) (hasleep : moduleAsleep s = true) (hen : wakeEnabled s k = true) :
    wakeBy k s = moduleWake s k := if_pos (by simp [halive, hasleep, hen])

theorem wakeBy_of_disabled {k : Nat} (hen : wakeEnabled s k = false) : wakeBy k s = s := if_neg (by simp [hen])

theorem moduleWake_pcie (s : State) (cause : Nat) : (moduleWake s cause).pcie = (tellHost s).pcie := by
  refine foldl_keeps State.pcie (fun t d => ?_) _
  simp

/-- A wake after the endpoint's return to D0 leaves the endpoint as it is. -/
theorem wakeBy_pcie {k : Nat} (h : s.pcie.dstate = 0) : (wakeBy k s).pcie = s.pcie := by
  unfold wakeBy
  split
  · rw [moduleWake_pcie, tellHost_of_d0 h]
  · rfl

/-! ### Entry into Sleep (R556, R557) -/

/-- What the entry of a die into sleep leaves to its last step: the endpoint, the power states and the health of dies. -/
def sleepFace (s : State) : Pcie × Pwr × Nat := (s.pcie, s.pwr, rdE s eDieHealth 0)

theorem sleepPort_keeps {β : Type} (g : State → β) (hport : ∀ s p x, g (setPort s p x) = g s) (hemit : ∀ s o, g (emit s o) = g s)
    (kind : Nat) (s : State) (p : Nat) : g (sleepPort kind s p) = g s := by
  unfold sleepPort
  extract_lets x s1
  split
  · split
    · exact hport ..
    · rfl
  · exact (hport ..).trans (hemit ..)

theorem sleepFace_wrE {e : Ent} {n v : Nat} (h : entKey e n 0 ≠ entKey eDieHealth 0 0) : sleepFace (wrE s e n v) = sleepFace s := by
  rw [sleepFace, rdE_wrE_ne s v h]
  rfl

theorem sleepFace_evictEp (s : State) (e : Nat) : sleepFace (evictEp s e) = sleepFace s := by
  unfold evictEp
  extract_lets s1
  have hs1 : sleepFace s1 = sleepFace s := rfl
  clear_value s1
  exact (sleepFace_wrE (by decide)).trans hs1

/-- The entry of a die into sleep shows in its own power state. -/
theorem sleepFace_sleepDie (kind : Nat) (s : State) (d : Nat) : sleepFace (sleepDie kind s d) =
    (s.pcie, { s.pwr with entering := tput s.pwr.entering d kind }, rdE s eDieHealth 0) := by
  have hlink : ∀ (t : State) (e : Nat), sleepFace (wrE t eLinkUp e 0) = sleepFace t := fun t e =>
    sleepFace_wrE (by simp [entKey, eLinkUp, eDieHealth]; omega)
  unfold sleepDie
  extract_lets s2 s3 s4 s1
  have hs3 : sleepFace s3 = sleepFace s := (foldl_keeps sleepFace hlink _).trans
    (foldl_keeps sleepFace (sleepPort_keeps sleepFace (fun _ _ _ => rfl) (fun _ _ => rfl) kind) _)
  have hs4 : sleepFace s4 = sleepFace s := (foldl_keeps sleepFace sleepFace_evictEp _).trans hs3
  have hs1 : sleepFace s1 = sleepFace s := by
    unfold s1
    split
    · rfl
    · split
      · exact hs3
      · exact hs4
  clear_value s1
  exact congrArg (fun f : Pcie × Pwr × Nat => (f.1, { f.2.1 with entering := tput f.2.1.entering d kind }, f.2.2)) hs1

theorem inService_of_face {t : State} (h : rdE t eDieHealth 0 = rdE s eDieHealth 0) (d : Nat) : inService t d = inService s d := by
  rw [inService, inService, h]

theorem dieState_entered {t : State} {d kind : Nat} (hkind : kind = 2 ∨ kind = 3) (h : t.pwr.entering = tput s.pwr.entering d kind)
    (hdie : t.pwr.die = s.pwr.die) (g : Nat) : dieState t g = if d = g then kind else dieState s g := by
  rw [dieState, h, hdie, tget_tput]
  split
  · rcases hkind with rfl | rfl <;> rfl
  · rfl

/-- A die enters; the root die has no ports. -/
theorem sleepDieRt_enters {d kind : Nat} (hkind : kind = 2 ∨ kind = 3) (s : State) :
    (moduleSleepRule.sleepDieRt kind s d).pcie = s.pcie ∧
      (∀ g, inService (moduleSleepRule.sleepDieRt kind s d) g = inService s g) ∧
      ∀ g, dieState (moduleSleepRule.sleepDieRt kind s d) g = if d = g then kind else dieState s g := by
  unfold moduleSleepRule.sleepDieRt
  split
  · exact ⟨rfl, fun _ => rfl, dieState_entered hkind rfl rfl⟩
  · have hface := sleepFace_sleepDie kind s d
    generalize sleepDie kind s d = t at hface
    have hpcie : t.pcie = s.pcie := congrArg (·.1) hface
    have hpwr : t.pwr = { s.pwr with entering := tput s.pwr.entering d kind } := congrArg (·.2.1) hface
    have hhealth : rdE t eDieHealth 0 = rdE s eDieHealth 0 := congrArg (·.2.2) hface
    exact ⟨hpcie, inService_of_face hhealth, dieState_entered hkind (congrArg Pwr.entering hpwr) (congrArg Pwr.die hpwr :)⟩

/-- Every die of a list has entered. -/
theorem sleepAll_enters {l : List Nat} {kind : Nat} (hkind : kind = 2 ∨ kind = 3) (s : State) :
    (l.foldl (moduleSleepRule.sleepDieRt kind) s).pcie = s.pcie ∧
      (∀ g, inService (l.foldl (moduleSleepRule.sleepDieRt kind) s) g = inService s g) ∧
      ∀ g, dieState (l.foldl (moduleSleepRule.sleepDieRt kind) s) g = if g ∈ l then kind else dieState s g := by
  induction l generalizing s with
  | nil => exact ⟨rfl, fun _ => rfl, fun g => (if_neg List.not_mem_nil).symm⟩
  | cons d r ih =>
    obtain ⟨hpcie, hin, hst⟩ := sleepDieRt_enters hkind (d := d) s
    obtain ⟨ihpcie, ihin, ihst⟩ := ih (moduleSleepRule.sleepDieRt kind s d)
    refine ⟨ihpcie.trans hpcie, fun g => (ihin g).trans (hin g), fun g => (ihst g).trans ?_⟩
    rw [hst g]
    by_cases hr : g ∈ r
    · simp [hr]
    · by_cases hd : d = g
      · simp [hd]
      · simp [hr, hd, Ne.symm hd]

/-- The module's request where no die refuses. -/
theorem allSleep_of_maySleep {kind : Nat} (hkind : kind = 2 ∨ kind = 3) (h : MaySleep s kind) : AllSleep (moduleSleepRule kind s).2 kind := by
  unfold moduleSleepRule
  extract_lets ds s1
  have hnone : ¬ ds.any (sleepRefused s) = true := by
    rw [List.any_eq_true]
    rintro ⟨d, hd, hrefused⟩
    obtain ⟨hlt, hd⟩ := List.mem_filter.1 hd
    simp only [Bool.and_eq_true, bne_iff_ne] at hd
    rw [h d (List.mem_range.1 hlt) hd.1 hd.2] at hrefused
    cases hrefused
  rw [if_neg hnone]
  obtain ⟨-, hin, hst⟩ := sleepAll_enters (l := ds ++ [dieRt]) hkind s
  refine ⟨(hst dieRt).trans (if_pos (by simp)), fun d hd hservice => (hst d).trans ?_⟩
  have hs : inService s d = true := (hin d).symm.trans hservice
  by_cases hk : dieState s d = kind
  · rw [hk, ite_self]
  · exact if_pos (List.mem_append_left _ (List.mem_filter.2 ⟨List.mem_range.2 hd, by simp [hs, hk]⟩))

theorem moduleSleepRule_pcie {kind : Nat} (hkind : kind = 2 ∨ kind = 3) (s : State) : (moduleSleepRule kind s).2.pcie = s.pcie := by
  unfold moduleSleepRule
  extract_lets ds s1
  split
  · rfl
  · exact (sleepAll_enters hkind s).1

/-- The physical function's entry into D3. -/
theorem enterD3_enters {d : Nat} (hd : d = 1 ∨ d = 2) (s : State) : (enterD3 d s).pcie.dstate = d ∧ (enterD3 d s).pcie.l1 = true ∧
    (MaySleep s (d + 1) → AllSleep (enterD3 d s) (d + 1)) := by
  have hkind : d + 1 = 2 ∨ d + 1 = 3 := by omega
  have hpcie := moduleSleepRule_pcie hkind { s with pcie := { s.pcie with dstate := d, l1 := true } }
  unfold enterD3
  rw [hpcie]
  exact ⟨rfl, rfl, fun h => allSleep_of_maySleep hkind h⟩

/-! ### The return to D0 (R562, R565) -/

/-- The endpoint in D0 again. -/
def returned (s : State) (perst : Bool) : State :=
  { s with pcie := { s.pcie with dstate := 0, wakePin := false, l1 := false, memOn := if perst then [] else s.pcie.memOn } }

theorem flushMsix_l1 (f : Nat) (h : s.pcie.l1 = false) : (flushMsix s f).pcie.l1 = false := by
  refine List.foldlRecOn (motive := fun t : State => t.pcie.l1 = false) _ _ h fun t ht v _ => ?_
  split
  · exact ht
  · rfl

/-- The messages that were held leave the rest of the endpoint. -/
theorem flushMsix_returned (s : State) (perst : Bool) : (flushMsix (returned s perst) 0).od = s.od ∧ (flushMsix (returned s perst) 0).pwr = s.pwr ∧
    (flushMsix (returned s perst) 0).boot = s.boot ∧ (flushMsix (returned s perst) 0).pcie.dstate = 0 ∧
    (flushMsix (returned s perst) 0).pcie.wakePin = false ∧ (flushMsix (returned s perst) 0).pcie.l1 = false ∧
    (flushMsix (returned s perst) 0).pcie.memOn = (if perst then [] else s.pcie.memOn) ∧
    (flushMsix (returned s perst) 0).pcie.vfEnable = s.pcie.vfEnable :=
  ⟨flushMsix_keeps State.od (fun _ _ _ => rfl) _ 0, flushMsix_keeps State.pwr (fun _ _ _ => rfl) _ 0,
    flushMsix_keeps State.boot (fun _ _ _ => rfl) _ 0, flushMsix_keeps (fun t => t.pcie.dstate) (fun _ _ _ => rfl) _ 0,
    flushMsix_keeps (fun t => t.pcie.wakePin) (fun _ _ _ => rfl) _ 0, flushMsix_l1 0 rfl,
    flushMsix_keeps (fun t => t.pcie.memOn) (fun _ _ _ => rfl) _ 0, flushMsix_keeps (fun t => t.pcie.vfEnable) (fun _ _ _ => rfl) _ 0⟩

/-! ### The statement -/

/-- Settles O51: the wakes by `wakesAll_moduleWake`, the D-states by `enterD3_enters`. -/
theorem wakeSourcesWakeTheModule : Obligations.WakeSourcesWakeTheModule := by
  unfold Obligations.WakeSourcesWakeTheModule
  refine ⟨?wakeN, ?noWakeN, ?packet, ?timer, ?toD0, ?perst, ?resume, ?pattern, ?noPattern, ?hot, ?cold⟩
  case wakeN =>
    intro s haux halive hasleep hen
    have hwake : wakeBy 1 s = moduleWake s 1 := wakeBy_of_enabled halive hasleep hen
    exact ⟨_, (if_pos haux).trans (congrArg _ hwake), wakesAll_moduleWake rfl rfl 1⟩
  case noWakeN =>
    intro s hen
    have hstay : wakeBy 1 s = s := wakeBy_of_disabled hen
    have hexec : execWakeN s = if s.pwr.aux then .next (wakeBy 1 s) else .next s := rfl
    exact hexec.trans (by rw [hstay, ite_self])
  case packet =>
    intro s halive hasleep hen
    have hwake : wakeBy 3 s = moduleWake s 3 := wakeBy_of_enabled halive hasleep hen
    exact ⟨_, congrArg Host.Outcome.next hwake, wakesAll_moduleWake rfl rfl 3⟩
  case timer =>
    intro s htimer halive hasleep hen
    have hwake : wakeBy 5 s = moduleWake s 5 := wakeBy_of_enabled halive hasleep hen
    have hfrozen : s.pwr.frozen = false := by
      simp only [alive, Bool.and_eq_true, Bool.not_eq_true'] at halive
      exact halive.1.2
    refine ⟨{ wakeBy 5 s with pwr := { (wakeBy 5 s).pwr with timer := 0 } }, if_neg (by simp [htimer, hfrozen]), ?_, rfl⟩
    rw [hwake]
    exact wakesAll_moduleWake rfl rfl 5
  case toD0 =>
    intro s hd halive hasleep hen
    have hexec : exec (.pcieWake false) s = .next (wakeBy 2 (flushMsix (returned s false) 0)) := if_neg (by simp [halive, hd])
    obtain ⟨hod, hpwr, hboot, hd0, hpin, hl1, -, -⟩ := flushMsix_returned s false
    generalize flushMsix (returned s false) 0 = u at *
    have hwake : wakeBy 2 u = moduleWake u 2 := by
      refine wakeBy_of_enabled ?_ ?_ ?_
      · rwa [alive, running, hboot, hpwr]
      · rwa [moduleAsleep, dieState_congr hpwr]
      · rwa [wakeEnabled, rdE_congr hod]
    refine ⟨_, hexec, ?_, ?_⟩
    · rw [hwake]
      exact wakesAll_moduleWake hod hpwr 2
    · rw [wakeBy_pcie hd0]
      exact ⟨hd0, hpin, hl1⟩
  case perst =>
    intro s hd halive
    have hexec : exec (.pcieWake true) s = .next (wakeBy 2 (flushMsix (returned (vfRemove s 0) true) 0)) := if_neg (by simp [halive, hd])
    obtain ⟨-, -, -, hd0, hpin, -, hmem, hvf⟩ := flushMsix_returned (vfRemove s 0) true
    refine ⟨_, hexec, ?_⟩
    rw [wakeBy_pcie hd0, hvf]
    refine ⟨hd0, hpin, hmem, fun hon => ?_⟩
    by_cases hnum : s.pcie.numVfs = 0
    · exact .inr hnum
    · have hremoved : vfRemove s 0 = _ := if_neg (not_or.2 ⟨ne_false_of_eq_true hon, fun h => hnum (Nat.le_zero.1 h)⟩)
      rw [hremoved]
      exact .inl rfl
  case resume =>
    intro p s halive hst hawake
    refine ⟨_, (if_neg (by simp [hst, halive])).trans (if_pos hawake), rfl, portOf_setPort .., fun q hq => ?_⟩
    exact tget_tset_ne s.ports {} { portOf s p with st := 2, trainStep := 3 } hq.symm
  case pattern =>
    intro p s halive hst hsleep hen
    have hexec : exec (.calliopePattern p) s = if moduleAsleep s then .next (moduleWake s 4) else .next (wakeOnDemand s (portDie p)) :=
      (if_neg (by simp [hst, halive])).trans ((if_neg (Nat.not_lt.2 hsleep)).trans (if_neg (by simpa [wakeEnabled] using hen)))
    by_cases hasleep : moduleAsleep s = true
    · refine ⟨_, hexec.trans (if_pos hasleep), ?_⟩
      rw [if_pos hasleep]
      exact wakesAll_moduleWake rfl rfl 4
    · refine ⟨_, hexec.trans (if_neg hasleep), ?_⟩
      rw [if_neg hasleep]
      exact wakeComing_wakeOnDemand (.inr hsleep)
  case noPattern =>
    intro p s hsleep hen
    by_cases hlive : (portOf s p).st ≠ 5 ∨ alive s = false
    · exact if_pos hlive
    · exact (if_neg hlive).trans ((if_neg (Nat.not_lt.2 hsleep)).trans (if_pos hen))
  case hot => exact fun s halive hd0 => ⟨enterD3 1 s, if_pos ⟨halive, hd0⟩, enterD3_enters (.inl rfl) s⟩
  case cold => exact fun s halive hd => ⟨enterD3 2 s, if_pos ⟨halive, hd⟩, enterD3_enters (.inr rfl) s⟩

end Sys2Proof.Machine
end

section
/-! SUPPORT. What the resets of units and dies leave: the work that goes on after them, and what they reach (R513 to R518). -/

namespace Sys2Proof.Machine
open Sys2Proof

/-- The state without what a reset of a unit or a die takes, but for the dictionary, descriptors and tables of endpoints and keys. -/
def outage (s : State) : State := unscrubbed { s with hss := [], switchq := [], rates := [], ports := [], pwr := {}, ctxs := [] }

theorem outage_of_unscrubbed {s t : State} (h : unscrubbed t = unscrubbed s) : outage t = outage s :=
  (congrArg outage h : outage (unscrubbed t) = outage (unscrubbed s))

/-- A property of states that resets of units and dies keep. -/
structure OutageSteady extends RestSteady where
  outage : ∀ {s t : State}, Holds s → outage t = outage s → Holds t
  rows : ∀ f, row f
  allCtx : ∀ n, ctx n
  noLoft : junk
  ctxState : ∀ {s : State} {n : Nat} (v : Nat), Holds s → Holds (wrE s eCtxState n v)
  linkUp : ∀ {s : State} {n : Nat} (v : Nat), Holds s → Holds (wrE s eLinkUp n v)
  session : ∀ {s : State} (v : Nat), Holds s → Holds (wrE s eSessionFails 0 v)
  drop : ∀ {s : State} {n : Nat}, Holds s → Holds (dropCtxEntries s n)

/-- The scrub of any context keeps it. -/
def OutageSteady.toScrub (I : OutageSteady) (n : Nat) : ScrubSteady n where
  Holds := I.Holds
  keep h he := I.outage h (outage_of_unscrubbed he)
  cx h := I.keep h rfl
  entry {s e} v he h := by
    simp only [List.mem_cons, List.not_mem_nil, or_false] at he
    rcases he with rfl | rfl | rfl
    · exact I.torn v h (by simp [tornEnts]) (I.allCtx n)
    · exact I.torn v h (by simp [tornEnts]) (I.allCtx n)
    · exact I.ctxState v h
  drop := I.drop

namespace Steady.Holds

/-- What waited for a unit goes on. -/
theorem unstick {I : RestSteady} {s : State} {p : Nat → Bool} (hrow : ∀ f, I.row f) (hscrub : ∀ {s n}, I.Holds s → I.Holds (scrubCtx s n))
    (h : I.Holds s) : I.Holds (unstick s p) := by
  unfold Machine.unstick
  extract_lets s1
  have h1 : I.Holds s1 := .foldl h fun t f h => .ite (.ite (.fenceStep4 (hrow f) h) (I.setFn (hrow f) h)) h
  exact .foldl h1 fun t n h => .ite (.ite (hscrub (.advanceCtxKey h)) (I.keep h rfl)) h

variable {I : OutageSteady} {s : State}

theorem scrubCtx {n} (h : I.Holds s) : I.Holds (Machine.scrubCtx s n) := ScrubSteady.Holds.scrubCtx (I := I.toScrub n) h

theorem resetArray {half} (h : I.Holds s) : I.Holds (resetArray s half) := by
  unfold Machine.resetArray
  extract_lets ns
  refine .clearTiles (.foldl h fun t n h => ?_)
  exact .ite (.abandonBy I.noLoft (I.allCtx n) h) h

theorem resetTurnstile {die} (h : I.Holds s) : I.Holds (resetTurnstile s die) := by
  unfold Machine.resetTurnstile
  extract_lets s1 gone
  have h1 : I.Holds s1 := .foldl h fun _ _ h => .reverseOne h
  exact .foldl (I.outage h1 rfl) fun _ _ h => I.session _ h

theorem resetParking {die} (h : I.Holds s) : I.Holds (resetParking s die) := I.stray _ (I.keep h rfl) (by simp [strayEnts])

theorem failEps {es} (h : I.Holds s) : I.Holds (failEps s es) :=
  .foldl (.foldl h fun _ _ h => .epError (I.ends _) h) fun _ _ h => .retireKey h

theorem resetSt {die} (h : I.Holds s) : I.Holds (resetSt s die) := by
  unfold Machine.resetSt
  extract_lets s1 s2
  have h2 : I.Holds s2 := .foldl (.completeAll (.inr I.noLoft) h) fun _ _ h => .dropTx h
  exact I.outage h2 rfl

theorem unitEffects {unit} (h : I.Holds s) : I.Holds (unitEffects s unit) :=
  .ite (.ite (.resetArray h) h) (.ite (.resetTurnstile h) (.ite (I.outage h rfl) (.ite (.resetParking h) (.ite (.failEps h) (.resetSt h)))))

theorem failOnDie {die} (h : I.Holds s) : I.Holds (failOnDie s die) := by
  unfold Machine.failOnDie
  extract_lets ns own s1 s2
  have h1 : I.Holds s1 := .foldl h fun _ _ h => .jobAbort (I.allCtx _) h
  have h2 : I.Holds s2 := .foldl h1 fun _ _ h => .ite (.abandonBy I.noLoft (I.allCtx _) h) h
  exact .completeAll (.inr I.noLoft) h2

theorem downPorts {die out} (h : I.Holds s) : I.Holds (downPorts s die out) :=
  .foldl (I.outage h rfl) fun _ _ h => I.linkUp _ h

theorem dieEffects {die out} (h : I.Holds s) : I.Holds (dieEffects s die out) := by
  unfold Machine.dieEffects
  extract_lets s1 s3 s4 a b c _
  have h1 : I.Holds s1 := .failOnDie h
  have h3 : I.Holds s3 := .clearTiles (.resetArray (.resetArray h1))
  have h4 : I.Holds s4 := I.loft I.noLoft h3
  have ha : I.Holds a := .resetSt (.resetParking (.resetTurnstile h1))
  have hb : I.Holds b := .failEps ha
  clear_value s1 s3 a b
  have hc : I.Holds c := .ite (I.outage h4 rfl) (.downPorts (I.outage hb rfl))
  clear_value c
  exact .unstick I.rows .scrubCtx (I.outage hc rfl)

end Steady.Holds

/-! ### What a reset of a unit or a die leaves of faults and resets -/

/-- Counters and health that resets keep in the dictionary. -/
def faultEnts : List Ent := [eEngineResets, eDieResets, eDieHealth]

/-- The resets that run, the debug port, fault records and MRAM, and the entries of `faultEnts`. -/
def faultFace (s : State) : List ResetRun × Dbg × Nat × Tbl Nat × Mram × List Nat :=
  (s.resets, s.dbg, s.faultSeq, s.dieResetCount, s.mram, faultEnts.map (rdE s · 0))

theorem faultFace_congr {s t : State} (hod : t.od = s.od) (hresets : t.resets = s.resets) (hdbg : t.dbg = s.dbg) (hseq : t.faultSeq = s.faultSeq)
    (hcount : t.dieResetCount = s.dieResetCount) (hmram : t.mram = s.mram) : faultFace t = faultFace s := by
  have hents : faultEnts.map (rdE t · 0) = faultEnts.map (rdE s · 0) := List.map_congr_left fun e _ => rdE_congr hod e 0
  rw [faultFace, faultFace, hents, hresets, hdbg, hseq, hcount, hmram]

theorem faultFace_wrE {s : State} {e : Ent} {n v : Nat} (h : ∀ e' ∈ faultEnts, entKey e n 0 ≠ entKey e' 0 0) :
    faultFace (wrE s e n v) = faultFace s := by
  have hents : faultEnts.map (rdE (wrE s e n v) · 0) = faultEnts.map (rdE s · 0) :=
    List.map_congr_left fun e' he => rdE_wrE_ne s v (h e' he)
  rw [faultFace, hents]
  rfl

/-- An entry whose subindex none of `faultEnts` has is apart from them, whatever its record. -/
theorem apart_of_sub {e : Ent} (hfn : e.perFn = false) (hlo : e.subLo < 256) (hsub : ∀ e' ∈ faultEnts, e.subLo ≠ e'.subLo) (n : Nat) :
    ∀ e' ∈ faultEnts, entKey e n 0 ≠ entKey e' 0 0 := by
  intro e' he'
  have hne := hsub e' he'
  have h' : e'.perFn = false ∧ e'.subLo < 256 := by
    simp only [faultEnts, List.mem_cons, List.not_mem_nil, or_false] at he'
    rcases he' with rfl | rfl | rfl <;> decide
  simp only [entKey, hfn, h'.1, Bool.false_eq_true, if_false]
  omega

theorem faultFace_dropCtxEntries (s : State) (n : Nat) : faultFace (dropCtxEntries s n) = faultFace s := by
  have hents : faultEnts.map (rdE (dropCtxEntries s n) · 0) = faultEnts.map (rdE s · 0) := List.map_congr_left fun e he => by
    have hnone : ctxOfIndex (entKey e 0 0 / 256) = none := by
      simp only [faultEnts, List.mem_cons, List.not_mem_nil, or_false] at he
      rcases he with rfl | rfl | rfl <;> decide
    exact rdE_dropCtxEntries (hnone ▸ nofun)
  rw [faultFace, hents]
  rfl

/-- Faults and resets as they stand. -/
def faultsKept (c : List ResetRun × Dbg × Nat × Tbl Nat × Mram × List Nat) : OutageSteady where
  Holds s := faultFace s = c
  ctx _ := True
  ep _ := True
  junk := True
  keep {s t} h he := (faultFace_congr (congrArg State.od he :) (congrArg State.resets he :) (congrArg State.dbg he :) (congrArg State.faultSeq he :)
    (congrArg State.dieResetCount he :) (congrArg State.mram he :)).trans h
  ended h _ := h
  dropped h _ := h
  loft _ h := h
  retired _ h := h
  eps h _ := h
  epEnds _ h := h
  torn {s e n} v h he _ := by
    refine (faultFace_wrE ?_).trans h
    simp only [tornEnts, List.mem_cons, List.not_mem_nil, or_false] at he
    rcases he with rfl | rfl | rfl | rfl | rfl | rfl <;> exact apart_of_sub rfl (by decide) (by decide) n
  stray {s e n} v h he := by
    refine (faultFace_wrE ?_).trans h
    simp only [strayEnts, List.mem_cons, List.not_mem_nil, or_false] at he
    rcases he with rfl | rfl | rfl | rfl <;> exact apart_of_sub rfl (by decide) (by decide) n
  row _ := True
  handed {s t} h he := (faultFace_congr (congrArg State.od he :) (congrArg State.resets he :) (congrArg State.dbg he :) (congrArg State.faultSeq he :)
    (congrArg State.dieResetCount he :) (congrArg State.mram he :)).trans h
  setFn _ h := h
  tgen h := (faultFace_wrE (apart_of_sub rfl (by decide) (by decide) _)).trans h
  active h := (faultFace_wrE (apart_of_sub rfl (by decide) (by decide) 0)).trans h
  ends _ := trivial
  outage {s t} h he := (faultFace_congr (congrArg State.od he :) (congrArg State.resets he :) (congrArg State.dbg he :) (congrArg State.faultSeq he :)
    (congrArg State.dieResetCount he :) (congrArg State.mram he :)).trans h
  rows _ := trivial
  allCtx _ := trivial
  noLoft := trivial
  ctxState v h := (faultFace_wrE (apart_of_sub rfl (by decide) (by decide) _)).trans h
  linkUp v h := (faultFace_wrE (apart_of_sub rfl (by decide) (by decide) _)).trans h
  session v h := (faultFace_wrE (by decide)).trans h
  drop h := (faultFace_dropCtxEntries _ _).trans h

theorem faultFace_unitEffects (s : State) (unit : Nat) (p : Nat → Bool) : faultFace (unstick (unitEffects s unit) p) = faultFace s :=
  Steady.Holds.unstick (I := (faultsKept (faultFace s)).toRestSteady) (fun _ => trivial) (Steady.Holds.scrubCtx (I := faultsKept (faultFace s)))
    (Steady.Holds.unitEffects (I := faultsKept (faultFace s)) rfl)

theorem faultFace_dieEffects (s : State) (die : Nat) (out : Bool) : faultFace (dieEffects s die out) = faultFace s :=
  Steady.Holds.dieEffects (I := faultsKept (faultFace s)) rfl

/-! ### What a reset of a unit leaves of descriptors -/

/-- A property of every descriptor that resets keep. -/
def OutageSteady.ofDescs (Q : Desc → Prop) (hQ : ∀ x y, SameButAux x y → Q y → Q x) : OutageSteady where
  toRestSteady := (FenceSteady.ofDescs Q hQ).toRestSteady
  outage {s t} h he := by
    have hd : t.descs = s.descs := (congrArg State.descs he :)
    exact (congrArg (fun l : List Desc => ∀ d ∈ l, Q d) hd).mpr h
  rows _ := trivial
  allCtx _ := trivial
  noLoft := trivial
  ctxState _ h := h
  linkUp _ h := h
  session _ h := h
  drop h := h

/-! ### What a reset of a die leaves of its Loft -/

/-- The Loft of a die with nothing written: it stays so while only transports end. -/
def loftGone (die : Nat) : RestSteady where
  Holds s := loftOf s die = []
  ctx _ := True
  ep _ := True
  junk := False
  keep {s t} h he := by
    have hl : t.loft = s.loft := (congrArg State.loft he :)
    exact (congrArg (fun l : Tbl Mem => tget l [] die) hl).trans h
  ended h _ := h
  dropped h _ := h
  loft hI := hI.elim
  retired _ h := h
  eps h _ := h
  epEnds _ h := h
  torn _ h _ _ := h
  stray _ h _ := h
  row _ := True
  handed {s t} h he := by
    have hl : t.loft = s.loft := (congrArg State.loft he :)
    exact (congrArg (fun l : Tbl Mem => tget l [] die) hl).trans h
  setFn _ h := h
  tgen h := h
  active h := h
  ends _ := trivial

theorem loft_scrubRange (s : State) (n a len : Nat) : (scrubRange s n a len).loft = s.loft := rfl

theorem loft_dropBuf (s : State) (n k : Nat) : (dropBuf s n k).loft = s.loft :=
  foldl_keeps State.loft (fun t r => by exact loft_scrubRange ..) _

theorem loft_scrubAreas (s : State) (n : Nat) : (scrubAreas s n).loft = s.loft := by
  unfold scrubAreas
  extract_lets s1 s2 s3
  have h1 : s1.loft = s.loft := foldl_keeps State.loft (fun t k => loft_dropBuf t n k) _
  clear_value s1
  have hite {c : Prop} [Decidable c] {t u v : State} (hu : u.loft = t.loft) (hv : v.loft = t.loft) : (if c then u else v).loft = t.loft := by
    split
    · exact hu
    · exact hv
  have h2 : s2.loft = s1.loft := hite rfl (loft_scrubRange ..)
  clear_value s2
  have h3 : s3.loft = s2.loft := hite (loft_scrubRange ..) rfl
  clear_value s3
  exact (foldl_keeps State.loft (fun t r => by exact loft_scrubRange ..) _).trans (h3.trans (h2.trans h1))

theorem loftGone_clearLoft {die : Nat} {s : State} {n : Nat} (h : loftOf s die = []) : loftOf (clearLoft s n) die = [] := by
  have hset (t : State) (d a len : Nat) (ht : loftOf t die = []) : loftOf (setLoft t d (mclear (loftOf t d) a len)) die = [] := by
    by_cases hd : die = d
    · subst hd
      exact (tget_tset_same t.loft [] die _).trans (by rw [ht]; rfl)
    · exact (tget_tset_ne t.loft [] _ (Ne.symm hd)).trans ht
  unfold clearLoft
  extract_lets a b
  split
  · exact h
  · exact List.foldlRecOn (motive := fun t => loftOf t die = []) _ _ h fun t ht d _ => hset t d _ _ ht

theorem loftGone_scrubCtx {die : Nat} {s : State} {n : Nat} (h : loftOf s die = []) : loftOf (scrubCtx s n) die = [] := by
  unfold scrubCtx
  extract_lets dies first cnt s1 s2 s3 s4 s5
  have h2 : loftOf s2 die = [] := (congrArg (tget · [] die) (loft_scrubAreas s n)).trans h
  have hz : loftOf (zeroCtxKeys (clearLoft s2 n) n) die = [] := loftGone_clearLoft h2
  have h3 : s3.loft = (zeroCtxKeys (clearLoft s2 n) n).loft := foldl_keeps State.loft (fun t src => by simp [answer]) _
  have h4 : s4.loft = s3.loft := by
    by_cases hr : roundSt s n = rsNone
    · exact congrArg State.loft (if_pos hr)
    · exact (congrArg State.loft (if_neg hr)).trans (by simp)
  exact (congrArg (tget · [] die) (h4.trans h3)).trans hz

theorem loft_dieEffects {die : Nat} (hdie : die < 6) (s : State) (out : Bool) : loftOf (dieEffects s die out) die = [] := by
  unfold dieEffects
  extract_lets s1 s3 s4 a b c _
  clear_value s3 b
  have hc : c.loft = s4.loft := by
    unfold c
    rw [if_pos hdie]
  have hc' : loftOf c die = [] := (congrArg (tget · [] die) hc).trans (tget_tset_same s3.loft [] die [])
  clear_value c
  exact Steady.Holds.unstick (I := loftGone die) (fun _ => trivial) loftGone_scrubCtx hc'

end Sys2Proof.Machine
end

section
/-! SUPPORT. Watchdogs, resets and dies out of service (R424, R506 to R524), and O49. -/

namespace Sys2Proof.Machine
open Sys2Proof

variable {s : State}

/-! ### Module resets (R519, R520) -/

theorem moduleResets_writeFault (s : State) (r : FaultRec) : (writeFault s r).mram.moduleResets = s.mram.moduleResets := by
  unfold writeFault
  extract_lets _ s1 s2 s3 _ s4 s5 _ s6
  have h2 : s2.mram = s.mram := by
    unfold s2
    split <;> rfl
  have h4 : s4.mram.moduleResets = s.mram.moduleResets := by
    unfold s4
    split <;> exact (congrArg Mram.moduleResets h2 :)
  have h6 : s6.mram = s4.mram := by simp [s6, s5]
  split
  · exact (congrArg Mram.moduleResets ((by simp : _ = s6.mram).trans h6)).trans h4
  · exact (congrArg Mram.moduleResets h6).trans h4

/-- What a module reset keeps. -/
def resetKept (s : State) : Nat × Fuses × Mem × List Instr := (s.mram.moduleResets, s.fuses, s.host, s.pending)

theorem resetKept_writeFault (s : State) (r : FaultRec) : resetKept (writeFault s r) = resetKept s := by
  simp [resetKept, moduleResets_writeFault]

theorem resetKept_resetAborts (s : State) : resetKept (resetAborts s) = resetKept s :=
  Steady.Holds.foldl (I := .ofOuter (resetKept · = resetKept s) fun h he => (congrArg resetKept he :).trans h) rfl
    fun _ _ h => .jobAbort trivial h

/-- The logic of a state at reset, one module reset more counted. -/
def heldState (s : State) : State :=
  { coldState s with mram := { (coldState s).mram with moduleResets := satAdd 0xFFFFFFFF (coldState s).mram.moduleResets 1 } }

theorem heldInReset_heldState {t : State} (h : resetKept t = resetKept s) : HeldInReset s (heldState t) := by
  simp only [resetKept, Prod.mk.injEq] at h
  obtain ⟨hresets, hfuses, hhost, hpending⟩ := h
  have hcount : (heldState t).mram.moduleResets = satAdd 0xFFFFFFFF t.mram.moduleResets 1 := rfl
  exact ⟨rfl, hcount.trans (by rw [hresets]), hfuses, hhost, hpending, rfl, rfl, rfl, rfl, rfl⟩

theorem heldInReset_moduleReset {t : State} (h : resetKept t = resetKept s) (cause flags : Nat) : HeldInReset s (moduleReset t cause flags) := by
  have hheld (r : FaultRec) : HeldInReset s (heldState (resetAborts (writeFault t r))) :=
    heldInReset_heldState ((resetKept_resetAborts _).trans ((resetKept_writeFault t r).trans h))
  exact hheld { plainFault ftModuleReset stHang 3 noUnit cause with flags := flags }

/-! ### The health of a die (R524) -/

theorem bits_putBits (v d x : Nat) : bits (putBits v (2 * d + 1) (2 * d) x) (2 * d + 1) (2 * d) = x % 4 := by
  have hw : 2 * d + 1 + 1 - 2 * d = 2 := by omega
  rw [bits, putBits, bits, hw, Nat.add_mul_div_right _ _ (Nat.two_pow_pos _), Nat.mul_comm (v / 2 ^ (2 * d) % 2 ^ 2), Nat.sub_mul_div]
  omega

theorem dieHealth_setHealth (s : State) (die v : Nat) : dieHealth (setHealth s die v) die = v % 4 := by
  rw [dieHealth, setHealth, rdE_wrE_same, bits_putBits]

theorem dieHealth_congr {t : State} (h : rdE t eDieHealth 0 = rdE s eDieHealth 0) (die : Nat) : dieHealth t die = dieHealth s die := by
  rw [dieHealth, dieHealth, h]

theorem inService_of_health {die : Nat} (h : dieHealth s die = 2) : inService s die = false := by
  simp only [dieHealth] at h
  simp [inService, h]

/-! ### What `faultFace` shows -/

theorem faultFace_completeAll (s : State) (p : Desc → Bool) (st : Nat) : faultFace (completeAll s p st) = faultFace s :=
  Steady.Holds.completeAll (I := (faultsKept (faultFace s)).toSteady) (.inr trivial) rfl

theorem faultFace_reads {t : State} (h : faultFace t = faultFace s) : t.resets = s.resets ∧ t.dbg = s.dbg ∧ t.faultSeq = s.faultSeq ∧
    t.dieResetCount = s.dieResetCount ∧ t.mram = s.mram ∧ ∀ e ∈ faultEnts, rdE t e 0 = rdE s e 0 := by
  simp only [faultFace, Prod.mk.injEq] at h
  obtain ⟨hresets, hdbg, hseq, hcount, hmram, hents⟩ := h
  exact ⟨hresets, hdbg, hseq, hcount, hmram, List.map_inj_left.1 hents⟩

/-! ### Descriptors of a unit (R513) -/

theorem descs_engineReset (s : State) (unit : Nat) :
    ∀ d ∈ (unstick (unitEffects (completeAll s (fun d => !isTransport (dOp d) && resetEnds unit d) stHang) unit) (· == unit)).descs,
      isTransport (dOp d) = false → onUnits [unit] d = false := by
  let I : OutageSteady := .ofDescs (fun d => isTransport (dOp d) = false → onUnits [unit] d = false) fun x y hs h => by
    rw [SameButAux] at hs
    rwa [hs]
  have hgone : I.Holds (completeAll s (fun d => !isTransport (dOp d) && resetEnds unit d) stHang) := fun d hd hop => by
    have hnot : (!isTransport (dOp d) && resetEnds unit d) = false := completeAll_gone (fun x y hs => by rw [SameButAux] at hs; rw [hs]; rfl) d hd
    simp only [hop, Bool.not_false, Bool.true_and, resetEnds, Bool.or_eq_false_iff] at hnot
    exact hnot.1
  exact Steady.Holds.unstick (I := I.toRestSteady) (fun _ => trivial) (Steady.Holds.scrubCtx (I := I)) (Steady.Holds.unitEffects (I := I) hgone)

/-! ### Die resets (R515) -/

/-- The state in which a die reset runs. -/
theorem startDieReset_of_idle {die : Nat} (host escalated : Bool) (hin : inService s die = true)
    (hidle : s.resets.any (fun r => r.die && r.id == die) = false) (hcount : tget s.dieResetCount 0 die < 2) :
    ∃ (u : State) (l : List ResetRun), startDieReset s die host escalated =
      setHealth { u with resets := l ++ [{ die := true, id := die, host := host, escalated := escalated, retire := false }] } die 1 :=
  ⟨_, _, (if_neg (by simp [hin, hidle])).trans (if_neg (Nat.not_le.2 hcount))⟩

/-! ### A cohort that fails (R424) -/

theorem faultSeq_unstage (s : State) (n : Nat) (p : Nat → Bool) : (unstage s n p).faultSeq = s.faultSeq :=
  foldl_keeps State.faultSeq (fun t r => by exact rfl) _

theorem faultSeq_scrubRange (s : State) (n a len : Nat) : (scrubRange s n a len).faultSeq = s.faultSeq := rfl

theorem faultSeq_dropBuf (s : State) (n k : Nat) : (dropBuf s n k).faultSeq = s.faultSeq := by
  unfold dropBuf
  extract_lets c bufs gone s0 s1
  have h0 : s0.faultSeq = s.faultSeq := foldl_keeps State.faultSeq (fun _ _ => faultSeq_scrubRange ..) _
  clear_value s0
  exact h0

theorem failCohort_fails (s : State) (n k st : Nat) : (cohortOf (failCohort s n k st) n k).st = .failed ∧ (cohortOf (failCohort s n k st) n k).acc = [] ∧
    rdE (failCohort s n k st) eLastRefusal n = st ∧ (failCohort s n k st).faultSeq = s.faultSeq := by
  unfold failCohort
  extract_lets c s1 s2 _ s3
  have h1 : s1.faultSeq = s.faultSeq := by
    unfold s1
    split <;> rfl
  have h2 : s2.faultSeq = s.faultSeq := (faultSeq_unstage _ n _).trans h1
  have hco2 : cohortOf s2 n k = { c with st := .failed, acc := [], chk := [] } := (cohortOf_unstage _ n _ k).trans (cohortOf_setCohort s1 n k _)
  clear_value s1 s2
  have h3 : s3.faultSeq = s2.faultSeq := rfl
  have hco3 : cohortOf s3 n k = cohortOf s2 n k := cohortOf_setCx ..
  clear_value s3
  have hco : cohortOf (noteRefusal (bumpE (dropBuf s3 n k) eFailedCohorts n) n st) n k = { c with st := .failed, acc := [], chk := [] } :=
    (cohortOf_dropBuf s3 n k k).trans (hco3.trans hco2)
  exact ⟨congrArg Cohort.st hco, congrArg Cohort.acc hco, rdE_wrE_same .., (faultSeq_dropBuf s3 n k).trans (h3.trans h2)⟩

/-! ### The statement -/

/-- Settles O49: the work that a reset ends leaves its counters, records and the health of dies through `faultFace`; a module reset leaves
`HeldInReset`. -/
theorem resetsAndDieHealth : Obligations.ResetsAndDieHealth := by
  unfold Obligations.ResetsAndDieHealth
  refine ⟨?watchdog, ?heartbeat, ?engine, ?overrun, ?die, ?dieOverrun, ?module, ?requestEngine, ?requestDie, ?requestModule, ?link, ?patrol, ?cohort⟩
  case watchdog =>
    intro unit s hup hlt hexists hwork hgo
    have hin : inService s (unit / 32) = true := by
      simp only [unitStopped, Bool.or_eq_false_iff, Bool.not_eq_false'] at hgo
      exact hgo.1.2
    have hexec : exec (.watchdogExpiry unit) s = execWatchdogExpiry unit s := rfl
    rw [hexec, execWatchdogExpiry, if_neg (by simp [hup, hlt, hexists, hwork, hgo])]
    extract_lets s1 r
    refine ⟨_, rfl, ?_⟩
    have hkeep : ∃ l, startReset (writeFault (freshNext s1) r) unit false = { writeFault (freshNext s1) r with resets := l } :=
      (startReset_eq _ _ _).imp' _ fun _ h => h
    have hin' : inService (writeFault (freshNext s1) r) (unit / 32) = true := by
      have hh : rdE (writeFault (freshNext s1) r) eDieHealth 0 = rdE s eDieHealth 0 :=
        (rdE_writeFault _ r (by decide) (by decide)).trans (rdE_wrE_ne s _ (by decide))
      rwa [inService, hh]
    refine ⟨?_, ?_, resetRuns_startReset false hexists hlt hin'⟩
    · obtain ⟨l, hl⟩ := hkeep
      rw [hl]
      exact (rdE_writeFault _ r (by decide) (by decide)).trans (rdE_wrE_same s eWatchdogExpiries 0 _)
    · obtain ⟨l, hl⟩ := hkeep
      rw [hl]
      exact writeFault_faultSeq _ r
  case heartbeat =>
    intro unit s hup hge hexists hon
    exact ⟨_, if_pos ⟨hup, hge, hexists, by simpa using hon⟩, heldInReset_moduleReset (resetKept_writeFault _ _) _ _⟩
  case engine =>
    intro unit us r s hfind hfrozen
    have hexec : exec (.engineResetComplete unit us) s = execEngineResetComplete unit us s := rfl
    rw [hexec, execEngineResetComplete, hfind]
    dsimp -zeta only
    extract_lets _ s0 rec0 s1 s2
    refine ⟨_, if_neg (by simp [hfrozen]), ?_⟩
    obtain ⟨hresets, hdbg, hseq, -, -, hents⟩ := faultFace_reads ((faultFace_unitEffects s2 unit (· == unit)).trans (faultFace_completeAll s1 _ stHang))
    have hseq1 : s1.faultSeq = s.faultSeq + 1 := writeFault_faultSeq s0 _
    have hresets1 : s1.resets = s.resets.filter (fun x => x.die || x.id != unit) := by
      simp [s1, s0]
    have hdbg1 : s1.dbg.halted = s.dbg.halted.filter (· != unit) := by
      simp [s1, s0]
    refine ⟨?_, ?_, ?_, ?_, descs_engineReset s1 unit⟩
    · intro x hx hdie
      rw [hresets, hresets1, List.mem_filter] at hx
      simpa [hdie] using hx.2
    · rw [hdbg, hdbg1, List.mem_filter]
      simp
    · exact (hents _ (by simp [faultEnts])).trans ((rdE_writeFault s0 _ (by decide) (by decide)).trans (rdE_wrE_same _ eEngineResets 0 _))
    · omega
  case overrun =>
    intro unit r s hfind hfrozen hin hnone hcount
    have hidle : s.resets.any (fun r => r.die && r.id == unit / 32) = false := by
      simpa [List.any_eq_false] using hnone
    obtain ⟨u, l, hu⟩ := startDieReset_of_idle r.host true hin hidle hcount
    have hexec : exec (.engineResetOverrun unit) s = execEngineResetOverrun unit s := rfl
    rw [hexec, execEngineResetOverrun, if_neg (by simp [hfrozen]), hfind]
    refine ⟨_, rfl, ?_, ?_⟩
    · rw [hu]
      exact ⟨_, List.mem_append_right _ (List.mem_singleton_self _), rfl, rfl, rfl⟩
    · rw [hu, dieHealth_setHealth]
  case die =>
    intro die us r s hfind hfrozen
    have hexec : exec (.dieResetComplete die us) s = execDieResetComplete die us s := rfl
    rw [hexec, execDieResetComplete, hfind]
    dsimp -zeta only
    extract_lets s1
    refine ⟨_, if_neg (by simp [hfrozen]), ?_⟩
    obtain ⟨hresets, -, -, hcount, -, hents⟩ := faultFace_reads (faultFace_dieEffects (writeFault s1 (dieRecord die us (resetFlags r))) die false)
    have hloft (hdie : die < 6) := loft_dieEffects hdie (writeFault s1 (dieRecord die us (resetFlags r))) false
    have hresets1 : (writeFault s1 (dieRecord die us (resetFlags r))).resets = s.resets.filter (fun x => !x.die || x.id != die) :=
      (by simp : _ = s1.resets)
    have hcount1 : (writeFault s1 (dieRecord die us (resetFlags r))).dieResetCount = tset s.dieResetCount 0 die (tget s.dieResetCount 0 die + 1) :=
      (by simp : _ = s1.dieResetCount)
    generalize dieEffects (writeFault s1 (dieRecord die us (resetFlags r))) die false = u at *
    refine ⟨?_, dieHealth_setHealth u die 0, ?_, ?_, hloft⟩
    · intro x hx hdie
      have hx' : x ∈ s.resets.filter (fun x => !x.die || x.id != die) := by
        rw [← hresets1, ← hresets]
        exact hx
      simpa [hdie] using (List.mem_filter.1 hx').2
    · exact (congrArg (tget · 0 die) (hcount.trans hcount1)).trans (tget_tset_same s.dieResetCount 0 die _)
    · exact (rdE_wrE_ne u _ (by decide)).trans ((hents eDieResets (by simp [faultEnts])).trans
        ((rdE_writeFault s1 _ (by decide) (by decide)).trans (rdE_wrE_same _ eDieResets 0 _)))
  case dieOverrun =>
    intro die r s hfind hfrozen
    have hexec : exec (.dieResetOverrun die) s = execDieResetOverrun die s := rfl
    rw [hexec, execDieResetOverrun, if_neg (by simp [hfrozen]), hfind]
    exact ⟨_, rfl, heldInReset_moduleReset (resetKept_writeFault _ _) _ _⟩
  case module =>
    intro cause s hup hlo hhi
    exact ⟨_, if_pos ⟨hup, hlo, hhi⟩, heldInReset_moduleReset rfl _ _⟩
  case requestEngine =>
    intro src unit s hacc hlt hexists hin
    have hrule : resetRule 1 unit s = (stOk, startReset s unit true) := (if_pos rfl).trans (if_pos (by simp [hexists, hlt, hin]))
    obtain ⟨l, hl⟩ := startReset_eq s unit true
    exact ⟨startReset s unit true, (odCmd_of_accepted hacc (congrArg Prod.fst hrule)).trans (by rw [hrule]), by rw [hl],
      resetRuns_startReset true hexists hlt hin⟩
  case requestDie =>
    intro src die s hacc hlt hin hcount
    have hrule : resetRule 2 die s = (stOk, startDieReset s die true false) :=
      (if_neg (by decide)).trans ((if_pos rfl).trans (if_pos (by simp [hlt, hin])))
    refine ⟨startDieReset s die true false, (odCmd_of_accepted hacc (congrArg Prod.fst hrule)).trans (by rw [hrule]), ?_⟩
    by_cases hidle : s.resets.any (fun r => r.die && r.id == die) = true
    · obtain ⟨x, hx, hx'⟩ := List.any_eq_true.1 hidle
      rw [startDieReset, if_pos (.inr hidle)]
      exact ⟨x, hx, by simpa using hx'⟩
    · obtain ⟨u, l, hu⟩ := startDieReset_of_idle true false hin (Bool.eq_false_iff.2 hidle) hcount
      rw [hu]
      exact ⟨_, List.mem_append_right _ (List.mem_singleton_self _), rfl, rfl⟩
  case requestModule =>
    intro src unit s hacc
    exact ⟨_, odCmd_of_accepted hacc rfl, heldInReset_moduleReset rfl _ _⟩
  case link =>
    intro link die s hup hend hin hmay
    have hexec : exec (.inPackageLinkError link die) s = .next (retireDie s die (plainFault ftLink 0 3 noUnit (0x100 + link))) :=
      if_neg (by simpa [hup, hin, or_iff_not_imp_left] using hend)
    rw [hexec, retireDie, if_pos hmay]
    extract_lets s1
    generalize ({ plainFault ftLink 0 3 noUnit (0x100 + link) with level := 4 } : FaultRec) = r
    obtain ⟨-, -, hseq, -, hmram, hents⟩ := faultFace_reads (faultFace_dieEffects (setHealth (writeFault s1 r) die 2) die true)
    refine ⟨_, rfl, inService_of_health ?_, ?_, ?_⟩
    · exact (dieHealth_congr (hents _ (by simp [faultEnts])) die).trans (dieHealth_setHealth _ die 2)
    · have h1 : (writeFault s1 r).faultSeq = s.faultSeq + 1 := writeFault_faultSeq s1 r
      rw [hseq]
      exact h1 ▸ Nat.lt_succ_self _
    · exact (congrArg Mram.moduleResets hmram).trans (moduleResets_writeFault s1 r)
  case patrol =>
    intro die c u s hfrozen
    have hcor : rdE (addE (addE s eEccCorrected 0 c) eEccUncorrected 0 u) eEccCorrected 0 =
        satAdd (2 ^ (8 * tyLen eEccCorrected.ty) - 1) (rdE s eEccCorrected 0) c :=
      (rdE_wrE_ne _ _ (by decide)).trans (rdE_addE_same s eEccCorrected 0 c)
    have hunc : rdE (addE (addE s eEccCorrected 0 c) eEccUncorrected 0 u) eEccUncorrected 0 =
        satAdd (2 ^ (8 * tyLen eEccUncorrected.ty) - 1) (rdE s eEccUncorrected 0) u :=
      (rdE_addE_same _ eEccUncorrected 0 u).trans (congrArg (satAdd _ · u) (rdE_wrE_ne s _ (by decide)))
    by_cases hu : u = 0
    · exact ⟨_, (if_neg (by simp [hfrozen])).trans (if_pos hu), hcor, hunc, by rw [if_pos hu]; rfl⟩
    · exact ⟨_, (if_neg (by simp [hfrozen])).trans (if_neg hu), (rdE_writeFault _ _ (by decide) (by decide)).trans hcor,
        (rdE_writeFault _ _ (by decide) (by decide)).trans hunc, by rw [if_neg hu]; exact writeFault_faultSeq _ _⟩
  case cohort =>
    intro die c u n k s hfrozen hu hlive
    have hexec : exec (.patrolRead die c u (.cohort n k)) s = execPatrolRead die c u (.cohort n k) s := rfl
    rw [hexec, execPatrolRead, if_neg (by simp [hfrozen])]
    extract_lets s1
    rw [if_neg hu]
    dsimp -zeta only
    extract_lets s2
    have hlive2 : coLive (cohortOf s2 n k) = true := by simpa [s2, s1] using hlive
    have hseq2 : s2.faultSeq = s.faultSeq + 1 := writeFault_faultSeq s1 _
    clear_value s2
    rw [if_pos hlive2]
    obtain ⟨hst, hacc, hlast, hseq⟩ := failCohort_fails s2 n k stIntegrity
    exact ⟨_, rfl, hst, hacc, hlast, hseq.trans hseq2⟩

end Sys2Proof.Machine
end

section
/-! SUPPORT. Endpoint doorbells, evictions and quarantines (R372 to R400), and O37. -/

namespace Sys2Proof.Machine
open Sys2Proof

variable {s : State}

/-! ### Doorbells (R384) -/

theorem doorbell_of_owner {f e : Nat} (h : Doorbell s f e) (eff : State → State) : doorbell f e s eff = .next (eff s) := by
  obtain ⟨hup, hlt, hlive, hown⟩ := h
  rw [doorbell, if_neg (by simp [hup, hlt]), if_neg (by simp [hlive, hown])]

theorem doorbell_of_foreign {f e : Nat} (hup : bar0Up s f = true) (hlt : e < 262144) (h : epLive (epOf s e) = false ∨ (epOf s e).owner ≠ f)
    (eff : State → State) : doorbell f e s eff = .next (bumpE s eEpForeign f) := by
  have hforeign : (!(epLive (epOf s e) && (epOf s e).owner == f)) = true := by
    rcases h with h | h <;> simp [h]
  rw [doorbell, if_neg (by simp [hup, hlt]), if_pos hforeign]

/-- Software has returned records of an endpoint (R394). -/
def recordsFreed (e count : Nat) (s : State) : State :=
  setEp s e { epOf s e with recFree := (epOf s e).recFree + min count (epOf s e).recOut, recOut := (epOf s e).recOut - min count (epOf s e).recOut }

theorem exec_recordFree (f e count : Nat) (s : State) : exec (.recordFree f e count) s = doorbell f e s (recordsFreed e count) := rfl

/-! ### Evictions (R400) -/

/-- An endpoint leaves the cache, counted at itself and in the module. -/
theorem evictEp_evicts (s : State) (e : Nat) : (epOf (evictEp s e) e).resident = false ∧ (epOf (evictEp s e) e).evictions = (epOf s e).evictions + 1 ∧
    (epOf (evictEp s e) e).st = (epOf s e).st ∧ e ∉ residents (evictEp s e) (homeDie e) ∧ Counted s (evictEp s e) eEpcEvictions 0 := by
  unfold evictEp
  extract_lets s1
  have hep1 : epOf s1 e = { epOf s e with resident := false, fetching := false } := epOf_setEp s e _
  have hlru1 : residents s1 (homeDie e) = (residents s (homeDie e)).filter (· != e) := tget_tset_same s.lru [] (homeDie e) _
  have hod1 : s1.od = s.od := rfl
  clear_value s1
  have hep : epOf (bumpE (setEp s1 e { epOf s1 e with evictions := (epOf s1 e).evictions + 1 }) eEpcEvictions 0) e =
      { epOf s1 e with evictions := (epOf s1 e).evictions + 1 } := epOf_setEp s1 e _
  have hcount : Counted s1 (bumpE (setEp s1 e { epOf s1 e with evictions := (epOf s1 e).evictions + 1 }) eEpcEvictions 0) eEpcEvictions 0 :=
    rdE_wrE_same _ eEpcEvictions 0 _
  refine ⟨by rw [hep, hep1], by rw [hep, hep1], by rw [hep, hep1], fun hmem => ?_, ?_⟩
  · have hmem' : e ∈ residents s1 (homeDie e) := hmem
    simp [hlru1] at hmem'
  · rwa [Counted, rdE_congr hod1] at hcount

/-! ### The flush of an endpoint (R396) -/

/-- A property of what the end of its messages leaves of endpoint e. -/
def Steady.ofEpFace (e : Nat) (P : Ep → Prop) : Steady where
  Holds s := P (epFace (epOf s e))
  ctx _ := True
  ep k := k ≠ e
  junk := True
  keep {s t} h he := by
    have heps : t.eps = s.eps := (congrArg State.eps he :)
    rwa [epOf, heps]
  ended h _ := h
  dropped h _ := h
  loft _ h := h
  retired _ h := h
  eps h he := (congrArg P (he e)).mpr h
  epEnds {s k x} hk h := (congrArg (fun y => P (epFace y)) (tget_tset_ne s.eps {} x hk)).mpr h
  torn _ h _ _ := h
  stray _ h _ := h

/-- A property of every message in transmission. -/
def Steady.ofTxs (Q : TxMsg → Prop) : Steady where
  Holds s := ∀ x ∈ s.txs, Q x
  ctx _ := True
  ep _ := True
  junk := True
  keep {s t} h he := by
    have htxs : t.txs = s.txs := (congrArg State.txs he :)
    rwa [htxs]
  ended h _ := h
  dropped h hl x hx := h x (hl hx)
  loft _ h := h
  retired _ h := h
  eps h _ := h
  epEnds _ h := h
  torn _ h _ _ := h
  stray _ h _ := h

theorem mem_dropTx {t x : TxMsg} (hx : x ∈ (dropTx s t).txs) : x ∈ s.txs ∧ x.id ≠ t.id := by
  let I := Steady.ofTxs (fun x => x ∈ s.txs ∧ x.id ≠ t.id)
  have h1 : I.Holds { s with txs := s.txs.filter (fun x => x.id != t.id) } := fun y hy =>
    (List.mem_filter.1 hy).imp_right fun h => by simpa using h
  exact (Steady.Holds.ite (I := I) h1 (.settleTx h1) : I.Holds (dropTx s t)) x hx

theorem mem_foldl_dropTx {l : List TxMsg} {x : TxMsg} (hx : x ∈ (l.foldl dropTx s).txs) : x ∈ s.txs ∧ ∀ t ∈ l, x.id ≠ t.id := by
  induction l generalizing s with
  | nil => exact ⟨hx, fun _ h => absurd h List.not_mem_nil⟩
  | cons t r ih =>
    obtain ⟨hmem, hne⟩ := ih hx
    obtain ⟨hs, ht⟩ := mem_dropTx hmem
    exact ⟨hs, List.forall_mem_cons.2 ⟨ht, hne⟩⟩

/-- After its flush an endpoint sends nothing. -/
theorem txs_flushEp (s : State) (e : Nat) : ∀ x ∈ (flushEp s e).txs, x.ep ≠ e := by
  unfold flushEp
  extract_lets s1 s2
  refine Steady.Holds.flushRx (I := .ofTxs (·.ep ≠ e)) fun x hx he => ?_
  obtain ⟨hs, hne⟩ := mem_foldl_dropTx hx
  exact hne x (List.mem_filter.2 ⟨hs, by simpa using he⟩) rfl

/-- After its flush an endpoint has no transport descriptor of its owner. -/
theorem descs_flushEp (s : State) (e : Nat) : ∀ d ∈ (flushEp s e).descs, descOfEp s e d = false := by
  have hsame (x y : Desc) (hs : SameButAux x y) : descOfEp s e x = descOfEp s e y := by
    rw [SameButAux] at hs
    rw [hs]
    rfl
  let I := Steady.ofDescs (descOfEp s e · = false) fun x y hs h => (hsame x y hs).trans h
  have h1 : I.Holds (completeAll s (descOfEp s e) stFlushed) := completeAll_gone hsame
  exact (Steady.Holds.flushRx (.foldl h1 fun _ _ h => .dropTx h) : I.Holds (flushEp s e))

/-- A READY endpoint that enters ERROR, flushed. -/
theorem epError_of_ready {e : Nat} (h : (epOf s e).st = 1) : (epOf (epError s e) e).st = 2 ∧ (∀ x ∈ (epError s e).txs, x.ep ≠ e) ∧
    ∀ d ∈ (epError s e).descs, isTransport (dOp d) = true → localEp d = e → d.fn ≠ (epOf s e).owner := by
  rw [epError, if_pos h]
  have hep := epOf_setEp s e { epOf s e with st := 2 }
  refine ⟨?_, txs_flushEp _ e, fun d hd htr hloc hfn => ?_⟩
  · exact Steady.Holds.flushEp (I := .ofEpFace e (·.st = 2)) (congrArg Ep.st hep)
  · have hnot := descs_flushEp _ e d hd
    simp [descOfEp, hep, htr, hloc, hfn] at hnot

/-! ### The statement -/

/-- Settles O37: the flush by the properties that ended work keeps, the other doorbells and quarantines by their own writes. -/
theorem endpointCommandsTakeEffect : Obligations.EndpointCommandsTakeEffect := by
  unfold Obligations.EndpointCommandsTakeEffect
  refine ⟨?resume, ?error, ?evict, ?recycle, ?recordFree, ?foreign, ?eviction, ?endpoint, ?key, ?domain, ?region⟩
  case resume =>
    intro f e s hbell hst
    exact ⟨_, (doorbell_of_owner hbell _).trans (congrArg _ (if_pos hst)), rfl, epOf_setEp s e _⟩
  case error =>
    intro f e s hbell hst
    obtain ⟨herr, htxs, hdescs⟩ := epError_of_ready hst
    exact ⟨_, doorbell_of_owner hbell _, herr, htxs, fun d hd htr hloc => hbell.2.2.2 ▸ hdescs d hd htr hloc⟩
  case evict =>
    intro f e s hbell hmay
    exact ⟨_, (doorbell_of_owner hbell _).trans (congrArg _ (if_pos hmay)), evictEp_evicts s e⟩
  case recycle =>
    intro f e slot s hbell hslot
    have hslots := congrArg Ep.slots (epOf_setEp s e { epOf s e with slots := tset (epOf s e).slots 0 slot 0 })
    refine ⟨_, (doorbell_of_owner hbell _).trans (congrArg _ (if_pos hslot)), rfl, ?_, fun k hk => ?_⟩
    · rw [hslots, tget_tset_same (epOf s e).slots 0 slot 0]
    · rw [hslots, tget_tset_ne (epOf s e).slots 0 0 (Ne.symm hk)]
  case recordFree =>
    intro f e count s hbell
    have hep : epOf (recordsFreed e count s) e = _ := epOf_setEp s e _
    exact ⟨_, (exec_recordFree f e count s).trans (doorbell_of_owner hbell _), rfl, congrArg Ep.recFree hep, congrArg Ep.recOut hep⟩
  case foreign =>
    intro c f e k s hc hup hlt hforeign
    obtain ⟨eff, heff⟩ : ∃ eff, exec c s = doorbell f e s eff := by
      rcases hc with rfl | rfl | rfl | rfl | rfl
      iterate 4 exact ⟨_, rfl⟩
      exact ⟨_, exec_recordFree f e k s⟩
    exact ⟨_, heff.trans (doorbell_of_foreign hup hlt hforeign eff), rfl, rdE_wrE_same s eEpForeign f _⟩
  case eviction =>
    intro die e s hfrozen hfind
    have hexec : exec (.endpointEviction die) s = .next (evictEp s e) := by
      have hdef : exec (.endpointEviction die) s = execEndpointEviction die s := rfl
      rw [hdef, execEndpointEviction, if_neg (by simp [hfrozen]), hfind]
    obtain ⟨hres, hev, -, -, hcount⟩ := evictEp_evicts s e
    exact ⟨_, hexec, hres, hev, hcount⟩
  case endpoint =>
    intro e s hfrozen hst
    have hep := epOf_setEp s e { evictions := (epOf s e).evictions }
    exact ⟨_, (if_neg (by simp [hfrozen])).trans (if_pos hst), rfl, congrArg Ep.st hep, (congrArg Ep.evictions hep :),
      fun k hk => tget_tset_ne s.eps {} _ (Ne.symm hk)⟩
  case key =>
    intro k s hfrozen hst
    exact ⟨_, (if_neg (by simp [hfrozen])).trans (if_pos hst), rfl, keyOf_setKey s k _, fun j hj => tget_tset_ne s.keys {} _ (Ne.symm hj)⟩
  case domain =>
    intro i s hfrozen hst
    exact ⟨_, (if_neg (by simp [hfrozen])).trans (if_pos ⟨rfl, hst⟩), rfl, tget_tset_same s.pds {} i {}⟩
  case region =>
    intro i s hfrozen hst
    exact ⟨_, (if_neg (by simp [hfrozen])).trans ((if_neg (by simp)).trans (if_pos ⟨rfl, hst⟩)), rfl, regionOf_setRegion s i _⟩

end Sys2Proof.Machine
end

section
/-! SUPPORT. The commands of the object record (R373 to R397), and O38. -/

namespace Sys2Proof.Machine
open Sys2Proof

variable {s : State}

/-! ### What completions leave of messages received, key generations and regions -/

/-- Messages received, generations of context keys, regions. -/
def received (s : State) : List RxMsg × Tbl Nat × Tbl Region := (s.rxs, s.ctxKeyGen, s.regions)

theorem received_completeDesc (s : State) (d : Desc) (st detail : Nat) : received (completeDesc s d st detail) = received s := by
  unfold completeDesc
  extract_lets s1 s2 s3
  have h2 : received s2 = received s := by
    unfold s2 s1
    split <;> rfl
  have h3 : received s3 = received s2 := by
    unfold s3
    split
    · unfold signalOf
      split <;> simp [received]
    · rfl
  split
  · exact (by simp [received] : _ = received s3).trans (h3.trans h2)
  · exact h3.trans h2

theorem received_dropTx (s : State) (t : TxMsg) : received (dropTx s t) = received s := by
  have hsettle (u : State) : received (settleTx u t) = received u := by
    unfold settleTx
    split <;> rfl
  unfold dropTx
  extract_lets s1
  split
  · rfl
  · exact hsettle s1

theorem received_junkDest (s : State) (d : Desc) : received (junkDest s d) = received s := by
  have hmem (t : State) (die : Nat) (loft : Bool) (m : Mem) : received (setOpMem t d die loft m) = received t := by
    unfold setOpMem
    split <;> rfl
  unfold junkDest
  extract_lets s1
  have h1 : received s1 = received s := foldl_keeps received (fun t r => by exact hmem t ..) (destOf s d)
  refine (foldl_keeps received (fun t row => ?_) _).trans h1
  split <;> rfl

theorem received_endDesc (s : State) (d : Desc) (st : Nat) : received (endDesc s d st) = received s := by
  unfold endDesc endAt
  split
  · unfold endTransport
    split
    · exact received_completeDesc ..
    · exact (received_completeDesc ..).trans (received_dropTx ..)
  · split
    · exact (received_completeDesc ..).trans (received_junkDest ..)
    · exact received_completeDesc ..

theorem received_completeAll (s : State) (p : Desc → Bool) (st : Nat) : received (completeAll s p st) = received s := by
  refine foldl_keeps received (fun t d => ?_) _
  split
  · exact received_completeDesc ..
  · exact received_endDesc ..

/-! ### Keys that retire (R377) -/

/-- A property of one key that every retired key has. -/
def Steady.ofKey (k : Nat) (P : Key → Prop) (hP : ∀ x, x.st = 2 → P x) : Steady where
  Holds s := P (keyOf s k)
  ctx _ := True
  ep _ := True
  junk := True
  keep {s t} h he := by
    have hkeys : t.keys = s.keys := (congrArg State.keys he :)
    rwa [keyOf, hkeys]
  ended h _ := h
  dropped h _ := h
  loft _ h := h
  retired {s j x} hx h := by
    by_cases hj : j = k
    · exact (congrArg P (hj ▸ keyOf_setKey s j x)).mpr (hP x hx)
    · exact (congrArg P (tget_tset_ne s.keys {} x hj)).mpr h
  eps h _ := h
  epEnds _ h := h
  torn _ h _ _ := h
  stray _ h _ := h

theorem ctxKeyGen_retireKey (s : State) (k : Nat) : (retireKey s k).ctxKeyGen = s.ctxKeyGen := by
  have hpeer (t : State) (x : Key) : (clearPeerBit t x).ctxKeyGen = t.ctxKeyGen := by
    unfold clearPeerBit
    (repeat' split) <;> rfl
  unfold retireKey
  extract_lets x s1 s2
  split
  · rfl
  · have h1 : s1.ctxKeyGen = s.ctxKeyGen := congrArg (·.2.1) (received_completeAll s _ stGeneration)
    have h2 : s2.ctxKeyGen = s1.ctxKeyGen := foldl_keeps State.ctxKeyGen (fun t y => by exact rfl) _
    exact (hpeer ..).trans (h2.trans h1)

theorem unlive_retireKey (s : State) (k : Nat) : (keyOf (retireKey s k) k).st ≠ 1 := by
  by_cases hlive : (keyOf s k).st = 1
  · rw [keyOf_retireKey hlive]
    exact (by decide : (2 : Nat) ≠ 1)
  · rwa [retireKey, if_pos hlive]

/-- The filter of a table keeps the key of a value it lets through. -/
theorem mem_tkeys_filter {α : Type} {t : Tbl α} {d : α} {p : Nat × α → Bool} {k : Nat} (hd : p (k, d) = false)
    (h : p (k, tget t d k) = true) : k ∈ tkeys (t.filter p) := by
  induction t with
  | nil =>
    rw [tget_nil, hd] at h
    cases h
  | cons x r ih =>
    obtain ⟨j, v⟩ := x
    rw [tget] at h
    split at h
    next hj =>
      subst hj
      rw [List.filter_cons_of_pos h]
      exact List.mem_cons_self
    next hj =>
      have hr := ih h
      rw [List.filter_cons]
      split
      · exact List.mem_cons_of_mem _ hr
      · exact hr

/-- A key that a list names is not LIVE once the list is retired. -/
theorem unlive_retireAll {l : List Nat} {k : Nat} (hk : k ∈ l) : (keyOf (l.foldl retireKey s) k).st ≠ 1 := by
  obtain ⟨a, b, rfl⟩ := List.append_of_mem hk
  rw [List.foldl_append, List.foldl_cons]
  exact Steady.Holds.foldl (I := .ofKey k (·.st ≠ 1) fun x hx => by rw [hx]; decide) (unlive_retireKey _ k) fun _ _ h => .retireKey h

theorem ctxKeyGen_advanceCtxKey (s : State) (n : Nat) : ctxKeyGenOf (advanceCtxKey s n) n = (ctxKeyGenOf s n + 1) % 65536 := by
  unfold advanceCtxKey
  extract_lets ks s1
  have h1 : s1.ctxKeyGen = s.ctxKeyGen := foldl_keeps State.ctxKeyGen ctxKeyGen_retireKey ks
  exact (tget_tset_same s1.ctxKeyGen 0 n _).trans (by rw [ctxKeyGenOf, h1, ctxKeyGenOf])

/-- Of a context whose key advances only the keys of management sessions are LIVE. -/
theorem live_advanceCtxKey {n k : Nat} (hlive : (keyOf (advanceCtxKey s n) k).st = 1) (hctx : (keyOf (advanceCtxKey s n) k).ctx = n) :
    (keyOf (advanceCtxKey s n) k).kind = 7 := by
  have hsame : (keyOf (advanceCtxKey s n) k).st ≠ 1 ∨ keyOf (advanceCtxKey s n) k = keyOf s k :=
    Steady.Holds.advanceCtxKey (I := .ofKey k (fun x => x.st ≠ 1 ∨ x = keyOf s k) fun x hx => .inl (by rw [hx]; decide)) (.inr rfl)
  have hkey := hsame.resolve_left (not_not_intro hlive)
  by_contra hkind
  rw [hkey] at hctx hkind
  have hmem : k ∈ tkeys (s.keys.filter (fun k => k.2.st == 1 && k.2.ctx == n && k.2.kind != 7)) := by
    refine mem_tkeys_filter (d := {}) rfl ?_
    have hwas : (keyOf s k).st = 1 := hkey ▸ hlive
    rw [keyOf] at hwas hctx hkind
    simp [hwas, hctx, hkind]
  exact unlive_retireAll hmem hlive

theorem streams_endStreams {k e : Nat} {x : Strm} (hx : x ∈ (epOf (endStreams s k) e).streams) : x.key ≠ k := by
  unfold endStreams at hx
  extract_lets s1 at hx
  have hep := tget_map s1.eps (fun y : Ep => { y with streams := y.streams.filter (fun x => x.key != k) }) {} e
  have hx' : x ∈ (tget s1.eps {} e).streams.filter (fun x => x.key != k) := (congrArg Ep.streams hep).subst (motive := (x ∈ ·)) hx
  simpa using (List.mem_filter.1 hx').2

/-- No stream is left of a LIVE key that retires. -/
theorem streams_retireKey {k e : Nat} {x : Strm} (h : (keyOf s k).st = 1) (hx : x ∈ (epOf (retireKey s k) e).streams) : x.key ≠ k := by
  have hpeer (t : State) (y : Key) : epOf (clearPeerBit t y) e = epOf t e := by
    unfold clearPeerBit
    (repeat' split) <;> rfl
  unfold retireKey at hx
  extract_lets y s1 s2 at hx
  rw [if_neg (by simpa using h), hpeer] at hx
  exact streams_endStreams hx

/-! ### Regions that advance (R381) -/

theorem rxs_endRx (s : State) (x : RxMsg) : (endRx s x).rxs ⊆ s.rxs ∧ (endRx s x).regions = s.regions := by
  unfold endRx
  extract_lets s1
  have h1 : s1.rxs = s.rxs ∧ s1.regions = s.regions := by
    unfold s1 settleRx
    (repeat' split) <;> exact ⟨rfl, rfl⟩
  exact ⟨h1.1 ▸ List.filter_subset_self _, h1.2⟩

theorem received_failRead (s : State) (k : Pkt) (st : Nat) : received (failRead s k st) = received s := by
  unfold failRead
  split
  · split
    · exact received_completeAll ..
    · rfl
  · rfl

/-- The end of a region's messages brings none, and leaves the regions. -/
theorem endRegionMsgs_keeps (s : State) (r : Nat) : (endRegionMsgs s r).rxs ⊆ s.rxs ∧ (endRegionMsgs s r).regions = s.regions := by
  unfold endRegionMsgs
  refine List.foldlRecOn (motive := fun t : State => t.rxs ⊆ s.rxs ∧ t.regions = s.regions) _ _ ⟨List.Subset.refl _, rfl⟩ fun t ht x _ => ?_
  have hend := rxs_endRx (sendStatus t x.hdr stGeneration 0xFFFFFFFF) x
  have hread := received_failRead (endRx (sendStatus t x.hdr stGeneration 0xFFFFFFFF) x) x.hdr stGeneration
  generalize endRx (sendStatus t x.hdr stGeneration 0xFFFFFFFF) x = u at hend hread ⊢
  simp only [received, Prod.mk.injEq] at hread
  obtain ⟨hrxs, -, hregions⟩ := hread
  rw [hrxs, hregions]
  exact ⟨fun y hy => ht.1 (hend.1 hy), hend.2.trans ht.2⟩

/-! ### The record's rule (R382) -/

/-- What an accepted command of the object record leaves, its effect v given. -/
def shown (f code : Nat) (v : State) : State := wrE (showObj f code (stOk, v)) eObjResult f stOk

theorem objRule_of_ok {f code : Nat} {v : State} (h : objAct f code s = (stOk, v)) : objRule f code s = (stOk, shown f code v) := by
  rw [objRule, h]
  rfl

theorem shown_eq (f code : Nat) (v : State) : shown f code v = { v with od := (shown f code v).od } := by
  have hshow : showObj f code (stOk, v) = { v with od := (showObj f code (stOk, v)).od } := by
    unfold showObj
    extract_lets kind
    split <;> rfl
  rw [shown, hshow]
  rfl

theorem rdE_shown {f code : Nat} {e : Ent} (v : State) (hresult : entKey eObjResult f 0 ≠ entKey e f 0) (hstate : entKey eObjState f 0 ≠ entKey e f 0) :
    rdE (shown f code v) e f = rdE v e f := by
  rw [shown, rdE_wrE_ne _ _ hresult]
  unfold showObj
  extract_lets kind
  split
  · exact rdE_wrE_ne v _ hstate
  · rfl

/-- Entries of the object record differ in their subindex alone. -/
theorem objKey_ne {e e' : Ent} (f : Nat) (hfn : e.perFn = true) (hfn' : e'.perFn = true) (hbase : e.base = e'.base) (h : e.subLo ≠ e'.subLo) :
    entKey e f 0 ≠ entKey e' f 0 := by
  simp only [entKey, hfn, hfn', hbase, if_true]
  omega

theorem rdE_shown_result (f code : Nat) (v : State) : rdE (shown f code v) eObjResult f = stOk := rdE_wrE_same _ eObjResult f stOk

theorem rdE_shown_gen (f code : Nat) (v : State) : rdE (shown f code v) eObjGen f = rdE v eObjGen f :=
  rdE_shown v (objKey_ne f rfl rfl rfl (by decide)) (objKey_ne f rfl rfl rfl (by decide))

theorem rdE_shown_peer (f code : Nat) (v : State) : rdE (shown f code v) eKeyPeer f = rdE v eKeyPeer f :=
  rdE_shown v (objKey_ne f rfl rfl rfl (by decide)) (objKey_ne f rfl rfl rfl (by decide))

theorem rdE_shown_state {f code : Nat} {v : State} (hcode : code ≠ 7) (hkind : 3 ≤ rdE v eObjKind f) :
    rdE (shown f code v) eObjState f = objSt v (rdE v eObjKind f) (rdE v eObjIndex f) := by
  have hshow : showObj f code (stOk, v) = wrE v eObjState f (objSt v (rdE v eObjKind f) (rdE v eObjIndex f)) := if_pos ⟨rfl, hcode, hkind⟩
  rw [shown, hshow]
  exact (rdE_wrE_ne (e := eObjResult) (e' := eObjState) _ stOk (objKey_ne f rfl rfl rfl (by decide))).trans (rdE_wrE_same v eObjState f _)

theorem objCheck_passed {f code kind i : Nat} (h : objCheck s f code kind i = none) : 1 ≤ kind ∧ kind ≤ 4 ∧ objDefined code kind = true := by
  unfold objCheck at h
  split at h
  · cases h
  · split at h
    · cases h
    · simp_all
      omega

section
variable {f : Nat}

theorem objAct_create (h : objCheck s f 1 (rdE s eObjKind f) (rdE s eObjIndex f) = none)
    (hcreate : objCreateCheck s f (rdE s eObjKind f) (rdE s eObjIndex f) = none) :
    objAct f 1 s = (stOk, objCreate s f (rdE s eObjKind f) (rdE s eObjIndex f)) := by
  simp [objAct, h, hcreate]

theorem objAct_modify (h : objCheck s f 2 (rdE s eObjKind f) (rdE s eObjIndex f) = none) :
    objAct f 2 s = objModify s f (rdE s eObjKind f) (rdE s eObjIndex f) := by
  simp [objAct, h]

theorem objAct_destroy (h : objCheck s f 3 (rdE s eObjKind f) (rdE s eObjIndex f) = none) :
    objAct f 3 s = objDestroy s (rdE s eObjKind f) (rdE s eObjIndex f) := by
  simp [objAct, h]

theorem objAct_advance (h : objCheck s f 4 (rdE s eObjKind f) (rdE s eObjIndex f) = none) :
    objAct f 4 s = (stOk, wrE (advanceRegion s (rdE s eObjIndex f)) eObjGen f (((regionOf s (rdE s eObjIndex f)).gen + 1) % 65536)) := by
  simp [objAct, h]

theorem objAct_query (h : objCheck s f 5 (rdE s eObjKind f) (rdE s eObjIndex f) = none) :
    objAct f 5 s = (stOk, objQuery s f (rdE s eObjKind f) (rdE s eObjIndex f)) := by
  simp [objAct, h]

theorem objAct_retire (h : objCheck s f 6 (rdE s eObjKind f) (rdE s eObjIndex f) = none) :
    objAct f 6 s = (stOk, retireKey s (rdE s eObjIndex f)) := by
  simp [objAct, h]

end

/-! ### Objects created, replaced and destroyed -/

theorem objCreate_creates {f kind i : Nat} (h1 : 1 ≤ kind) (h4 : kind ≤ 4) (hkey : kind ≠ 4) :
    objSt (objCreate s f kind i) kind i = 1 ∧ objOwner (objCreate s f kind i) kind i = f := by
  have hkind : kind = 1 ∨ kind = 2 ∨ kind = 3 := by omega
  rcases hkind with rfl | rfl | rfl
  · have hpd := tget_tset_same s.pds {} i { st := 1, owner := f }
    exact ⟨congrArg Pd.st hpd, congrArg Pd.owner hpd⟩
  · have hregion := regionOf_setRegion s i (stagedRegion s f { st := 1, owner := f, ctx := rdE s eObjContext f, pd := rdE s eObjPd f, gen := (regionOf s i).gen })
    exact ⟨congrArg Region.st hregion, congrArg Region.owner hregion⟩
  · change (epOf (objCreate s f 3 i) i).st = 1 ∧ (epOf (objCreate s f 3 i) i).owner = f
    have hstay {u : State} (h : (epOf u i).st = 1 ∧ (epOf u i).owner = f) :
        (epOf (if cacheRoom s (homeDie i) then makeResident u i else u) i).st = 1 ∧
          (epOf (if cacheRoom s (homeDie i) then makeResident u i else u) i).owner = f := by
      split
      · have hep := epOf_setEp u i { epOf u i with resident := true, fetching := false }
        exact ⟨(congrArg Ep.st hep).trans h.1, (congrArg Ep.owner hep).trans h.2⟩
      · exact h
    have hep := epOf_setEp s i { stagedEp s f { st := 1, owner := f, ctx := rdE s eObjContext f, pd := rdE s eObjPd f, flags := rdE s eEpFlags f, evictions := (epOf s i).evictions } with recFree := rdE s eRxqDepth f }
    exact hstay ⟨congrArg Ep.st hep, congrArg Ep.owner hep⟩

theorem objDestroy_destroys {kind i : Nat} (h1 : 1 ≤ kind) (h4 : kind ≤ 4) (hnamed : kind = 1 → pdNamed s i = false) :
    ∃ v, objDestroy s kind i = (stOk, v) ∧ objSt v kind i ≠ 1 := by
  have hkind : kind = 1 ∨ kind = 2 ∨ kind = 3 ∨ kind = 4 := by omega
  rcases hkind with rfl | rfl | rfl | rfl
  · have hpd := tget_tset_same s.pds {} i { tget s.pds {} i with st := 2 }
    refine ⟨_, (if_pos rfl).trans (if_neg (by simp [hnamed rfl])), ?_⟩
    exact fun h => absurd ((congrArg Pd.st hpd).symm.trans h) (by decide : (2 : Nat) ≠ 1)
  · have hregion := regionOf_setRegion (endRegionMsgs s i) i { regionOf (endRegionMsgs s i) i with st := 2 }
    exact ⟨_, rfl, fun h => absurd ((congrArg Region.st hregion).symm.trans h) (by decide : (2 : Nat) ≠ 1)⟩
  · refine ⟨destroyEp s i, rfl, ?_⟩
    have hst : (epOf (destroyEp s i) i).st = 3 := congrArg Ep.st (epOf_setEp _ i _)
    exact fun h => absurd (hst.symm.trans h) (by decide)
  · exact ⟨_, rfl, unlive_retireKey s i⟩

/-! ### Bits -/

theorem putBit_true (v i : Nat) : putBit v i true = v - 2 ^ i * (v / 2 ^ i % 2) + 2 ^ i := by
  simp [putBit, putBits, bits, b2n, Nat.mul_comm]

theorem bit_putBit_true (v i : Nat) : bit (putBit v i true) i = true := by
  rw [bit, putBit_true, Nat.testBit_eq_decide_div_mod_eq, Nat.add_div_right _ (Nat.two_pow_pos i), Nat.sub_mul_div, decide_eq_true_iff]
  omega

theorem bit_putBit (v i : Nat) (b : Bool) : bit (putBit v i b) i = b := by
  cases b
  · exact bit_putBit_false v i
  · exact bit_putBit_true v i

/-! ### Objects replaced, keys advanced -/

theorem objModify_region {f i : Nat} (h : (objModify s f 2 i).1 = stOk) :
    regionOf (objModify s f 2 i).2 i = stagedRegion s f (regionOf s i) := by
  rw [objModify, if_pos rfl] at h ⊢
  extract_lets at h ⊢
  split at h
  · exact absurd h (show stAccess ≠ stOk by decide)
  next hok =>
    rw [if_neg hok]
    exact regionOf_setRegion s i _

/-- The rings of an endpoint change; its kind and context stay. -/
theorem objModify_ep {f i : Nat} (h : (objModify s f 3 i).1 = stOk) : (epOf (objModify s f 3 i).2 i).rxqDepth = rdE s eRxqDepth f ∧
    (epOf (objModify s f 3 i).2 i).ctx = (epOf s i).ctx ∧ isAdmission (epOf (objModify s f 3 i).2 i) = isAdmission (epOf s i) := by
  rw [objModify, if_neg (by decide)] at h ⊢
  extract_lets at h ⊢
  split at h
  · exact absurd h (show stPolicy ≠ stOk by decide)
  next hok =>
    rw [if_neg hok, epOf_setEp]
    exact ⟨rfl, rfl, bit_putBit _ 0 (isAdmission (epOf s i))⟩

theorem regionOf_advanceRegion (s : State) (r : Nat) : (regionOf (advanceRegion s r) r).gen = ((regionOf s r).gen + 1) % 65536 := by
  have hsame : regionOf (endRegionMsgs s r) r = regionOf s r := congrArg (fun l : Tbl Region => tget l {} r) (endRegionMsgs_keeps s r).2
  have hset := congrArg Region.gen (regionOf_setRegion (endRegionMsgs s r) r
    { regionOf (endRegionMsgs s r) r with gen := ((regionOf (endRegionMsgs s r) r).gen + 1) % 65536 })
  exact hset.trans (by rw [hsame])

/-- What a command of the object record that succeeds is answered. -/
theorem objCmd_shows {src : Src} {code : Nat} {v : State} (hacc : Accepted s src eObjCommand (srcFn src) code)
    (h : objAct (srcFn src) code s = (stOk, v)) : objCmd s src code = .next (answer (shown (srcFn src) code v) src stOk) := by
  have hrule := objRule_of_ok h
  exact (odCmd_of_accepted hacc (congrArg Prod.fst hrule)).trans (by rw [hrule])

theorem regionOf_shown (f code i : Nat) (v : State) : regionOf (shown f code v) i = regionOf v i := by rw [shown_eq]; rfl
theorem epOf_shown (f code i : Nat) (v : State) : epOf (shown f code v) i = epOf v i := by rw [shown_eq]; rfl
theorem keyOf_shown (f code i : Nat) (v : State) : keyOf (shown f code v) i = keyOf v i := by rw [shown_eq]; rfl
theorem objSt_shown (f code kind i : Nat) (v : State) : objSt (shown f code v) kind i = objSt v kind i := by rw [shown_eq]; rfl
theorem objOwner_shown (f code kind i : Nat) (v : State) : objOwner (shown f code v) kind i = objOwner v kind i := by rw [shown_eq]; rfl

/-! ### The statement -/

/-- Settles O38: each command's effect by its own lemma, what the record shows of it by `objCmd_shows`. -/
theorem objectCommandsTakeEffect : Obligations.ObjectCommandsTakeEffect := by
  unfold Obligations.ObjectCommandsTakeEffect
  refine ⟨?create, ?modify, ?destroy, ?advance, ?query, ?retire, ?context⟩
  case create =>
    intro src s ⟨hacc, hcheck⟩ hcreate
    obtain ⟨hlo, hhi, hdef⟩ := objCheck_passed hcheck
    have hkey : objKindOf s src ≠ 4 := fun h4 => by simp [h4, objDefined] at hdef
    obtain ⟨hst, howner⟩ := objCreate_creates (s := s) (f := srcFn src) (i := objIndexOf s src) hlo hhi hkey
    exact ⟨_, objCmd_shows hacc (objAct_create hcheck hcreate), (objSt_shown ..).trans hst, (objOwner_shown ..).trans howner,
      rdE_shown_result ..⟩
  case modify =>
    intro src s ⟨hacc, hcheck⟩ hok
    refine ⟨_, objCmd_shows hacc ((objAct_modify hcheck).trans (Prod.ext hok rfl)), rdE_shown_result .., fun h2 => ?_, fun h3 => ?_⟩
    · rw [h2] at hok
      rw [regionOf_shown, ← objModify_region hok, ← h2]
      rfl
    · rw [h3] at hok
      have hep := objModify_ep hok
      rw [← h3] at hep
      rw [epOf_shown]
      exact hep
  case destroy =>
    intro src s ⟨hacc, hcheck⟩ hnamed
    obtain ⟨hlo, hhi, -⟩ := objCheck_passed hcheck
    obtain ⟨v, hv, hst⟩ := objDestroy_destroys hlo hhi hnamed
    exact ⟨_, objCmd_shows hacc ((objAct_destroy hcheck).trans hv), by rwa [objSt_shown], rdE_shown_result ..⟩
  case advance =>
    intro src s ⟨hacc, hcheck⟩
    refine ⟨_, objCmd_shows hacc (objAct_advance hcheck), ?_, ?_, ?_⟩
    · rw [regionOf_shown]
      exact regionOf_advanceRegion s (objIndexOf s src)
    · exact (rdE_shown_gen ..).trans (rdE_wrE_same _ eObjGen (srcFn src) _)
    · rw [shown_eq]
      exact fun x hx => (endRegionMsgs_keeps s (objIndexOf s src)).1 hx
  case query =>
    intro src s ⟨hacc, hcheck⟩
    refine ⟨_, objCmd_shows hacc (objAct_query hcheck), ?_, fun h2 => ?_, fun h3 => ?_, fun h4 => ?_⟩
    · rw [shown_eq]
      unfold objQuery
      (repeat' split) <;> rfl
    · have hq : objQuery s (srcFn src) (rdE s eObjKind (srcFn src)) (rdE s eObjIndex (srcFn src)) =
          wrE s eObjGen (srcFn src) (regionOf s (objIndexOf s src)).gen := if_pos h2
      rw [hq]
      exact (rdE_shown_gen ..).trans (rdE_wrE_same s eObjGen (srcFn src) _)
    · have h3' : rdE s eObjKind (srcFn src) = 3 := h3
      have hq : objQuery s (srcFn src) (rdE s eObjKind (srcFn src)) (rdE s eObjIndex (srcFn src)) = s := by simp [objQuery, h3']
      rw [hq, rdE_shown_state (by decide) h3'.ge, h3']
      rfl
    · have h4' : rdE s eObjKind (srcFn src) = 4 := h4
      have hq : objQuery s (srcFn src) (rdE s eObjKind (srcFn src)) (rdE s eObjIndex (srcFn src)) =
          wrE (wrE s eObjGen (srcFn src) (keyOf s (objIndexOf s src)).gen) eKeyPeer (srcFn src) (keyPeer (keyOf s (objIndexOf s src))) := by
        simp [objQuery, h4', objIndexOf]
      rw [hq]
      have hread {e : Ent} (hfn : e.perFn = true) (hbase : 0x4100 = e.base) (hgen : 12 ≠ e.subLo) (hpeer : 21 ≠ e.subLo) :
          rdE (wrE (wrE s eObjGen (srcFn src) (keyOf s (objIndexOf s src)).gen) eKeyPeer (srcFn src) (keyPeer (keyOf s (objIndexOf s src)))) e (srcFn src) =
            rdE s e (srcFn src) :=
        (rdE_wrE_ne _ _ (objKey_ne _ rfl hfn hbase hpeer)).trans (rdE_wrE_ne s _ (objKey_ne _ rfl hfn hbase hgen))
      have hkind := (hread (e := eObjKind) rfl rfl (by decide) (by decide)).trans h4'
      have hindex := hread (e := eObjIndex) rfl rfl (by decide) (by decide)
      refine ⟨?_, ?_, ?_⟩
      · exact (rdE_shown_gen ..).trans ((rdE_wrE_ne (e := eKeyPeer) (e' := eObjGen) _ _ (objKey_ne _ rfl rfl rfl (by decide))).trans
          (rdE_wrE_same s eObjGen (srcFn src) _))
      · rw [rdE_shown_state (by decide) (by omega), hkind, hindex]
        rfl
      · exact (rdE_shown_peer ..).trans (rdE_wrE_same _ eKeyPeer (srcFn src) _)
  case retire =>
    intro src s ⟨hacc, hcheck⟩ hlive
    have hkey := keyOf_retireKey hlive
    refine ⟨_, objCmd_shows hacc (objAct_retire hcheck), ?_, ?_, fun e x hx => ?_⟩
    · exact (congrArg Key.st (keyOf_shown ..)).trans (congrArg Key.st hkey)
    · exact (congrArg Key.quar (keyOf_shown ..)).trans (congrArg Key.quar hkey)
    · rw [epOf_shown] at hx
      exact streams_retireKey hlive hx
  case context =>
    intro src n s hacc hn hlive
    have hact : objAct (srcFn src) 7 s = (stOk, advanceCtxKey s n) := by simp [objAct, hn, hlive]
    refine ⟨_, objCmd_shows hacc hact, ?_, fun k hst hctx => ?_⟩
    · rw [shown_eq]
      exact ctxKeyGen_advanceCtxKey s n
    · rw [keyOf_shown] at hst hctx ⊢
      exact live_advanceCtxKey hst hctx

end Sys2Proof.Machine
end

section
/-! SUPPORT. What every command keeps: the commands that wait behind it and the fuses (log 1, R432). Shared operations, rounds, ciphertexts,
shares and accumulation. One lemma per function, in the model's order, built like the function's body: `Steady.Holds.f` says that f keeps both,
`StepKept.execF` that the arm execF of a command does; the ends of work and the resets of units are instances of `OutageSteady`. -/

namespace Sys2Proof.Machine
open Sys2Proof

/-- A burnt bit stays burnt. -/
theorem bit_putBit_of_bit {v i j : Nat} (h : bit v j = true) : bit (putBit v i true) j = true := by
  rcases Nat.mod_two_eq_zero_or_one (v / 2 ^ i) with hoff | hon
  · rw [bit, Nat.testBit_eq_decide_div_mod_eq, decide_eq_true_iff] at h ⊢
    rw [putBit_true, hoff, Nat.mul_zero, Nat.sub_zero]
    rcases Nat.lt_trichotomy j i with hlt | rfl | hgt
    · obtain ⟨k, rfl⟩ := Nat.exists_eq_add_of_lt hlt
      have hmul : 2 ^ (j + k + 1) = 2 ^ j * (2 * 2 ^ k) := by rw [Nat.pow_succ, Nat.pow_add]; ring
      rw [hmul, Nat.add_mul_div_left _ _ (Nat.two_pow_pos j)]
      omega
    · omega
    · obtain ⟨k, rfl⟩ := Nat.exists_eq_add_of_lt hgt
      have hmul : 2 ^ (i + k + 1) = 2 ^ i * (2 * 2 ^ k) := by rw [Nat.pow_succ, Nat.pow_add]; ring
      rw [hmul, ← Nat.div_div_eq_div_mul, ← Nat.div_div_eq_div_mul] at h ⊢
      rw [Nat.add_div_right _ (Nat.two_pow_pos i)]
      have hhalf : (v / 2 ^ i + 1) / 2 = v / 2 ^ i / 2 := by omega
      rwa [hhalf]
  · have hge : 2 ^ i ≤ v := by
      by_contra hlt
      rw [Nat.div_eq_of_lt (Nat.lt_of_not_le hlt)] at hon
      cases hon
    rwa [putBit_true, hon, Nat.mul_one, Nat.sub_add_cancel hge]

variable {s₀ : State}

/-- The commands that wait in s are those of s₀, and no fuse of s₀ is clear in s. -/
def Standing (s₀ s : State) : Prop := s.pending = s₀.pending ∧ FusesKept s₀ s

theorem Standing.refl (s : State) : Standing s s :=
  ⟨rfl, fun _ _ hb => hb, Nat.le_refl _, rfl, rfl, rfl, rfl, rfl, rfl, rfl⟩

theorem Standing.of_same {s t} (h : Standing s₀ s) (hsame : (t.pending, t.fuses) = (s.pending, s.fuses)) : Standing s₀ t := by
  simp only [Prod.mk.injEq] at hsame
  obtain ⟨hpend, hfuses⟩ := hsame
  obtain ⟨hpend', hfuses'⟩ := h
  exact ⟨hpend.trans hpend', by rw [FusesKept, hfuses]; exact hfuses'⟩

/-- Ends of work, resets of units and dies keep the commands that wait and the fuses. -/
def lasting (s₀ : State) : OutageSteady where
  Holds := Standing s₀
  ctx _ := True
  ep _ := True
  junk := True
  keep h he := h.of_same (congrArg (fun x : State => (x.pending, x.fuses)) he :)
  ended h _ := h
  dropped h _ := h
  loft _ h := h
  retired _ h := h
  eps h _ := h
  epEnds _ h := h
  torn _ h _ _ := h
  stray _ h _ := h
  row _ := True
  handed h he := h.of_same (congrArg (fun x : State => (x.pending, x.fuses)) he :)
  setFn _ h := h
  tgen h := h
  active h := h
  ends _ := trivial
  outage h he := h.of_same (congrArg (fun x : State => (x.pending, x.fuses)) he :)
  rows _ := trivial
  allCtx _ := trivial
  noLoft := trivial
  ctxState _ h := h
  linkUp _ h := h
  session _ h := h
  drop h := h

/-- Fences keep them too. -/
def lastingFence (s₀ : State) : FenceSteady where
  toRestSteady := (lasting s₀).toRestSteady
  own _ := True
  mark _ h := h
  ctxs _ _ := trivial
  noLoft := trivial

/-- A state with the commands and fuses of another that keeps them. -/
theorem Steady.Holds.update {s t} (h : (lasting s₀).Holds s) (hsame : (t.pending, t.fuses) = (s.pending, s.fuses)) : (lasting s₀).Holds t :=
  Standing.of_same h hsame

/-- A state in which fuses of another are burnt. -/
theorem Steady.Holds.burn {s t} (h : (lasting s₀).Holds s) (hpend : t.pending = s.pending) (hfuses : FusesKept s t) : (lasting s₀).Holds t := by
  obtain ⟨hpend', hfuses'⟩ := h
  obtain ⟨hbits, hfloor, hserial, hmanifest, hvendor0, hvendor1, hrevoke, hdebug, hmac⟩ := hfuses
  obtain ⟨hbits', hfloor', hserial', hmanifest', hvendor0', hvendor1', hrevoke', hdebug', hmac'⟩ := hfuses'
  exact ⟨hpend.trans hpend', fun i hi hb => hbits i hi (hbits' i hi hb), hfloor'.trans hfloor, hserial.trans hserial',
    hmanifest.trans hmanifest', hvendor0.trans hvendor0', hvendor1.trans hvendor1', hrevoke.trans hrevoke', hdebug.trans hdebug',
    hmac.trans hmac'⟩

/-- A state in which bits of the lifecycle are burnt, and the DUS and the dies' identities may be new. -/
theorem Steady.Holds.burnBits {s t} (h : (lasting s₀).Holds s) (hpend : t.pending = s.pending)
    (hbits : ∀ i, bit s.fuses.lifecycle i = true → bit t.fuses.lifecycle i = true)
    (hrest : { t.fuses with lifecycle := 0, dus := 0, dieIds := 0 } = { s.fuses with lifecycle := 0, dus := 0, dieIds := 0 }) :
    (lasting s₀).Holds t := by
  simp only [Fuses.mk.injEq] at hrest
  obtain ⟨hserial, hmanifest, -, -, hvendor0, hvendor1, hrevoke, hdebug, hfloor, hmac, -⟩ := hrest
  exact h.burn hpend ⟨fun i _ => hbits i, hfloor.ge, hserial, hmanifest, hvendor0, hvendor1, hrevoke, hdebug, hmac⟩

theorem Steady.Holds.setLoft {s n m} (h : (lasting s₀).Holds s) : (lasting s₀).Holds (setLoft s n m) := .update h rfl
theorem Steady.Holds.setMboxBytes {s n m} (h : (lasting s₀).Holds s) : (lasting s₀).Holds (setMboxBytes s n m) := .update h rfl

theorem Steady.Holds.fence {s f cause stuck} (h : (lasting s₀).Holds s) : (lasting s₀).Holds (Machine.beginFence s f cause stuck) :=
  Steady.Holds.beginFence (I := lastingFence s₀) trivial trivial h

theorem Steady.Holds.fences {s stuck} (h : (lasting s₀).Holds s) : (lasting s₀).Holds (Machine.fenceAll s stuck) :=
  Steady.Holds.fenceAll (I := lastingFence s₀) (fun _ => trivial) (fun _ => trivial) h

/-! ### Branches and loops -/

theorem Steady.Holds.getD {o : Option State} {s} (h : (lasting s₀).Holds s) (ho : ∀ t, o = some t → (lasting s₀).Holds t) :
    (lasting s₀).Holds (o.getD s) := by
  cases o with
  | none => exact h
  | some t => exact ho t rfl

/-! ### Outcomes -/

/-- Where the outcome is a next state, it keeps the commands and fuses of s₀ if s does. -/
def StepKept (s₀ s : State) (r : Res) : Prop := ∀ t, r = .next t → (lasting s₀).Holds s → (lasting s₀).Holds t

theorem StepKept.next {s t} (h : (lasting s₀).Holds s → (lasting s₀).Holds t) : StepKept s₀ s (.next t) := fun _ he => Host.Outcome.next.inj he ▸ h
theorem StepKept.stay {s} : StepKept s₀ s (.next s) := .next id
theorem StepKept.ite {c : Prop} [Decidable c] {s r r'} (h : StepKept s₀ s r) (h' : StepKept s₀ s r') :
    StepKept s₀ s (if c then r else r') := by
  split
  · exact h
  · exact h'

/-- A step from a state in between is a step from the first one. -/
theorem StepKept.of_state {s s1 r} (hs : (lasting s₀).Holds s → (lasting s₀).Holds s1) (h : StepKept s₀ s1 r) : StepKept s₀ s r :=
  fun t he hk => h t he (hs hk)

/-! ### Shared operations (Ops.lean) -/

theorem Steady.Holds.wrEj {s e n j v} (h : (lasting s₀).Holds s) : (lasting s₀).Holds (wrEj s e n j v) :=
  .update h rfl

theorem Steady.Holds.wrE {s e n v} (h : (lasting s₀).Holds s) : (lasting s₀).Holds (wrE s e n v) :=
  .wrEj h

theorem Steady.Holds.addE {s e n x} (h : (lasting s₀).Holds s) : (lasting s₀).Holds (addE s e n x) :=
  .wrE h

theorem Steady.Holds.bumpE {s e n} (h : (lasting s₀).Holds s) : (lasting s₀).Holds (bumpE s e n) :=
  .addE h

theorem Steady.Holds.decE {s e n} (h : (lasting s₀).Holds s) : (lasting s₀).Holds (decE s e n) :=
  .wrE h

theorem Steady.Holds.wrB {s off dflt v} (h : (lasting s₀).Holds s) : (lasting s₀).Holds (wrB s off dflt v) :=
  .update h rfl

theorem Steady.Holds.bumpB {s off nbytes x} (h : (lasting s₀).Holds s) : (lasting s₀).Holds (bumpB s off nbytes x) :=
  .wrB h

theorem Steady.Holds.sendCtl {s key o} (h : (lasting s₀).Holds s) : (lasting s₀).Holds (sendCtl s key o) :=
  .emit (.update h rfl)

theorem Steady.Holds.setCq {s f q c} (h : (lasting s₀).Holds s) : (lasting s₀).Holds (setCq s f q c) :=
  .update h rfl

theorem Steady.Holds.setFn {s f x} (h : (lasting s₀).Holds s) : (lasting s₀).Holds (setFn s f x) :=
  .update h rfl

theorem Steady.Holds.setRegion {s r x} (h : (lasting s₀).Holds s) : (lasting s₀).Holds (setRegion s r x) :=
  .update h rfl

theorem Steady.Holds.setKey {s k x} (h : (lasting s₀).Holds s) : (lasting s₀).Holds (setKey s k x) :=
  .update h rfl

theorem Steady.Holds.setPort {s p x} (h : (lasting s₀).Holds s) : (lasting s₀).Holds (setPort s p x) :=
  .update h rfl

theorem Steady.Holds.setMbox {s f m} (h : (lasting s₀).Holds s) : (lasting s₀).Holds (setMbox s f m) :=
  .update h rfl

theorem Steady.Holds.actLed {s} (h : (lasting s₀).Holds s) : (lasting s₀).Holds (actLed s) :=
  .update h rfl

theorem Steady.Holds.linkWork {s} (h : (lasting s₀).Holds s) : (lasting s₀).Holds (linkWork s) :=
  .update h rfl

theorem Steady.Holds.flushMsix {s f} (h : (lasting s₀).Holds s) : (lasting s₀).Holds (flushMsix s f) :=
  .foldl h fun _ _ h => .ite h (.emit (.linkWork (.update h rfl)))

theorem Steady.Holds.writeFault {s r} (h : (lasting s₀).Holds s) : (lasting s₀).Holds (writeFault s r) := by
  unfold Machine.writeFault
  extract_lets _ s1 s2 s3 _ s4 _ _ s6
  have h1 : (lasting s₀).Holds s1 := .freshNext (h.update rfl)
  have h2 : (lasting s₀).Holds s2 := .ite (.bumpE h1) h1
  have h3 : (lasting s₀).Holds s3 := h2.update rfl
  have h6 : (lasting s₀).Holds s6 := .postEvent (.wrE (.ite (h3.update rfl) h3))
  exact .ite (.postEvent h6) h6

theorem Steady.Holds.noteRefusal {s n st} (h : (lasting s₀).Holds s) : (lasting s₀).Holds (noteRefusal s n st) :=
  .wrE h

theorem Steady.Holds.wakeOnDemand {s d} (h : (lasting s₀).Holds s) : (lasting s₀).Holds (wakeOnDemand s d) :=
  .ite h (.update h rfl)

/-! ### Operands (Operands.lean) -/

theorem Steady.Holds.setDesc {s d} (h : (lasting s₀).Holds s) : (lasting s₀).Holds (setDesc s d) :=
  .update h rfl

/-! ### Areas of device memory (Areas.lean) -/

theorem Steady.Holds.exportTake {s n a len} (h : (lasting s₀).Holds s) : (lasting s₀).Holds (exportTake s n a len) :=
  .ite (.update h rfl) h

theorem Steady.Holds.setChk {s n a v} (h : (lasting s₀).Holds s) : (lasting s₀).Holds (setChk s n a v) :=
  .setCx h

theorem Steady.Holds.flagRow {s n r v} (h : (lasting s₀).Holds s) : (lasting s₀).Holds (flagRow s n r v) :=
  .wrE (.wrE (.setCx h))

theorem Steady.Holds.addClearRow {s n r xs} (h : (lasting s₀).Holds s) : (lasting s₀).Holds (addClearRow s n r xs) := by
  unfold Machine.addClearRow
  extract_lets _ _ _ _ _ s1
  have h1 : (lasting s₀).Holds s1 := .setVm h
  exact .ite (.setChk h1) (.flagRow (.setChk h1))

theorem Steady.Holds.addSharedRow {s n r xs} (h : (lasting s₀).Holds s) : (lasting s₀).Holds (addSharedRow s n r xs) :=
  .setChk (.setVm h)

theorem Steady.Holds.setLedger {s n slot} (h : (lasting s₀).Holds s) : (lasting s₀).Holds (setLedger s n slot) :=
  .setVm h

/-! ### Messages being sent (Tx.lean) -/

theorem Steady.Holds.setTx {s t} (h : (lasting s₀).Holds s) : (lasting s₀).Holds (setTx s t) :=
  .update h rfl

theorem Steady.Holds.ownSend {s key msg len} (h : (lasting s₀).Holds s) : (lasting s₀).Holds (ownSend s key msg len) := by
  unfold Machine.ownSend
  extract_lets _ _ _ s1
  have h1 : (lasting s₀).Holds s1 := .setKey h
  exact .ite h (.update h1 rfl)

/-! ### What several families do to a round (Round.lean) -/

theorem Steady.Holds.rngTake {s k} (h : (lasting s₀).Holds s) : (lasting s₀).Holds (rngTake s k) :=
  .update h rfl

theorem Steady.Holds.unstage {s n p} (h : (lasting s₀).Holds s) : (lasting s₀).Holds (unstage s n p) :=
  .foldl (.setCx h) fun _ _ h => .update h rfl

theorem Steady.Holds.dropBuf {s n k} (h : (lasting s₀).Holds s) : (lasting s₀).Holds (dropBuf s n k) :=
  .wrE (.setCx (.foldl h fun _ _ h => .scrubRange h))

theorem Steady.Holds.failCohort {s n k st} (h : (lasting s₀).Holds s) : (lasting s₀).Holds (failCohort s n k st) :=
  .noteRefusal (.bumpE (.dropBuf (.setCx (.unstage (.setCohort (.ite (.update h rfl) h))))))

theorem Steady.Holds.mergedCohort {s n k cnt} (h : (lasting s₀).Holds s) : (lasting s₀).Holds (mergedCohort s n k cnt) := by
  unfold Machine.mergedCohort
  extract_lets _ _ s2 _ s3
  have h2 : (lasting s₀).Holds s2 := .unstage (.addE (.dropBuf (.setCohort h)))
  have h3 : (lasting s₀).Holds s3 := .ite h2 (.setCx h2)
  exact .ite (.setCx h3) h3

theorem Steady.Holds.abandonRound {s n st} (h : (lasting s₀).Holds s) : (lasting s₀).Holds (abandonRound s n st) :=
  .abandonBy trivial trivial h

theorem Steady.Holds.hwCount {s a} (h : (lasting s₀).Holds s) : (lasting s₀).Holds (hwCount s a) := by
  unfold Machine.hwCount
  split
  · exact .bumpE h
  · exact .bumpE h
  · exact .bumpE h
  · exact .bumpE h
  · exact .bumpE h
  · exact .bumpB h
  · exact h

theorem Steady.Holds.hwReach {s d a} (h : (lasting s₀).Holds s) : (lasting s₀).Holds (hwReach s d a) := by
  unfold Machine.hwReach
  split
  · exact .ite (.failCohort h) h
  · exact .tryAbandon trivial trivial h
  · exact h

theorem Steady.Holds.hwFault {s d a} (h : (lasting s₀).Holds s) : (lasting s₀).Holds (hwFault s d a) := by
  unfold Machine.hwFault
  split
  · exact .writeFault h
  · exact .writeFault h
  · exact .writeFault h
  · exact h

theorem Steady.Holds.hwStop {s d a} (h : (lasting s₀).Holds s) : (lasting s₀).Holds (hwStop s d a) := by
  unfold Machine.hwStop
  split
  · exact .endAt (.inr trivial) h
  · exact .endAt (.inr trivial) h
  · exact .endAt (.inr trivial) h
  · exact .endAt (.inr trivial) h
  · exact .endAt (.inr trivial) h
  · exact .completeDesc h
  · exact .endDesc (.inr trivial) h

theorem Steady.Holds.hwEnd {s d e} (h : (lasting s₀).Holds s) : (lasting s₀).Holds (hwEnd s d e) :=
  .hwFault (.hwReach (.hwStop (.hwCount h)))

theorem StepKept.runDescE {s i op e eff err} (heff : ∀ d t, (lasting s₀).Holds t → (lasting s₀).Holds (eff d t))
    (herr : ∀ d e t, (lasting s₀).Holds t → (lasting s₀).Holds (err d e t)) : StepKept s₀ s (runDescE s i op e eff err) := by
  unfold Machine.runDescE
  split
  · exact .stay
  · exact .ite .stay (.next fun h => .ite (heff _ _ h) (herr _ _ _ h))

theorem StepKept.runDesc {s i op e eff} (heff : ∀ d t, (lasting s₀).Holds t → (lasting s₀).Holds (eff d t)) :
    StepKept s₀ s (runDesc s i op e eff) :=
  .runDescE heff fun _ _ _ h => .hwEnd h

theorem StepKept.runDescIf {s i op sel e eff err} (heff : ∀ d t, (lasting s₀).Holds t → (lasting s₀).Holds (eff d t))
    (herr : ∀ d e t, (lasting s₀).Holds t → (lasting s₀).Holds (err d e t)) : StepKept s₀ s (runDescIf s i op sel e eff err) := by
  unfold Machine.runDescIf
  split
  · exact .stay
  · exact .ite (.runDescE heff herr) .stay

theorem Steady.Holds.loadKeys {s n die} (h : (lasting s₀).Holds s) : (lasting s₀).Holds (loadKeys s n die) :=
  .setCx (.setLoft h)

/-! ### Round commands (Rounds.lean) -/

theorem Steady.Holds.createCtx {s f n} (h : (lasting s₀).Holds s) : (lasting s₀).Holds (createCtx s f n) := by
  exact .wrE (.setCx (.ite h (h.update rfl)))

theorem Steady.Holds.openScales {s n} (h : (lasting s₀).Holds s) : (lasting s₀).Holds (openScales s n) :=
  .ite (.wrE (.wrE h)) (.wrE (.wrE (.ite (.setVm h) h)))

theorem Steady.Holds.openMasked {s n} (h : (lasting s₀).Holds s) : (lasting s₀).Holds (openMasked s n) :=
  .foldl (.wrE (.wrE (.wrE (.ite (.rngTake (.freshNext h)) h)))) fun _ _ h => .wrE h

theorem Steady.Holds.openSealed {s n} (h : (lasting s₀).Holds s) : (lasting s₀).Holds (openSealed s n) := by
  unfold Machine.openSealed
  extract_lets _ _ s2
  have h2 : (lasting s₀).Holds s2 := .wrE (.wrE (.wrE (.wrE (.wrE h))))
  exact .ite h2 (.wrE (.setCx h2))

theorem Steady.Holds.zeroShared {s n} (h : (lasting s₀).Holds s) : (lasting s₀).Holds (zeroShared s n) :=
  .setCx (.setVm h)

theorem Steady.Holds.openRound {s n} (h : (lasting s₀).Holds s) : (lasting s₀).Holds (openRound s n) := by
  unfold Machine.openRound
  extract_lets _ s1 s2 s3 _ _ _ _ s7 s8
  have h1 : (lasting s₀).Holds s1 := .openScales h
  have h2 : (lasting s₀).Holds s2 := .ite (.openMasked h1) h1
  have h3 : (lasting s₀).Holds s3 := .ite (.openSealed h2) h2
  have h7 : (lasting s₀).Holds s7 := .setCx
      (.wrE (.wrE (.foldl (.setVm h3) fun _ _ h => .wrE h)))
  have h8 : (lasting s₀).Holds s8 := .setRound trivial (.wrE (.ite (.zeroShared h7) h7))
  exact .ite (.foldl h8 fun _ _ h => .loadKeys h) h8

theorem Steady.Holds.openRule {n s} (h : (lasting s₀).Holds s) : (lasting s₀).Holds (openRule n s).2 := by
  unfold Machine.openRule
  extract_lets s1
  have h1 : (lasting s₀).Holds s1 := .foldl h fun _ _ h => .wakeOnDemand h
  split
  · exact h
  · split
    · exact .ite (.hwCount h) h
    · exact .ite (.setCx h1) (.openRound h1)

theorem Steady.Holds.resumeOpen {s n} (h : (lasting s₀).Holds s) : (lasting s₀).Holds (resumeOpen s n) := by
  unfold Machine.resumeOpen
  extract_lets _ s1
  have h1 : (lasting s₀).Holds s1 := .setCx h
  split
  · split
    · exact h1
    · split
      · exact .noteRefusal h1
      · exact .openRound h1
  · exact h

theorem Steady.Holds.resumeAll {s} (h : (lasting s₀).Holds s) : (lasting s₀).Holds (resumeAll s) :=
  .foldl h fun _ _ h => .resumeOpen h

theorem Steady.Holds.shutCohort {s n k} (h : (lasting s₀).Holds s) : (lasting s₀).Holds (shutCohort s n k) :=
  .settle (.decE (.setCohort h))

theorem Steady.Holds.closeRule {n s} (h : (lasting s₀).Holds s) : (lasting s₀).Holds (closeRule n s).2 := by
  unfold Machine.closeRule
  extract_lets
  split
  · exact h
  · exact .setRound trivial (.foldl h fun _ _ h => .shutCohort h)

theorem Steady.Holds.abandonRule {n s} (h : (lasting s₀).Holds s) : (lasting s₀).Holds (abandonRule n s).2 := by
  unfold Machine.abandonRule
  split
  · exact .tryAbandon trivial trivial (.jobAbort trivial h)
  · exact h

theorem Steady.Holds.releaseRule {n s} (h : (lasting s₀).Holds s) : (lasting s₀).Holds (releaseRule n s).2 := by
  unfold Machine.releaseRule
  split
  · exact h
  · exact .setRound trivial (.dropRoundData trivial (.dropProv h))

theorem StepKept.execCohortCloseGraceExpiry {n k s} : StepKept s₀ s (execCohortCloseGraceExpiry n k s) :=
  .ite .stay (.ite (.next fun h => .settle (.reverseAll (.setCohort h))) .stay)

theorem StepKept.execAreaScrubComplete {n s} : StepKept s₀ s (execAreaScrubComplete n s) := by
  unfold Machine.execAreaScrubComplete
  extract_lets s1
  have h1 (h : (lasting s₀).Holds s) : (lasting s₀).Holds s1 := .scrubRange h
  exact .ite .stay <|
    .ite (.next fun h => .setRound trivial (.wrE (.setCx (.clearTiles (.ite (.scrubRange (h1 h)) (h1 h)))))) .stay

theorem StepKept.execContextQuarantineExpiry {n s} : StepKept s₀ s (execContextQuarantineExpiry n s) :=
  .ite .stay (.ite (.next fun h => .wrE (.setCx (.update h rfl))) .stay)

theorem Steady.Holds.cohortOpenRule {n s} (h : (lasting s₀).Holds s) : (lasting s₀).Holds (cohortOpenRule n s).2 := by
  unfold Machine.cohortOpenRule
  extract_lets
  split
  · exact h
  · split
    · exact h
    · exact .foldl (.ite (.zeroShared h) h) fun _ _ h => .bumpE (.setCohort h)

theorem Steady.Holds.cohortShutRule {n s} (h : (lasting s₀).Holds s) : (lasting s₀).Holds (cohortShutRule n s).2 := by
  unfold Machine.cohortShutRule
  split
  · exact h
  · split
    · exact h
    · split
      · exact h
      · exact .foldl h fun _ _ h => .shutCohort h

theorem Steady.Holds.policyLockRule {n s} (h : (lasting s₀).Holds s) : (lasting s₀).Holds (policyLockRule n s).2 :=
  .wrE (.wrE h)

/-! ### Masked aggregation (Masked.lean) -/

theorem Steady.Holds.setBuf {s n b x} (h : (lasting s₀).Holds s) : (lasting s₀).Holds (setBuf s n b x) :=
  .wrE (.setCx h)

theorem Steady.Holds.bindBuf {s n k b} (h : (lasting s₀).Holds s) : (lasting s₀).Holds (bindBuf s n k b) :=
  .ctxEvent (.setBuf (.setCx (.setVm h)))

theorem StepKept.execShareBufferBind {n s} : StepKept s₀ s (execShareBufferBind n s) := by
  unfold Machine.execShareBufferBind
  split
  · exact .stay
  · split
    · exact .stay
    · split
      · exact .next fun h => .failCohort h
      · split
        · exact .stay
        · exact .next fun h => .bindBuf h

theorem Steady.Holds.replyMsg {s key code} (h : (lasting s₀).Holds s) : (lasting s₀).Holds (replyMsg s key code) :=
  h.update rfl

theorem Steady.Holds.shareIn {key m reply s} (hreply : ∀ t st, (lasting s₀).Holds t → (lasting s₀).Holds (reply t st)) (h : (lasting s₀).Holds s) :
    (lasting s₀).Holds (shareIn key m reply s) := by
  unfold Machine.shareIn
  extract_lets
  split
  · exact h
  · split
    · exact hreply _ _ h
    · split
      · exact hreply _ _ (.bumpE h)
      · split
        · exact h
        · exact hreply _ _ (.bumpE (.setBuf h))

theorem StepKept.execSeedSumShareMessage {key m s} : StepKept s₀ s (execSeedSumShareMessage key m s) :=
  .ite .stay (.next fun h => .shareIn (fun _ _ h => .replyMsg h) h)

theorem Steady.Holds.storeElem {s n i} (h : (lasting s₀).Holds s) : (lasting s₀).Holds (storeElem s n i) :=
  .setVm h

theorem Steady.Holds.deriveElems {s d k} (h : (lasting s₀).Holds s) : (lasting s₀).Holds (deriveElems s d k) :=
  .wrE (.setCx (.foldl h fun _ _ h => .storeElem h))

theorem Steady.Holds.prgDerive {d s} (h : (lasting s₀).Holds s) : (lasting s₀).Holds (prgDerive d s) :=
  .completeDesc (.deriveElems h)

theorem Steady.Holds.prgDeriveErr {d e s} (h : (lasting s₀).Holds s) : (lasting s₀).Holds (prgDeriveErr d e s) := by
  unfold Machine.prgDeriveErr
  split
  · exact .hwEnd (.deriveElems h)
  · exact .hwEnd (.deriveElems h)
  · exact .hwEnd (.deriveElems h)
  · exact .hwEnd h

theorem StepKept.execPrgExpandDerive {i e s} : StepKept s₀ s (execPrgExpandDerive i e s) :=
  .runDescIf (fun _ _ h => .prgDerive h) (fun _ _ _ h => .prgDeriveErr h)

theorem Steady.Holds.markChunks {s d k} (h : (lasting s₀).Holds s) : (lasting s₀).Holds (markChunks s d k) := by
  unfold Machine.markChunks
  extract_lets
  split
  · exact h
  · exact .setBuf h

theorem Steady.Holds.prgMask {d s} (h : (lasting s₀).Holds s) : (lasting s₀).Holds (prgMask d s) :=
  .completeDesc (.markChunks h)

theorem Steady.Holds.prgMaskErr {d e s} (h : (lasting s₀).Holds s) : (lasting s₀).Holds (prgMaskErr d e s) := by
  have hat k : (lasting s₀).Holds
      (Machine.endAt (Machine.hwCount (Machine.markChunks s d k) e) d stIntegrity
          (k / maskChunks s (dCtx d))) :=
    .endAt (.inr trivial) (.hwCount (.markChunks h))
  unfold Machine.prgMaskErr
  split
  · exact hat _
  · exact hat _
  · exact .hwFault (hat _)
  · exact .hwEnd h

theorem StepKept.execPrgExpandMask {i e s} : StepKept s₀ s (execPrgExpandMask i e s) :=
  .runDescIf (fun _ _ h => .prgMask h) (fun _ _ _ h => .prgMaskErr h)

theorem Steady.Holds.reconEff {d s} (h : (lasting s₀).Holds s) : (lasting s₀).Holds (reconEff d s) := by
  unfold Machine.reconEff
  extract_lets
  split
  · exact .refuseDesc h
  · exact .ite (.completeDesc (.setBuf h)) (.completeDesc (.wrE h))

theorem StepKept.execSeedRecon {i e s} : StepKept s₀ s (execSeedRecon i e s) :=
  .runDesc (fun _ _ h => .reconEff h)

theorem Steady.Holds.unmaskRow {d cnt sum s h} (hs : (lasting s₀).Holds s) : (lasting s₀).Holds (unmaskRow d cnt sum s h) :=
  .setCohort (.addClearRow (.ite (.flagRow hs) hs))

theorem Steady.Holds.unmaskTo {s d k} (h : (lasting s₀).Holds s) : (lasting s₀).Holds (unmaskTo s d k).1 := by
  unfold Machine.unmaskTo
  extract_lets _ _ _ _ _ s1
  have h1 : (lasting s₀).Holds s1 := .foldl h fun _ _ h => .unmaskRow h
  exact .ite (.mergedCohort h1) h1

theorem Steady.Holds.unmaskStop {s d e k} (h : (lasting s₀).Holds s) : (lasting s₀).Holds (unmaskStop s d e k) :=
  .hwFault (.hwReach (.endAt (.inr trivial) (.hwCount (.unmaskTo h))))

theorem Steady.Holds.unmaskEff {d s} (h : (lasting s₀).Holds s) : (lasting s₀).Holds (unmaskEff d s) := by
  unfold Machine.unmaskEff
  extract_lets
  split
  · exact .refuseDesc h
  · split
    · exact .unmaskStop h
    · exact .completeDesc (.unmaskTo h)

theorem Steady.Holds.unmaskErr {d e s} (h : (lasting s₀).Holds s) : (lasting s₀).Holds (unmaskErr d e s) := by
  unfold Machine.unmaskErr
  split
  · exact .unmaskStop h
  · exact .unmaskStop h
  · exact .unmaskStop h
  · exact .unmaskStop h
  · exact .unmaskStop h
  · exact .hwEnd h

theorem StepKept.execUnmask {i e s} : StepKept s₀ s (execUnmask i e s) :=
  .runDescE (fun _ _ h => .unmaskEff h) (fun _ _ _ h => .unmaskErr h)

/-! ### Modular arithmetic (Modular.lean) -/

theorem Steady.Holds.writeLimbs {s d c f} (h : (lasting s₀).Holds s) : (lasting s₀).Holds (writeLimbs s d c f) :=
  .setOpMem trivial h

theorem Steady.Holds.modFinish {s d bad c f} (h : (lasting s₀).Holds s) : (lasting s₀).Holds (modFinish s d bad c f) :=
  .ite (.completeDesc h) (.ite (.endDesc (.inr trivial) h) (.completeDesc (.writeLimbs h)))

theorem Steady.Holds.elementWise {d std g s} (h : (lasting s₀).Holds s) : (lasting s₀).Holds (elementWise d std g s) :=
  .modFinish h

theorem StepKept.execNtt {i e s} : StepKept s₀ s (execNtt i e s) :=
  .runDesc (fun _ _ h => .modFinish h)

theorem StepKept.execIntt {i e s} : StepKept s₀ s (execIntt i e s) :=
  .runDesc (fun _ _ h => .modFinish h)

theorem StepKept.execVmulProduct {i e s} : StepKept s₀ s (execVmulProduct i e s) :=
  .runDescIf (fun _ _ h => .elementWise h) (fun _ _ _ h => .hwEnd h)

theorem StepKept.execVmulScalar {i e s} : StepKept s₀ s (execVmulScalar i e s) :=
  .runDescIf (fun _ _ h => .elementWise h) (fun _ _ _ h => .hwEnd h)

theorem StepKept.execVmulAdd {i e s} : StepKept s₀ s (execVmulAdd i e s) :=
  .runDescIf (fun _ _ h => .elementWise h) (fun _ _ _ h => .hwEnd h)

theorem StepKept.execVmulSubtract {i e s} : StepKept s₀ s (execVmulSubtract i e s) :=
  .runDescIf (fun _ _ h => .elementWise h) (fun _ _ _ h => .hwEnd h)

theorem StepKept.execVmulToMontgomery {i e s} : StepKept s₀ s (execVmulToMontgomery i e s) :=
  .runDescIf (fun _ _ h => .elementWise h) (fun _ _ _ h => .hwEnd h)

theorem StepKept.execVmulToStandard {i e s} : StepKept s₀ s (execVmulToStandard i e s) :=
  .runDescIf (fun _ _ h => .elementWise h) (fun _ _ _ h => .hwEnd h)

theorem StepKept.execVmacAddProduct {i e s} : StepKept s₀ s (execVmacAddProduct i e s) :=
  .runDescIf (fun _ _ h => .elementWise h) (fun _ _ _ h => .hwEnd h)

theorem StepKept.execVmacAddScalar {i e s} : StepKept s₀ s (execVmacAddScalar i e s) :=
  .runDescIf (fun _ _ h => .elementWise h) (fun _ _ _ h => .hwEnd h)

theorem StepKept.execVmacSubProduct {i e s} : StepKept s₀ s (execVmacSubProduct i e s) :=
  .runDescIf (fun _ _ h => .elementWise h) (fun _ _ _ h => .hwEnd h)

theorem StepKept.execVmacSubScalar {i e s} : StepKept s₀ s (execVmacSubScalar i e s) :=
  .runDescIf (fun _ _ h => .elementWise h) (fun _ _ _ h => .hwEnd h)

theorem Steady.Holds.convEff {exact d s} (h : (lasting s₀).Holds s) : (lasting s₀).Holds (convEff exact d s) :=
  .modFinish (.update h rfl)

theorem StepKept.execBaseconvFast {i e s} : StepKept s₀ s (execBaseconvFast i e s) :=
  .runDescIf (fun _ _ h => .convEff h) (fun _ _ _ h => .hwEnd h)

theorem StepKept.execBaseconvExact {i e s} : StepKept s₀ s (execBaseconvExact i e s) :=
  .runDescIf (fun _ _ h => .convEff h) (fun _ _ _ h => .hwEnd h)

theorem StepKept.execBaseconvPrepare {i e s} : StepKept s₀ s (execBaseconvPrepare i e s) :=
  .runDescIf
      (fun _ _ h => .ite (.completeDesc h)
          (.completeDesc (.update (.setOpMem trivial h) rfl)))
              (fun _ _ _ h => .hwEnd h)

theorem StepKept.execAutomorphCoefficient {i e s} : StepKept s₀ s (execAutomorphCoefficient i e s) :=
  .runDescIf (fun _ _ h => .modFinish h) (fun _ _ _ h => .hwEnd h)

theorem StepKept.execAutomorphNtt {i e s} : StepKept s₀ s (execAutomorphNtt i e s) :=
  .runDescIf (fun _ _ h => .modFinish h) (fun _ _ _ h => .hwEnd h)

theorem Steady.Holds.basisLoadRule {n v s} (h : (lasting s₀).Holds s) : (lasting s₀).Holds (basisLoadRule n v s).2 := by
  unfold Machine.basisLoadRule
  split
  · exact h
  · exact .wrEj h

/-! ### Ciphertexts (Sealed.lean) -/

theorem Steady.Holds.rngDraw {s nbits} (h : (lasting s₀).Holds s) : (lasting s₀).Holds (rngDraw s nbits) :=
  .rngTake h

theorem Steady.Holds.sScratchJunk {s d} (h : (lasting s₀).Holds s) : (lasting s₀).Holds (sScratchJunk s d) :=
  .foldl h fun _ _ h => .update (.setOpMem trivial h) rfl

theorem Steady.Holds.sReload {s d} (h : (lasting s₀).Holds s) : (lasting s₀).Holds (sReload s d) :=
  .ite (.bumpE (.loadKeys h)) h

theorem Steady.Holds.sFinish {s d ty member id tag bound count st parts c} (h : (lasting s₀).Holds s) :
    (lasting s₀).Holds (sFinish s d ty member id tag bound count st parts c) := by
  unfold Machine.sFinish
  extract_lets _ _ _ _ s'
  have h' : (lasting s₀).Holds s' := .setOpMem trivial h
  exact .completeDesc (.update h' rfl)

theorem Steady.Holds.sResult {s d count c} (h : (lasting s₀).Holds s) : (lasting s₀).Holds (sResult s d count c) :=
  .sFinish h

theorem Steady.Holds.ctAddEff {d s} (h : (lasting s₀).Holds s) : (lasting s₀).Holds (ctAddEff d s) := by
  unfold Machine.ctAddEff
  extract_lets s
  have hs : (lasting s₀).Holds s := .sReload h
  exact .ite (.endDesc (.inr trivial) hs) (.sResult hs)

theorem StepKept.execCtAdd {i e s} : StepKept s₀ s (execCtAdd i e s) :=
  .runDesc (fun _ _ h => .ctAddEff h)

theorem Steady.Holds.ctPmulEff {d s} (h : (lasting s₀).Holds s) : (lasting s₀).Holds (ctPmulEff d s) := by
  unfold Machine.ctPmulEff
  extract_lets s
  have hs : (lasting s₀).Holds s := .sReload h
  exact .ite (.endDesc (.inr trivial) hs) (.sResult hs)

theorem StepKept.execCtPmul {i e s} : StepKept s₀ s (execCtPmul i e s) :=
  .runDesc (fun _ _ h => .ctPmulEff h)

theorem Steady.Holds.switchEff {g d s0} (h : (lasting s₀).Holds s0) : (lasting s₀).Holds (switchEff g d s0) := by
  unfold Machine.switchEff
  extract_lets _ _ s _ _ _ _ s1 _ _ _ _ s2 _ _ s'
  have hs : (lasting s₀).Holds s := .sReload h
  have h1 : (lasting s₀).Holds s1 := .ite hs (.addE hs)
  have h2 : (lasting s₀).Holds s2 := .sScratchJunk h1
  have h' : (lasting s₀).Holds s' := .setOpMem trivial h2
  exact .ite (.completeDesc (.setOpMem trivial h1)) <|
    .ite (.endDesc (.inr trivial) h2) (.completeDesc (.update h' rfl))

theorem StepKept.execKeyswitch {i e s} : StepKept s₀ s (execKeyswitch i e s) :=
  .runDesc (fun _ _ h => .switchEff h)

theorem StepKept.execRotate {i e s} : StepKept s₀ s (execRotate i e s) :=
  .runDesc (fun _ _ h => .switchEff h)

theorem Steady.Holds.moddropEff {d s} (h : (lasting s₀).Holds s) : (lasting s₀).Holds (moddropEff d s) := by
  unfold Machine.moddropEff
  extract_lets s
  have hs : (lasting s₀).Holds s := .sReload h
  exact .ite (.endDesc (.inr trivial) hs) (.sResult hs)

theorem StepKept.execModdrop {i e s} : StepKept s₀ s (execModdrop i e s) :=
  .runDesc (fun _ _ h => .moddropEff h)

theorem Steady.Holds.encryptEff {d s0} (h : (lasting s₀).Holds s0) : (lasting s₀).Holds (encryptEff d s0) := by
  unfold Machine.encryptEff
  extract_lets _ _ s _ _ _ _ _ _ _ _ s'
  have hs : (lasting s₀).Holds s := .sReload h
  have h' : (lasting s₀).Holds s' := .rngDraw hs
  exact .ite (.completeDesc h) <|
    .ite (.endDesc (.inr trivial) (.hwCount hs)) <|
    .ite (.completeDesc (.setOpMem trivial hs)) (.sFinish (.update h' rfl))

theorem StepKept.execEncryptClearInt32 {i e s} : StepKept s₀ s (execEncryptClearInt32 i e s) :=
  .runDescIf (fun _ _ h => .encryptEff h) (fun _ _ _ h => .hwEnd h)

theorem StepKept.execEncryptClearFp32Pair {i e s} : StepKept s₀ s (execEncryptClearFp32Pair i e s) :=
  .runDescIf (fun _ _ h => .encryptEff h) (fun _ _ _ h => .hwEnd h)

theorem Steady.Holds.decryptEff {d s0} (h : (lasting s₀).Holds s0) : (lasting s₀).Holds (decryptEff d s0) := by
  unfold Machine.decryptEff
  extract_lets _ s _ _ _ _ _ s'
  have hs : (lasting s₀).Holds s := .sReload h
  have h' : (lasting s₀).Holds s' := .rngDraw hs
  exact .ite (.endDesc (.inr trivial) (.hwCount hs)) (.ite (.endDesc (.inr trivial) (.update h' rfl)) (.sFinish (.update h' rfl)))

theorem StepKept.execDecryptShare {i e s} : StepKept s₀ s (execDecryptShare i e s) :=
  .runDesc (fun _ _ h => .decryptEff h)

theorem Steady.Holds.keyShareIn {key m reply s} (hreply : ∀ t st, (lasting s₀).Holds t → (lasting s₀).Holds (reply t st)) (h : (lasting s₀).Holds s) :
    (lasting s₀).Holds (keyShareIn key m reply s) := by
  unfold Machine.keyShareIn
  extract_lets
  split
  · exact h
  · split
    · exact hreply _ _ h
    · split
      · exact hreply _ _ (.bumpE h)
      · exact hreply _ _ (.wrE (.setCx (.foldl h fun _ _ h => .update h rfl)))

theorem StepKept.execKeyShareMessage {key m s} : StepKept s₀ s (execKeyShareMessage key m s) :=
  .ite .stay (.next fun h => .keyShareIn (fun _ _ h => .replyMsg h) h)

/-! ### Secret sharing (Shared.lean) -/

theorem Steady.Holds.shPut {s n a r xs} (h : (lasting s₀).Holds s) : (lasting s₀).Holds (shPut s n a r xs) :=
  .setVm h

theorem Steady.Holds.shElementWise {d f g s} (h : (lasting s₀).Holds s) : (lasting s₀).Holds (shElementWise d f g s) :=
  .completeDesc (.foldl h fun _ _ h => .setChk (.shPut h))

theorem StepKept.execShAdd {i e s} : StepKept s₀ s (execShAdd i e s) :=
  .runDescIf (fun _ _ h => .shElementWise h) (fun _ _ _ h => .hwEnd h)

theorem StepKept.execShAddPublic {i e s} : StepKept s₀ s (execShAddPublic i e s) :=
  .runDescIf (fun _ _ h => .shElementWise h) (fun _ _ _ h => .hwEnd h)

theorem StepKept.execShSubtract {i e s} : StepKept s₀ s (execShSubtract i e s) :=
  .runDescIf (fun _ _ h => .shElementWise h) (fun _ _ _ h => .hwEnd h)

theorem StepKept.execShScale {i e s} : StepKept s₀ s (execShScale i e s) :=
  .runDesc (fun _ _ h => .shElementWise h)

theorem Steady.Holds.xSend {s n m} (h : (lasting s₀).Holds s) : (lasting s₀).Holds (xSend s n m) :=
  .foldl h fun _ _ h => (by
        split
        · exact .ownSend (.emit h)
        · exact h)

theorem Steady.Holds.dropTriples {s n keep} (h : (lasting s₀).Holds s) : (lasting s₀).Holds (dropTriples s n keep) :=
  .wrE (.setCx h)

theorem Steady.Holds.xTidy {s d} (h : (lasting s₀).Holds s) : (lasting s₀).Holds (xTidy s d) := by
  unfold Machine.xTidy
  extract_lets s1
  have h1 : (lasting s₀).Holds s1 := .update h rfl
  exact .ite (.update h1 rfl) h1

theorem Steady.Holds.xEnd {s d st detail} (h : (lasting s₀).Holds s) : (lasting s₀).Holds (xEnd s d st detail) :=
  .completeDesc (.xTidy h)

theorem Steady.Holds.takeTriples {s d} (h : (lasting s₀).Holds s) : (lasting s₀).Holds (takeTriples s d) :=
  .wrE h

theorem Steady.Holds.xFail {s d} (h : (lasting s₀).Holds s) : (lasting s₀).Holds (xFail s d) :=
  .hwFault (.hwReach (.endAt (.inr trivial) (.hwCount (.xTidy h))))

theorem Steady.Holds.allOpened {s n} (h : (lasting s₀).Holds s) : (lasting s₀).Holds (allOpened s n) :=
  .ite h (.ite (.wrE h) (.setCx h))

theorem Steady.Holds.openRow {s n r range sum} (h : (lasting s₀).Holds s) : (lasting s₀).Holds (openRow s n r range sum) := by
  unfold Machine.openRow
  extract_lets _ _ s1 s2
  have h1 : (lasting s₀).Holds s1 := .setChk (.shPut h)
  have h2 : (lasting s₀).Holds s2 := .ite (.flagRow h1) h1
  exact .allOpened (.bumpE (.setCx (.ite h2 (.addClearRow (.setCx h2)))))

theorem Steady.Holds.tryOpenBlock {s d b} (h : (lasting s₀).Holds s) : (lasting s₀).Holds (tryOpenBlock s d b) := by
  unfold Machine.tryOpenBlock
  extract_lets
  split
  · exact h
  · exact .foldl h fun _ _ h => .ite h (.ite (.setDesc (.openRow h)) (.openRow h))

theorem Steady.Holds.tryBeaverBlock {s d b} (h : (lasting s₀).Holds s) : (lasting s₀).Holds (tryBeaverBlock s d b) :=
  .ite h (.setDesc (.foldl h fun _ _ h => .setChk (.shPut h)))

theorem Steady.Holds.xAdvance {s d} (h : (lasting s₀).Holds s) : (lasting s₀).Holds (xAdvance s d) := by
  unfold Machine.xAdvance
  extract_lets s1 s1'
  have h1 : (lasting s₀).Holds s1 := .foldl h fun _ _ h => .tryOpenBlock h
  have h1' : (lasting s₀).Holds s1' := .foldl h fun _ _ h => .tryBeaverBlock h
  exact .ite (.ite (.xFail h1) (.ite (.xEnd h1) h1)) (.ite (.xFail h1') (.ite (.xEnd h1') h1'))

theorem Steady.Holds.xStart {s d} (h : (lasting s₀).Holds s) : (lasting s₀).Holds (xStart s d) := by
  unfold Machine.xStart
  extract_lets _ _ s1
  have h1 : (lasting s₀).Holds s1 := .setDesc h
  exact .ite (.refuseDesc (.update h rfl))
      (.xAdvance
          (.foldl (.ite (.dropTriples (.takeTriples h1)) h1) fun _ _ h => .ite (.xSend h) (.xSend (.update h rfl))))

theorem Steady.Holds.xHandshakes {s d} (h : (lasting s₀).Holds s) : (lasting s₀).Holds (xHandshakes s d) :=
  .ite (.xEnd (.wrE h)) (.ite h (.xStart h))

theorem Steady.Holds.xStep {s d} (h : (lasting s₀).Holds s) : (lasting s₀).Holds (xStep s d) := by
  unfold Machine.xStep
  split
  · exact .xHandshakes h
  · exact .xAdvance h
  · exact h

theorem Steady.Holds.xPoll {s n} (h : (lasting s₀).Holds s) : (lasting s₀).Holds (xPoll s n) :=
  .foldl h fun _ _ h => .xStep h

theorem Steady.Holds.xBegin {d s} (h : (lasting s₀).Holds s) : (lasting s₀).Holds (xBegin d s) :=
  .ite (.completeDesc h) (.xHandshakes (.xSend (.setDesc h)))

theorem Steady.Holds.xErr {d e s} (h : (lasting s₀).Holds s) : (lasting s₀).Holds (xErr d e s) :=
  .ite (.xBegin (.setDesc h)) (.hwEnd h)

theorem StepKept.execShBeaver {i e s} : StepKept s₀ s (execShBeaver i e s) :=
  .runDescE (fun _ _ h => .xBegin h) (fun _ _ _ h => .xErr h)

theorem StepKept.execShOpen {i e s} : StepKept s₀ s (execShOpen i e s) :=
  .runDescE (fun _ _ h => .xBegin h) (fun _ _ _ h => .xErr h)

theorem StepKept.execExchangeTimeoutExpiry {i s} : StepKept s₀ s (execExchangeTimeoutExpiry i s) := by
  unfold Machine.execExchangeTimeoutExpiry
  split
  · exact .stay
  · split
    · exact .stay
    · exact .ite
          (.ite (.next fun h => .xEnd h) (.ite (.next fun h => .xEnd (.junkDest trivial (.takeTriples h))) .stay)) .stay

theorem Steady.Holds.exchangeIn {key m reply s} (hreply : ∀ t st, (lasting s₀).Holds t → (lasting s₀).Holds (reply t st)) (h : (lasting s₀).Holds s) :
    (lasting s₀).Holds (exchangeIn key m reply s) := by
  unfold Machine.exchangeIn
  extract_lets
  split
  · exact h
  · split
    · exact hreply _ _ (.bumpE h)
    · exact .xPoll (hreply _ _ (.update h rfl))

theorem StepKept.execExchangeMessage {key m s} : StepKept s₀ s (execExchangeMessage key m s) :=
  .ite .stay (.next fun h => .exchangeIn (fun _ _ h => .replyMsg h) h)

theorem Steady.Holds.tripleIn {key m reply s} (hreply : ∀ t st, (lasting s₀).Holds t → (lasting s₀).Holds (reply t st)) (h : (lasting s₀).Holds s) :
    (lasting s₀).Holds (tripleIn key m reply s) := by
  unfold Machine.tripleIn
  extract_lets
  split
  · exact h
  · split
    · exact hreply _ _ (.bumpE h)
    · exact hreply _ _ (.bumpE (.setCx h))

theorem StepKept.execTripleBatch {key m s} : StepKept s₀ s (execTripleBatch key m s) :=
  .ite .stay (.next fun h => .tripleIn (fun _ _ h => .replyMsg h) h)

theorem StepKept.execPartnerQuoteCheck {key q s} : StepKept s₀ s (execPartnerQuoteCheck key q s) := by
  unfold Machine.execPartnerQuoteCheck
  extract_lets
  split
  · exact .stay
  · split
    · split
      · exact .stay
      · exact .ite (.next fun h => .wrE h) .stay
    · exact .stay

/-! ### Accumulation (Accum.lean) -/

theorem Steady.Holds.putTile {s d t} (h : (lasting s₀).Holds s) : (lasting s₀).Holds (putTile s d t) :=
  .update h rfl

theorem Steady.Holds.accIntEff {neg d s} (h : (lasting s₀).Holds s) : (lasting s₀).Holds (accIntEff neg d s) :=
  .completeDesc (.putTile h)

theorem StepKept.execAccIntAdd {i e s} : StepKept s₀ s (execAccIntAdd i e s) :=
  .runDescIf (fun _ _ h => .accIntEff h) (fun _ _ _ h => .hwEnd h)

theorem StepKept.execAccIntSubtract {i e s} : StepKept s₀ s (execAccIntSubtract i e s) :=
  .runDescIf (fun _ _ h => .accIntEff h) (fun _ _ _ h => .hwEnd h)

theorem StepKept.execAccFloat {i e s} : StepKept s₀ s (execAccFloat i e s) :=
  .runDesc (fun _ _ h => .completeDesc (.putTile h))

theorem Steady.Holds.accModEff {neg d s} (h : (lasting s₀).Holds s) : (lasting s₀).Holds (accModEff neg d s) :=
  .completeDesc (.putTile h)

theorem StepKept.execAccMaskedAdd {i e s} : StepKept s₀ s (execAccMaskedAdd i e s) :=
  .runDescIf (fun _ _ h => .accModEff h) (fun _ _ _ h => .hwEnd h)

theorem StepKept.execAccMaskedSubtract {i e s} : StepKept s₀ s (execAccMaskedSubtract i e s) :=
  .runDescIf (fun _ _ h => .accModEff h) (fun _ _ _ h => .hwEnd h)

theorem StepKept.execAccSharedAdd {i e s} : StepKept s₀ s (execAccSharedAdd i e s) :=
  .runDescIf (fun _ _ h => .accModEff h) (fun _ _ _ h => .hwEnd h)

theorem StepKept.execAccSharedSubtract {i e s} : StepKept s₀ s (execAccSharedSubtract i e s) :=
  .runDescIf (fun _ _ h => .accModEff h) (fun _ _ _ h => .hwEnd h)

theorem StepKept.execPreloadZero {i e s} : StepKept s₀ s (execPreloadZero i e s) :=
  .runDescIf (fun _ _ h => .ite (.completeDesc h) (.completeDesc (.putTile h))) (fun _ _ _ h => .hwEnd h)

theorem StepKept.execPreloadLoad {i e s} : StepKept s₀ s (execPreloadLoad i e s) :=
  .runDescIf (fun _ _ h => .ite (.completeDesc h) (.completeDesc (.putTile h))) (fun _ _ _ h => .hwEnd h)

theorem Steady.Holds.drainRow {s0 d s x} (h : (lasting s₀).Holds s) : (lasting s₀).Holds (drainRow s0 d s x) := by
  unfold Machine.drainRow
  extract_lets _ _ _ _ _ s1 s2 s3
  have h1 : (lasting s₀).Holds s1 := .setOpMem trivial h
  have h2 : (lasting s₀).Holds s2 := .ite h1 (.setVm h1)
  have h3 : (lasting s₀).Holds s3 := .ite h2 (.setVm h2)
  exact .ite (.putTile (.update h3 rfl)) (.update h3 rfl)

theorem Steady.Holds.drainEff {d s} (h : (lasting s₀).Holds s) : (lasting s₀).Holds (drainEff d s) :=
  .completeDesc (.foldl h fun _ _ h => .drainRow h)

theorem StepKept.execDrainNative {i e s} : StepKept s₀ s (execDrainNative i e s) :=
  .runDescIf (fun _ _ h => .drainEff h) (fun _ _ _ h => .hwEnd h)

theorem StepKept.execDrainDequant {i e s} : StepKept s₀ s (execDrainDequant i e s) :=
  .runDescIf (fun _ _ h => .drainEff h) (fun _ _ _ h => .hwEnd h)

theorem StepKept.execDrainMean {i e s} : StepKept s₀ s (execDrainMean i e s) :=
  .runDescIf (fun _ _ h => .drainEff h) (fun _ _ _ h => .hwEnd h)

theorem StepKept.execDrainFused {i e s} : StepKept s₀ s (execDrainFused i e s) :=
  .runDescIf (fun _ _ h => .drainEff h) (fun _ _ _ h => .hwEnd h)

theorem StepKept.execSave {i e s} : StepKept s₀ s (execSave i e s) :=
  .runDesc (fun _ _ h => .completeDesc
      (.setOpMem trivial h))

theorem StepKept.execRestore {i e s} : StepKept s₀ s (execRestore i e s) :=
  .runDesc (fun _ _ h => .ite (.completeDesc h)
      (.ite (.completeDesc (.putTile h)) (.completeDesc (.putTile h))))

theorem Steady.Holds.reduceEff {mx d s} (h : (lasting s₀).Holds s) : (lasting s₀).Holds (reduceEff mx d s) :=
  .completeDesc (.setVm h)

theorem StepKept.execReduceMax {i e s} : StepKept s₀ s (execReduceMax i e s) :=
  .runDesc (fun _ _ h => .reduceEff h)

theorem StepKept.execReduceMin {i e s} : StepKept s₀ s (execReduceMin i e s) :=
  .runDesc (fun _ _ h => .reduceEff h)

theorem StepKept.execProvTileZero {n s} : StepKept s₀ s (execProvTileZero n s) :=
  .ite .stay (.ite .stay (.next fun h => .dropProv h))

end Sys2Proof.Machine
end

section
/-! SUPPORT. What every command keeps, continued: queues, counters, random numbers, the vault, the ridge, endpoints and messages on the wire. -/

namespace Sys2Proof.Machine
open Sys2Proof

variable {s₀ : State}

/-! ### Queues, counters and triggers (Queue.lean) -/

theorem Steady.Holds.flushQueue {s f q} (h : (lasting s₀).Holds s) : (lasting s₀).Holds (flushQueue s f q) :=
  .completeAll (.inr trivial) h

theorem Steady.Holds.writeCqConfig {s f q v} (h : (lasting s₀).Holds s) : (lasting s₀).Holds (writeCqConfig s f q v) :=
  .setCq (.ite (.flushQueue h) h)

theorem Steady.Holds.cqConfigWrite {s f q v} (h : (lasting s₀).Holds s) : (lasting s₀).Holds (cqConfigWrite s f q v) :=
  .ite (.writeCqConfig h) h

theorem StepKept.execCqEnable {f q v s} : StepKept s₀ s (execCqEnable f q v s) :=
  .next fun h => .cqConfigWrite h

theorem StepKept.execCqDisable {f q v s} : StepKept s₀ s (execCqDisable f q v s) :=
  .next fun h => .cqConfigWrite h

theorem StepKept.execCqFlush {f q v s} : StepKept s₀ s (execCqFlush f q v s) :=
  .next fun h => .cqConfigWrite h

theorem StepKept.execCqDoorbell {f q value s} : StepKept s₀ s (execCqDoorbell f q value s) :=
  .ite (.ite (.next fun h => .setCq h) (.next fun h => .setCq h)) .stay

theorem Steady.Holds.queueError {s f q st} (h : (lasting s₀).Holds s) : (lasting s₀).Holds (queueError s f q st) :=
  .postEvent (.setCq h)

theorem StepKept.execDescriptorFetch {f q e s} : StepKept s₀ s (execDescriptorFetch f q e s) := by
  unfold Machine.execDescriptorFetch
  extract_lets _ _ _ _ _ s1
  have h1 (h : (lasting s₀).Holds s) : (lasting s₀).Holds s1 := .setCq (.ite h (.linkWork h))
  split
  · exact .stay
  · split
    · exact .next fun h => .queueError h
    · exact .ite (.next fun h => .queueError h) (.next fun h => .update (h1 h) rfl)

theorem Steady.Holds.pointerFault {s f unit detail} (h : (lasting s₀).Holds s) : (lasting s₀).Holds (pointerFault s f unit detail) :=
  .writeFault (.bumpE h)

theorem Steady.Holds.lanePointerFault {s f q die} (h : (lasting s₀).Holds s) : (lasting s₀).Holds (lanePointerFault s f q die) :=
  .pointerFault (.completeAll (.inr trivial) h)

theorem Steady.Holds.streamPointerFault {s f} (h : (lasting s₀).Holds s) : (lasting s₀).Holds (streamPointerFault s f) :=
  .pointerFault (.completeAll (.inr trivial) h)

theorem StepKept.execDescriptorForward {f acc s} : StepKept s₀ s (execDescriptorForward f acc s) := by
  unfold Machine.execDescriptorForward
  extract_lets
  split
  · exact .stay
  · split
    · exact .next fun h => .ite (.streamPointerFault h) (.lanePointerFault h)
    · split
      · exact .stay
      · extract_lets _ s1
        have h1 (h : (lasting s₀).Holds s) : (lasting s₀).Holds s1 := .setDesc h
        exact .ite .stay (.ite (.next fun h => .ite (.setCq h) h) (.next fun h => .ite (.setCq (h1 h)) (h1 h)))

theorem StepKept.execUrgentPromotion {f q die s} : StepKept s₀ s (execUrgentPromotion f q die s) := by
  unfold Machine.execUrgentPromotion
  extract_lets _ s1
  have h1 (h : (lasting s₀).Holds s) : (lasting s₀).Holds s1 := .bumpE (.update h rfl)
  split
  · exact .stay
  · split
    · exact .stay
    · exact .ite .stay (.next fun h => .ite (.setCq (h1 h)) (h1 h))

theorem StepKept.execSynValueWrite {f c value s} : StepKept s₀ s (execSynValueWrite f c value s) :=
  .ite .stay (.ite (.next fun h => .synSet h) (.next fun h => .bumpE h))

theorem StepKept.execSynAdd {f c value s} : StepKept s₀ s (execSynAdd f c value s) :=
  .ite .stay (.ite (.next fun h => .synAdd h) (.next fun h => .bumpE h))

theorem Steady.Holds.synBlockRule {k value s} (h : (lasting s₀).Holds s) : (lasting s₀).Holds (synBlockRule k value s).2 := by
  unfold Machine.synBlockRule
  extract_lets
  split
  · exact h
  · exact .ite (.wrEj (.update h rfl)) (.wrEj (.update h rfl))

theorem StepKept.runControl {s i op ready eff} (heff : ∀ d, (lasting s₀).Holds s → (lasting s₀).Holds (eff d)) :
    StepKept s₀ s (runControl s i op ready eff) := by
  unfold Machine.runControl
  split
  · exact .stay
  · split
    · exact .stay
    · split
      · exact .next fun h => .refuseDesc h
      · exact .next (heff _)

theorem StepKept.execWait {i s} : StepKept s₀ s (execWait i s) :=
  .ite .stay (.runControl (fun _ h => .ite (.refuseDesc h) (.completeDesc h)))

theorem StepKept.execWaitTimeout {i s} : StepKept s₀ s (execWaitTimeout i s) :=
  .ite .stay (.runControl (fun _ h => .ite (.refuseDesc h) (.completeDesc h)))

theorem StepKept.execSignalAdd {i s} : StepKept s₀ s (execSignalAdd i s) :=
  .ite .stay (.runControl (fun _ h => .ite (.completeDesc h) (.refuseDesc h)))

theorem StepKept.execSignalSet {i s} : StepKept s₀ s (execSignalSet i s) :=
  .ite .stay (.runControl (fun _ h => .ite (.completeDesc h) (.refuseDesc h)))

theorem StepKept.execFenceQueue {i s} : StepKept s₀ s (execFenceQueue i s) :=
  .ite .stay (.runControl (fun _ h => .completeDesc h))

theorem StepKept.execFenceContext {i s} : StepKept s₀ s (execFenceContext i s) :=
  .ite .stay (.runControl (fun _ h => .completeDesc h))

theorem StepKept.execFenceFunction {i s} : StepKept s₀ s (execFenceFunction i s) :=
  .ite .stay (.runControl (fun _ h => .completeDesc h))

theorem StepKept.execNop {i s} : StepKept s₀ s (execNop i s) :=
  .ite .stay (.runControl (fun _ h => .completeDesc h))

theorem StepKept.execTriggerArm {i s} : StepKept s₀ s (execTriggerArm i s) := by
  unfold Machine.execTriggerArm
  split
  · exact .stay
  · exact .runControl
        (fun _ h => (by
              split
              · exact .refuseDesc h
              · exact .completeDesc (.markTriggers (.update h rfl))))

theorem StepKept.execTriggerCancel {i s} : StepKept s₀ s (execTriggerCancel i s) := by
  unfold Machine.execTriggerCancel
  split
  · exact .stay
  · exact .runControl (fun _ h => .completeDesc (by
        split
        · exact .ite h (.dropTrigger h)
        · exact h))

theorem Steady.Holds.enterStream {s f slot} (h : (lasting s₀).Holds s) : (lasting s₀).Holds (enterStream s f slot) := by
  unfold Machine.enterStream
  extract_lets s1
  have h1 : (lasting s₀).Holds s1 := .dropTrigger h
  split
  · exact h
  · exact .ite h (.update h1 rfl)

theorem StepKept.execTriggerFire {f slot s} : StepKept s₀ s (execTriggerFire f slot s) :=
  .ite .stay (.next fun h => .enterStream h)

theorem StepKept.execTriggerStreamEntry {f slot s} : StepKept s₀ s (execTriggerStreamEntry f slot s) :=
  .ite .stay (.next fun h => .enterStream h)

theorem Steady.Holds.writeEvqConfig {s f q v} (h : (lasting s₀).Holds s) : (lasting s₀).Holds (writeEvqConfig s f q v) :=
  .ite (.setEvq h) (.setEvq h)

theorem StepKept.execEvqEnable {f q value s} : StepKept s₀ s (execEvqEnable f q value s) :=
  .next fun h => .ite (.writeEvqConfig h) h

theorem StepKept.execEvqFlush {f q value s} : StepKept s₀ s (execEvqFlush f q value s) :=
  .next fun h => .ite (.writeEvqConfig h) h

theorem Steady.Holds.writeEvqDepth {s f q v} (h : (lasting s₀).Holds s) : (lasting s₀).Holds (writeEvqDepth s f q v) :=
  .ite (.setEvq h) (.setEvq h)

theorem StepKept.execEvqDepthWrite {f q value s} : StepKept s₀ s (execEvqDepthWrite f q value s) :=
  .next fun h => .ite (.writeEvqDepth h) h

theorem Steady.Holds.evqPointerFault {s f q} (h : (lasting s₀).Holds s) : (lasting s₀).Holds (evqPointerFault s f q) :=
  .pointerFault (.setEvq h)

theorem StepKept.execEventQueueRead {f q size ptrFault s} : StepKept s₀ s (execEventQueueRead f q size ptrFault s) := by
  unfold Machine.execEventQueueRead
  extract_lets
  split
  · exact .next fun h => .emit h
  · split
    · exact .next fun h => .emit (.evqPointerFault h)
    · split
      · exact .next fun h => .emit h
      · exact .next fun h => .emit (.setEvq h)

/-! ### Answers to dictionary writes (Reply.lean) -/

theorem Steady.Holds.answerWith {s src st value len read more} (h : (lasting s₀).Holds s) :
    (lasting s₀).Holds (answerWith s src st value len read more) := by
  unfold Machine.answerWith
  extract_lets s1
  have h1 : (lasting s₀).Holds s1 := .ite h (.emit h)
  split
  · extract_lets _ _ _ s2
    have h2 : (lasting s₀).Holds s2 := .setMboxBytes (.setMbox h1)
    exact .ite (.ite (.raiseMsix h2) h2) (.setMbox h)
  · exact h1

theorem Steady.Holds.answer {s src st} (h : (lasting s₀).Holds s) : (lasting s₀).Holds (answer s src st) :=
  .answerWith h

theorem Steady.Holds.noteWrite {s src e n st late} (h : (lasting s₀).Holds s) : (lasting s₀).Holds (noteWrite s src e n st late) := by
  unfold Machine.noteWrite
  extract_lets s1
  have h1 : (lasting s₀).Holds s1 := .ite (.noteRefusal h) h
  exact .ite (.wrE h1) (.ite (.wrE h1) h1)

theorem StepKept.odRun {s src e n len value rule} (hrule : ∀ t, (lasting s₀).Holds t → (lasting s₀).Holds (rule t).2) :
    StepKept s₀ s (odRun s src e n len value rule) := by
  unfold Machine.odRun
  split
  · exact .stay
  · split
    · exact .next fun h => .answer (.noteWrite h)
    · split
      · exact .next fun h => .answer (.noteWrite h)
      · exact .next fun h => .answer (.ite (hrule _ h) (.noteWrite (hrule _ h)))

theorem StepKept.odDefer {s src e n len value rule} (hrule : ∀ t, (lasting s₀).Holds t → (lasting s₀).Holds (rule t).2) :
    StepKept s₀ s (odDefer s src e n len value rule) := by
  unfold Machine.odDefer
  split
  · exact .stay
  · split
    · exact .next fun h => .answer (.noteWrite h)
    · split
      · exact .next fun h => .answer (.noteWrite h)
      · exact .next fun h => .ite (hrule _ h) (.answer (.noteWrite (hrule _ h)))

theorem StepKept.odCmd {s src e n value rule} (hrule : ∀ t, (lasting s₀).Holds t → (lasting s₀).Holds (rule t).2) :
    StepKept s₀ s (odCmd s src e n value rule) :=
  .odRun hrule

/-! ### The random number generator (Rng.lean) -/

theorem Steady.Holds.rngZero {s} (h : (lasting s₀).Holds s) : (lasting s₀).Holds (rngZero s) := by
  unfold Machine.rngZero
  extract_lets s1
  have h1 : (lasting s₀).Holds s1 := .bumpB h
  exact .update h1 rfl

theorem Steady.Holds.rngStart {s} (h : (lasting s₀).Holds s) : (lasting s₀).Holds (rngStart s) :=
  .update h rfl

theorem Steady.Holds.rngFail {s cause} (h : (lasting s₀).Holds s) : (lasting s₀).Holds (rngFail s cause) := by
  unfold Machine.rngFail
  extract_lets s1
  have h1 : (lasting s₀).Holds s1 := .rngZero h
  exact .writeFault (.bumpB (.update h1 rfl))

theorem Steady.Holds.takeSample {s x} (h : (lasting s₀).Holds s) : (lasting s₀).Holds (takeSample s x) :=
  .ite (.update h rfl) (.ite (.update h rfl) (.ite (.update h rfl) (.update h rfl)))

theorem StepKept.execRngSample {b s} : StepKept s₀ s (execRngSample b s) :=
  .ite .stay <|
  .ite .stay <|
  .ite (.next fun h => .rngFail (.update h rfl)) <|
  .ite (.next fun h => .rngFail (.update h rfl)) (.next fun h => .takeSample (.update h rfl))

theorem StepKept.execRngEstimateWindow {s} : StepKept s₀ s (execRngEstimateWindow s) := by
  unfold Machine.execRngEstimateWindow
  extract_lets _ s1
  have h1 (h : (lasting s₀).Holds s) : (lasting s₀).Holds s1 := .wrB (.wrB h)
  split
  · exact .stay
  · split
    · exact .stay
    · split
      · exact .next fun h => .rngFail (.update (h1 h) rfl)
      · exact .next fun h => (.update (h1 h) rfl)

theorem StepKept.execRngStartupComplete {katOk s} : StepKept s₀ s (execRngStartupComplete katOk s) := by
  unfold Machine.execRngStartupComplete
  split
  · exact .stay
  · split
    · exact .stay
    · split
      · exact .next fun h => .rngFail h
      · split
        · exact .next fun h => .rngFail h
        · exact .next fun h => .update h rfl

theorem Steady.Holds.rngBlock {w s} (h : (lasting s₀).Holds s) : (lasting s₀).Holds (rngBlock w s) := by
  unfold Machine.rngBlock
  extract_lets
  split
  · exact h.update rfl
  · exact h.update rfl

theorem Steady.Holds.rngRequest {s} (h : (lasting s₀).Holds s) : (lasting s₀).Holds (rngRequest s) := by
  unfold Machine.rngRequest
  exact .rngBlock (.rngBlock (.rngBlock (.rngBlock (h.update rfl))))

/-- A request that the DRBG has served is counted (R480). -/
theorem Steady.Holds.countServed {s} (h : (lasting s₀).Holds s) :
    (lasting s₀).Holds (Machine.bumpB { s with rng := { s.rng with served := s.rng.served + 1 } } rBytesOut 8 64) :=
  .bumpB (.update h rfl)

theorem StepKept.execDrbgGenerate {s} : StepKept s₀ s (execDrbgGenerate s) :=
  .ite .stay (.ite (.next fun h => .countServed (.rngRequest h)) .stay)

theorem StepKept.execReseedIntervalExpiry {s} : StepKept s₀ s (execReseedIntervalExpiry s) := by
  unfold Machine.execReseedIntervalExpiry
  extract_lets s1
  have h1 (h : (lasting s₀).Holds s) : (lasting s₀).Holds s1 := .update h rfl
  exact .ite .stay <|
    .ite .stay <|
    .ite (.next fun h => .update (h1 h) rfl) <|
    .ite (.next fun h => .bumpB (.update h rfl)) (.next fun h => .update h rfl)

theorem StepKept.execSeedBlockArrivalReseed {s} : StepKept s₀ s (execSeedBlockArrivalReseed s) := by
  unfold Machine.execSeedBlockArrivalReseed
  extract_lets s1
  have h1 (h : (lasting s₀).Holds s) : (lasting s₀).Holds s1 := .update h rfl
  exact .ite .stay (.ite (.next fun h => .update (h1 h) rfl) .stay)

theorem StepKept.execRngQueueRead {acc s} : StepKept s₀ s (execRngQueueRead acc s) :=
  .ite .stay <|
  .ite (.next fun h => .emit (.writeFault (.bumpE (.bumpB (.update h rfl))))) <|
  .ite (.next fun h => .emit (.update h rfl)) (.next fun h => .emit (.update h rfl))

theorem StepKept.execRngWaitLimitExpiry {c s} : StepKept s₀ s (execRngWaitLimitExpiry c s) :=
  .ite .stay (.ite (.next fun h => .bumpB (.update h rfl)) .stay)

theorem Steady.Holds.rngRestartRule {s} (h : (lasting s₀).Holds s) : (lasting s₀).Holds (rngRestartRule s).2 := by
  unfold Machine.rngRestartRule
  split
  · exact .bumpB (.rngStart h)
  · exact h

theorem StepKept.execRawCaptureSet {s} : StepKept s₀ s (execRawCaptureSet s) :=
  .ite (.next fun h => .update h rfl) .stay

theorem Steady.Holds.captureEnd {s} (h : (lasting s₀).Holds s) : (lasting s₀).Holds (captureEnd s) := by
  unfold Machine.captureEnd
  extract_lets s1
  have h1 : (lasting s₀).Holds s1 := .rngZero h
  exact .rngStart (.update h1 rfl)

theorem StepKept.execRawCaptureClear {s} : StepKept s₀ s (execRawCaptureClear s) :=
  .ite (.next fun h => .captureEnd h) .stay

theorem Steady.Holds.rngStop {s} (h : (lasting s₀).Holds s) : (lasting s₀).Holds (rngStop s) := by
  unfold Machine.rngStop
  extract_lets s1
  have h1 : (lasting s₀).Holds s1 := .rngZero h
  exact .update h1 rfl

/-! ### The key vault (Vault.lean) -/

theorem Steady.Holds.setV {s i v} (h : (lasting s₀).Holds s) : (lasting s₀).Holds (setV s i v) :=
  .update h rfl

theorem Steady.Holds.fillSlot {s i purpose owner port rights mod key} (h : (lasting s₀).Holds s) :
    (lasting s₀).Holds (fillSlot s i purpose owner port rights mod key) :=
  .setV h

theorem Steady.Holds.activateSlot {s i} (h : (lasting s₀).Holds s) : (lasting s₀).Holds (activateSlot s i) :=
  .setV (.update h rfl)

theorem Steady.Holds.installKey {s purpose owner port rights mod key t} (h : (lasting s₀).Holds s)
    (he : installKey s purpose owner port rights mod key = some t) : (lasting s₀).Holds t := by
  unfold Machine.installKey at he
  split at he
  · cases he
  · exact Option.some.inj he ▸ .activateSlot (.fillSlot h)

theorem StepKept.execVaultInstall {slot purpose owner port rights mod s} :
    StepKept s₀ s (execVaultInstall slot purpose owner port rights mod s) :=
  .ite .stay <|
  .ite .stay <|
  .ite (.next fun h => .bumpB h) (.next fun h => .fillSlot (.freshNext (.ite (.update h rfl) h)))

theorem StepKept.execVaultActivate {slot s} : StepKept s₀ s (execVaultActivate slot s) :=
  .ite .stay (.ite (.next fun h => .activateSlot h) .stay)

theorem StepKept.execVaultSlotQuarantineExpiry {slot s} : StepKept s₀ s (execVaultSlotQuarantineExpiry slot s) :=
  .ite .stay (.ite (.next fun h => .setV h) .stay)

theorem StepKept.execRemaskPass {s} : StepKept s₀ s (execRemaskPass s) :=
  .ite .stay (.ite .stay (.ite (.next fun h => .bumpB (.bumpE h)) (.next fun h => .update h rfl)))

theorem Steady.Holds.extendMr {s k data} (h : (lasting s₀).Holds s) : (lasting s₀).Holds (extendMr s k data) :=
  .wrEj h

theorem Steady.Holds.mrExtendRule {r data s} (h : (lasting s₀).Holds s) : (lasting s₀).Holds (mrExtendRule r data s).2 := by
  unfold Machine.mrExtendRule
  split
  · exact .extendMr h
  · exact h

theorem StepKept.execMrExtend {src r data s} : StepKept s₀ s (execMrExtend src r data s) :=
  .odRun (fun _ h => .mrExtendRule h)

theorem Steady.Holds.fabricLockRule {v s} (h : (lasting s₀).Holds s) : (lasting s₀).Holds (fabricLockRule v s).2 := by
  unfold Machine.fabricLockRule
  extract_lets
  split
  · exact h
  · exact .wrE (.extendMr h)

theorem StepKept.execFabricLock {src s} : StepKept s₀ s (execFabricLock src s) :=
  .odCmd (fun _ h => .fabricLockRule h)

theorem Steady.Holds.svnCommitRule {v s} (h : (lasting s₀).Holds s) : (lasting s₀).Holds (svnCommitRule v s).2 := by
  unfold Machine.svnCommitRule
  split
  · exact h
  next hup =>
    have hlt : s.fuses.svnFloor ≤ v := by omega
    exact h.burn rfl ⟨fun _ _ hb => hb, hlt, rfl, rfl, rfl, rfl, rfl, rfl, rfl⟩

theorem StepKept.execSvnCommit {src v s} : StepKept s₀ s (execSvnCommit src v s) :=
  .odCmd (fun _ h => .svnCommitRule h)

theorem Steady.Holds.nextTree {s} (h : (lasting s₀).Holds s) : (lasting s₀).Holds (nextTree s) := by
  unfold Machine.nextTree
  extract_lets
  split
  · exact .ite (.update h rfl) h
  · exact h

theorem Steady.Holds.useIdentity {s} (h : (lasting s₀).Holds s) : (lasting s₀).Holds (useIdentity s) :=
  .nextTree (.update h rfl)

theorem StepKept.execIdentityTreeGeneration {tree s} : StepKept s₀ s (execIdentityTreeGeneration tree s) :=
  .ite .stay (.ite (.next fun h => .nextTree (.update h rfl)) .stay)

theorem Steady.Holds.reserveAlias {s} (h : (lasting s₀).Holds s) : (lasting s₀).Holds (reserveAlias s) :=
  .update h rfl

theorem StepKept.execAliasTreeGenerated {idx s} : StepKept s₀ s (execAliasTreeGenerated idx s) := by
  unfold Machine.execAliasTreeGenerated
  extract_lets _ _ s2
  have h2 (h : (lasting s₀).Holds s) : (lasting s₀).Holds s2 := .useIdentity (.wrE h)
  exact .ite .stay (.ite (.next fun h => .update (h2 h) rfl) .stay)

theorem Steady.Holds.nextAlias {s} (h : (lasting s₀).Holds s) : (lasting s₀).Holds (nextAlias s) := by
  unfold Machine.nextAlias
  extract_lets s1
  have h1 : (lasting s₀).Holds s1 := .wrE (.wrE h)
  exact .ite (.update h1 rfl) h

theorem Steady.Holds.useAlias {s} (h : (lasting s₀).Holds s) : (lasting s₀).Holds (useAlias s) :=
  .nextAlias (.update h rfl)

theorem StepKept.execAliasRotation {idx s} : StepKept s₀ s (execAliasRotation idx s) := by
  unfold Machine.execAliasRotation
  extract_lets _ _ s2
  have h2 (h : (lasting s₀).Holds s) : (lasting s₀).Holds s2 := .useIdentity (.wrE (.reserveAlias h))
  exact .ite .stay (.ite (.next fun h => .nextAlias (.update (h2 h) rfl)) .stay)

theorem Steady.Holds.quoteRule {src nonce n s} (h : (lasting s₀).Holds s) : (lasting s₀).Holds (quoteRule src nonce n s).2 := by
  unfold Machine.quoteRule
  extract_lets
  split
  · exact .ite (.wrE h) h
  · split
    · exact .ite (.wrE h) h
    · exact .ite (.wrE (.update h rfl)) (.update h rfl)

theorem StepKept.execQuoteRequest {src nonce n s} : StepKept s₀ s (execQuoteRequest src nonce n s) :=
  .odRun (fun _ h => .quoteRule h)

theorem StepKept.execQuoteSign {f s} : StepKept s₀ s (execQuoteSign f s) := by
  unfold Machine.execQuoteSign
  extract_lets s1
  have h1 (h : (lasting s₀).Holds s) : (lasting s₀).Holds s1 := .freshNext (.useIdentity h)
  split
  · exact .stay
  · split
    · exact .stay
    · exact .ite .stay <|
        .ite (.next fun h => .wrE (.wrE (.update (h1 h) rfl))) (.next fun h => .emit (.update (h1 h) rfl))

theorem Steady.Holds.zeroVault {s} (h : (lasting s₀).Holds s) : (lasting s₀).Holds (zeroVault s) := by
  unfold Machine.zeroVault
  extract_lets s1
  have h1 : (lasting s₀).Holds s1 := .wrE (.wrE h)
  exact .update h1 rfl

/-! ### The ridge: cohorts and imports (Ridge.lean) -/

theorem Steady.Holds.ctCombine {s n i level bound count c t} (h : (lasting s₀).Holds s)
    (he : ctCombine s n i level bound count c = some t) : (lasting s₀).Holds t := by
  unfold Machine.ctCombine at he
  extract_lets at he
  split at he
  · obtain rfl := Option.some.inj he
    exact h.update rfl
  · cases he

theorem Steady.Holds.noiseAbandon {s n} (h : (lasting s₀).Holds s) : (lasting s₀).Holds (noiseAbandon s n) :=
  .noteRefusal (.tryAbandon trivial trivial h)

theorem Steady.Holds.ctCombineAll {s n f l t} (hf : ∀ {s i t}, (lasting s₀).Holds s → f s i = some t → (lasting s₀).Holds t) (h :
    (lasting s₀).Holds s)
    (he : ctCombineAll s n f l = some t) : (lasting s₀).Holds t := by
  induction l generalizing s with
  | nil => exact Option.some.inj he ▸ h
  | cons i r ih =>
    unfold Machine.ctCombineAll at he
    split at he
    · exact ih (hf h ‹_›) he
    · cases he

theorem Steady.Holds.mergeClearInt {s n k} (h : (lasting s₀).Holds s) : (lasting s₀).Holds (mergeClearInt s n k) :=
  .foldl h fun _ _ h => .addClearRow h

theorem Steady.Holds.mergeShared {s n k cnt} (h : (lasting s₀).Holds s) : (lasting s₀).Holds (mergeShared s n k cnt) := by
  unfold Machine.mergeShared
  extract_lets _ s1
  have h1 : (lasting s₀).Holds s1 := .foldl h fun _ _ h => .addSharedRow h
  exact .addE (.setCohort (.setVm h1))

theorem Steady.Holds.listImports {s n} (h : (lasting s₀).Holds s) : (lasting s₀).Holds (listImports s n) :=
  .setVm h

theorem Steady.Holds.nodeDelivered {s n c m} (h : (lasting s₀).Holds s) : (lasting s₀).Holds (nodeDelivered s n c m) := by
  unfold Machine.nodeDelivered
  extract_lets s1
  have h1 : (lasting s₀).Holds s1 := .bumpE (.addE h)
  exact .ite (.listImports (.setCx (.addE h1))) (.ite (.setCx h1) h1)

theorem Steady.Holds.addSegment {s n g m t} (h : (lasting s₀).Holds s) (he : addSegment s n g m = some t) : (lasting s₀).Holds t := by
  unfold Machine.addSegment at he
  extract_lets _ s1 _ s2 at he
  have h1 : (lasting s₀).Holds s1 := .foldl h fun _ _ h => .ite h (.flagRow h)
  have h2 : (lasting s₀).Holds s2 := .setCx h1
  clear_value s2
  split at he
  · obtain rfl := Option.some.inj he
    exact .foldl h2 fun _ _ h => .addSharedRow h
  · split at he
    · exact h2.ctCombine he
    · exact Option.some.inj he ▸ h2

theorem Steady.Holds.acceptSeg {s n c g m} (h : (lasting s₀).Holds s) : (lasting s₀).Holds (acceptSeg s n c g m) := by
  unfold Machine.acceptSeg
  split
  · exact .noiseAbandon h
  next s1 he =>
    extract_lets _ s2
    have h2 : (lasting s₀).Holds s2 := .setCx (h.addSegment he)
    exact .ite (.nodeDelivered h2) h2

theorem Steady.Holds.diverged {s n g mods} (h : (lasting s₀).Holds s) : (lasting s₀).Holds (diverged s n g mods) :=
  .abandonRound (.jobAbort trivial (.writeFault h))

theorem Steady.Holds.dissent {s n g m} (h : (lasting s₀).Holds s) : (lasting s₀).Holds (dissent s n g m) :=
  .writeFault (.bumpE h)

theorem Steady.Holds.ridgeSend {s n p o msg len} (h : (lasting s₀).Holds s) : (lasting s₀).Holds (ridgeSend s n p o msg len) := by
  unfold Machine.ridgeSend
  split
  · exact .ownSend (.emit h)
  · exact .emit h

theorem Steady.Holds.askRecombine {s n c g ms} (h : (lasting s₀).Holds s) : (lasting s₀).Holds (askRecombine s n c g ms) :=
  .setCx (.foldl h fun _ _ h => .ridgeSend (.bumpE h))

theorem Steady.Holds.dropClash {s n c g} (h : (lasting s₀).Holds s) : (lasting s₀).Holds (dropClash s n c g) :=
  .foldl h fun _ _ h => .ite (.setCx (by
        split
        · exact .replyMsg h
        · exact h)) h

theorem Steady.Holds.compareSeg {s0 n c g late} (h : (lasting s₀).Holds s0) : (lasting s₀).Holds (compareSeg s0 n c g late) := by
  unfold Machine.compareSeg
  extract_lets s _ _ _ _ fail pick
  have hs : (lasting s₀).Holds s := .dropClash h
  have hf : (lasting s₀).Holds (fail s) := .ite (.diverged hs) (.askRecombine hs)
  have hp x o : (lasting s₀).Holds (pick x o) := .acceptSeg (by
        split
        · exact .dissent hs
        · exact hs)
  clear_value pick fail
  split
  · exact hs
  · split
    · exact .acceptSeg hs
    · exact hs
    · exact .ite (.acceptSeg hs) hf
    · exact hf
    · extract_lets third
      clear_value third
      split
      · exact hp _ _
      · split
        · exact .ite (hp _ _) (.ite (hp _ _) (.diverged hs))
        · exact hf
    · exact hf

theorem Steady.Holds.importPoll {s n} (h : (lasting s₀).Holds s) : (lasting s₀).Holds (importPoll s n) :=
  .foldl h fun _ _ h => .compareSeg h

theorem Steady.Holds.fixShareDigest {s n} (h : (lasting s₀).Holds s) : (lasting s₀).Holds (fixShareDigest s n) :=
  .ite (.wrE (.setCx h)) h

theorem Steady.Holds.ridgeStep {s n} (h : (lasting s₀).Holds s) : (lasting s₀).Holds (ridgeStep s n) :=
  .fixShareDigest (.importPoll h)

theorem Steady.Holds.enterCombining {s n} (h : (lasting s₀).Holds s) : (lasting s₀).Holds (enterCombining s n) :=
  .ridgeStep (.setRound trivial h)

theorem StepKept.execCloseGraceExpiry {n s} : StepKept s₀ s (execCloseGraceExpiry n s) :=
  .ite .stay (.ite (.next fun h => .settleAll (.enterCombining (.reverseAll h))) .stay)

theorem StepKept.execRoundEnterCombining {n s} : StepKept s₀ s (execRoundEnterCombining n s) :=
  .ite .stay (.ite (.next fun h => .enterCombining h) .stay)

theorem Steady.Holds.mergeFails {s n k st} (h : (lasting s₀).Holds s) : (lasting s₀).Holds (mergeFails s n k st) :=
  .ridgeStep (.failCohort h)

theorem Steady.Holds.mergeSealed {s n k cnt t} (h : (lasting s₀).Holds s) (he : mergeSealed s n k cnt = some t) : (lasting s₀).Holds t :=
  .ctCombineAll .ctCombine h he

theorem Steady.Holds.mergeWords {s n k cnt t} (h : (lasting s₀).Holds s) (he : mergeWords s n k cnt = some t) : (lasting s₀).Holds t := by
  unfold Machine.mergeWords at he
  extract_lets at he
  split at he
  · exact Option.some.inj he ▸ .mergeClearInt h
  · split at he
    · exact Option.some.inj he ▸ .mergeShared h
    · split at he
      · exact h.mergeSealed he
      · exact Option.some.inj he ▸ h

theorem StepKept.execCohortMerge {n k e s} : StepKept s₀ s (execCohortMerge n k e s) := by
  unfold Machine.execCohortMerge
  extract_lets
  split
  · exact .stay
  · split
    · exact .stay
    · split
      · exact .next fun h => .mergeFails h
      · split
        · exact .next fun h => .mergeFails h
        · split
          · exact .next fun h => .tryAbandon trivial trivial (.hwCount h)
          · split
            · exact .next fun h => .mergeFails (.hwCount h)
            · split
              · exact .next fun h => .noiseAbandon h
              · exact .next fun h => .ridgeStep (.mergedCohort (.mergeWords h ‹_›))
          · exact .next fun h => .mergeFails (.hwCount h)

theorem Steady.Holds.importIn {key m reply s} (hreply : ∀ t st, (lasting s₀).Holds t → (lasting s₀).Holds (reply t st)) (h : (lasting s₀).Holds s) :
    (lasting s₀).Holds (importIn key m reply s) := by
  unfold Machine.importIn
  extract_lets
  split
  · exact h
  · split
    · exact hreply _ _ h
    · split
      · exact hreply _ _ h
      · exact .fixShareDigest (.compareSeg (.setCx (hreply _ _ h)))

theorem StepKept.execImportReceive {key m s} : StepKept s₀ s (execImportReceive key m s) :=
  .ite .stay (.next fun h => .importIn (fun _ _ h => .replyMsg h) h)

theorem Steady.Holds.importRowSum {s n r} (h : (lasting s₀).Holds s) : (lasting s₀).Holds (importRowSum s n r) :=
  .ite h (.addClearRow h)

theorem Steady.Holds.pairRow {s n r} (h : (lasting s₀).Holds s) : (lasting s₀).Holds (pairRow s n r) :=
  .setChk (.setVm h)

theorem Steady.Holds.formClear {s n} (h : (lasting s₀).Holds s) : (lasting s₀).Holds (formClear s n) := by
  unfold Machine.formClear
  extract_lets s1
  have h1 : (lasting s₀).Holds s1 := .foldl h fun _ _ h => .importRowSum h
  exact .setCx (.ite (.foldl h1 fun _ _ h => .pairRow h) h1)

theorem Steady.Holds.writeStats {s n} (h : (lasting s₀).Holds s) : (lasting s₀).Holds (writeStats s n) :=
  .ite h (.wrE (.setVm h))

theorem Steady.Holds.segSend {s n p g attempt} (h : (lasting s₀).Holds s) : (lasting s₀).Holds (segSend s n p g attempt) :=
  .ridgeSend h

theorem Steady.Holds.sendTotal {s n} (h : (lasting s₀).Holds s) : (lasting s₀).Holds (sendTotal s n) :=
  .foldl h fun _ _ h => .foldl h fun _ _ h => .segSend h

theorem Steady.Holds.becomeReady {s n} (h : (lasting s₀).Holds s) : (lasting s₀).Holds (becomeReady s n) := by
  unfold Machine.becomeReady
  extract_lets s1
  have h1 : (lasting s₀).Holds s1 := .writeStats h
  exact .sendTotal (.setRound trivial (.ite (.scrubRange h1) h1))

theorem Steady.Holds.sendDigest {s n g attempt} (h : (lasting s₀).Holds s) : (lasting s₀).Holds (sendDigest s n g attempt) :=
  .foldl h fun _ _ h => .ridgeSend h

theorem Steady.Holds.rootAgreed {s n g} (h : (lasting s₀).Holds s) : (lasting s₀).Holds (rootAgreed s n g) := by
  unfold Machine.rootAgreed
  extract_lets _ s1
  have h1 : (lasting s₀).Holds s1 := .setCx h
  exact .ite (.becomeReady h1) h1

theorem Steady.Holds.rootRetry {s n g} (h : (lasting s₀).Holds s) : (lasting s₀).Holds (rootRetry s n g) :=
  .ite (.diverged h) (.sendDigest (.setCx h))

theorem Steady.Holds.compareRoot {s n g late} (h : (lasting s₀).Holds s) : (lasting s₀).Holds (compareRoot s n g late) := by
  unfold Machine.compareRoot
  extract_lets _ _ _ no
  clear_value no
  split
  · exact h
  · split
    · exact .ite (.rootAgreed h) (.rootAgreed (.dissent h))
    · split
      · exact .ite (.abandonRound h) (.diverged h)
      · exact .rootRetry h

theorem Steady.Holds.recombineIn {key m reply s} (hreply : ∀ t st, (lasting s₀).Holds t → (lasting s₀).Holds (reply t st)) (h :
    (lasting s₀).Holds s) :
    (lasting s₀).Holds (recombineIn key m reply s) := by
  unfold Machine.recombineIn
  extract_lets _ _ s1
  have h1 : (lasting s₀).Holds s1 := hreply _ _ h
  split
  · exact h
  · split
    · exact hreply _ _ h
    · split
      · exact hreply _ _ h
      · exact .ite (.segSend h1) h1

theorem StepKept.execRecombine {key m s} : StepKept s₀ s (execRecombine key m s) :=
  .ite .stay (.next fun h => .recombineIn (fun _ _ h => .replyMsg h) h)

theorem Steady.Holds.rootDigestIn {key m reply s} (hreply : ∀ t st, (lasting s₀).Holds t → (lasting s₀).Holds (reply t st)) (h :
    (lasting s₀).Holds s) :
    (lasting s₀).Holds (rootDigestIn key m reply s) := by
  unfold Machine.rootDigestIn
  extract_lets
  split
  · exact h
  · split
    · exact hreply _ _ h
    · split
      · exact hreply _ _ h
      · exact .compareRoot (.setCx (hreply _ _ h))

theorem StepKept.execRootDigest {key m s} : StepKept s₀ s (execRootDigest key m s) :=
  .ite .stay (.next fun h => .rootDigestIn (fun _ _ h => .replyMsg h) h)

theorem StepKept.execImportWaitExpiry {n child seg s} : StepKept s₀ s (execImportWaitExpiry n child seg s) :=
  .ite .stay <|
  .ite .stay <|
  .ite (.ite (.next fun h => .compareRoot h) .stay) <|
  .ite .stay (.next fun h => .fixShareDigest (.compareSeg h))

theorem StepKept.execChildWaitExpiry {n s} : StepKept s₀ s (execChildWaitExpiry n s) :=
  .ite .stay (.ite (.next fun h => .tryAbandon trivial trivial (.jobAbort trivial (.freshNext (.writeFault (.bumpE h))))) .stay)

theorem StepKept.execRoundEnterReady {n s} : StepKept s₀ s (execRoundEnterReady n s) := by
  unfold Machine.execRoundEnterReady
  extract_lets _ s1
  have h1 (h : (lasting s₀).Holds s) : (lasting s₀).Holds s1 := .ite (.ite h (.formClear h)) (.setCx h)
  exact .ite .stay <|
    .ite (.ite
        (.ite .stay
            (.next fun h => .foldl (.foldl (h1 h) fun _ _ h => .sendDigest h) fun _ _ h => .compareRoot h))
                (.next fun h => .becomeReady (h1 h))) .stay

theorem Steady.Holds.encryptSub {s n die x t} (h : (lasting s₀).Holds s) (he : encryptSub s n die x = some t) : (lasting s₀).Holds t := by
  unfold Machine.encryptSub at he
  extract_lets _ _ _ _ _ _ _ s0 s1 s2 _ s3 at he
  have h0 : (lasting s₀).Holds s0 := .rngDraw h
  have h1 : (lasting s₀).Holds s1 := h0.update rfl
  have h2 : (lasting s₀).Holds s2 := .foldl h1 fun _ _ h => .ite (.flagRow h) h
  have h3 : (lasting s₀).Holds s3 := .setCx h2
  exact h3.ctCombine he

theorem StepKept.execClearSubtotalEncrypt {n die s} : StepKept s₀ s (execClearSubtotalEncrypt n die s) := by
  unfold Machine.execClearSubtotalEncrypt
  extract_lets
  split
  · exact .stay
  · split
    · exact .stay
    · split
      · exact .next fun h => .ctxEvent (.hwCount h)
      · split
        · exact .next fun h => .noiseAbandon h
        · exact .next fun h => .setCx (.ctCombineAll .encryptSub (.ite h (.formClear h)) ‹_›)

/-! ### The data movers (Move.lean) -/

theorem Steady.Holds.mvFinish {s d m} (h : (lasting s₀).Holds s) : (lasting s₀).Holds (mvFinish s d m) :=
  .completeDesc (.setOpMem trivial h)

theorem Steady.Holds.copyEff {d s} (h : (lasting s₀).Holds s) : (lasting s₀).Holds (copyEff d s) :=
  .mvFinish (.ite h (.exportTake h))

theorem StepKept.execCopy {i e s} : StepKept s₀ s (execCopy i e s) :=
  .runDesc (fun _ _ h => .copyEff h)

theorem Steady.Holds.fillEff {d s} (h : (lasting s₀).Holds s) : (lasting s₀).Holds (fillEff d s) :=
  .mvFinish h

theorem StepKept.execFill {i e s} : StepKept s₀ s (execFill i e s) :=
  .runDesc (fun _ _ h => .fillEff h)

theorem Steady.Holds.scrubEff {d s} (h : (lasting s₀).Holds s) : (lasting s₀).Holds (scrubEff d s) :=
  .mvFinish h

theorem StepKept.execScrub {i e s} : StepKept s₀ s (execScrub i e s) :=
  .runDesc (fun _ _ h => .scrubEff h)

/-! ### Endpoints (Endpoint.lean) -/

theorem Steady.Holds.touchEp {s e} (h : (lasting s₀).Holds s) : (lasting s₀).Holds (touchEp s e) :=
  .update h rfl

theorem Steady.Holds.makeResident {s e} (h : (lasting s₀).Holds s) : (lasting s₀).Holds (makeResident s e) :=
  .touchEp (.update h rfl)

theorem Steady.Holds.startFetch {s e} (h : (lasting s₀).Holds s) : (lasting s₀).Holds (startFetch s e) :=
  .update h rfl

theorem Steady.Holds.evictEp {s e} (h : (lasting s₀).Holds s) : (lasting s₀).Holds (evictEp s e) :=
  .bumpE (.update (.dropResident (e := e) h) rfl)

theorem StepKept.execEndpointEviction {die s} : StepKept s₀ s (execEndpointEviction die s) := by
  unfold Machine.execEndpointEviction
  split
  · exact .stay
  · split
    · exact .stay
    · exact .next fun h => .evictEp h

theorem Steady.Holds.sendStatus {s k code idx} (h : (lasting s₀).Holds s) : (lasting s₀).Holds (sendStatus s k code idx) :=
  .sendCtl h

theorem Steady.Holds.failRead {s k st} (h : (lasting s₀).Holds s) : (lasting s₀).Holds (failRead s k st) := by
  unfold Machine.failRead
  split
  · split
    · exact .completeAll (.inr trivial) h
    · exact h
  · exact h

theorem StepKept.execKeyQuarantineExpiry {k s} : StepKept s₀ s (execKeyQuarantineExpiry k s) :=
  .ite .stay (.ite (.next fun h => .setKey h) .stay)

theorem Steady.Holds.endRegionMsgs {s r} (h : (lasting s₀).Holds s) : (lasting s₀).Holds (endRegionMsgs s r) :=
  .foldl h fun _ _ h => .failRead (.endRx (.sendStatus h))

theorem Steady.Holds.advanceRegion {s r} (h : (lasting s₀).Holds s) : (lasting s₀).Holds (advanceRegion s r) :=
  .setRegion (.endRegionMsgs h)

theorem Steady.Holds.objCreate {s f kind i} (h : (lasting s₀).Holds s) : (lasting s₀).Holds (objCreate s f kind i) := by
  unfold Machine.objCreate
  extract_lets _ _ s1
  have h1 : (lasting s₀).Holds s1 := .wrE (.update h rfl)
  exact .ite (.update h rfl) (.ite (.wrE (.setRegion h)) (.ite (.update h1 rfl) h1))

theorem Steady.Holds.objModify {s f kind i} (h : (lasting s₀).Holds s) : (lasting s₀).Holds (objModify s f kind i).2 := by
  unfold Machine.objModify
  extract_lets
  split
  · split
    · exact h
    · exact .setRegion h
  · split
    · exact h
    · exact .update h rfl

theorem Steady.Holds.objDestroy {s kind i} (h : (lasting s₀).Holds s) : (lasting s₀).Holds (objDestroy s kind i).2 := by
  unfold Machine.objDestroy
  extract_lets
  split
  · split
    · exact h
    · exact .update h rfl
  · split
    · exact .setRegion (.endRegionMsgs h)
    · split
      · exact .destroyEp trivial h
      · exact .retireKey h

theorem Steady.Holds.objQuery {s f kind i} (h : (lasting s₀).Holds s) : (lasting s₀).Holds (objQuery s f kind i) :=
  .ite (.wrE h) (.ite (.wrE (.wrE h)) h)

theorem Steady.Holds.objAct {f code s} (h : (lasting s₀).Holds s) : (lasting s₀).Holds (objAct f code s).2 := by
  unfold Machine.objAct
  extract_lets
  split
  · split
    · exact .advanceCtxKey h
    · exact h
  · split
    · exact h
    · split
      · split
        · exact h
        · exact .objCreate h
      · split
        · exact .objModify h
        · split
          · exact .objDestroy h
          · split
            · exact .wrE (.advanceRegion h)
            · split
              · exact .objQuery h
              · exact .retireKey h

theorem Steady.Holds.showObj {f code r} (h : (lasting s₀).Holds r.2) : (lasting s₀).Holds (showObj f code r) :=
  .ite (.wrE h) h

theorem Steady.Holds.objRule {f code s} (h : (lasting s₀).Holds s) : (lasting s₀).Holds (objRule f code s).2 :=
  .wrE (.showObj (.objAct h))

theorem StepKept.execObjectQuarantineExpiry {kind i s} : StepKept s₀ s (execObjectQuarantineExpiry kind i s) :=
  .ite .stay (.ite (.next fun h => .update h rfl) (.ite (.next fun h => .setRegion h) .stay))

theorem StepKept.execEndpointQuarantineExpiry {e s} : StepKept s₀ s (execEndpointQuarantineExpiry e s) :=
  .ite .stay (.ite (.next fun h => .update h rfl) .stay)

theorem StepKept.doorbell {f e s eff} (heff : ∀ t, (lasting s₀).Holds t → (lasting s₀).Holds (eff t)) : StepKept s₀ s (doorbell f e s eff) :=
  .ite .stay (.ite (.next fun h => .bumpE h) (.next fun h => heff _ h))

theorem StepKept.execResume {f e s} : StepKept s₀ s (execResume f e s) :=
  .doorbell (fun _ h => .ite (.update h rfl) h)

theorem StepKept.execError {f e s} : StepKept s₀ s (execError f e s) :=
  .doorbell (fun _ h => .epError trivial h)

theorem StepKept.execEvict {f e s} : StepKept s₀ s (execEvict f e s) :=
  .doorbell (fun _ h => .ite (.evictEp h) h)

theorem StepKept.execRecycle {f e slot s} : StepKept s₀ s (execRecycle f e slot s) :=
  .doorbell (fun _ h => .ite (.update h rfl) h)

theorem StepKept.execRecordFree {f e count s} : StepKept s₀ s (execRecordFree f e count s) :=
  .doorbell (fun _ h => .update h rfl)

/-! ### The Turnstile in contributions (Turnstile.lean) -/

theorem Steady.Holds.putRx {s x} (h : (lasting s₀).Holds s) : (lasting s₀).Holds (putRx s x) :=
  .ite (.update h rfl) (.update h rfl)

theorem Steady.Holds.takeSlot {s x slot} (h : (lasting s₀).Holds s) : (lasting s₀).Holds (takeSlot s x slot) :=
  .settleAll (.putRx (.setCx (.setCohort h)))

theorem Steady.Holds.takePacket0 {s x0 x} (h : (lasting s₀).Holds s) : (lasting s₀).Holds (takePacket0 s x0 x) := by
  unfold Machine.takePacket0
  extract_lets _ _ kept
  have hkept : (lasting s₀).Holds kept := .ite h (.putRx h)
  split
  · exact .settleAll (.putRx h)
  · split
    · exact .bumpE hkept
    · exact .ite (.bumpE hkept) (.ite (.bumpE hkept) (.takeSlot h))

theorem Steady.Holds.takeStage {s n k r key} (h : (lasting s₀).Holds s) : (lasting s₀).Holds (takeStage s n k r key) := by
  unfold Machine.takeStage
  extract_lets _ _ _ _ _ _ s'
  have h' : (lasting s₀).Holds s' := .setCx h
  exact .ite h (.update h' rfl)

theorem Steady.Holds.setCon {s i c} (h : (lasting s₀).Holds s) : (lasting s₀).Holds (setCon s i c) :=
  .update h rfl

theorem Steady.Holds.specRow {i s rp} (h : (lasting s₀).Holds s) : (lasting s₀).Holds (specRow i s rp) := by
  unfold Machine.specRow
  split
  · exact h
  · split
    · exact h
    · split
      · exact h
      · split
        · exact .update h rfl
        · exact .setCon (.accAddPiece (.takeStage h))

theorem Steady.Holds.specAdd {s i k} (h : (lasting s₀).Holds s) : (lasting s₀).Holds (specAdd s i k) := by
  unfold Machine.specAdd
  split
  · exact h
  · split
    · exact h
    · exact .ite h (.wrE (.foldl h fun _ _ h => .specRow h))

theorem Steady.Holds.forgetRx {s x} (h : (lasting s₀).Holds s) : (lasting s₀).Holds (forgetRx s x) :=
  .update h rfl

theorem Steady.Holds.ackWhole {s x} (h : (lasting s₀).Holds s) : (lasting s₀).Holds (ackWhole s x) :=
  .sendCtl h

theorem Steady.Holds.answerMsg {x s code} (h : (lasting s₀).Holds s) : (lasting s₀).Holds (answerMsg x s code) :=
  .ite (.update h rfl) (.sendStatus h)

theorem Steady.Holds.takeMsg {s x} (h : (lasting s₀).Holds s) : (lasting s₀).Holds (takeMsg s x) := by
  unfold Machine.takeMsg
  extract_lets _ s1
  have h1 : (lasting s₀).Holds s1 := .forgetRx h
  exact .ite (.shareIn (fun _ _ h => .answerMsg h) h1) <|
    .ite (.keyShareIn (fun _ _ h => .answerMsg h) h1) <|
    .ite (.exchangeIn (fun _ _ h => .answerMsg h) h1) <|
    .ite (.tripleIn (fun _ _ h => .answerMsg h) h1) <|
    .ite (.importIn (fun _ _ h => .answerMsg h) (.freshNext h1)) <|
    .ite (.recombineIn (fun _ _ h => .answerMsg h) h1) (.rootDigestIn (fun _ _ h => .answerMsg h) h1)

theorem Steady.Holds.finishAdmission {s x} (h : (lasting s₀).Holds s) : (lasting s₀).Holds (finishAdmission s x) := by
  unfold Machine.finishAdmission
  split
  · exact .reverseOne (.sendStatus (.bumpE h))
  · split
    · exact .forgetRx (.sendStatus h)
    · split
      · split
        · exact .reverseOne (.sendStatus h)
        · exact .putRx h
      · split
        · exact .forgetRx (.sendStatus h)
        · exact .ite (.takeMsg h) (.forgetRx (.sendStatus h))

theorem Steady.Holds.commitWords {s c x} (h : (lasting s₀).Holds s) : (lasting s₀).Holds (commitWords s c x) :=
  .ite (.update h rfl) (.ite (.update h rfl) (.foldl h fun _ _ h => .accAddPiece h))

theorem Steady.Holds.commitCon {s c x} (h : (lasting s₀).Holds s) : (lasting s₀).Holds (commitCon s c x) :=
  .ackWhole (.actLed (.settle (.wrE (.bumpE (.forgetRx (.setCohort (.setCx (.setLedger (.commitWords h)))))))))

theorem StepKept.execContributionCommit {m e s} : StepKept s₀ s (execContributionCommit m e s) := by
  unfold Machine.execContributionCommit
  split
  · exact .stay
  · split
    · exact .stay
    · extract_lets s1
      have h1 (h : (lasting s₀).Holds s) : (lasting s₀).Holds s1 := .reverseOne (.sendStatus (.hwCount h))
      split
      · exact .stay
      · extract_lets
        split
        · exact .stay
        · split
          · exact .next fun h => .commitCon h
          · split
            · exact .next fun h => .failCohort (.writeFault (h1 h))
            · exact .next fun h => .tryAbandon trivial trivial (.writeFault (h1 h))
            · exact .next fun h => (h1 h)

theorem StepKept.execMsgIdleLimitExpiry {m s} : StepKept s₀ s (execMsgIdleLimitExpiry m s) := by
  unfold Machine.execMsgIdleLimitExpiry
  split
  · exact .stay
  · split
    · exact .stay
    · exact .ite (.next fun h => .reverseOne h) .stay

theorem StepKept.execPatrolRead {die corrected uncorrected site s} :
    StepKept s₀ s (execPatrolRead die corrected uncorrected site s) := by
  unfold Machine.execPatrolRead
  extract_lets s1
  have h1 (h : (lasting s₀).Holds s) : (lasting s₀).Holds s1 := .addE (.addE h)
  split
  · exact .stay
  · split
    · exact .next fun h => (h1 h)
    · split
      · extract_lets s2
        have h2 (h : (lasting s₀).Holds s) : (lasting s₀).Holds s2 := .writeFault (h1 h)
        exact .next fun h => .ite (.failCohort (h2 h)) (h2 h)
      · exact .next fun h => .tryAbandon trivial trivial (.writeFault (h1 h))
      · exact .next fun h => .writeFault (h1 h)

/-! ### Messages on the wire (Wire.lean) -/

theorem Steady.Holds.dropFenced {s die} (h : (lasting s₀).Holds s) : (lasting s₀).Holds (dropFenced s die) :=
  .bumpB h

theorem Steady.Holds.sendAck {s x delivered} (h : (lasting s₀).Holds s) : (lasting s₀).Holds (sendAck s x delivered) := by
  unfold Machine.sendAck
  extract_lets _ s1
  have h1 : (lasting s₀).Holds s1 := .sendCtl h
  exact .update h1 rfl

theorem Steady.Holds.ackNew {s i solicit} (h : (lasting s₀).Holds s) : (lasting s₀).Holds (ackNew s i solicit) := by
  unfold Machine.ackNew
  split
  · exact h
  · exact .ite (.sendAck h) (.putRx h)

theorem StepKept.execAckTimerExpiry {m s} : StepKept s₀ s (execAckTimerExpiry m s) := by
  unfold Machine.execAckTimerExpiry
  split
  · exact .stay
  · split
    · exact .stay
    · exact .ite (.next fun h => .sendAck h) .stay

theorem Steady.Holds.ensureStrm {s e key peer t} (h : (lasting s₀).Holds s) (he : ensureStrm s e key peer = some t) :
    (lasting s₀).Holds t := by
  unfold Machine.ensureStrm at he
  split at he
  · exact Option.some.inj he ▸ h
  · split at he
    · cases he
    · exact Option.some.inj he ▸ .update h rfl

theorem Steady.Holds.endWith {s k st} (h : (lasting s₀).Holds s) : (lasting s₀).Holds (endWith s k st) := by
  unfold Machine.endWith
  extract_lets s1
  have h1 : (lasting s₀).Holds s1 := .failRead (.sendStatus h)
  split
  · exact .endRx h1
  · split
    · exact h1
    · split
      · exact .settleRx (.ensureStrm h1 ‹_›)
      · exact h1

theorem Steady.Holds.onDuplicate {s k} (h : (lasting s₀).Holds s) : (lasting s₀).Holds (onDuplicate s k) := by
  unfold Machine.onDuplicate
  extract_lets s1
  have h1 : (lasting s₀).Holds s1 := .bumpE h
  split
  · exact .sendAck h1
  · exact .update h1 rfl

theorem Steady.Holds.placePkt {s x k} (h : (lasting s₀).Holds s) : (lasting s₀).Holds (placePkt s x k) :=
  .ite h (.setVm h)

theorem Steady.Holds.countPlaced {s k} (h : (lasting s₀).Holds s) : (lasting s₀).Holds (countPlaced s k) := by
  unfold Machine.countPlaced
  split
  · split
    · exact .setTx h
    · exact h
  · exact h

theorem Steady.Holds.zeroPlaced {s x} (h : (lasting s₀).Holds s) : (lasting s₀).Holds (zeroPlaced s x) :=
  .ite h (.setVm h)

theorem Steady.Holds.finishOrdinary {s x} (h : (lasting s₀).Holds s) : (lasting s₀).Holds (finishOrdinary s x) :=
  .ite (.putRx h) (.failRead (.endRx (.sendStatus (.zeroPlaced (.bumpE h)))))

theorem Steady.Holds.acceptOrdinary {s x k} (h : (lasting s₀).Holds s) : (lasting s₀).Holds (acceptOrdinary s x k) := by
  unfold Machine.acceptOrdinary
  extract_lets _ _ s2
  have h2 : (lasting s₀).Holds s2 := .ackNew (.countPlaced (.placePkt (.putRx h)))
  split
  · split
    · exact .finishOrdinary h2
    · exact h2
  · exact h2

theorem Steady.Holds.openRx {s die k r} (h : (lasting s₀).Holds s) (he : openRx s die k = some r) : (lasting s₀).Holds r.1 := by
  unfold Machine.openRx at he
  extract_lets _ _ slot at he
  clear_value slot
  split at he
  · cases he
  · extract_lets p1 at he
    have hp : (lasting s₀).Holds (Machine.setEp s k.dstEp p1) := .update h rfl
    split at he
    · cases he
    · exact Option.some.inj he ▸ hp.update rfl

theorem Steady.Holds.recvOrdinary {s die k} (h : (lasting s₀).Holds s) : (lasting s₀).Holds (recvOrdinary s die k) := by
  unfold Machine.recvOrdinary
  split
  · exact .bumpE h
  · split
    · exact .bumpE h
    next s1 he =>
      have h1 : (lasting s₀).Holds s1 := by
        split at he
        · exact Option.some.inj he ▸ h
        · exact h.ensureStrm he
      split
      · exact .endWith h1
      · split
        · exact .endWith h1
        · split
          · exact .acceptOrdinary h1
          · split
            · exact .bumpE h
            · exact .acceptOrdinary (.openRx h1 ‹_›)

theorem Steady.Holds.recvAdmission {s0 die k} (h : (lasting s₀).Holds s0) : (lasting s₀).Holds (recvAdmission s0 die k) := by
  unfold Machine.recvAdmission
  extract_lets _ s _ _ _ s1 _ s2
  have hs : (lasting s₀).Holds s := .ite (.bumpE h) h
  have h1 : (lasting s₀).Holds s1 := .ite (.update hs rfl) hs
  have h2 : (lasting s₀).Holds s2 := .ite (.takePacket0 h1) (.putRx h1)
  split
  · exact .sendStatus hs
  · split
    · exact h2
    · extract_lets s3
      have h3 : (lasting s₀).Holds s3 := .ackNew (.specAdd h2)
      split
      · split
        · exact .ite (.finishAdmission h3) h3
        · exact h3
      · exact h2

theorem Steady.Holds.recvChecked {s die k} (h : (lasting s₀).Holds s) : (lasting s₀).Holds (recvChecked s die k) :=
  .ite (.bumpE h) <|
  .ite (.endWith (.bumpE h)) <|
  .ite (.onDuplicate h) <|
  .ite (.ite (.sendStatus h) (.endWith h)) <|
  .ite (.recvAdmission (.touchEp h)) (.recvOrdinary (.touchEp h))

theorem Steady.Holds.park {s die k} (h : (lasting s₀).Holds s) : (lasting s₀).Holds (park s die k) :=
  .ite (.bumpE h) (.startFetch (.bumpE (.update h rfl)))

theorem Steady.Holds.recvData {s die k} (h : (lasting s₀).Holds s) : (lasting s₀).Holds (recvData s die k) :=
  .ite (.bumpE h) (.ite (.dropFenced h) (.ite (.park h) (.ite (.bumpE h) (.recvChecked h))))

theorem StepKept.execDataPacketReceive {die k s} : StepKept s₀ s (execDataPacketReceive die k s) := by
  unfold Machine.execDataPacketReceive
  extract_lets s0 s1
  have h0 (h : (lasting s₀).Holds s) : (lasting s₀).Holds s0 := .ite (.actLed h) h
  have h1 (h : (lasting s₀).Holds s) : (lasting s₀).Holds s1 := .ite (.bumpE (h0 h)) (h0 h)
  exact .ite .stay (.ite (.next fun h => .bumpE (h1 h)) (.next fun h => .recvData (h1 h)))

theorem Steady.Holds.raiseSignal {s x} (h : (lasting s₀).Holds s) : (lasting s₀).Holds (raiseSignal s x) := by
  unfold Machine.raiseSignal
  split
  · exact .ite (.synAdd h) h
  · exact h

theorem Steady.Holds.afterDelivery {s x} (h : (lasting s₀).Holds s) : (lasting s₀).Holds (afterDelivery s x) := by
  unfold Machine.afterDelivery
  split
  · exact .update h rfl
  · split
    · split
      · exact .completeAll (.inr trivial) h
      · exact h
    · exact h

theorem Steady.Holds.deliver {s x} (h : (lasting s₀).Holds s) : (lasting s₀).Holds (deliver s x) := by
  unfold Machine.deliver
  extract_lets _ s2
  have h2 : (lasting s₀).Holds s2 := .sendAck (.raiseSignal (.ite (.update h rfl) h))
  exact .afterDelivery (.forgetRx (.ite h2 (.settleRx h2)))

theorem StepKept.execMessageDelivery {m s} : StepKept s₀ s (execMessageDelivery m s) := by
  unfold Machine.execMessageDelivery
  split
  · exact .stay
  · split
    · exact .stay
    · exact .ite (.next fun h => .deliver h) .stay

theorem Steady.Holds.setRate {s die r} (h : (lasting s₀).Holds s) : (lasting s₀).Holds (setRate s die r) :=
  .update h rfl

theorem Steady.Holds.ethSend {s die x k} (h : (lasting s₀).Holds s) : (lasting s₀).Holds (ethSend s die x k) :=
  .ite h (.emit h)

theorem Steady.Holds.rateEnsure {s die dst t} (h : (lasting s₀).Holds s) (he : rateEnsure s die dst = some t) : (lasting s₀).Holds t := by
  unfold Machine.rateEnsure at he
  extract_lets at he
  split at he
  · exact Option.some.inj he ▸ h.update rfl
  · split at he
    · exact Option.some.inj he ▸ h.update rfl
    · split at he
      · cases he
      · exact Option.some.inj he ▸ .bumpE (h.update rfl)

theorem Steady.Holds.sendPkt {s t i now timer retx fast} (h : (lasting s₀).Holds s) :
    (lasting s₀).Holds (sendPkt s t i now timer retx fast) := by
  unfold Machine.sendPkt
  extract_lets
  split
  · exact h
  · split
    · exact (.rateEnsure h ‹_›)
    · extract_lets _ _ _ _ s'
      have h' : (lasting s₀).Holds s' := .actLed (.bumpE (.setTx (.setRate (.rateEnsure h ‹_›))))
      exact .ethSend (.emit (.update h' rfl))

theorem StepKept.execPacketTransmit {m now s} : StepKept s₀ s (execPacketTransmit m now s) := by
  unfold Machine.execPacketTransmit
  split
  · exact .stay
  · split
    · exact .stay
    · split
      · exact .stay
      · exact .next fun h => .sendPkt h

theorem Steady.Holds.ctlAccept {s die ty k} (h : (lasting s₀).Holds s) : (lasting s₀).Holds (ctlAccept s die ty k).1 := by
  unfold Machine.ctlAccept
  extract_lets s1
  have h1 : (lasting s₀).Holds s1 := .ite (.bumpE h) h
  split
  · exact h
  · split
    · exact .bumpE h1
    · split
      · exact .dropFenced h1
      · split
        · exact .bumpE h1
        · split
          · exact .bumpE h1
          · split
            · exact h1
            · exact .update h1 rfl

theorem Steady.Holds.fastAll {s m now} (h : (lasting s₀).Holds s) : (lasting s₀).Holds (fastAll s m now) := by
  unfold Machine.fastAll
  split
  · exact h
  · exact .foldl h fun _ _ h => (by
        split
        · exact h
        · exact .sendPkt (.bumpE h))

theorem Steady.Holds.txDelivered {s t} (h : (lasting s₀).Holds s) : (lasting s₀).Holds (txDelivered s t) :=
  .ite h (.ite (.dropTx h) (.completeAll (.inr trivial) h))

theorem StepKept.execAckReceive {die now k s} : StepKept s₀ s (execAckReceive die now k s) := by
  unfold Machine.execAckReceive
  extract_lets a _
  have ha (h : (lasting s₀).Holds s) : (lasting s₀).Holds a.1 := .ctlAccept h
  clear_value a
  split
  · exact .next ha
  · split
    · exact .next ha
    · extract_lets _ s1 _ s2
      have h1 (h : (lasting s₀).Holds s) : (lasting s₀).Holds s1 := by
        unfold s1
        split
        · exact .setRate (ha h)
        · exact ha h
      have h2 (h : (lasting s₀).Holds s) : (lasting s₀).Holds s2 := .setTx (h1 h)
      exact .next fun h => .ite (.txDelivered (h2 h)) (.fastAll (h2 h))

theorem StepKept.execStatusReceive {die k s} : StepKept s₀ s (execStatusReceive die k s) := by
  unfold Machine.execStatusReceive
  extract_lets
  split
  · exact .next fun h => .ctlAccept h
  · split
    · exact .next fun h => .ctlAccept h
    · exact .ite (.next fun h => .ctlAccept h) <|
        .ite (.next fun h => .dropTx (.ctlAccept h)) (.next fun h => .completeAll (.inr trivial) (.ctlAccept h))

theorem StepKept.execRetransmitTimerExpiry {m i s} : StepKept s₀ s (execRetransmitTimerExpiry m i s) := by
  unfold Machine.execRetransmitTimerExpiry
  split
  · exact .stay
  · split
    · exact .stay
    · exact .ite .stay (.next fun h => .sendPkt (.freshNext (.bumpE (by
          split
          · exact .setRate h
          · exact h))))

theorem StepKept.execRateIntervalUpdate {die dst s} : StepKept s₀ s (execRateIntervalUpdate die dst s) := by
  unfold Machine.execRateIntervalUpdate
  split
  · exact .stay
  · exact .next fun h => .setRate h

theorem StepKept.execPathMaskRestore {die dst path s} : StepKept s₀ s (execPathMaskRestore die dst path s) := by
  unfold Machine.execPathMaskRestore
  split
  · exact .stay
  · split
    · exact .stay
    · exact .next fun h => .setRate h

theorem Steady.Holds.replay {s e} (h : (lasting s₀).Holds s) : (lasting s₀).Holds (replay s e) :=
  .foldl (.update h rfl) fun _ _ h => .recvData h

theorem StepKept.execEndpointFetch {e ok s} : StepKept s₀ s (execEndpointFetch e ok s) := by
  unfold Machine.execEndpointFetch
  extract_lets _ s1
  have h1 (h : (lasting s₀).Holds s) : (lasting s₀).Holds s1 := .makeResident (.bumpE h)
  exact .ite .stay <|
    .ite .stay <|
    .ite (.next fun h => .replay (h1 h)) (.next fun h => .writeFault (.dropParked (.epError trivial (.bumpE (h1 h)))))

theorem StepKept.execParkingTimeout {die pos s} : StepKept s₀ s (execParkingTimeout die pos s) := by
  unfold Machine.execParkingTimeout
  extract_lets
  split
  · exact .stay
  · split
    · exact .next fun h => .bumpE (.update h rfl)
    · split
      · exact .stay
      · extract_lets s1
        have h1 (h : (lasting s₀).Holds s) : (lasting s₀).Holds s1 := .bumpE (.update h rfl)
        exact .next fun h => (by
              split
              · exact h1 h
              · exact .settleAll (h1 h))

theorem Steady.Holds.stBegin {s d} (h : (lasting s₀).Holds s) : (lasting s₀).Holds (stBegin s d) := by
  unfold Machine.stBegin
  extract_lets
  split
  · exact h
  · extract_lets
    split
    · exact (.ensureStrm h ‹_›)
    · extract_lets _ _ s2
      have h2 : (lasting s₀).Holds s2 := .setStrm (.ite (.ensureStrm h ‹_›) (.exportTake (.ensureStrm h ‹_›)))
      exact .setDesc (.update h2 rfl)

theorem StepKept.runTransport {s i op} : StepKept s₀ s (runTransport s i op) := by
  unfold Machine.runTransport
  split
  · exact .stay
  · split
    · exact .stay
    · split
      · exact .next fun h => .update h rfl
      · split
        · exact .next fun h => .refuseDesc h
        · exact .next fun h => .stBegin (.touchEp h)

theorem StepKept.execStWrite {i s} : StepKept s₀ s (execStWrite i s) :=
  .runTransport

theorem StepKept.execStSend {i s} : StepKept s₀ s (execStSend i s) :=
  .runTransport

theorem StepKept.execStRead {i s} : StepKept s₀ s (execStRead i s) :=
  .runTransport

theorem StepKept.execOdPacketReceive {die k s} : StepKept s₀ s (execOdPacketReceive die k s) :=
  .ite .stay <|
  .ite (.next fun h => .bumpE h) <|
  .ite (.next fun h => .bumpE h) <|
  .ite (.next fun h => .bumpE h) <|
  .ite .stay (.next fun h => .update h rfl)

end Sys2Proof.Machine
end

section
/-! SUPPORT. What every command keeps, continued: sessions, links, tenants, resets and power. -/

namespace Sys2Proof.Machine
open Sys2Proof

variable {s₀ : State}

/-! ### Sessions (Sessions.lean) -/

theorem Steady.Holds.sessionFail {s} (h : (lasting s₀).Holds s) : (lasting s₀).Holds (sessionFail s) :=
  .bumpE h

theorem Steady.Holds.setHs {s h} (hs : (lasting s₀).Holds s) : (lasting s₀).Holds (setHs s h) :=
  .update hs rfl

theorem Steady.Holds.dropHs {s i} (h : (lasting s₀).Holds s) : (lasting s₀).Holds (dropHs s i) :=
  .update h rfl

theorem Steady.Holds.sendCreds {s hs kind} (h : (lasting s₀).Holds s) : (lasting s₀).Holds (sendCreds s hs kind) :=
  .foldl h fun _ _ h => .emit h

theorem Steady.Holds.helloReply {s die m} (h : (lasting s₀).Holds s) : (lasting s₀).Holds (helloReply s die m) := by
  unfold Machine.helloReply
  extract_lets _ _ _ s1 _ _ _ _ _ s2
  have h1 : (lasting s₀).Holds s1 := by
    unfold s1
    split
    · exact .ite (.dropHs h) h
    · exact h
  have h2 : (lasting s₀).Holds s2 := .useAlias (h1.update rfl)
  exact .emit (.ite (.sendCreds h2) h2)

theorem Steady.Holds.helloStart {s die h} (hs : (lasting s₀).Holds s) : (lasting s₀).Holds (helloStart s die h) := by
  unfold Machine.helloStart
  split
  · exact .sessionFail hs
  · exact .emit (.sendCreds (.update hs rfl))

theorem StepKept.execHello {die h s} : StepKept s₀ s (execHello die h s) :=
  .ite .stay <|
  .ite (.next fun h => .ite (.helloStart h) (.sessionFail h)) <|
  .ite (.next fun h => .bumpB (.sessionFail h)) <|
  .ite (.next fun h => .sessionFail h) <|
  .ite (.next fun h => .sessionFail h) <|
  .ite .stay (.next fun h => .helloReply h)

theorem StepKept.execCredential {i part c s} : StepKept s₀ s (execCredential i part c s) := by
  unfold Machine.execCredential
  extract_lets _ s1
  have h1 (h : (lasting s₀).Holds s) : (lasting s₀).Holds s1 := .ite h (.update h rfl)
  exact .ite .stay (.ite (.next fun h => .sessionFail (.dropHs (h1 h))) (.next fun h => .setHs (h1 h)))

theorem Steady.Holds.installSession {s x k gen hash dst} (h : (lasting s₀).Holds s) :
    (lasting s₀).Holds (installSession s x k gen hash dst) := by
  unfold Machine.installSession
  extract_lets _ _ _ s1 s2
  have h1 : (lasting s₀).Holds s1 := .setKey h
  have h2 : (lasting s₀).Holds s2 := .ite (.wrE h1) h1
  exact .ite (.getD h2 fun _ he => .installKey h2 he) h2

theorem StepKept.execFinish {i confirmOk sigOk peerPub s} : StepKept s₀ s (execFinish i confirmOk sigOk peerPub s) := by
  unfold Machine.execFinish
  extract_lets s1
  have h1 (h : (lasting s₀).Holds s) : (lasting s₀).Holds s1 := .dropHs h
  split
  · exact .stay
  · exact .ite .stay <|
      .ite (.next fun h => .freshNext (.emit (.installSession (h1 h)))) (.next fun h => .sessionFail (h1 h))

theorem StepKept.execReply {i keyId keyGen dstEp sigOk secretOk s} :
    StepKept s₀ s (execReply i keyId keyGen dstEp sigOk secretOk s) := by
  unfold Machine.execReply
  split
  · exact .stay
  · extract_lets _ s'
    have h' (h : (lasting s₀).Holds s) : (lasting s₀).Holds s' := .setHs h
    exact .ite .stay <|
      .ite (.next fun h => .emit (.useAlias (.update (h' h) rfl))) (.next fun h => .sessionFail (.dropHs h))

theorem StepKept.execAccept {i status tagOk s} : StepKept s₀ s (execAccept i status tagOk s) := by
  unfold Machine.execAccept
  split
  · exact .stay
  · exact .ite .stay <|
      .ite (.next fun h => .freshNext (.installSession (.dropHs h))) (.next fun h => .sessionFail (.dropHs h))

theorem Steady.Holds.endSession {s k} (h : (lasting s₀).Holds s) : (lasting s₀).Holds (endSession s k) := by
  unfold Machine.endSession
  extract_lets s1
  have h1 : (lasting s₀).Holds s1 := .retireKey h
  exact .ite (.setV h1) h1

theorem StepKept.execClose {k tagOk s} : StepKept s₀ s (execClose k tagOk s) :=
  .ite .stay (.ite (.next fun h => .bumpE h) (.next fun h => .endSession h))

theorem StepKept.execHandshakeTimeout {i s} : StepKept s₀ s (execHandshakeTimeout i s) := by
  unfold Machine.execHandshakeTimeout
  split
  · exact .stay
  · exact .ite (.next fun h => .dropHs h) .stay

/-! ### Ports, links and the switch (Links.lean) -/

theorem Steady.Holds.linkFault {s p} (h : (lasting s₀).Holds s) : (lasting s₀).Holds (linkFault s p) :=
  .writeFault h

theorem Steady.Holds.dropLinks {s} (h : (lasting s₀).Holds s) : (lasting s₀).Holds (dropLinks s) :=
  .update h rfl

theorem StepKept.execCableInsertion {p s} : StepKept s₀ s (execCableInsertion p s) :=
  .ite .stay (.next fun h => .setPort h)

theorem StepKept.execCableDebounceDone {p s} : StepKept s₀ s (execCableDebounceDone p s) :=
  .ite (.ite (.next fun h => .setPort h) (.next fun h => .setPort h)) .stay

theorem StepKept.execCableRemoval {p lanesLost s} : StepKept s₀ s (execCableRemoval p lanesLost s) :=
  .ite .stay <|
  .ite (.ite .stay (.next fun h => .linkFault (.setPort h)))
      (.next fun h => .ite (.setPort h) (.linkFault (.setPort h)))

theorem StepKept.execLaneSignalDetected {p lanes s} : StepKept s₀ s (execLaneSignalDetected p lanes s) :=
  .ite .stay (.ite (.next fun h => .setPort h) (.next fun h => .setPort h))

theorem StepKept.execLaneEqualisationDone {p s} : StepKept s₀ s (execLaneEqualisationDone p s) :=
  .ite (.next fun h => .setPort h) .stay

theorem Steady.Holds.portUp {s p x} (h : (lasting s₀).Holds s) : (lasting s₀).Holds (portUp s p x) :=
  .setPort h

theorem StepKept.execLaneDeskewDone {p s} : StepKept s₀ s (execLaneDeskewDone p s) :=
  .ite (.ite (.next fun h => .update h rfl) (.next fun h => .setPort h)) .stay

theorem Steady.Holds.trainFail {s p} (h : (lasting s₀).Holds s) : (lasting s₀).Holds (trainFail s p) :=
  .bumpB (.setPort h)

theorem StepKept.execTrainingTimeout {p s} : StepKept s₀ s (execTrainingTimeout p s) :=
  .ite (.next fun h => .update h rfl) .stay

theorem Steady.Holds.cancelLink {s p} (h : (lasting s₀).Holds s) : (lasting s₀).Holds (cancelLink s p) :=
  .update h rfl

theorem Steady.Holds.linkKeys {s p c t} (h : (lasting s₀).Holds s) (he : linkKeys s p c = some t) : (lasting s₀).Holds t := by
  obtain ⟨s1, h1, he⟩ := Option.bind_eq_some_iff.1 he
  obtain ⟨s2, h2, rfl⟩ := Option.map_eq_some_iff.1 he
  exact (Steady.Holds.installKey (.installKey (.cancelLink h) h1) h2).update rfl

theorem StepKept.execLinkPeerHandshake {p h s} : StepKept s₀ s (execLinkPeerHandshake p h s) := by
  unfold Machine.execLinkPeerHandshake
  extract_lets
  split
  · exact .stay
  · split
    · exact .next fun h => .trainFail (.bumpB h)
    · split
      · exact .next fun h => .linkFault (.bumpB (.setPort (.emit (.useAlias (.rngTake h)))))
      · split
        · exact .stay
        · exact .next fun h => .portUp (.linkKeys (.emit (.useAlias (.rngTake h))) ‹_›)

theorem Steady.Holds.countCw {s p corrected uncorr} (h : (lasting s₀).Holds s) : (lasting s₀).Holds (countCw s p corrected uncorr) :=
  .bumpB (.bumpB h)

theorem Steady.Holds.laneLost {s p lane} (h : (lasting s₀).Holds s) : (lasting s₀).Holds (laneLost s p lane) :=
  .ite (.bumpB (.setPort h)) (.ite (.setPort h) (.ite (.bumpB (.setPort h)) (.setPort h)))

theorem StepKept.execLaneFault {p lane s} : StepKept s₀ s (execLaneFault p lane s) :=
  .ite .stay (.next fun h => .laneLost (.countCw h))

theorem Steady.Holds.setEnable {s p on} (h : (lasting s₀).Holds s) : (lasting s₀).Holds (setEnable s p on) :=
  .ite h (.ite (.setPort h) (.ite (.setPort h) (.setPort h)))

theorem Steady.Holds.setRetrain {s p} (h : (lasting s₀).Holds s) : (lasting s₀).Holds (setRetrain s p) :=
  .ite (.setPort h) h

theorem Steady.Holds.setForceHalf {s p on} (h : (lasting s₀).Holds s) : (lasting s₀).Holds (setForceHalf s p on) :=
  .setPort h

theorem StepKept.execPortEnable {p on s} : StepKept s₀ s (execPortEnable p on s) :=
  .ite (.next fun h => .setEnable h) .stay

theorem StepKept.execPortRetrain {p s} : StepKept s₀ s (execPortRetrain p s) :=
  .ite (.next fun h => .setRetrain h) .stay

theorem StepKept.execPortForceHalf {p on s} : StepKept s₀ s (execPortForceHalf p on s) :=
  .ite (.next fun h => .update h rfl) .stay

theorem Steady.Holds.countFrame {s p dir n} (h : (lasting s₀).Holds s) : (lasting s₀).Holds (countFrame s p dir n) := by
  unfold Machine.countFrame
  extract_lets _ _ s1
  have h1 : (lasting s₀).Holds s1 := by
    unfold s1
    split
    · exact .activateSlot h
    · exact h
  split
  · exact .ite (.setPort h1) (.setPort h)
  · exact .setPort h

theorem StepKept.execLinkRekey {p dir frame s} : StepKept s₀ s (execLinkRekey p dir frame s) := by
  unfold Machine.execLinkRekey
  extract_lets _ s0
  have h0 (h : (lasting s₀).Holds s) : (lasting s₀).Holds s0 := .useAlias (.rngTake h)
  split
  · exact .stay
  · split
    · exact .next fun h => .bumpB h
    · split
      · exact .stay
      · exact .next fun h => .emit (.countFrame (.setPort (.fillSlot (.update (h0 h) rfl))))

theorem StepKept.execLinkFrameReceive {p tagOk notice within1ms s} :
    StepKept s₀ s (execLinkFrameReceive p tagOk notice within1ms s) := by
  unfold Machine.execLinkFrameReceive
  extract_lets s1
  have h1 (h : (lasting s₀).Holds s) : (lasting s₀).Holds s1 := .countFrame (.countCw h)
  clear_value s1
  exact .ite .stay <|
    .ite (.next fun h => .update (h1 h) rfl) <|
    .ite (.next fun h => .setPort (h1 h)) <|
    .ite (.next fun h => .setPort (h1 h)) (.next fun h => .update (h1 h) rfl)

theorem Steady.Holds.wakeRoute {s die m} (h : (lasting s₀).Holds s) : (lasting s₀).Holds (wakeRoute s die m) :=
  .foldl h fun _ _ h => .ite (.emit h) h

theorem Steady.Holds.enterQueue {s die c} (h : (lasting s₀).Holds s) : (lasting s₀).Holds (enterQueue s die c) := by
  unfold Machine.enterQueue
  split
  · exact h
  · extract_lets
    split
    · exact h
    · exact .update h rfl

theorem Steady.Holds.swEnqueue {s die inPort c k} (h : (lasting s₀).Holds s) : (lasting s₀).Holds (swEnqueue s die inPort c k) :=
  .enterQueue (.update h rfl)

theorem StepKept.execSwitchForward {die inPort k s} : StepKept s₀ s (execSwitchForward die inPort k s) := by
  unfold Machine.execSwitchForward
  extract_lets s0
  have h0 (h : (lasting s₀).Holds s) : (lasting s₀).Holds s0 := .ite (.actLed h) h
  split
  · exact .stay
  · split
    · exact .next fun h => .dropFenced (h0 h)
    · split
      · exact .next fun h => .bumpB (.wakeRoute (h0 h))
      · exact .ite (.next fun h => .bumpB (h0 h)) (.next fun h => .swEnqueue (h0 h))

theorem StepKept.execPacketResidenceExpiry {die pos s} : StepKept s₀ s (execPacketResidenceExpiry die pos s) :=
  .ite (.next fun h => .bumpB (.update h rfl)) .stay

theorem Steady.Holds.noteShare {s die c sv n} (h : (lasting s₀).Holds s) : (lasting s₀).Holds (noteShare s die c sv n) :=
  .ite h (.ite (.update h rfl) (.update h rfl))

theorem Steady.Holds.sendHeld {s die c h} (hs : (lasting s₀).Holds s) : (lasting s₀).Holds (sendHeld s die c h) :=
  .ite (.ite hs (.emit hs)) (.countFrame (.emit hs))

theorem Steady.Holds.drainEgress {s die c} (h : (lasting s₀).Holds s) : (lasting s₀).Holds (drainEgress s die c) := by
  unfold Machine.drainEgress
  split
  · exact h
  · split
    · exact h
    · split
      · exact h
      · extract_lets s1
        have h1 : (lasting s₀).Holds s1 := .noteShare h
        exact .sendHeld (.update h1 rfl)

theorem Steady.Holds.tickDie {s die} (h : (lasting s₀).Holds s) : (lasting s₀).Holds (tickDie s die) :=
  .ite (.freshNext (.foldl h fun _ _ h => .enterQueue (.drainEgress h))) h

theorem Steady.Holds.closeSpent {s} (h : (lasting s₀).Holds s) : (lasting s₀).Holds (closeSpent s) :=
  .foldl h fun _ _ h => .endSession (.emit h)

theorem Steady.Holds.tick {s} (h : (lasting s₀).Holds s) : (lasting s₀).Holds (tick s) :=
  .tickDie (.tickDie (.closeSpent (.resumeAll h)))

theorem Steady.Holds.ethRule {e p value s} (h : (lasting s₀).Holds s) : (lasting s₀).Holds (ethRule e p value s).2 := by
  unfold Machine.ethRule
  split
  · exact h
  · split
    · exact .wrE h
    · exact .wrE (.wrE h)

theorem StepKept.execEthModeWrite {src p sub value s} : StepKept s₀ s (execEthModeWrite src p sub value s) :=
  .ite (.odCmd (fun _ h => .ethRule h)) (.ite (.odCmd (fun _ h => .ethRule h)) .stay)

theorem StepKept.execEthLinkUp {p lp s} : StepKept s₀ s (execEthLinkUp p lp s) :=
  .ite (.next fun h => .wrE h) .stay

theorem StepKept.execEthLinkDown {p lp s} : StepKept s₀ s (execEthLinkDown p lp s) :=
  .ite .stay (.next fun h => .wrE h)

theorem StepKept.execEthFrameReceive {p lp g s} : StepKept s₀ s (execEthFrameReceive p lp g s) :=
  .ite .stay <|
  .ite (.next fun h => .bumpE h) <|
  .ite (.next fun h => .emit h) <|
  .ite (.next fun h => .ite (.emit h) h) (.next fun h => .bumpE h)

theorem StepKept.execPathDeadExpiry {die dst s} : StepKept s₀ s (execPathDeadExpiry die dst s) :=
  .ite .stay
      (.next fun h => .foldl (.foldl (.bumpE h) fun _ _ h => .tryAbandon trivial trivial (.jobAbort trivial h)) fun _ _ h => .epError trivial h)

theorem StepKept.execJobAbortReceive {sender job round cause origin rsvZero s} :
    StepKept s₀ s (execJobAbortReceive sender job round cause origin rsvZero s) :=
  .ite .stay <|
  .ite (.next fun h => .bumpE h) <|
  .ite (.next fun h => .bumpE h) (.next fun h => .foldl (.bumpE h) fun _ _ h => .tryAbandon trivial trivial (.sendAborts trivial h))

/-! ### Tenants (Tenancy.lean) -/

theorem Steady.Holds.startReset {s unit host} (h : (lasting s₀).Holds s) : (lasting s₀).Holds (startReset s unit host) :=
  .ite h (.update h rfl)

theorem Steady.Holds.scrubAreas {s n} (h : (lasting s₀).Holds s) : (lasting s₀).Holds (scrubAreas s n) := by
  unfold Machine.scrubAreas
  extract_lets s1 s2
  have h1 : (lasting s₀).Holds s1 := .foldl h fun _ _ h => .dropBuf h
  have h2 : (lasting s₀).Holds s2 := .ite h1 (.scrubRange h1)
  exact .foldl (.ite (.scrubRange h2) h2) fun _ _ h => .scrubRange h

theorem Steady.Holds.teardownRest {s n} (h : (lasting s₀).Holds s) : (lasting s₀).Holds (teardownRest s n) :=
  .scrubCtx (.advanceCtxKey h)

theorem Steady.Holds.dropCtxTriggers {s n} (h : (lasting s₀).Holds s) : (lasting s₀).Holds (dropCtxTriggers s n) :=
  .foldl h fun _ _ h => .dropTrigger h

theorem Steady.Holds.teardownFirst {s n stuck} (h : (lasting s₀).Holds s) : (lasting s₀).Holds (teardownFirst s n stuck) :=
  .completeAll (.inr trivial) (.dropCtxTriggers (.reverseAll (.foldl h fun _ _ h => .destroyEp trivial h)))

theorem Steady.Holds.destroyRule {n stuck s} (h : (lasting s₀).Holds s) : (lasting s₀).Holds (destroyRule n stuck s).2 := by
  unfold Machine.destroyRule
  extract_lets _ _ s2
  have h2 : (lasting s₀).Holds s2 := .teardownFirst (.ite (.tryAbandon trivial trivial (.jobAbort trivial h)) h)
  split
  · exact h
  · split
    · exact .teardownRest h2
    · exact .setCx h2

theorem StepKept.execDestroy {src n stuck s} : StepKept s₀ s (execDestroy src n stuck s) :=
  .odCmd (fun _ h => .destroyRule h)

theorem StepKept.execTeardownEngineTimeout {n s} : StepKept s₀ s (execTeardownEngineTimeout n s) :=
  .ite (.next fun h => .foldl h fun _ _ h => .startReset h) .stay

theorem Steady.Holds.flashRule {f stuck s} (h : (lasting s₀).Holds s) : (lasting s₀).Holds (flashRule f stuck s).2 :=
  .fence h

theorem StepKept.execFlash {src f stuck s} : StepKept s₀ s (execFlash src f stuck s) :=
  .odCmd (fun _ h => .flashRule h)

theorem StepKept.execFunctionLevelReset {f stuck s} : StepKept s₀ s (execFunctionLevelReset f stuck s) :=
  .ite (.next fun h => .fence h) .stay

theorem StepKept.execFenceEngineTimeout {f s} : StepKept s₀ s (execFenceEngineTimeout f s) :=
  .ite (.next fun h => .foldl h fun _ _ h => .startReset h) .stay

theorem Steady.Holds.scrubDram {s f} (h : (lasting s₀).Holds s) : (lasting s₀).Holds (scrubDram s f) := by
  exact h.update rfl

theorem Steady.Holds.scrubQueues {s f} (h : (lasting s₀).Holds s) : (lasting s₀).Holds (scrubQueues s f) :=
  .update h rfl

theorem Steady.Holds.scrubBad {f s x} (h : (lasting s₀).Holds s) : (lasting s₀).Holds (scrubBad f s x) :=
  .ite (.writeFault (.wrE (.bumpE h))) h

theorem StepKept.execFenceScrub {f bad s} : StepKept s₀ s (execFenceScrub f bad s) :=
  .ite .stay <|
  .ite (.next fun h => .foldl h fun _ _ h => .wakeOnDemand h)
      (.next fun h => .wrE
          (.setFn (.foldl (.scrubQueues (.scrubDram (.foldl h fun _ _ h => .scrubCtx h)))
              fun _ _ h => .scrubBad h)))

theorem Steady.Holds.finishLc {s} (h : (lasting s₀).Holds s) : (lasting s₀).Holds (finishLc s) := by
  unfold Machine.finishLc
  extract_lets s0 _ _ s2 _ s1 s3 s4
  have h0 : (lasting s₀).Holds s0 := .dropLinks (.zeroVault h)
  have h2 : (lasting s₀).Holds s2 := .extendMr h0
  have h1 : (lasting s₀).Holds s1 := .ite (h0.burnBits rfl (fun _ hb => bit_putBit_of_bit (bit_putBit_of_bit hb)) rfl) (h2.update rfl)
  have h3 : (lasting s₀).Holds s3 := .wrE (h1.update rfl)
  have h4 : (lasting s₀).Holds s4 := by
    unfold s4
    split
    · exact .answer h3
    · exact h3
  exact .foldl h4 fun _ _ h => .retireKey h

theorem StepKept.execScrubDone {f s} : StepKept s₀ s (execScrubDone f s) := by
  unfold Machine.execScrubDone
  extract_lets _ _ s2
  have h2 (h : (lasting s₀).Holds s) : (lasting s₀).Holds s2 := .writeFault (.setFn h)
  exact .ite .stay (.next fun h => .ite (.finishLc (h2 h)) (h2 h))

theorem Steady.Holds.releaseKeys {s f t} (h : (lasting s₀).Holds s) (he : releaseKeys s f = some t) : (lasting s₀).Holds t := by
  unfold Machine.releaseKeys at he
  split at he
  · obtain ⟨s1, h1, he⟩ := Option.bind_eq_some_iff.1 he
    exact .installKey (.installKey h h1) he
  · exact Option.some.inj he ▸ h

theorem Steady.Holds.releaseFnRule {f s} (h : (lasting s₀).Holds s) : (lasting s₀).Holds (releaseFnRule f s).2 := by
  unfold Machine.releaseFnRule
  split
  · exact h
  · split
    · exact h
    · exact .flushMsix (.setFn (.wrE (.releaseKeys h ‹_›)))

theorem StepKept.execRelease {src f s} : StepKept s₀ s (execRelease src f s) :=
  .ite .stay (.odCmd (fun _ h => .releaseFnRule h))

theorem Steady.Holds.grantRule {e f v s} (h : (lasting s₀).Holds s) : (lasting s₀).Holds (grantRule e f v s).2 := by
  unfold Machine.grantRule
  extract_lets _ _ s1
  have h1 : (lasting s₀).Holds s1 := .wrE h
  split
  · exact h
  · split
    · split
      · exact h
      · split
        · exact h
        · exact .ite (.setFn (.wrE h1)) h1
    · split
      · exact h
      · exact .wrE h

theorem StepKept.execGrantWrite {src f sub value s} : StepKept s₀ s (execGrantWrite src f sub value s) := by
  unfold Machine.execGrantWrite
  split
  · exact .odCmd (fun _ h => .grantRule h)
  · exact .stay

theorem StepKept.execVfEnable {num s} : StepKept s₀ s (execVfEnable num s) := by
  unfold Machine.execVfEnable
  extract_lets
  split
  · exact .stay
  · exact .next fun h => .foldl (.update h rfl) fun _ _ h => .setFn (.wrE h)

theorem Steady.Holds.vfRemove {s num} (h : (lasting s₀).Holds s) : (lasting s₀).Holds (vfRemove s num) := by
  unfold Machine.vfRemove
  extract_lets _ s1
  have h1 : (lasting s₀).Holds s1 := .foldl h fun _ _ h => .fence h
  exact .ite h (.update h1 rfl)

theorem StepKept.execVfRemoval {num s} : StepKept s₀ s (execVfRemoval num s) :=
  .ite (.next fun h => .vfRemove h) .stay

/-! ### Watchdogs and resets (Faults.lean) -/

theorem Steady.Holds.coldState {s} (h : (lasting s₀).Holds s) : (lasting s₀).Holds (coldState s) := by
  exact h.update rfl

theorem Steady.Holds.resetAborts {s} (h : (lasting s₀).Holds s) : (lasting s₀).Holds (resetAborts s) :=
  .foldl h fun _ _ h => .jobAbort trivial h

theorem Steady.Holds.moduleReset {s cause flags} (h : (lasting s₀).Holds s) : (lasting s₀).Holds (moduleReset s cause flags) := by
  unfold Machine.moduleReset
  extract_lets _ _ s2
  have h2 : (lasting s₀).Holds s2 := .coldState (.resetAborts (.writeFault h))
  exact .update h2 rfl

theorem StepKept.execModuleReset {cause s} : StepKept s₀ s (execModuleReset cause s) :=
  .ite (.next fun h => .moduleReset h) .stay

theorem StepKept.execWatchdogExpiry {unit s} : StepKept s₀ s (execWatchdogExpiry unit s) :=
  .ite .stay (.next fun h => .startReset (.writeFault (.freshNext (.bumpE h))))

theorem StepKept.execEngineResetComplete {unit micros s} : StepKept s₀ s (execEngineResetComplete unit micros s) := by
  unfold Machine.execEngineResetComplete
  extract_lets
  split
  · exact .stay
  · exact .ite .stay
        (.next fun h => .unstick (fun _ => trivial) .scrubCtx (.unitEffects (.completeAll (.inr trivial) (.writeFault (.bumpE (.update h rfl))))))

theorem Steady.Holds.setHealth {s die v} (h : (lasting s₀).Holds s) : (lasting s₀).Holds (setHealth s die v) :=
  .wrE h

theorem Steady.Holds.retireDie {s die r} (h : (lasting s₀).Holds s) : (lasting s₀).Holds (retireDie s die r) :=
  .ite (.dieEffects (.setHealth (.writeFault (.update h rfl)))) (.moduleReset h)

theorem Steady.Holds.startDieReset {s die host escalated} (h : (lasting s₀).Holds s) :
    (lasting s₀).Holds (startDieReset s die host escalated) := by
  unfold Machine.startDieReset
  extract_lets _ _ s'
  have h' : (lasting s₀).Holds s' := .wakeOnDemand (.update h rfl)
  exact .ite h (.ite (.retireDie (.update h rfl)) (.setHealth (.update h' rfl)))

theorem StepKept.execEngineResetOverrun {unit s} : StepKept s₀ s (execEngineResetOverrun unit s) := by
  unfold Machine.execEngineResetOverrun
  split
  · exact .stay
  · split
    · exact .stay
    · exact .next fun h => .startDieReset h

theorem StepKept.execDieResetComplete {die micros s} : StepKept s₀ s (execDieResetComplete die micros s) := by
  unfold Machine.execDieResetComplete
  extract_lets
  split
  · exact .stay
  · exact .ite .stay (.next fun h => .setHealth (.dieEffects (.writeFault (.bumpE (.update h rfl)))))

theorem StepKept.execDieResetOverrun {die s} : StepKept s₀ s (execDieResetOverrun die s) := by
  unfold Machine.execDieResetOverrun
  split
  · exact .stay
  · split
    · exact .stay
    · exact .next fun h => .moduleReset (.writeFault h)

theorem StepKept.execHeartbeatLoss {unit s} : StepKept s₀ s (execHeartbeatLoss unit s) :=
  .ite (.next fun h => .moduleReset (.writeFault h)) .stay

theorem Steady.Holds.resetRule {level unit s} (h : (lasting s₀).Holds s) : (lasting s₀).Holds (resetRule level unit s).2 := by
  unfold Machine.resetRule
  split
  · split
    · exact .startReset h
    · exact h
  · split
    · split
      · exact .startDieReset h
      · exact h
    · split
      · exact .moduleReset h
      · exact h

theorem StepKept.execResetRequestEngine {src unit s} : StepKept s₀ s (execResetRequestEngine src unit s) :=
  .odCmd (fun _ h => .resetRule h)

theorem StepKept.execResetRequestDie {src unit s} : StepKept s₀ s (execResetRequestDie src unit s) :=
  .odCmd (fun _ h => .resetRule h)

theorem StepKept.execResetRequestModule {src unit s} : StepKept s₀ s (execResetRequestModule src unit s) :=
  .odCmd (fun _ h => .resetRule h)

theorem StepKept.execInPackageLinkError {link die s} : StepKept s₀ s (execInPackageLinkError link die s) :=
  .ite .stay (.next fun h => .retireDie h)

/-! ### Power (Power.lean) -/

theorem Steady.Holds.sleepPort {kind s p} (h : (lasting s₀).Holds s) : (lasting s₀).Holds (sleepPort kind s p) :=
  .ite (.ite (.setPort h) h) (.setPort (.emit h))

theorem Steady.Holds.sleepDie {kind s d} (h : (lasting s₀).Holds s) : (lasting s₀).Holds (sleepDie kind s d) := by
  unfold Machine.sleepDie
  extract_lets _ s3 s4 s1
  have h3 : (lasting s₀).Holds s3 := .foldl (.foldl h fun _ _ h => .sleepPort h) fun _ _ h => .wrE h
  have h4 : (lasting s₀).Holds s4 := .foldl h3 fun _ _ h => .evictEp h
  have h1 : (lasting s₀).Holds s1 := .ite h (.ite h3 (.update h4 rfl))
  exact .update h1 rfl

theorem Steady.Holds.dieSleepRule {kind d s} (h : (lasting s₀).Holds s) : (lasting s₀).Holds (dieSleepRule kind d s).2 := by
  unfold Machine.dieSleepRule
  split
  · exact h
  · split
    · exact h
    · split
      · exact h
      · exact .sleepDie h

theorem Steady.Holds.sleepDieRt {kind s d} (h : (lasting s₀).Holds s) : (lasting s₀).Holds (moduleSleepRule.sleepDieRt kind s d) :=
  .ite (h.update rfl) (.sleepDie h)

theorem Steady.Holds.moduleSleepRule {kind s} (h : (lasting s₀).Holds s) : (lasting s₀).Holds (moduleSleepRule kind s).2 := by
  unfold Machine.moduleSleepRule
  extract_lets _ s1
  have h1 : (lasting s₀).Holds s1 := .foldl h fun _ _ h => .sleepDieRt h
  split
  · exact h
  · exact .update h1 rfl

theorem Steady.Holds.wakeAll {s} (h : (lasting s₀).Holds s) : (lasting s₀).Holds (wakeAll s) :=
  .foldl h fun _ _ h => .wakeOnDemand h

theorem Steady.Holds.tellHost {s} (h : (lasting s₀).Holds s) : (lasting s₀).Holds (tellHost s) :=
  .ite (.emit h) (.ite (.emit (.update h rfl)) h)

theorem Steady.Holds.moduleWake {s cause} (h : (lasting s₀).Holds s) : (lasting s₀).Holds (moduleWake s cause) :=
  .wrE (.wakeAll (.tellHost h))

theorem Steady.Holds.wakeBy {k s} (h : (lasting s₀).Holds s) : (lasting s₀).Holds (wakeBy k s) :=
  .ite (.moduleWake h) h

theorem Steady.Holds.dieWakeRule {d s} (h : (lasting s₀).Holds s) : (lasting s₀).Holds (dieWakeRule d s).2 := by
  unfold Machine.dieWakeRule
  split
  · exact h
  · split
    · exact .moduleWake h
    · exact .wakeOnDemand h

theorem Steady.Holds.moduleWakeRule {s} (h : (lasting s₀).Holds s) : (lasting s₀).Holds (moduleWakeRule s).2 := by
  unfold Machine.moduleWakeRule
  split
  · exact .moduleWake h
  · exact .wakeAll h

theorem Steady.Holds.moduleRequestRule {v s} (h : (lasting s₀).Holds s) : (lasting s₀).Holds (moduleRequestRule v s).2 := by
  unfold Machine.moduleRequestRule
  split
  · exact .moduleWakeRule h
  · exact .moduleSleepRule h

theorem Steady.Holds.dieRequestRule {v s} (h : (lasting s₀).Holds s) : (lasting s₀).Holds (dieRequestRule v s).2 := by
  unfold Machine.dieRequestRule
  extract_lets
  split
  · exact h
  · split
    · exact .dieWakeRule h
    · exact .dieSleepRule h

theorem StepKept.execModuleRequestWake {src s} : StepKept s₀ s (execModuleRequestWake src s) :=
  .odCmd (fun _ h => .moduleRequestRule h)

theorem StepKept.execModuleRequestSleep {src s} : StepKept s₀ s (execModuleRequestSleep src s) :=
  .odCmd (fun _ h => .moduleRequestRule h)

theorem StepKept.execModuleRequestDeepSleep {src s} : StepKept s₀ s (execModuleRequestDeepSleep src s) :=
  .odCmd (fun _ h => .moduleRequestRule h)

theorem StepKept.execDieRequestWake {src die s} : StepKept s₀ s (execDieRequestWake src die s) :=
  .odCmd (fun _ h => .dieRequestRule h)

theorem StepKept.execDieRequestSleep {src die s} : StepKept s₀ s (execDieRequestSleep src die s) :=
  .odCmd (fun _ h => .dieRequestRule h)

theorem StepKept.execDieRequestDeepSleep {src die s} : StepKept s₀ s (execDieRequestDeepSleep src die s) :=
  .odCmd (fun _ h => .dieRequestRule h)

theorem Steady.Holds.deepLoss {s d} (h : (lasting s₀).Holds s) : (lasting s₀).Holds (deepLoss s d) := by
  unfold Machine.deepLoss
  extract_lets s1
  have h1 : (lasting s₀).Holds s1 := .setLoft (.clearTiles h)
  exact .update h1 rfl

theorem StepKept.execSleepEntryComplete {die s} : StepKept s₀ s (execSleepEntryComplete die s) := by
  unfold Machine.execSleepEntryComplete
  extract_lets _ _ _ _ s2
  have h2 (h : (lasting s₀).Holds s) : (lasting s₀).Holds s2 := .ite (.update h rfl) (.update h rfl)
  exact .ite .stay (.next fun h => .ite (.update (h2 h) rfl) (h2 h))

theorem Steady.Holds.wakePort {s p} (h : (lasting s₀).Holds s) : (lasting s₀).Holds (wakePort s p) :=
  .ite (.emit (.setPort h)) (.ite (.setPort h) h)

theorem StepKept.execWakeComplete {die s} : StepKept s₀ s (execWakeComplete die s) :=
  .ite .stay <|
  .ite (.next fun h => .ite (.rngStart (.update h rfl)) (.update h rfl)) <|
  .ite (.next fun h => .update h rfl) (.next fun h => .foldl (.update h rfl) fun _ _ h => .wakePort h)

theorem StepKept.execEngineGate {unit s} : StepKept s₀ s (execEngineGate unit s) :=
  .ite .stay (.next fun h => .update h rfl)

theorem StepKept.execEnginePowerUp {unit s} : StepKept s₀ s (execEnginePowerUp unit s) :=
  .ite .stay (.next fun h => .update h rfl)

theorem StepKept.execWakeN {s} : StepKept s₀ s (execWakeN s) :=
  .ite (.next fun h => .wakeBy h) .stay

theorem StepKept.execWakeTimer {s} : StepKept s₀ s (execWakeTimer s) := by
  unfold Machine.execWakeTimer
  extract_lets s'
  have h' (h : (lasting s₀).Holds s) : (lasting s₀).Holds s' := .wakeBy h
  exact .ite .stay (.next fun h => .update (h' h) rfl)

theorem StepKept.execManagementWakePacket {s} : StepKept s₀ s (execManagementWakePacket s) :=
  .next fun h => .wakeBy h

theorem StepKept.execPcieWake {perst s} : StepKept s₀ s (execPcieWake perst s) := by
  unfold Machine.execPcieWake
  extract_lets s1
  have h1 (h : (lasting s₀).Holds s) : (lasting s₀).Holds s1 := .ite (.vfRemove h) h
  exact .ite .stay (.next fun h => .wakeBy (.flushMsix (.update (h1 h) rfl)))

theorem StepKept.execCalliopePattern {p s} : StepKept s₀ s (execCalliopePattern p s) :=
  .ite .stay <|
  .ite (.next fun h => .setPort h) <|
  .ite .stay <|
  .ite (.next fun h => .moduleWake h) (.next fun h => .wakeOnDemand h)

theorem Steady.Holds.peerWakeRule {mask s} (h : (lasting s₀).Holds s) : (lasting s₀).Holds (peerWakeRule mask s).2 :=
  .foldl h fun _ _ h => .ite (.emit h) h

theorem StepKept.execPeerWake {src mask s} : StepKept s₀ s (execPeerWake src mask s) :=
  .odCmd (fun _ h => .peerWakeRule h)

theorem Steady.Holds.enterD3 {d s} (h : (lasting s₀).Holds s) : (lasting s₀).Holds (enterD3 d s) :=
  .moduleSleepRule (.update h rfl)

theorem StepKept.execD3hot {s} : StepKept s₀ s (execD3hot s) :=
  .ite (.next fun h => .enterD3 h) .stay

theorem StepKept.execD3cold {s} : StepKept s₀ s (execD3cold s) :=
  .ite (.next fun h => .enterD3 h) .stay

theorem StepKept.execInputPowerLoss {s} : StepKept s₀ s (execInputPowerLoss s) := by
  unfold Machine.execInputPowerLoss
  extract_lets s1
  have h1 (h : (lasting s₀).Holds s) : (lasting s₀).Holds s1 := .coldState h
  exact .next fun h => .update (h1 h) rfl

theorem StepKept.execPwrGoodAssert {s} : StepKept s₀ s (execPwrGoodAssert s) :=
  .ite (.next fun h => .update h rfl) .stay

theorem StepKept.execAuxiliaryRailValid {s} : StepKept s₀ s (execAuxiliaryRailValid s) :=
  .next fun h => .update h rfl

theorem StepKept.execAuxiliaryRailLoss {s} : StepKept s₀ s (execAuxiliaryRailLoss s) :=
  .next fun h => .update h rfl

theorem StepKept.execRefclkStable {s} : StepKept s₀ s (execRefclkStable s) :=
  .next fun h => .update h rfl

theorem StepKept.execRefclkLoss {s} : StepKept s₀ s (execRefclkLoss s) :=
  .next fun h => .update h rfl

theorem StepKept.execAlwaysOnTrim {s} : StepKept s₀ s (execAlwaysOnTrim s) :=
  .ite (.next fun h => .update h rfl) .stay

theorem Steady.Holds.thermalTrip {s d} (h : (lasting s₀).Holds s) : (lasting s₀).Holds (thermalTrip s d) := by
  unfold Machine.thermalTrip
  extract_lets _ _ s2
  have h2 : (lasting s₀).Holds s2 := .coldState (.resetAborts (.writeFault h))
  exact .wrE (.update h2 rfl)

theorem StepKept.execThermalSample {temps s} : StepKept s₀ s (execThermalSample temps s) := by
  unfold Machine.execThermalSample
  extract_lets _ _ _ s2
  have h2 (h : (lasting s₀).Holds s) : (lasting s₀).Holds s2 := .ite (.writeFault (.update h rfl)) (.update h rfl)
  split
  · exact .stay
  · split
    · exact .next fun h => .thermalTrip (h2 h)
    · exact .next fun h => (h2 h)

theorem StepKept.execThermalRecovery {temps s} : StepKept s₀ s (execThermalRecovery temps s) :=
  .ite (.next fun h => .update h rfl) .stay

theorem StepKept.execOverTemperatureComparator {die s} : StepKept s₀ s (execOverTemperatureComparator die s) :=
  .ite (.next fun h => .update h rfl) .stay

end Sys2Proof.Machine
end

section
/-! SUPPORT. What every command keeps, continued: boot, registers, PCIe, the panel, the dictionary and starts; O3 and O58. -/

namespace Sys2Proof.Machine
open Sys2Proof

variable {s₀ : State}

/-! ### Boot (Boot.lean) -/

theorem StepKept.execResetNAssert {s} : StepKept s₀ s (execResetNAssert s) :=
  .ite (.next fun h => .coldState h) .stay

theorem Steady.Holds.bootHalt {s e} (h : (lasting s₀).Holds s) : (lasting s₀).Holds (bootHalt s e) :=
  .update h rfl

theorem Steady.Holds.bootMacs {s} (h : (lasting s₀).Holds s) : (lasting s₀).Holds (bootMacs s) :=
  .foldl h fun _ _ h => .wrEj h

theorem Steady.Holds.bootFuses {s} (h : (lasting s₀).Holds s) : (lasting s₀).Holds (bootFuses s) :=
  .bootMacs (.update h rfl)

theorem Steady.Holds.bootMram {s} (h : (lasting s₀).Holds s) : (lasting s₀).Holds (bootMram s) :=
  .update h rfl

-- FAIL Sys2Proof.Machine.wrapSlot: unknown free variable `_fvar.167515`

theorem Steady.Holds.wrapSlot {s} (h : (lasting s₀).Holds s) : (lasting s₀).Holds (wrapSlot s) :=
  .getD h fun _ he => .installKey h he

theorem Steady.Holds.bootDraw {s salt} (h : (lasting s₀).Holds s) : (lasting s₀).Holds (bootDraw s salt) := by
  unfold Machine.bootDraw
  extract_lets s1
  have h1 : (lasting s₀).Holds s1 := .freshNext (.wrapSlot (.rngTake h))
  exact .update h1 rfl

theorem Steady.Holds.tamperResponse {s} (h : (lasting s₀).Holds s) : (lasting s₀).Holds (tamperResponse s) := by
  unfold Machine.tamperResponse
  extract_lets s1 s2
  have h2 : (lasting s₀).Holds s2 := .rngZero (.dropLinks (.zeroVault (.foldl h fun _ _ h => .retireKey h)))
  exact .ite h (.writeFault (.extendMr (h2.update rfl)))

theorem StepKept.execTamper {s} : StepKept s₀ s (execTamper s) :=
  .ite .stay (.ite (.next fun h => .update h rfl) (.next fun h => .tamperResponse h))

theorem Steady.Holds.bootSequence {b s} (h : (lasting s₀).Holds s) : (lasting s₀).Holds (bootSequence b s) := by
  unfold Machine.bootSequence
  extract_lets _ _ s1 s2 _ s3 s4 s5
  have h1 : (lasting s₀).Holds s1 := .rngStart (h.update rfl)
  have h2 : (lasting s₀).Holds s2 := .bootFuses h1
  clear_value s2
  have h3 : (lasting s₀).Holds s3 := h2.burnBits rfl (fun _ hb => hb) rfl
  have h4 : (lasting s₀).Holds s4 := .bootMram h3
  have h5 : (lasting s₀).Holds s5 := .bootDraw (.update h4 rfl)
  exact .ite (.freshNext (.bootHalt h1))
    (.ite (.bootHalt h3) (.ite (.bootHalt h3) (.ite (.bootHalt (.rngFail h4)) (.ite (.tamperResponse h5) h5))))

theorem StepKept.execResetNDeassert {b s} : StepKept s₀ s (execResetNDeassert b s) :=
  .ite (.next fun h => .bootSequence h) .stay

theorem Steady.Holds.bootAlias {s} (h : (lasting s₀).Holds s) : (lasting s₀).Holds (bootAlias s) := by
  unfold Machine.bootAlias
  extract_lets _ s1
  have h1 : (lasting s₀).Holds s1 := .reserveAlias (.update h rfl)
  exact .ite (.update h1 rfl) h

theorem Steady.Holds.bootImage {s len sigOk digestOk} (h : (lasting s₀).Holds s) : (lasting s₀).Holds (bootImage s len sigOk digestOk) := by
  unfold Machine.bootImage
  extract_lets _ _ s0 _ s1
  have h0 : (lasting s₀).Holds s0 := .update h rfl
  have h1 : (lasting s₀).Holds s1 := .extendMr h0
  split
  · exact .update h0 rfl
  · exact .bootAlias (.update h1 rfl)

theorem StepKept.execBootCommit {len img s} : StepKept s₀ s (execBootCommit len img s) :=
  .ite (.next fun h => .bootImage h) .stay

theorem Steady.Holds.imageCommitRule {len sigOk digestOk s} (h : (lasting s₀).Holds s) :
    (lasting s₀).Holds (imageCommitRule len sigOk digestOk s).2 := by
  unfold Machine.imageCommitRule
  split
  · exact h
  · exact .bootImage h

theorem StepKept.execImageCommit {len img s} : StepKept s₀ s (execImageCommit len img s) :=
  .odCmd (fun _ h => .imageCommitRule h)

theorem Steady.Holds.provisionRule {now dus s} (h : (lasting s₀).Holds s) : (lasting s₀).Holds (provisionRule now dus s).2 := by
  unfold Machine.provisionRule
  extract_lets s1
  have h1 : (lasting s₀).Holds s1 := .rngTake h
  split
  · exact h
  · split
    · exact .bumpB h
    · dsimp only
      exact .bootAlias (.wrE (h1.burnBits rfl (fun _ => bit_putBit_of_bit) rfl))

theorem StepKept.execProvision {src now dus len s} : StepKept s₀ s (execProvision src now dus len s) :=
  .odRun (fun _ h => .provisionRule h)

theorem Steady.Holds.produceRule {src now s} (h : (lasting s₀).Holds s) : (lasting s₀).Holds (produceRule src now s).2 := by
  unfold Machine.produceRule
  extract_lets
  split
  · exact h
  · split
    · exact h
    · exact .wrE (h.burnBits rfl (fun _ => bit_putBit_of_bit) rfl)

theorem StepKept.execProduce {src now len s} : StepKept s₀ s (execProduce src now len s) :=
  .odRun (fun _ h => .produceRule h)

theorem Steady.Holds.beginLc {s act src} (h : (lasting s₀).Holds s) : (lasting s₀).Holds (beginLc s act src) :=
  .fences (.update h rfl)

theorem Steady.Holds.retireRule {src now s} (h : (lasting s₀).Holds s) : (lasting s₀).Holds (retireRule src now s).2 := by
  unfold Machine.retireRule
  split
  · exact h
  · split
    · exact h
    · dsimp only
      exact .beginLc h

theorem StepKept.execLcRetire {src now s} : StepKept s₀ s (execLcRetire src now s) :=
  .odDefer (fun _ h => .retireRule h)

theorem Steady.Holds.newChallenge {s now} (h : (lasting s₀).Holds s) : (lasting s₀).Holds (challengeNow.newChallenge s now).2 :=
  .freshNext (h.update rfl)

theorem Steady.Holds.challengeNow {s now} (h : (lasting s₀).Holds s) : (lasting s₀).Holds (challengeNow s now).2 := by
  unfold Machine.challengeNow
  split
  · split
    · exact h
    · exact .newChallenge h
  · exact .newChallenge h

theorem StepKept.execDebugChallenge {src now s} : StepKept s₀ s (execDebugChallenge src now s) := by
  unfold Machine.execDebugChallenge
  extract_lets
  split
  · exact .stay
  · split
    · exact .next fun h => .answerWith h
    · exact .next fun h => .answerWith h
    · exact .next fun h => .answerWith (.challengeNow h)

theorem Steady.Holds.unlockRule {src now pub sigOk s} (h : (lasting s₀).Holds s) :
    (lasting s₀).Holds (unlockRule src now pub sigOk s).2 := by
  unfold Machine.unlockRule
  split
  · exact .wrE h
  · split
    · exact .wrE (.bumpE h)
    · dsimp only
      exact .beginLc h

theorem StepKept.execDebugResponse {src now pub sigOk s} : StepKept s₀ s (execDebugResponse src now pub sigOk s) :=
  .odDefer (fun _ h => .unlockRule h)

theorem Steady.Holds.bundleWrite {s x} (h : (lasting s₀).Holds s) : (lasting s₀).Holds (bundleWrite s x) := by
  unfold Machine.bundleWrite
  split
  · exact .wrEj h
  · exact h

theorem Steady.Holds.bundleRule {src b s} (h : (lasting s₀).Holds s) : (lasting s₀).Holds (bundleRule src b s).2 :=
  .wrE (.ite (.policyLockRule (.foldl h fun _ _ h => .bundleWrite h)) h)

theorem StepKept.execPolicyBundle {src b s} : StepKept s₀ s (execPolicyBundle src b s) :=
  .odRun (fun _ h => .bundleRule h)

/-! ### Registers (Registers.lean) -/

theorem Steady.Holds.snapTake {s} (h : (lasting s₀).Holds s) : (lasting s₀).Holds (snapTake s) :=
  .bumpE (.freshNext (.update h rfl))

theorem Steady.Holds.snapTakeRule {v s} (h : (lasting s₀).Holds s) : (lasting s₀).Holds (snapTakeRule v s).2 :=
  .ite h (.snapTake h)

theorem Steady.Holds.writePortCtrl {s p v} (h : (lasting s₀).Holds s) : (lasting s₀).Holds (writePortCtrl s p v) := by
  unfold Machine.writePortCtrl
  extract_lets s1
  have h1 : (lasting s₀).Holds s1 := .setForceHalf (.setEnable h)
  exact .ite (.setRetrain h1) h1

theorem Steady.Holds.writeRngCtrl {s v} (h : (lasting s₀).Holds s) : (lasting s₀).Holds (writeRngCtrl s v) := by
  unfold Machine.writeRngCtrl
  extract_lets s1
  have h1 : (lasting s₀).Holds s1 := .ite (.rngRestartRule h) h
  exact .ite (.ite (.update h1 rfl) h1) (.ite (.captureEnd h1) h1)

theorem Steady.Holds.bar2Write32 {s off v} (h : (lasting s₀).Holds s) : (lasting s₀).Holds (bar2Write32 s off v) := by
  unfold Machine.bar2Write32
  extract_lets _ _ s1
  have h1 : (lasting s₀).Holds s1 := .ite (.snapTake h) h
  split
  · exact .ite (.writeRngCtrl h) (.ite (.update h1 rfl) h)
  · split
    · split
      · exact .wrB (.wrB h)
      · split
        · exact .wrB h
        · split
          · exact .wrB h
          · split
            · exact .wrB h
            · split
              · exact .wrB h
              · split
                · exact .ite (.writePortCtrl h) h
                · exact h
    · exact h

theorem Steady.Holds.bar2Write {s off size v} (h : (lasting s₀).Holds s) : (lasting s₀).Holds (bar2Write s off size v) :=
  .ite (.ite (.ite (.wrB h) h) (.bar2Write32 (.bar2Write32 h))) (.ite (.bar2Write32 h) (.ite (.wrB h) h))

theorem Steady.Holds.cqWrite32 {s f q o v} (h : (lasting s₀).Holds s) : (lasting s₀).Holds (cqWrite32 s f q o v) :=
  .ite (.setCq h) (.ite (.setCq h) (.ite (.cqConfigWrite h) (.ite (.setCq h) (.ite (.setCq h) h))))

theorem Steady.Holds.evqWrite32 {s f e o v} (h : (lasting s₀).Holds s) : (lasting s₀).Holds (evqWrite32 s f e o v) :=
  .ite (.writeEvqConfig h) (.ite (.writeEvqDepth h) h)

theorem Steady.Holds.msixWrite32 {s f w v} (h : (lasting s₀).Holds s) : (lasting s₀).Holds (msixWrite32 s f w v) :=
  .flushMsix (.update h rfl)

theorem Steady.Holds.bootWindowWrite {s a size v} (h : (lasting s₀).Holds s) : (lasting s₀).Holds (bootWindowWrite s a size v) :=
  .ite h (.update h rfl)

theorem Steady.Holds.resState {s r} (h : (lasting s₀).Holds s) (hr : StepKept s₀ s r) : (lasting s₀).Holds (resState s r) := by
  unfold Machine.resState
  split
  · exact hr _ rfl h
  · exact h

theorem Steady.Holds.epDoorbell {s f e v} (h : (lasting s₀).Holds s) : (lasting s₀).Holds (epDoorbell s f e v) :=
  .resState h (.ite .execResume (.ite .execError (.ite .execEvict (.ite .execRecycle
    (.ite .execRecordFree (.doorbell fun _ h => h))))))

theorem Steady.Holds.bar0Write32 {s f off v} (h : (lasting s₀).Holds s) : (lasting s₀).Holds (bar0Write32 s f off v) :=
  .ite (.cqWrite32 h) (.ite (.evqWrite32 h) (.ite (.msixWrite32 h) (.ite (.resState h .execCqDoorbell)
    (.ite (.resState h (.ite .execSynValueWrite .execSynAdd))
        (.ite (.epDoorbell h) (.ite (.ite (.setMbox h) h) h))))))

theorem Steady.Holds.bar0Write {s f off size v} (h : (lasting s₀).Holds s) : (lasting s₀).Holds (bar0Write s f off size v) :=
  .ite h <|
  .ite (.setMboxBytes h) <|
  .ite (.ite (.bootWindowWrite h) h) <|
  .ite (.ite (.setCq h) (.bar0Write32 (.bar0Write32 h))) <|
  .ite (.bar0Write32 h) h

theorem Steady.Holds.readWords {s key off size wide word} (h : (lasting s₀).Holds s) :
    (lasting s₀).Holds (readWords s key off size wide word).2 := by
  unfold Machine.readWords
  extract_lets
  split
  · exact .update h rfl
  · split
    · split
      · exact .update h rfl
      · exact h
    · exact h

theorem Steady.Holds.foreignRead {s f off t} (h : (lasting s₀).Holds s) (he : foreignRead s f off = some t) : (lasting s₀).Holds t := by
  unfold Machine.foreignRead at he
  extract_lets at he
  split at he
  · exact Option.some.inj he ▸ .bumpE h
  · split at he
    · exact Option.some.inj he ▸ .bumpE h
    · cases he

theorem Steady.Holds.bar0Read {s f off size} (h : (lasting s₀).Holds s) : (lasting s₀).Holds (bar0Read s f off size).2 := by
  unfold Machine.bar0Read
  split
  · exact h
  · split
    · exact h
    · split
      · exact h
      · split
        next t he =>
          split at he
          · exact h.foreignRead he
          · cases he
        · exact .readWords h

theorem StepKept.execRegisterRead {r s} : StepKept s₀ s (execRegisterRead r s) := by
  unfold Machine.execRegisterRead
  split
  · exact .ite .stay <|
      .ite (.next fun h => .emit (.linkWork h)) (.next fun h => .emit (.linkWork (.bar0Read h)))
  · exact .ite .stay <|
      .ite (.next fun h => .emit (.linkWork h)) (.next fun h => .emit (.linkWork (.freshNext (.readWords h))))

/-! ### PCIe (Pcie.lean) -/

theorem StepKept.execLinkWidthReduction {s} : StepKept s₀ s (execLinkWidthReduction s) :=
  .ite (.next fun h => .update h rfl) .stay

theorem StepKept.execAspmL1Entry {s} : StepKept s₀ s (execAspmL1Entry s) :=
  .ite (.next fun h => .update h rfl) .stay

theorem StepKept.execPcieCompletionTimeout {r s} : StepKept s₀ s (execPcieCompletionTimeout r s) := by
  unfold Machine.execPcieCompletionTimeout
  split
  · split
    · exact .stay
    · exact .ite (.next fun h => .hwEnd h) .stay
  · exact .ite (.next fun h => .queueError h) .stay

theorem Steady.Holds.setTdisp {s f v} (h : (lasting s₀).Holds s) : (lasting s₀).Holds (setTdisp s f v) :=
  .update h rfl

theorem StepKept.execLockInterface {f s} : StepKept s₀ s (execLockInterface f s) :=
  .ite .stay (.ite (.next fun h => .setTdisp h) (.next fun h => .emit h))

theorem StepKept.execStartInterface {f s} : StepKept s₀ s (execStartInterface f s) :=
  .ite .stay (.ite (.next fun h => .setTdisp h) (.next fun h => .emit h))

theorem StepKept.execStopInterface {f s} : StepKept s₀ s (execStopInterface f s) :=
  .ite .stay (.ite (.next fun h => .setTdisp h) (.ite (.next fun h => .fence h) .stay))

theorem StepKept.execGetDeviceInterfaceReport {f s} : StepKept s₀ s (execGetDeviceInterfaceReport f s) :=
  .ite (.next fun h => .emit h) .stay

theorem StepKept.execTdispError {f isRead s} : StepKept s₀ s (execTdispError f isRead s) := by
  unfold Machine.execTdispError
  extract_lets s1
  have h1 (h : (lasting s₀).Holds s) : (lasting s₀).Holds s1 := .fence h
  exact .ite (.next fun h => .ite (.emit (h1 h)) (h1 h)) .stay

theorem StepKept.execSpdmRequest {code offered s} : StepKept s₀ s (execSpdmRequest code offered s) := by
  unfold Machine.execSpdmRequest
  extract_lets s1
  have h1 (h : (lasting s₀).Holds s) : (lasting s₀).Holds s1 := .emit h
  exact .ite .stay (.ite (.next fun h => .emit h) (.next fun h => .ite (.useAlias (h1 h)) (h1 h)))

theorem StepKept.execKSetGo {stream s} : StepKept s₀ s (execKSetGo stream s) := by
  unfold Machine.execKSetGo
  split
  · exact .stay
  · split
    · exact .next fun h => .activateSlot h
    · exact .stay

theorem StepKept.execIdeStreamTlp {stream f s} : StepKept s₀ s (execIdeStreamTlp stream f s) :=
  .ite (.next fun h => .bumpE h) .stay

theorem Steady.Holds.bindStream {s stream fn} (h : (lasting s₀).Holds s) : (lasting s₀).Holds (bindStream s stream fn) := by
  unfold Machine.bindStream
  extract_lets
  split
  · exact .fence h
  · exact .update h rfl

theorem Steady.Holds.setMemSpace {s f on} (h : (lasting s₀).Holds s) : (lasting s₀).Holds (setMemSpace s f on) :=
  .flushMsix (.update h rfl)

theorem Steady.Holds.setVfD {s f d} (h : (lasting s₀).Holds s) : (lasting s₀).Holds (setVfD s f d) :=
  .flushMsix (.update h rfl)

theorem StepKept.execSnapshotTake {viaOd s} : StepKept s₀ s (execSnapshotTake viaOd s) := by
  unfold Machine.execSnapshotTake
  split
  · exact .odCmd (fun _ h => .snapTakeRule h)
  · exact .ite (.next fun h => .snapTake h) .stay

theorem StepKept.execRngRestart {viaOd s} : StepKept s₀ s (execRngRestart viaOd s) := by
  unfold Machine.execRngRestart
  split
  · exact .odCmd (fun _ h => .rngRestartRule h)
  · exact .ite (.next fun h => .rngRestartRule h) .stay

/-! ### Pins, panel and debug (Panel.lean) -/

theorem StepKept.execFreezeN {s} : StepKept s₀ s (execFreezeN s) :=
  .ite (.next fun h => h.update rfl) .stay

theorem StepKept.execPresencePress {now s} : StepKept s₀ s (execPresencePress now s) :=
  .ite (.next fun h => .update h rfl) .stay

theorem StepKept.execLocateAcknowledgementEnd {s} : StepKept s₀ s (execLocateAcknowledgementEnd s) :=
  .ite .stay (.next fun h => .update h rfl)

theorem StepKept.execLedActTimeout {s} : StepKept s₀ s (execLedActTimeout s) :=
  .ite .stay (.next fun h => .update h rfl)

theorem StepKept.execLocateWrite {src value s} : StepKept s₀ s (execLocateWrite src value s) :=
  .odCmd (fun _ h => .update h rfl)

theorem StepKept.execTapReset {s} : StepKept s₀ s (execTapReset s) :=
  .ite (.next fun h => h.update rfl) .stay

theorem StepKept.execTapInstructionLoad {code now s} : StepKept s₀ s (execTapInstructionLoad code now s) := by
  unfold Machine.execTapInstructionLoad
  extract_lets
  split
  · exact .stay
  · split
    · exact .next fun h => .emit (.challengeNow (.update h rfl))
    · exact .next fun h => .emit (.freshNext (.update h rfl))

theorem StepKept.execUnlockResponse {now pub sigOk s} : StepKept s₀ s (execUnlockResponse now pub sigOk s) :=
  .ite (.next fun h => .unlockRule h) .stay

theorem Steady.Holds.dbgDone {s st v} (h : (lasting s₀).Holds s) : (lasting s₀).Holds (dbgDone s st v) :=
  .emit (h.update rfl)

theorem StepKept.dbgRun {s w reads check eff} (heff : ∀ t, (lasting s₀).Holds t → (lasting s₀).Holds (eff t)) :
    StepKept s₀ s (dbgRun s w reads check eff) := by
  unfold Machine.dbgRun
  split
  · exact .stay
  · split
    · exact .next fun h => .dbgDone h
    · split
      · exact .next fun h => .dbgDone h
      · split
        · exact .next fun h => .dbgDone h
        · exact .next fun h => heff _ h

theorem StepKept.execDbgNop {w s} : StepKept s₀ s (execDbgNop w s) :=
  .dbgRun (fun _ h => .dbgDone h)

theorem StepKept.execDbgRead32 {w s} : StepKept s₀ s (execDbgRead32 w s) :=
  .dbgRun (fun _ h => .dbgDone (.freshNext h))

theorem Steady.Holds.dbgStore {s w} (h : (lasting s₀).Holds s) : (lasting s₀).Holds (dbgStore s w) :=
  .ite (.bar2Write h) (.ite (.ite h (h.update rfl))
    (.ite h (.ite (.setLoft h) (.update h rfl))))

theorem StepKept.execDbgWrite32 {w s} : StepKept s₀ s (execDbgWrite32 w s) :=
  .dbgRun (fun _ h => .dbgDone (.dbgStore h))

theorem Steady.Holds.setHalt {s l u n} (h : (lasting s₀).Holds s) : (lasting s₀).Holds (setHalt s l u n) :=
  h.update rfl

theorem StepKept.execDbgHalt {w s} : StepKept s₀ s (execDbgHalt w s) :=
  .dbgRun (fun _ h => .dbgDone (.ite h (.setHalt h)))

theorem StepKept.execDbgResume {w s} : StepKept s₀ s (execDbgResume w s) :=
  .dbgRun (fun _ h => .dbgDone (.setHalt h))

theorem StepKept.execDbgStep {w s} : StepKept s₀ s (execDbgStep w s) :=
  .dbgRun (fun _ h => .dbgDone (.ite (.setHalt h) h))

theorem StepKept.execDbgStatus {w s} : StepKept s₀ s (execDbgStatus w s) :=
  .dbgRun (fun _ h => .dbgDone (.freshNext h))

theorem StepKept.execDbgSetBp {w s} : StepKept s₀ s (execDbgSetBp w s) :=
  .dbgRun (fun _ h => .dbgDone (.update h rfl))

theorem StepKept.execDbgClearBp {w s} : StepKept s₀ s (execDbgClearBp w s) :=
  .dbgRun (fun _ h => .dbgDone (.update h rfl))

/-! ### The object dictionary (Dictionary.lean) -/

theorem Steady.Holds.createRule {f n s} (h : (lasting s₀).Holds s) : (lasting s₀).Holds (createRule f n s).2 := by
  unfold Machine.createRule
  split
  · exact h
  · exact .createCtx h

theorem StepKept.execCreate {src n s} : StepKept s₀ s (execCreate src n s) :=
  .odCmd (fun _ h => .createRule h)

theorem StepKept.execPolicyLock {src n s} : StepKept s₀ s (execPolicyLock src n s) :=
  .odCmd (fun _ h => .policyLockRule h)

theorem StepKept.execRoundOpen {src n s} : StepKept s₀ s (execRoundOpen src n s) :=
  .odCmd (fun _ h => .openRule h)

theorem StepKept.execRoundClose {src n s} : StepKept s₀ s (execRoundClose src n s) :=
  .odCmd (fun _ h => .closeRule h)

theorem StepKept.execRoundAbandon {src n s} : StepKept s₀ s (execRoundAbandon src n s) :=
  .odCmd (fun _ h => .abandonRule h)

theorem StepKept.execRoundRelease {src n s} : StepKept s₀ s (execRoundRelease src n s) :=
  .odCmd (fun _ h => .releaseRule h)

theorem StepKept.execCohortOpen {src n s} : StepKept s₀ s (execCohortOpen src n s) :=
  .odCmd (fun _ h => .cohortOpenRule h)

theorem StepKept.execCohortShut {src n s} : StepKept s₀ s (execCohortShut src n s) :=
  .odCmd (fun _ h => .cohortShutRule h)

theorem StepKept.execBasisLoad {src n value s} : StepKept s₀ s (execBasisLoad src n value s) :=
  .odCmd (fun _ h => .basisLoadRule h)

theorem StepKept.execSynBlockWrite {src k value s} : StepKept s₀ s (execSynBlockWrite src k value s) :=
  .odCmd (fun _ h => .synBlockRule h)

theorem StepKept.objCmd {s src code} : StepKept s₀ s (objCmd s src code) :=
  .odCmd (fun _ h => .objRule h)

theorem StepKept.execObjCreate {src s} : StepKept s₀ s (execObjCreate src s) :=
  .objCmd

theorem StepKept.execObjModify {src s} : StepKept s₀ s (execObjModify src s) :=
  .objCmd

theorem StepKept.execObjDestroy {src s} : StepKept s₀ s (execObjDestroy src s) :=
  .objCmd

theorem StepKept.execAdvance {src s} : StepKept s₀ s (execAdvance src s) :=
  .objCmd

theorem StepKept.execQuery {src s} : StepKept s₀ s (execQuery src s) :=
  .objCmd

theorem StepKept.execRetire {src s} : StepKept s₀ s (execRetire src s) :=
  .objCmd

theorem StepKept.execAdvanceCtxKey {src s} : StepKept s₀ s (execAdvanceCtxKey src s) :=
  .objCmd

theorem Steady.Holds.endPortSessions {s} (h : (lasting s₀).Holds s) : (lasting s₀).Holds (endPortSessions s) := by
  unfold Machine.endPortSessions
  extract_lets s1
  have h1 : (lasting s₀).Holds s1 := .foldl h fun _ _ h => .endSession h
  exact .update h1 rfl

theorem Steady.Holds.authorityRule {f v s} (h : (lasting s₀).Holds s) : (lasting s₀).Holds (authorityRule f v s).2 := by
  unfold Machine.authorityRule
  split
  · exact h
  · exact .wrE h

/-- A write rule keeps the commands that wait and the fuses. -/
def RuleKept (s₀ : State) (r : State → Nat × State) : Prop := ∀ s, (lasting s₀).Holds s → (lasting s₀).Holds (r s).2

theorem RuleKept.ite {c : Prop} [Decidable c] {r r'} (h : RuleKept s₀ r) (h' : RuleKept s₀ r') :
    RuleKept s₀ (if c then r else r') := by
  split
  · exact h
  · exact h'

/-- A rule found in a table. -/
def FoundKept (s₀ : State) (o : Option (State → Nat × State)) : Prop := ∀ r, o = some r → RuleKept s₀ r

theorem FoundKept.none : FoundKept s₀ none := fun _ h => nomatch h
theorem FoundKept.some {r} (h : RuleKept s₀ r) : FoundKept s₀ (some r) := fun _ he => Option.some.inj he ▸ h

theorem FoundKept.ite {c : Prop} [Decidable c] {o o'} (h : FoundKept s₀ o) (h' : FoundKept s₀ o') :
    FoundKept s₀ (if c then o else o') := by
  split
  · exact h
  · exact h'

theorem foundKept_codeRule {src e n v} : FoundKept s₀ (codeRule src e n v) :=
  .ite (.some (.ite (fun _ h => .createRule h) (fun _ h => .destroyRule h)))
  (.ite (.some (.ite (fun _ h => .openRule h) (.ite (fun _ h => .closeRule h)
    (.ite (fun _ h => .abandonRule h) (fun _ h => .releaseRule h)))))
  (.ite (.some (.ite (fun _ h => .cohortOpenRule h) (fun _ h => .cohortShutRule h)))
  (.ite (.some fun _ h => .objRule h)
  (.ite (.some (.ite (fun _ h => .flashRule h) (fun _ h => .releaseFnRule h)))
  (.ite (.some fun _ h => .moduleRequestRule h)
  (.ite (.some fun _ h => .dieRequestRule h)
  (.ite (.some fun _ h => .resetRule h)
  (.ite (.some fun _ h => .peerWakeRule h)
  (.ite (.some fun _ h => .snapTakeRule h)
  (.ite (.some fun _ h => by
        split
        · exact .rngRestartRule h
        · exact h) .none))))))))))

theorem foundKept_configRule {e n j v} : FoundKept s₀ (configRule e n j v) :=
  .ite (.some fun _ h => by
        split
        · exact .policyLockRule h
        · exact h)
  (.ite (.some fun _ h => .basisLoadRule h)
  (.ite (.some fun _ h => .synBlockRule h)
  (.ite (.some fun _ h => .synBlockRule h)
  (.ite (.some fun _ h => .ethRule h)
  (.ite (.some fun _ h => .fabricLockRule h)
  (.ite (.some fun _ h => .svnCommitRule h)
  (.ite (.some fun _ h => .mrExtendRule h)
  (.ite (.some fun _ h => .grantRule h)
  (.ite (.some fun _ h => .authorityRule h)
  (.ite (.some fun _ h => .ite (.wrE h) h)
  (.ite (.some fun _ h => .update h rfl)
  (.ite (.some fun _ h => .ite h (.endPortSessions (.wrE h)))
  (.ite (.some fun _ h => .ite h (h.update rfl)) .none)))))))))))))

theorem ruleKept_writeRule {src e n j v} : RuleKept s₀ (writeRule src e n j v) := by
  unfold writeRule
  split
  · exact foundKept_codeRule _ ‹_›
  · cases hc : configRule e n j v with
    | none => exact fun _ h => .update h rfl
    | some r => exact foundKept_configRule r hc

theorem Steady.Holds.writeRule {src e n j v s} (h : (lasting s₀).Holds s) : (lasting s₀).Holds (writeRule src e n j v s).2 :=
  ruleKept_writeRule s h

theorem Steady.Holds.rangeRule {src e n v s} (h : (lasting s₀).Holds s) : (lasting s₀).Holds (rangeRule src e n v s).2 := by
  unfold Machine.rangeRule
  extract_lets s1
  have h1 : (lasting s₀).Holds s1 := .ite (.update h rfl) (.update h rfl)
  exact .ite (.setCx h1) (.answer h1)

theorem StepKept.execTileRangeRemoval {n s} : StepKept s₀ s (execTileRangeRemoval n s) := by
  unfold Machine.execTileRangeRemoval
  extract_lets s1
  have h1 (h : (lasting s₀).Holds s) : (lasting s₀).Holds s1 := .update h rfl
  exact .ite .stay (.ite (.next fun h => (h1 h)) (.next fun h => .foldl (.setCx (h1 h)) fun _ _ h => .answer h))

theorem StepKept.odWrite {s src index sub len value} : StepKept s₀ s (odWrite s src index sub len value) := by
  unfold Machine.odWrite
  split
  · exact .ite (.next fun h => .answer h) .stay
  · exact .ite .stay (.ite (.odDefer (fun _ h => .rangeRule h)) (.odRun (fun _ h => .writeRule h)))

theorem StepKept.execOdWriteEntry {t s} : StepKept s₀ s (execOdWriteEntry t s) := by
  unfold Machine.execOdWriteEntry
  split
  · exact .odWrite
  · exact .next fun h => .bar0Write h
  · exact .next fun h => .ite (.bar2Write h) h
  · exact .next fun h => .ite (.setMemSpace h) h
  · exact .next fun h => .ite (.setVfD h) h
  · exact .next fun h => .ite (.bindStream h) h

theorem Steady.Holds.answerPart {s src value total off len} (h : (lasting s₀).Holds s) :
    (lasting s₀).Holds (answerPart s src value total off len) :=
  .answerWith h

theorem StepKept.execOdRead {src txn index sub off len s} : StepKept s₀ s (execOdRead src txn index sub off len s) := by
  unfold Machine.execOdRead
  extract_lets
  split
  · exact .stay
  · split
    · exact .ite (.next fun h => .answerWith h) (.next fun h => .answerPart (.freshNext (.update h rfl)))
    · split
      · exact .next fun h => .answerPart h
      · exact .next fun h => .answerWith h

theorem StepKept.execOdReadCopyLapse {src txn s} : StepKept s₀ s (execOdReadCopyLapse src txn s) :=
  .ite .stay (.next fun h => .update h rfl)

theorem Steady.Holds.claimImage {s src index} (h : (lasting s₀).Holds s) : (lasting s₀).Holds (claimImage s src index) :=
  .ite (.update h rfl) h

theorem StepKept.execOdWriteSegment {src txn index sub off len value last s} :
    StepKept s₀ s (execOdWriteSegment src txn index sub off len value last s) := by
  unfold Machine.execOdWriteSegment
  extract_lets _ _ _ s1
  have h1 (h : (lasting s₀).Holds s) : (lasting s₀).Holds s1 := .claimImage (.update h rfl)
  exact .ite .stay (.ite (.next fun h => .ite (.answer (.update h rfl)) (.answer h))
    (.ite (.next fun h => .answer h)
        (.ite (.of_state h1 .odWrite) (.next fun h => .answer ((h1 h).update rfl)))))

theorem StepKept.execOdStagingTimeout {src txn s} : StepKept s₀ s (execOdStagingTimeout src txn s) :=
  .ite .stay (.next fun h => .update h rfl)

theorem StepKept.execMbDoorbell {f len s} : StepKept s₀ s (execMbDoorbell f len s) :=
  .ite .stay (.ite (.next fun h => .setMbox h) (.next fun h => .setMbox h))

/-! ### The start of descriptors (Start.lean) -/

theorem Steady.Holds.noteFormat {s d st} (h : (lasting s₀).Holds s) : (lasting s₀).Holds (noteFormat s d st) :=
  .ite (.noteRefusal h) h

theorem Steady.Holds.firstUnmask {s d} (h : (lasting s₀).Holds s) : (lasting s₀).Holds (firstUnmask s d).1 := by
  unfold Machine.firstUnmask
  extract_lets
  split
  · exact h
  · split
    · exact .failCohort h
    · exact .setCohort h

theorem Steady.Holds.startChecks {s d} (h : (lasting s₀).Holds s) : (lasting s₀).Holds (startChecks s d).1 := by
  unfold Machine.startChecks
  split
  · exact h
  · split
    · exact .noteFormat h
    · exact .firstUnmask h

theorem Steady.Holds.startOn {s die u d} (h : (lasting s₀).Holds s) : (lasting s₀).Holds (startOn s die u d) := by
  unfold Machine.startOn
  extract_lets _ _ s1 r s2
  have h1 : (lasting s₀).Holds s1 := .freshNext (.update h rfl)
  have hr : (lasting s₀).Holds r.1 := by
    unfold r
    split
    · exact .startChecks h1
    · exact h1
  have h2 : (lasting s₀).Holds s2 := .setDesc hr
  split
  · exact .refuseDesc hr
  · exact .ite (h2.update rfl) h2

theorem StepKept.execCarouselDispatch {die unit s} : StepKept s₀ s (execCarouselDispatch die unit s) := by
  unfold Machine.execCarouselDispatch
  split
  · exact .stay
  · split
    · exact .stay
    · exact .ite (.next fun h => .wakeOnDemand h) (.next fun h => .startOn h)

/-! ### Every command -/

/-- Every command leaves the commands behind it, and only burns fuses. -/
theorem StepKept.exec {c s} : StepKept s₀ s (exec c s) :=
  match c with
  | .odWriteEntry .. => .execOdWriteEntry
  | .odRead .. => .execOdRead
  | .odWriteSegment .. => .execOdWriteSegment
  | .odStagingTimeout .. => .execOdStagingTimeout
  | .mbDoorbell .. => .execMbDoorbell
  | .create .. => .execCreate
  | .destroy .. => .execDestroy
  | .teardownEngineTimeout .. => .execTeardownEngineTimeout
  | .contextQuarantineExpiry .. => .execContextQuarantineExpiry
  | .policyLock .. => .execPolicyLock
  | .roundOpen .. => .execRoundOpen
  | .roundClose .. => .execRoundClose
  | .roundAbandon .. => .execRoundAbandon
  | .roundRelease .. => .execRoundRelease
  | .closeGraceExpiry .. => .execCloseGraceExpiry
  | .roundEnterCombining .. => .execRoundEnterCombining
  | .roundEnterReady .. => .execRoundEnterReady
  | .clearSubtotalEncrypt .. => .execClearSubtotalEncrypt
  | .areaScrubComplete .. => .execAreaScrubComplete
  | .provTileZero .. => .execProvTileZero
  | .cohortOpen .. => .execCohortOpen
  | .cohortShut .. => .execCohortShut
  | .cohortMerge .. => .execCohortMerge
  | .shareBufferBind .. => .execShareBufferBind
  | .seedSumShareMessage .. => .execSeedSumShareMessage
  | .prgExpandDerive .. => .execPrgExpandDerive
  | .prgExpandMask .. => .execPrgExpandMask
  | .seedRecon .. => .execSeedRecon
  | .unmask .. => .execUnmask
  | .basisLoad .. => .execBasisLoad
  | .ntt .. => .execNtt
  | .intt .. => .execIntt
  | .vmulProduct .. => .execVmulProduct
  | .vmulScalar .. => .execVmulScalar
  | .vmulAdd .. => .execVmulAdd
  | .vmulSubtract .. => .execVmulSubtract
  | .vmulToMontgomery .. => .execVmulToMontgomery
  | .vmulToStandard .. => .execVmulToStandard
  | .vmacAddProduct .. => .execVmacAddProduct
  | .vmacAddScalar .. => .execVmacAddScalar
  | .vmacSubProduct .. => .execVmacSubProduct
  | .vmacSubScalar .. => .execVmacSubScalar
  | .baseconvFast .. => .execBaseconvFast
  | .baseconvExact .. => .execBaseconvExact
  | .baseconvPrepare .. => .execBaseconvPrepare
  | .automorphCoefficient .. => .execAutomorphCoefficient
  | .automorphNtt .. => .execAutomorphNtt
  | .ctAdd .. => .execCtAdd
  | .ctPmul .. => .execCtPmul
  | .keyswitch .. => .execKeyswitch
  | .rotate .. => .execRotate
  | .moddrop .. => .execModdrop
  | .encryptClearInt32 .. => .execEncryptClearInt32
  | .encryptClearFp32Pair .. => .execEncryptClearFp32Pair
  | .decryptShare .. => .execDecryptShare
  | .keyShareMessage .. => .execKeyShareMessage
  | .shAdd .. => .execShAdd
  | .shAddPublic .. => .execShAddPublic
  | .shSubtract .. => .execShSubtract
  | .shScale .. => .execShScale
  | .shBeaver .. => .execShBeaver
  | .shOpen .. => .execShOpen
  | .exchangeTimeoutExpiry .. => .execExchangeTimeoutExpiry
  | .exchangeMessage .. => .execExchangeMessage
  | .tripleBatch .. => .execTripleBatch
  | .partnerQuoteCheck .. => .execPartnerQuoteCheck
  | .accIntAdd .. => .execAccIntAdd
  | .accIntSubtract .. => .execAccIntSubtract
  | .accFloat .. => .execAccFloat
  | .accMaskedAdd .. => .execAccMaskedAdd
  | .accMaskedSubtract .. => .execAccMaskedSubtract
  | .accSharedAdd .. => .execAccSharedAdd
  | .accSharedSubtract .. => .execAccSharedSubtract
  | .preloadZero .. => .execPreloadZero
  | .preloadLoad .. => .execPreloadLoad
  | .drainNative .. => .execDrainNative
  | .drainDequant .. => .execDrainDequant
  | .drainMean .. => .execDrainMean
  | .drainFused .. => .execDrainFused
  | .save .. => .execSave
  | .restore .. => .execRestore
  | .reduceMax .. => .execReduceMax
  | .reduceMin .. => .execReduceMin
  | .tileRangeRemoval .. => .execTileRangeRemoval
  | .cqDoorbell .. => .execCqDoorbell
  | .cqEnable .. => .execCqEnable
  | .cqDisable .. => .execCqDisable
  | .cqFlush .. => .execCqFlush
  | .descriptorFetch .. => .execDescriptorFetch
  | .descriptorForward .. => .execDescriptorForward
  | .carouselDispatch .. => .execCarouselDispatch
  | .urgentPromotion .. => .execUrgentPromotion
  | .synValueWrite .. => .execSynValueWrite
  | .synAdd .. => .execSynAdd
  | .synBlockWrite .. => .execSynBlockWrite
  | .copy .. => .execCopy
  | .fill .. => .execFill
  | .scrub .. => .execScrub
  | .wait .. => .execWait
  | .waitTimeout .. => .execWaitTimeout
  | .signalAdd .. => .execSignalAdd
  | .signalSet .. => .execSignalSet
  | .fenceQueue .. => .execFenceQueue
  | .fenceContext .. => .execFenceContext
  | .fenceFunction .. => .execFenceFunction
  | .nop .. => .execNop
  | .triggerArm .. => .execTriggerArm
  | .triggerCancel .. => .execTriggerCancel
  | .triggerFire .. => .execTriggerFire
  | .triggerStreamEntry .. => .execTriggerStreamEntry
  | .evqEnable .. => .execEvqEnable
  | .evqFlush .. => .execEvqFlush
  | .evqDepthWrite .. => .execEvqDepthWrite
  | .eventQueueRead .. => .execEventQueueRead
  | .cableInsertion .. => .execCableInsertion
  | .cableRemoval .. => .execCableRemoval
  | .cableDebounceDone .. => .execCableDebounceDone
  | .laneSignalDetected .. => .execLaneSignalDetected
  | .laneEqualisationDone .. => .execLaneEqualisationDone
  | .laneDeskewDone .. => .execLaneDeskewDone
  | .linkPeerHandshake .. => .execLinkPeerHandshake
  | .trainingTimeout .. => .execTrainingTimeout
  | .laneFault .. => .execLaneFault
  | .portEnable .. => .execPortEnable
  | .portRetrain .. => .execPortRetrain
  | .portForceHalf .. => .execPortForceHalf
  | .linkRekey .. => .execLinkRekey
  | .linkFrameReceive .. => .execLinkFrameReceive
  | .switchForward .. => .execSwitchForward
  | .packetResidenceExpiry .. => .execPacketResidenceExpiry
  | .inPackageLinkError .. => .execInPackageLinkError
  | .ethFrameReceive .. => .execEthFrameReceive
  | .ethModeWrite .. => .execEthModeWrite
  | .pathDeadExpiry .. => .execPathDeadExpiry
  | .childWaitExpiry .. => .execChildWaitExpiry
  | .jobAbortReceive .. => .execJobAbortReceive
  | .dataPacketReceive .. => .execDataPacketReceive
  | .ackTimerExpiry .. => .execAckTimerExpiry
  | .ackReceive .. => .execAckReceive
  | .statusReceive .. => .execStatusReceive
  | .retransmitTimerExpiry .. => .execRetransmitTimerExpiry
  | .packetTransmit .. => .execPacketTransmit
  | .rateIntervalUpdate .. => .execRateIntervalUpdate
  | .pathMaskRestore .. => .execPathMaskRestore
  | .odPacketReceive .. => .execOdPacketReceive
  | .hello .. => .execHello
  | .reply .. => .execReply
  | .finish .. => .execFinish
  | .accept .. => .execAccept
  | .close .. => .execClose
  | .credential .. => .execCredential
  | .handshakeTimeout .. => .execHandshakeTimeout
  | .objCreate .. => .execObjCreate
  | .objModify .. => .execObjModify
  | .objDestroy .. => .execObjDestroy
  | .advance .. => .execAdvance
  | .query .. => .execQuery
  | .retire .. => .execRetire
  | .advanceCtxKey .. => .execAdvanceCtxKey
  | .keyQuarantineExpiry .. => .execKeyQuarantineExpiry
  | .objectQuarantineExpiry .. => .execObjectQuarantineExpiry
  | .resume .. => .execResume
  | .error .. => .execError
  | .evict .. => .execEvict
  | .recycle .. => .execRecycle
  | .recordFree .. => .execRecordFree
  | .endpointQuarantineExpiry .. => .execEndpointQuarantineExpiry
  | .stWrite .. => .execStWrite
  | .stSend .. => .execStSend
  | .stRead .. => .execStRead
  | .messageDelivery .. => .execMessageDelivery
  | .endpointFetch .. => .execEndpointFetch
  | .endpointEviction .. => .execEndpointEviction
  | .parkingTimeout .. => .execParkingTimeout
  | .contributionCommit .. => .execContributionCommit
  | .msgIdleLimitExpiry .. => .execMsgIdleLimitExpiry
  | .importReceive .. => .execImportReceive
  | .importWaitExpiry .. => .execImportWaitExpiry
  | .recombine .. => .execRecombine
  | .rootDigest .. => .execRootDigest
  | .patrolRead .. => .execPatrolRead
  | .resetNDeassert .. => .execResetNDeassert
  | .bootCommit .. => .execBootCommit
  | .imageCommit .. => .execImageCommit
  | .aliasTreeGenerated .. => .execAliasTreeGenerated
  | .aliasRotation .. => .execAliasRotation
  | .identityTreeGeneration .. => .execIdentityTreeGeneration
  | .svnCommit .. => .execSvnCommit
  | .mrExtend .. => .execMrExtend
  | .fabricLock .. => .execFabricLock
  | .vaultInstall .. => .execVaultInstall
  | .vaultActivate .. => .execVaultActivate
  | .vaultSlotQuarantineExpiry .. => .execVaultSlotQuarantineExpiry
  | .remaskPass .. => .execRemaskPass
  | .quoteRequest .. => .execQuoteRequest
  | .quoteSign .. => .execQuoteSign
  | .policyBundle .. => .execPolicyBundle
  | .provision .. => .execProvision
  | .produce .. => .execProduce
  | .lcRetire .. => .execLcRetire
  | .debugChallenge .. => .execDebugChallenge
  | .debugResponse .. => .execDebugResponse
  | .tamper .. => .execTamper
  | .rngSample .. => .execRngSample
  | .rngEstimateWindow .. => .execRngEstimateWindow
  | .rngStartupComplete .. => .execRngStartupComplete
  | .drbgGenerate .. => .execDrbgGenerate
  | .reseedIntervalExpiry .. => .execReseedIntervalExpiry
  | .seedBlockArrivalReseed .. => .execSeedBlockArrivalReseed
  | .rngQueueRead .. => .execRngQueueRead
  | .rngWaitLimitExpiry .. => .execRngWaitLimitExpiry
  | .rngRestart .. => .execRngRestart
  | .rawCaptureSet .. => .execRawCaptureSet
  | .rawCaptureClear .. => .execRawCaptureClear
  | .flash .. => .execFlash
  | .functionLevelReset .. => .execFunctionLevelReset
  | .fenceEngineTimeout .. => .execFenceEngineTimeout
  | .fenceScrub .. => .execFenceScrub
  | .scrubDone .. => .execScrubDone
  | .release .. => .execRelease
  | .grantWrite .. => .execGrantWrite
  | .vfEnable .. => .execVfEnable
  | .vfRemoval .. => .execVfRemoval
  | .watchdogExpiry .. => .execWatchdogExpiry
  | .heartbeatLoss .. => .execHeartbeatLoss
  | .engineResetComplete .. => .execEngineResetComplete
  | .engineResetOverrun .. => .execEngineResetOverrun
  | .dieResetComplete .. => .execDieResetComplete
  | .dieResetOverrun .. => .execDieResetOverrun
  | .moduleReset .. => .execModuleReset
  | .resetRequestEngine .. => .execResetRequestEngine
  | .resetRequestDie .. => .execResetRequestDie
  | .resetRequestModule .. => .execResetRequestModule
  | .snapshotTake .. => .execSnapshotTake
  | .linkWidthReduction .. => .execLinkWidthReduction
  | .aspmL1Entry .. => .execAspmL1Entry
  | .d3hot .. => .execD3hot
  | .d3cold .. => .execD3cold
  | .lockInterface .. => .execLockInterface
  | .startInterface .. => .execStartInterface
  | .stopInterface .. => .execStopInterface
  | .getDeviceInterfaceReport .. => .execGetDeviceInterfaceReport
  | .tdispError .. => .execTdispError
  | .spdmRequest .. => .execSpdmRequest
  | .kSetGo .. => .execKSetGo
  | .moduleRequestWake .. => .execModuleRequestWake
  | .moduleRequestSleep .. => .execModuleRequestSleep
  | .moduleRequestDeepSleep .. => .execModuleRequestDeepSleep
  | .dieRequestWake .. => .execDieRequestWake
  | .dieRequestSleep .. => .execDieRequestSleep
  | .dieRequestDeepSleep .. => .execDieRequestDeepSleep
  | .sleepEntryComplete .. => .execSleepEntryComplete
  | .wakeComplete .. => .execWakeComplete
  | .engineGate .. => .execEngineGate
  | .enginePowerUp .. => .execEnginePowerUp
  | .wakeN .. => .execWakeN
  | .wakeTimer .. => .execWakeTimer
  | .managementWakePacket .. => .execManagementWakePacket
  | .pcieWake .. => .execPcieWake
  | .calliopePattern .. => .execCalliopePattern
  | .peerWake .. => .execPeerWake
  | .inputPowerLoss .. => .execInputPowerLoss
  | .pwrGoodAssert .. => .execPwrGoodAssert
  | .thermalSample .. => .execThermalSample
  | .thermalRecovery .. => .execThermalRecovery
  | .alwaysOnTrim .. => .execAlwaysOnTrim
  | .freezeN .. => .execFreezeN
  | .presencePress .. => .execPresencePress
  | .ledActTimeout .. => .execLedActTimeout
  | .tapReset .. => .execTapReset
  | .tapInstructionLoad .. => .execTapInstructionLoad
  | .unlockResponse .. => .execUnlockResponse
  | .dbgNop .. => .execDbgNop
  | .dbgRead32 .. => .execDbgRead32
  | .dbgWrite32 .. => .execDbgWrite32
  | .dbgHalt .. => .execDbgHalt
  | .dbgResume .. => .execDbgResume
  | .dbgStep .. => .execDbgStep
  | .dbgSetBp .. => .execDbgSetBp
  | .dbgClearBp .. => .execDbgClearBp
  | .dbgStatus .. => .execDbgStatus
  | .locateWrite .. => .execLocateWrite
  | .resetNAssert .. => .execResetNAssert
  | .pcieCompletionTimeout .. => .execPcieCompletionTimeout
  | .overTemperatureComparator .. => .execOverTemperatureComparator
  | .ethLinkUp .. => .execEthLinkUp
  | .ethLinkDown .. => .execEthLinkDown
  | .ideStreamTlp .. => .execIdeStreamTlp
  | .registerRead .. => .execRegisterRead
  | .cohortCloseGraceExpiry .. => .execCohortCloseGraceExpiry
  | .odReadCopyLapse .. => .execOdReadCopyLapse
  | .locateAcknowledgementEnd .. => .execLocateAcknowledgementEnd
  | .auxiliaryRailValid .. => .execAuxiliaryRailValid
  | .auxiliaryRailLoss .. => .execAuxiliaryRailLoss
  | .refclkStable .. => .execRefclkStable
  | .refclkLoss .. => .execRefclkLoss

/-! ### The statements -/

/-- Settles O3: no command touches the commands that wait. -/
theorem waitingCommandsStay : Obligations.WaitingCommandsStay := by
  unfold Obligations.WaitingCommandsStay
  intro c s t h
  obtain ⟨hpend, -⟩ : Standing s t := StepKept.exec t h (Standing.refl s)
  exact hpend

/-- Settles O58: with no command waiting time moves, and otherwise the command in front acts; neither clears a fuse. -/
theorem fusesOnlyBurn : Obligations.FusesOnlyBurn := by
  unfold Obligations.FusesOnlyBurn
  intro s t h
  unfold step at h
  split at h
  · cases h
    obtain ⟨-, hfuses⟩ : Standing s (tick s) := Steady.Holds.tick (Standing.refl s)
    exact hfuses
  next c rest _ =>
    obtain ⟨-, hfuses⟩ : Standing { s with pending := rest } t := StepKept.exec t h (Standing.refl _)
    exact hfuses

end Sys2Proof.Machine
end
